-- ==== Sys2Proof/Word.lean ====
section
/-! DEFINITION. The plain types every file uses: a byte, a byte string, and finite maps keyed by a number
(a list of pairs with rising keys; the operations on it stand in Machine/Maps.lean). -/
namespace Sys2Proof

/-- One byte. -/
abbrev Byte := BitVec 8

/-- A byte string. -/
abbrev Bytes := List Byte

/-- A finite map keyed by a number, its keys rising. -/
abbrev Map (α : Type) := List (Nat × α)

end Sys2Proof
end

