-- ==== Sys2Proof/Syntax.lean ====
section
/-! DEFINITION. The commands: one constructor per row of spec/opcode_table.json, in the table's order, with the
operands the row's rule gives it (log 20 says how the operands were chosen, since the table lists none). -/
namespace Sys2Proof

/-- Where a DAP message came from: the transport with the host address or source address and port (R47, R50, R51). -/
inductive Source where
  | can (host : Nat)
  | udp4 (addr port : Nat)
  | udp6 (addr port : Nat)
  deriving DecidableEq, Repr

/-- The header of a tagged DAP request: its source, SESSION, SEQ and TAG (R45). -/
structure Req where
  src : Source
  session : Nat
  seq : Nat
  tag : Bytes
  deriving DecidableEq, Repr

/-- A serial lane: a camera port, a trunk lane instance (0 to 7 transmit, 8 and 9 receive) or an Ethernet port (R166). -/
inductive Lane where
  | camera (port : Nat)
  | trunk (inst : Nat)
  | eth (port : Nat)
  deriving DecidableEq, Repr

/-- How a PTP message arrived (R91, R92): its domain, its transport (0 = IEEE 802.3, 1 = UDP over IPv4, 2 = another), its VLAN (0 =
untagged) and its sender's port identity. -/
structure PtpHead where
  domain : Nat
  transport : Nat
  vlan : Nat
  sender : Nat
  deriving DecidableEq, Repr

/-- What an Announce says of a clock (R91, IEEE 1588-2019): the grandmaster's priority 1, class, accuracy, variance, priority 2 and
identity, and the steps removed from it. -/
structure PtpDataset where
  priority1 : Nat
  clockClass : Nat
  accuracy : Nat
  variance : Nat
  priority2 : Nat
  grandmaster : Nat
  steps : Nat
  deriving DecidableEq, Repr

/-- What a PTP message received on a port carries (R91 to R95). Times are in units of 2^-16 ns. `pathDelay` is the mean path delay
that the answer to a delay request completes. -/
inductive PtpMessage where
  | oneStepSync (origin : Int)
  | twoStepSync
  | followUp (origin : Int)
  | pathDelay (delay : Int)
  | delayReq
  | pdelayReq
  | announce (d : PtpDataset)
  | management
  deriving DecidableEq, Repr

/-- Characters received on a lane (R133): whether the receiver's running disparity is positive before the first of them, and their
10-bit codes, the bit received first the most significant. -/
structure Line where
  positive : Bool
  codes : List Nat
  deriving DecidableEq, Repr

/-- What one scrub or read found wrong in a memory word (R413, R414). -/
inductive ScrubFinding where
  | corrected (addr : Nat)
  | uncorrected (addr : Nat)
  deriving DecidableEq, Repr

/-- One word entering or leaving a FIFO (R395). -/
inductive FifoMove where
  | push (word : Nat) (last : Bool)
  | pop
  deriving DecidableEq, Repr

/-- One step of a handshake crossing (R25). -/
inductive CrossingMove where
  | grant
  | request (word : Nat)
  | acknowledge
  deriving DecidableEq, Repr

/-- What a calibration procedure measured (R467). -/
inductive CalMeasurement where
  | oscCycles (n : Nat)
  | supply (offsets : List Int)
  | camera (phase slicer : Nat)
  | ethLatency (sum : Nat)
  | bellDelay (ps : Int)
  | referenceAbsent
  | linkLost
  deriving DecidableEq, Repr

inductive Instr where
  -- 02 Object Dictionary and Dictionary Access Protocol
  | canFdFrame (ident : Nat) (data : Bytes)
  | canFdSegmentTimeout (host : Nat)
  | udpDatagram (src : Source) (dst vlan port : Nat) (msg : Bytes)
  | arpRequest (target senderMac senderAddr : Nat)
  | neighbourSolicitation (target senderMac senderAddr : Nat)
  | openSession (src : Source) (role : Nat) (nonce : Bytes)
  | confirm (r : Req)
  | close (r : Req)
  | keepalive (r : Req)
  | read (r : Req) (index sub : Nat)
  | write (r : Req) (index sub : Nat) (value : Bytes)
  | blockOpen (r : Req) (index sub mode total : Nat)
  | blockData (r : Req) (handle offset count : Nat) (data : Bytes)
  | blockEnd (r : Req) (handle length crc : Nat)
  | blockTransferAbandon (session handle : Nat)
  | halfOpenTimeout (session : Nat)
  | sessionIdleTimeout (session : Nat)
  | commit (r : Req) (payload : Bytes)
  | withdraw (r : Req) (ticket : Nat)
  | subscribe (r : Req) (mask : Nat)
  | eventAck (r : Req) (evseq : Nat)
  | evtResendInterval
  | storeSave (r : Req)
  | storeSaveComplete (verified : Bool)
  | storeLoad (r : Req)
  | storeDefaults (r : Req)
  | storeErase (r : Req)
  -- 03 Time Base, Epochs and Network Time
  | ptpMessage (port : Nat) (h : PtpHead) (m : PtpMessage)
  | ptpSyncTransmit
  | sourceTimeout
  | pathHoldEnd
  | slewEnd
  | reepoch
  | tbSourceWrite (r : Req) (value : Nat)
  | tbDiscontinuityActionSlew (r : Req)
  | tbDiscontinuityActionReepoch (r : Req)
  | tbRateAdjWrite (r : Req) (value : Int)
  | tbExtWatchdog
  | tbOscLost
  | tbOscRestored
  | tbHoldoverAlarm
  | ptpInstanceRestart (r : Req) (sub value : Nat)
  | ptpAsymFlagClear (r : Req)
  | txtsPop (r : Req) (port ident : Nat)
  | timeBeaconSend
  | timeBeaconReceive (lines : List Line)
  | oscRecalAdvice
  -- 04 Bells and the Timetable
  | ttTableWrite (r : Req) (handle length crc : Nat)
  | bellLoad
  | bellStarved
  | bellFire
  | bellPulseEnd (pin : Nat)
  | commitUnitFire
  -- 05 Serial Lanes and the Cendo Camera Link
  | seekAttempt (lane : Lane)
  | transitionsDetected (lane : Lane) (density : Nat)
  | attemptTimeout (lane : Lane)
  | clockRecoveryLock (lane : Lane)
  | detectTimeout (lane : Lane)
  | symbolAlignment (lane : Lane) (commas : List Nat)
  | alignTimeout (lane : Lane)
  | alignmentLost (lane : Lane) (line : Line)
  | lossOfSignal (lane : Lane)
  | messageResponseTimeout (lane : Lane) (tag : Nat)
  | tapRequest (line : Line)
  | tapStatus (lane : Lane) (line : Line)
  | identity (lane : Lane) (line : Line)
  | rateAck (lane : Lane) (line : Line)
  | writeAck (port : Nat) (line : Line)
  | readData (port : Nat) (line : Line)
  | loopAck (lane : Lane) (line : Line)
  | prbsAck (lane : Lane) (line : Line)
  | refused (lane : Lane) (line : Line)
  | linkReset (line : Line)
  | trainingEvaluation (lane : Lane) (h v : Nat)
  | trainingBudgetExpiry (lane : Lane)
  | verifyEnd (lane : Lane) (errors h v : Nat)
  | fomEvaluation (lane : Lane) (h v density : Nat)
  | retrainDeferralTimeout (lane : Lane)
  | laneDegradedRetry (lane : Lane)
  | laneCommandRetrain (r : Req) (lane : Lane)
  | laneCommandPortReset (r : Req) (lane : Lane)
  | laneEnableWrite (r : Req) (lane : Lane) (value : Nat)
  | laneTestModeWrite (r : Req) (lane : Lane) (value : Nat)
  | prbsLock (lane : Lane) (bits : List Bool)
  | prbsLockLost (lane : Lane) (bits errors : Nat) (window : List Bool)
  | laneIdleFreeze (lane : Lane)
  | ethLaneStateChange (port : Nat) (active : Bool)
  -- 06 Capture, Frames and Pipeline Sharing
  | fsArrival (port : Nat) (line : Line)
  | linePacket (port : Nat) (line : Line)
  | embeddedPacket (port : Nat) (line : Line)
  | fePacket (port : Nat) (line : Line)
  | feWatchdog (port : Nat)
  | cadenceMiss (port : Nat)
  | lineCreditGain (port : Nat)
  | fsAccepted (pipe input : Nat)
  | lineGroupTake (pipe : Nat)
  -- 09 Exposure Control and Statistics
  | statRecordComplete (pipe input : Nat)
  | expWriteSlot (port : Nat)
  | expApplyChange (r : Req) (port : Nat)
  | expApplyRaw (r : Req) (port : Nat)
  -- 10 Geometric Correction and Stitching
  | warpMatchDeadline (view : Nat)
  | warpTileIssue (engine : Nat)
  | warpTileComplete (core : Nat)
  | warpCoreFence (r : Req) (core value : Nat)
  | warpPartitionWrite (r : Req) (engine value : Nat)
  -- 11 Merge, Report Cards, Compression and the Cendo Trunk
  | mergeRelease
  | codecSliceComplete (engine : Nat)
  | codecEngineFence (r : Req) (engine value : Nat)
  | trkPacketBoundary
  | creditPacket (lines : List Line)
  | trkCreditTimeout
  | tunnelPacketReceive (lines : List Line)
  | trkPacketErrored (lines : List Line)
  | trkEnableWrite (r : Req) (value : Nat)
  | trkTrainingDecision
  | trkWidenHold
  | trkLaneCountChange
  -- 12 Backbone Switching and Flow Queues
  | ethFrameReceive (port : Nat) (frame : Bytes)
  | addressAging (vid mac : Nat)
  | ethEgressSelect (port : Nat)
  | evFrameAccept
  | nxGateConfigChange (r : Req) (port : Nat)
  | gateChangeInstant (port : Nat)
  | gateIntervalEnd (port : Nat)
  | preemptVerify (port : Nat) (success : Bool)
  | ptpRelayDatagram (src : Source) (data : Bytes)
  -- 13 DMA Engines and FIFOs
  | dmaStart (r : Req) (engine channel : Nat)
  | dmaPause (r : Req) (engine channel : Nat)
  | dmaResume (r : Req) (engine channel : Nat)
  | dmaAbort (r : Req) (engine channel : Nat)
  | dmaBurstGrant (engine : Nat)
  | dmaWriteAck (engine channel : Nat)
  | dmaDrained (engine channel : Nat)
  | dmaLanded (engine channel : Nat)
  | dmaBusError (engine addr : Nat)
  | dmaHoldoffEnd (engine : Nat)
  | dmaEngineCommand (r : Req) (engine : Nat)
  | dmaRingReadWrite (r : Req) (engine value : Nat)
  | dmaRingConfigWrite (r : Req) (engine sub value : Nat)
  | fifoWordTransfer (fifo : Nat) (m : FifoMove)
  | fifoDropRemainder (r : Req) (fifo : Nat)
  | fifoFlush (r : Req) (fifo : Nat)
  | fifoWmAck (r : Req) (fifo value : Nat)
  | crossingWordTransfer (crossing : Nat) (m : CrossingMove)
  | crossingWatchdog (crossing : Nat)
  -- 14 Memory
  | scrubPass (memory : Nat) (findings : List ScrubFinding)
  -- 15, 16 Resets and boot
  | powerOnReset
  | resetRelease (nodeId bootSel : Nat)
  | dramTrainingComplete (density : Nat) (failures : List Nat)
  | fwActivate (r : Req)
  | fwConfirm (r : Req)
  | fwTrialTimeout
  | measExtend (r : Req) (handle length crc : Nat)
  | rollcallNonce (r : Req) (handle length crc : Nat)
  | rollcallSigned (session : Nat)
  | tandemProposal (r : Req) (handle length crc : Nat)
  | tandemSign (r : Req) (handle length crc : Nat)
  | tandemCommand (r : Req)
  | tandemWindowExpiry
  | enrolSeal (r : Req)
  | roleSecretWrite (r : Req) (handle length crc : Nat)
  | accessPlanWrite (r : Req) (handle length crc : Nat)
  | pwrCommandStandby (r : Req)
  | pwrCommandParked (r : Req)
  | pwrCommandRun (r : Req)
  | pwrDrainLimit
  | outputDrainTimeout
  | wake
  | pwrDomainEnableWrite (r : Req) (domain value : Nat)
  | domainSwitchDone (domain : Nat)
  | rstDevice (r : Req)
  | rstCluster (r : Req) (cluster : Nat)
  | supplyDipBegin (rail millivolt : Nat)
  | supplyDipEnd (rail millivolt : Nat)
  | supplyReset (rail : Nat)
  | supplyResetRelease
  | pipeWatchdog (pipe stage : Nat)
  | pipelineRestart (pipe : Nat)
  | hubWatchdog (hub cause channel : Nat)
  | fwWatchdog
  | rcvClear (r : Req)
  | islandClockChange (kind inst hertz : Nat)
  | avsWrite (millivolt : Nat) (acknowledged : Bool)
  | tjThrottle (temperature : Int)
  | tjCritical (temperature : Int)
  -- 17 Calibration and Trimming
  | calTrimsWrite (r : Req) (handle length crc : Nat)
  | calOscProcedure (r : Req)
  | calSupplyProcedure (r : Req)
  | calCameraProcedure (r : Req)
  | calEthProcedure (r : Req)
  | calBellProcedure (r : Req)
  | calSave (r : Req)
  | calRevert (r : Req)
  | calAbort (r : Req)
  | calProcedureComplete (m : CalMeasurement)
  -- 18 Test, Bypass and Diagnostics
  | testPipeFence (r : Req) (pipe value : Nat)
  | testInjectStart (r : Req) (pipe : Nat)
  | testInjectStop (r : Req) (pipe : Nat)
  | injectFrameStart (pipe : Nat)
  | testGoldenSpec (r : Req) (comparator value : Nat)
  | testBistCommand (r : Req) (memory : Nat)
  | bistComplete (memory fails first : Nat)
  | testDramRetrain (r : Req)
  | tjThrottleRelease (temperature : Int)
  | calSaveComplete
  | clusterResetComplete (cluster : Nat)
  | returnWidthDetected (lines : List Line)
  deriving DecidableEq, Repr

end Sys2Proof
end

