-- ==== Sys2Proof/Decode.lean ====
section
/-! DEFINITION. The command that a word spells by the bits of spec/opcode_table.json. The table gives no row any bits (its
commands are register writes, messages, packets and events, not encoded words), so no word spells one. -/
namespace Sys2Proof

/-- The command a word of `nbits` bits spells: none. -/
def decodeTableWord (nbits w : Nat) : Option Instr :=
  match nbits, w with
  | _, _ => none

end Sys2Proof
end

