-- ==== Sys2Proof/Config.lean ====
section
/-! DEFINITION. The free values: constants without a body that stand for every value the manual leaves open. Nothing can be
proved about one of them, so a theorem holds whatever it is. Those that may differ each time they are drawn take the
counter State.free (assumption log 7). -/
namespace Sys2Proof.Config

/-- Byte number `i` of the device nonce Nd drawn at count `n` (R52: fresh 16 bytes). Log 12. -/
opaque nonceByte (n i : Nat) : BitVec 8

/-- The private scalar of the device identity key (R427: it never leaves the die). Log 12. -/
opaque identityKey : Nat

/-- The private scalar of the key-agreement pair (R427). Log 12. -/
opaque agreementKey : Nat

/-- The per-signature secret of the ECDSA signature made at count `n` (R426). Log 12. -/
opaque ecdsaNonce (n : Nat) : Nat

/-- The servo's frequency estimate after the measurement at count `n`, parts per 10^15 (R93: not specified). Log 11. -/
opaque servoFreq (n : Nat) : Int

/-- The servo's phase term after the measurement at count `n`, before the clip of R79 (R93). Log 11. -/
opaque servoPhase (n : Nat) : Int

/-- Byte `i` after the slice header of the JPEG XS slice coded with this profile, rate and size from these samples (R330). Log 13. -/
opaque jpegXsByte (profile bpp size : Nat) (samples : List Nat) (i : Nat) : BitVec 8

/-- Byte `i` of what the manual leaves open in the codestream header of a coded stream of this profile, rate, size and frame period
(R328: the level that covers them; R329). Log 13. -/
opaque codestreamHeaderByte (profile bpp width height period : Nat) (i : Nat) : BitVec 8

/-- The next tap command of the device's own training sequence (R149: "its own sequence of requests"). Log 14. -/
opaque tapChoice (n : Nat) : Nat

/-- The equaliser setting the receiver adapts to (R132, R158). Log 14. -/
opaque equaliser (n : Nat) : Nat

/-- The phase of the back-channel character grid to the time base clock, in 2^-16 cycles (R517: "no fixed phase"). Log 14. -/
opaque slotPhase : Nat

/-- Byte `i` of characters received at count `n` that stand for no data byte (R141). Log 14. -/
opaque unreadByte (n i : Nat) : BitVec 8

/-- Bit errors that a locked PRBS checker has counted since it locked, read at count `n` (R160). Log 14. -/
opaque prbsErrors (n : Nat) : Nat

/-- The mean of a zone that holds no pixel, for frames of fewer than 12 lines (R234: not stated). Log 22. -/
opaque emptyZoneMean (zone : Nat) : Nat

/-- The controller's gain before its clip where the model time of its choice is 0 ns (R275 divides by it: not stated). Log 22. -/
opaque aeGain (e : Nat) : Nat

/-- Estimated power in mW at count `n` (R441: no law stated). Log 15. -/
opaque powerEstimate (n : Nat) : Nat

/-- The fastest clock in Hz that a set point of VDD_CORE in mV supports in an island of this row of R24 (R501: no figure stated). Log 49. -/
opaque clockLimit (mv kind : Nat) : Nat

/-- Block reads of the tile cache that hit, for the tile completed at count `n` (R301: the number of sets and the frame store's
addresses are not stated). Log 26. -/
opaque cacheHits (n : Nat) : Nat

/-- Block reads of the tile cache that miss (R301). Log 26. -/
opaque cacheMisses (n : Nat) : Nat

/-- Does access number `n` of the flow descriptor cache hit (R361: how flows map to its sets is not stated)? Log 26. -/
opaque flowCacheHit (n : Nat) : Bool

/-- Bytes the device area needs for one coded slice or frame of these dimensions beyond the sizes the manual states
(R411). Log 16. -/
opaque frameNeed (stream width height : Nat) : Nat

/-- Byte `i` of a word whose bits an error changed that no check symbol corrects, found at count `n` (R414). Log 18. -/
opaque poisonedByte (n i : Nat) : BitVec 8

/-- Which of the device's own contents an address of its area holds, at count `n` (R361, R407, R409: not laid out). Log 18. -/
opaque poisonHolder (n addr : Nat) : Nat

/-- Which unit owns crossing number `n`, of the units with paths (R26: the owners are not listed). Log 8. -/
opaque crossingOwner (n : Nat) : Nat

/-- Failing cells that the BIST of the CX SRAM (10) or AX SRAM (11) at an out-of-service boot finds, and the address of the
first, at count `n` (R485: run at boot, no command reports them). Log 28. -/
opaque bistFails (n memory : Nat) : Nat
opaque bistFirst (n memory : Nat) : Nat

/-- At which stage of a save of the trims the reset of count `n` falls (R466: at least one copy stays valid). Log 28. -/
opaque cutTrims (n : Nat) : Nat

/-- CAL_MEASURED after procedures 2 and 3, at count `n` (R472: nine codes, or two, and one object). Log 27. -/
opaque calCode (n : Nat) : Int

/-- Which way a value between two steps of 0.1 ns goes at count `n` (R467: the rounding of ETH_RX is not stated). Log 27. -/
opaque calRounding (n : Nat) : Nat

/-- Which unit of a cluster fills, and which empties, FIFO number `n` (R392: not listed). Log 8. -/
opaque fifoProducer (n : Nat) : Nat
opaque fifoConsumer (n : Nat) : Nat

/-- A voltage measured by the supply monitor at count `n`, mV, where no command states it. Log 15. -/
opaque railVoltage (n : Nat) : Nat

/-- SENSOR_GEN in the header of a marker, for which the manual gives none. Log 29. -/
opaque markerGen (n : Nat) : Nat

/-- Is an Announce due on a master port at count `n` (R91: no interval stated)? Log 19. -/
opaque announceDue (n : Nat) : Bool

/-- Does the management firmware give its heartbeat in this cycle (R455: its instants are not stated)? Log 50. -/
opaque heartbeat (cycle : Nat) : Bool

/-- Does the SFDP table of the xSPI NOR offer octal DDR (R507: the board's device)? Log 5. -/
opaque norOctal : Bool

/-- The JTAG port (R435, R508 name the standards alone): further bits of the instruction register; the instruction of a code; bits 1 to
31 of the identification code; the boundary register's length, the cell of a lane, and the levels its cells capture at count `n`;
the firmware debug register's length and content. Log 57. -/
opaque tapIrExtra : Nat
opaque tapCode (code : List Bool) : Nat
opaque idcodeBit (i : Nat) : Bool
opaque scanLength : Nat
opaque scanCell (lane : Nat) : Nat
opaque scanLevel (n i : Nat) : Bool
opaque debugLength : Nat
opaque debugBit (n i : Nat) : Bool

/-- Field of a PTP or IEEE 1722 message the device composes whose value the manual leaves to the standard. Log 19. -/
opaque protocolByte (n i : Nat) : BitVec 8

end Sys2Proof.Config
end

