-- ==== Sys2Proof/Machine/Bits.lean ====
section
/-! DEFINITION. The arithmetic and byte orders every chapter uses: the rounding shift of R15, the clip of R17's pseudocode,
bit fields (R12), two's complement values, the two byte orders of R13, the CRC-32 of R140, and times in units of
2^-16 ns. -/
namespace Sys2Proof.Machine

/-- R15: a right shift by k bits that rounds half up; k = 0 leaves the value. -/
def rshift (x : Int) (k : Nat) : Int :=
  if k = 0 then x else (x + (2 ^ (k - 1) : Nat)) / (2 ^ k : Nat)

/-- R17: `clip(x, lo, hi)`. -/
def clip (x lo hi : Int) : Int := if x < lo then lo else if hi < x then hi else x

/-- `clip` with a Nat result, for ranges from 0. -/
def clipN (x : Int) (hi : Nat) : Nat := (clip x 0 hi).toNat

/-- Division rounded up. -/
def ceilDiv (a b : Nat) : Nat := (a + b - 1) / b

/-- R180 and R120: a value in 0.1 ns as units of 2^-16 ns, rounded half up. -/
def tenthsToUnits (x : Int) : Int := (x * 65536 + 5) / 10

/-- R12: the field [msb:lsb] of a value. -/
def field (x msb lsb : Nat) : Nat := (x >>> lsb) % 2 ^ (msb + 1 - lsb)

/-- Bit b of a value. -/
def bit (x b : Nat) : Bool := x.testBit b

/-- The value with bit b set or cleared. -/
def setBit (x b : Nat) (v : Bool) : Nat :=
  if v = x.testBit b then x else if v then x + 2 ^ b else x - 2 ^ b

def boolNat (b : Bool) : Nat := if b then 1 else 0

/-- Two's complement reading of the low w bits. -/
def toSigned (w x : Nat) : Int :=
  let y := x % 2 ^ w
  if 2 * y < 2 ^ w then (y : Int) else (y : Int) - (2 ^ w : Nat)

/-- Two's complement encoding in w bits. -/
def ofSigned (w : Nat) (x : Int) : Nat := (x % ((2 ^ w : Nat) : Int)).toNat

def byteOf (n : Nat) : Byte := BitVec.ofNat 8 n

/-- n bytes of a number, least significant byte first (R13: records and DOMAIN content). -/
def leBytes : Nat → Nat → Bytes
  | 0, _ => []
  | n + 1, x => byteOf x :: leBytes n (x / 256)

/-- n bytes of a number, most significant byte first (R13: links, trunk and DAP). -/
def beBytes (n x : Nat) : Bytes := (leBytes n x).reverse

/-- The number a byte string spells, least significant byte first. -/
def leNat : Bytes → Nat
  | [] => 0
  | b :: r => b.toNat + 256 * leNat r

/-- The number a byte string spells, most significant byte first. -/
def beNat (b : Bytes) : Nat := leNat b.reverse

/-- Bytes off to off + n - 1. -/
def slice (b : Bytes) (off n : Nat) : Bytes := (b.drop off).take n

/-- A field of a record stored least significant byte first. -/
def leAt (b : Bytes) (off n : Nat) : Nat := leNat (slice b off n)

/-- A field of a message carried most significant byte first. -/
def beAt (b : Bytes) (off n : Nat) : Nat := beNat (slice b off n)

/-- The byte string cut or padded with 0x00 to n bytes. -/
def padTo (n : Nat) (b : Bytes) : Bytes := (b ++ List.replicate (n - b.length) 0).take n

/-- ASCII bytes of a text. -/
def ascii (t : String) : Bytes := t.toList.map fun c => byteOf c.toNat

/-- `b` with the bytes from off on replaced by `d`, padded with 0x00 where it was shorter. -/
def overlay (b : Bytes) (off : Nat) (d : Bytes) : Bytes :=
  (padTo (max b.length off) b).take off ++ d ++ b.drop (off + d.length)

/-- One bit of the CRC-32 of R140, reflected. -/
def crcBit (c : Nat) : Nat := if c % 2 = 1 then (c / 2) ^^^ 0xEDB88320 else c / 2

def crcByte (c : Nat) (b : Byte) : Nat :=
  let x := c ^^^ b.toNat
  crcBit (crcBit (crcBit (crcBit (crcBit (crcBit (crcBit (crcBit x)))))))

/-- The CRC-32 of R140 over a byte string, continued from a running register. -/
def crcFold : Nat → Bytes → Nat
  | c, [] => c
  | c, b :: r => crcFold (crcByte c b) r

/-- R140: the CRC-32 of IEEE 802.3. -/
def crc32 (b : Bytes) : Nat := crcFold 0xFFFFFFFF b ^^^ 0xFFFFFFFF

/-- Nanoseconds as units of 2^-16 ns. -/
def nsUnits (n : Nat) : Nat := n * 65536
def usUnits (n : Nat) : Nat := n * 65536000

/-- Time base cycles in an interval (R77: 3 per ns). -/
def nsCycles (n : Nat) : Nat := 3 * n
def usCycles (n : Nat) : Nat := 3000 * n
def msCycles (n : Nat) : Nat := 3000000 * n
def secCycles (n : Nat) : Nat := 3000000000 * n

/-- One second and one millisecond in units of 2^-16 ns. -/
def secUnits : Nat := 65536000000000
def msUnits : Nat := 65536000000

/-- R10: the TIME96 encoding of a time in units of 2^-16 ns: seconds, nanoseconds, fraction. -/
def toTime96 (t : Nat) : Nat :=
  (t / secUnits) * 2 ^ 48 + t % secUnits

/-- The time a TIME96 value names. -/
def ofTime96 (x : Nat) : Nat := (x / 2 ^ 48) * secUnits + x % 2 ^ 48

/-- R10: the nanoseconds of a TIME96 value lie from 0 to 999,999,999. -/
def time96Valid (x : Nat) : Bool := x % 2 ^ 48 / 65536 < 1000000000

/-- R76: TIME32, the low 32 bits of the nanosecond count. -/
def time32 (t : Nat) : Nat := (t / 65536) % 2 ^ 32

/-- Modulo 2^32 order of frame numbers (R205): a is at or after b. -/
def atOrAfter32 (a b : Nat) : Bool := (a + 2 ^ 32 - b % 2 ^ 32) % 2 ^ 32 < 2 ^ 31

/-- Add with saturation at the largest value of w bits. -/
def satAdd (w x d : Nat) : Nat := min (2 ^ w - 1) (x + d)

/-- The bits of a byte, most significant first (R169). -/
def byteBits (b : Byte) : List Bool :=
  [b.toNat.testBit 7, b.toNat.testBit 6, b.toNat.testBit 5, b.toNat.testBit 4,
   b.toNat.testBit 3, b.toNat.testBit 2, b.toNat.testBit 1, b.toNat.testBit 0]

/-- The number a list of bits spells, most significant first. -/
def bitsNat (l : List Bool) : Nat := l.foldl (fun a b => 2 * a + boolNat b) 0

/-- The low w bits of a number, most significant first. -/
def natBits : Nat → Nat → List Bool
  | 0, _ => []
  | w + 1, x => x.testBit w :: natBits w x

/-- R169, R248: bits packed into bytes, the last byte padded with 0 bits. The first argument bounds the bytes. -/
def packBits : Nat → List Bool → Bytes
  | 0, _ => []
  | n + 1, l =>
    if l.isEmpty then []
    else byteOf (bitsNat ((l ++ List.replicate 8 false).take 8)) :: packBits n (l.drop 8)

/-- Pack the codes of w bits each as one bit string. -/
def packCodes (w : Nat) (codes : List Nat) : Bytes :=
  let l := codes.flatMap (natBits w)
  packBits (l.length / 8 + 1) l

/-- R169: unpack n codes of w bits from a byte string. -/
def unpackBits : Nat → Nat → List Bool → List Nat
  | 0, _, _ => []
  | n + 1, w, l => bitsNat (l.take w) :: unpackBits n w (l.drop w)

def unpackCodes (w n : Nat) (b : Bytes) : List Nat := unpackBits n w (b.flatMap byteBits)

end Sys2Proof.Machine
end

