-- ==== Sys2Proof/Machine/Crypto.lean ====
section
/-! DEFINITION. The cryptographic functions the manual names: SHA-256, SHA-384 and HMAC-SHA-256 (R45, R52, R423), ECDSA and
ECDH on P-384 (R426, R433, R434). The manual names them without restating them: they follow the published standards
(FIPS 180-4, FIPS 198-1, FIPS 186-5, SEC 1), mark PRESUMED, log 21. -/
namespace Sys2Proof.Machine

/-- The 80 round constants of SHA-512; SHA-256 uses the high halves of the first 64. -/
def shaK1 : List Nat := [
   0x428A2F98D728AE22, 0x7137449123EF65CD, 0xB5C0FBCFEC4D3B2F, 0xE9B5DBA58189DBBC,
   0x3956C25BF348B538, 0x59F111F1B605D019, 0x923F82A4AF194F9B, 0xAB1C5ED5DA6D8118,
   0xD807AA98A3030242, 0x12835B0145706FBE, 0x243185BE4EE4B28C, 0x550C7DC3D5FFB4E2,
   0x72BE5D74F27B896F, 0x80DEB1FE3B1696B1, 0x9BDC06A725C71235, 0xC19BF174CF692694,
   0xE49B69C19EF14AD2, 0xEFBE4786384F25E3, 0x0FC19DC68B8CD5B5, 0x240CA1CC77AC9C65,
   0x2DE92C6F592B0275, 0x4A7484AA6EA6E483, 0x5CB0A9DCBD41FBD4, 0x76F988DA831153B5,
   0x983E5152EE66DFAB, 0xA831C66D2DB43210, 0xB00327C898FB213F, 0xBF597FC7BEEF0EE4,
   0xC6E00BF33DA88FC2, 0xD5A79147930AA725, 0x06CA6351E003826F, 0x142929670A0E6E70,
   0x27B70A8546D22FFC, 0x2E1B21385C26C926, 0x4D2C6DFC5AC42AED, 0x53380D139D95B3DF,
   0x650A73548BAF63DE, 0x766A0ABB3C77B2A8, 0x81C2C92E47EDAEE6, 0x92722C851482353B]

def shaK2 : List Nat := [
   0xA2BFE8A14CF10364, 0xA81A664BBC423001, 0xC24B8B70D0F89791, 0xC76C51A30654BE30,
   0xD192E819D6EF5218, 0xD69906245565A910, 0xF40E35855771202A, 0x106AA07032BBD1B8,
   0x19A4C116B8D2D0C8, 0x1E376C085141AB53, 0x2748774CDF8EEB99, 0x34B0BCB5E19B48A8,
   0x391C0CB3C5C95A63, 0x4ED8AA4AE3418ACB, 0x5B9CCA4F7763E373, 0x682E6FF3D6B2B8A3,
   0x748F82EE5DEFB2FC, 0x78A5636F43172F60, 0x84C87814A1F0AB72, 0x8CC702081A6439EC,
   0x90BEFFFA23631E28, 0xA4506CEBDE82BDE9, 0xBEF9A3F7B2C67915, 0xC67178F2E372532B,
   0xCA273ECEEA26619C, 0xD186B8C721C0C207, 0xEADA7DD6CDE0EB1E, 0xF57D4F7FEE6ED178,
   0x06F067AA72176FBA, 0x0A637DC5A2C898A6, 0x113F9804BEF90DAE, 0x1B710B35131C471B,
   0x28DB77F523047D84, 0x32CAAB7B40C72493, 0x3C9EBE0A15C9BEBC, 0x431D67C49C100D4C,
   0x4CC5D4BECB3E42B6, 0x597F299CFC657E2A, 0x5FCB6FAB3AD6FAEC, 0x6C44198C4A475817]

def shaK : List Nat := shaK1 ++ shaK2

/-- Initial values of SHA-256 (high halves) and of SHA-384. -/
def shaInit256 : List Nat := [
   0x6A09E667F3BCC908, 0xBB67AE8584CAA73B, 0x3C6EF372FE94F82B, 0xA54FF53A5F1D36F1,
   0x510E527FADE682D1, 0x9B05688C2B3E6C1F, 0x1F83D9ABFB41BD6B, 0x5BE0CD19137E2179]

def shaInit384 : List Nat := [
   0xCBBB9D5DC1059ED8, 0x629A292A367CD507, 0x9159015A3070DD17, 0x152FECD8F70E5939,
   0x67332667FFC00B31, 0x8EB44A8768581511, 0xDB0C2E0D64F98FA7, 0x47B5481DBEFA4FA4]

/-- Rotate right in w bits. -/
def rotr (w x k : Nat) : Nat := (x >>> k) ||| ((x <<< (w - k)) % 2 ^ w)

/-- The shift amounts of one member of the family: two big sigmas, two small sigmas. -/
structure ShaShifts where
  bigA : Nat × Nat × Nat
  bigE : Nat × Nat × Nat
  small0 : Nat × Nat × Nat
  small1 : Nat × Nat × Nat
  deriving DecidableEq, Repr

def sha256Shifts : ShaShifts := ⟨(2, 13, 22), (6, 11, 25), (7, 18, 3), (17, 19, 10)⟩
def sha512Shifts : ShaShifts := ⟨(28, 34, 39), (14, 18, 41), (1, 8, 7), (19, 61, 6)⟩

def bigSigma (w : Nat) (a : Nat × Nat × Nat) (x : Nat) : Nat :=
  rotr w x a.1 ^^^ rotr w x a.2.1 ^^^ rotr w x a.2.2

def smallSigma (w : Nat) (a : Nat × Nat × Nat) (x : Nat) : Nat :=
  rotr w x a.1 ^^^ rotr w x a.2.1 ^^^ (x >>> a.2.2)

/-- The message schedule, newest word first: extend by n words. -/
def shaExtend (w : Nat) (p : ShaShifts) : Nat → List Nat → List Nat
  | 0, l => l
  | n + 1, l =>
    let x := (smallSigma w p.small1 (l.getD 1 0) + l.getD 6 0 + smallSigma w p.small0 (l.getD 14 0) + l.getD 15 0) % 2 ^ w
    shaExtend w p n (x :: l)

/-- One round on the eight working words. -/
def shaRound (w : Nat) (p : ShaShifts) (h : List Nat) (k m : Nat) : List Nat :=
  match h with
  | [a, b, c, d, e, f, g, i] =>
    let ch := (e &&& f) ^^^ ((2 ^ w - 1 - e) &&& g)
    let maj := (a &&& b) ^^^ (a &&& c) ^^^ (b &&& c)
    let t1 := i + bigSigma w p.bigE e + ch + k + m
    let t2 := bigSigma w p.bigA a + maj
    [(t1 + t2) % 2 ^ w, a, b, c, (d + t1) % 2 ^ w, e, f, g]
  | _ => h

def shaRounds (w : Nat) (p : ShaShifts) : List Nat → List Nat → List Nat → List Nat
  | k :: ks, m :: ms, h => shaRounds w p ks ms (shaRound w p h k m)
  | _, _, h => h

/-- Split n words of `bytes` bytes, most significant byte first. -/
def beWords : Nat → Nat → Bytes → List Nat
  | 0, _, _ => []
  | n + 1, bytes, b => beNat (b.take bytes) :: beWords n bytes (b.drop bytes)

/-- Compress `n` blocks. -/
def shaBlocks (w bytes rounds : Nat) (p : ShaShifts) (ks : List Nat) : Nat → Bytes → List Nat → List Nat
  | 0, _, h => h
  | n + 1, b, h =>
    let ms := (shaExtend w p (rounds - 16) (beWords 16 bytes b).reverse).reverse
    let h' := shaRounds w p ks ms h
    shaBlocks w bytes rounds p ks n (b.drop (16 * bytes)) (List.zipWith (fun x y => (x + y) % 2 ^ w) h h')

/-- The padded message: 0x80, zeros, the bit length. -/
def shaPad (block len : Nat) (m : Bytes) : Bytes :=
  let z := (block - (m.length + 1 + len) % block) % block
  m ++ [0x80] ++ List.replicate z 0 ++ beBytes len (8 * m.length)

/-- SHA-256. -/
def sha256 (m : Bytes) : Bytes :=
  let b := shaPad 64 8 m
  (shaBlocks 32 4 64 sha256Shifts ((shaK.take 64).map (· >>> 32)) (b.length / 64) b (shaInit256.map (· >>> 32))).flatMap
    (beBytes 4)

/-- SHA-384. -/
def sha384 (m : Bytes) : Bytes :=
  let b := shaPad 128 16 m
  ((shaBlocks 64 8 80 sha512Shifts shaK (b.length / 128) b shaInit384).flatMap (beBytes 8)).take 48

/-- HMAC-SHA-256. -/
def hmacSha256 (key m : Bytes) : Bytes :=
  let k := padTo 64 (if key.length ≤ 64 then key else sha256 key)
  sha256 (k.map (· ^^^ 0x5C) ++ sha256 (k.map (· ^^^ 0x36) ++ m))

/-- Field prime, group order and coefficient of P-384. -/
def p384P : Nat := 2 ^ 384 - 2 ^ 128 - 2 ^ 96 + 2 ^ 32 - 1
def p384N : Nat := 0xFFFFFFFFFFFFFFFFFFFFFFFFFFFFFFFFFFFFFFFFFFFFFFFFC7634D81F4372DDF581A0DB248B0A77AECEC196ACCC52973
def p384B : Nat := 0xB3312FA7E23EE7E4988E056BE3F82D19181D9C6EFE8141120314088F5013875AC656398D8A2ED19D2A85C8EDD3EC2AEF
def p384G : Nat × Nat :=
  (0xAA87CA22BE8B05378EB1C71EF320AD746E1D3B628BA79B9859F741E082542A385502F25DBF55296C3A545E3872760AB7,
   0x3617DE4A96262C6F5D9E98BF9292DC29F8F41DBD289A147CE9DA3113B5F0B8C00A60B1CE1D7E819D7A431D7C90EA0E5F)

/-- Modular power, by the bits of the exponent from bit n - 1 down. -/
def powMod (m x e : Nat) : Nat → Nat → Nat
  | 0, acc => acc
  | n + 1, acc =>
    let sq := acc * acc % m
    powMod m x e n (if e.testBit n then sq * x % m else sq)

def invMod (m x : Nat) : Nat := powMod m (x % m) (m - 2) 384 1

/-- A point of P-384; none is the point at infinity. -/
abbrev Point := Option (Nat × Nat)

def pointAdd : Point → Point → Point
  | none, q => q
  | p, none => p
  | some (x1, y1), some (x2, y2) =>
    if x1 = x2 ∧ (y1 + y2) % p384P = 0 then none
    else
      let l :=
        if x1 = x2 then (3 * x1 * x1 + p384P - 3) * invMod p384P (2 * y1) % p384P
        else (y2 + p384P - y1) * invMod p384P (x2 + p384P - x1) % p384P
      let x3 := (l * l + 2 * p384P - x1 - x2) % p384P
      some (x3, (l * (x1 + p384P - x3) + p384P - y1) % p384P)

/-- Scalar multiple, by the bits of the scalar from bit n - 1 down. -/
def pointMul (k : Nat) (p : Point) : Nat → Point → Point
  | 0, acc => acc
  | n + 1, acc =>
    let d := pointAdd acc acc
    pointMul k p n (if k.testBit n then pointAdd d p else d)

def scalarMul (k : Nat) (p : Point) : Point := pointMul k p 384 none

def onCurve (x y : Nat) : Bool :=
  x < p384P && y < p384P && (y * y % p384P == (x * x * x + (p384P - 3) * x + p384B) % p384P)

/-- A public key of 97 bytes, 0x04, X, Y (R427), if it names a point. -/
def decodePoint (b : Bytes) : Point :=
  if b.length = 97 ∧ b.head? = some 4 then
    let x := beAt b 1 48
    let y := beAt b 49 48
    if onCurve x y then some (x, y) else none
  else none

def encodePoint : Point → Bytes
  | none => [0]
  | some (x, y) => 4 :: beBytes 48 x ++ beBytes 48 y

/-- Does (r, s) verify as an ECDSA P-384 signature over a 48-byte digest (R433)? -/
def ecdsaVerify (key : Bytes) (digest : Bytes) (r s : Nat) : Bool :=
  match decodePoint key with
  | none => false
  | some q =>
    if r = 0 ∨ s = 0 ∨ p384N ≤ r ∨ p384N ≤ s then false
    else
      let w := invMod p384N s
      let u1 := beNat digest * w % p384N
      let u2 := r * w % p384N
      match pointAdd (scalarMul u1 (some p384G)) (scalarMul u2 (some q)) with
      | none => false
      | some (x, _) => x % p384N == r

/-- The ECDSA signature with private scalar d and per-signature secret k: r, s, 48 bytes each (R426). -/
def ecdsaSign (d k : Nat) (digest : Bytes) : Bytes :=
  let r := match scalarMul k (some p384G) with
    | none => 0
    | some (x, _) => x % p384N
  let s := invMod p384N k * (beNat digest + r * d) % p384N
  beBytes 48 r ++ beBytes 48 s

/-- The x-coordinate of ECDH between a private scalar and a public key (R434). -/
def ecdhX (d : Nat) (key : Bytes) : Bytes :=
  match scalarMul d (decodePoint key) with
  | none => beBytes 48 0
  | some (x, _) => beBytes 48 x

/-- The identity public key and the key-agreement public key (R427). -/
def identityPublicKey : Bytes := encodePoint (scalarMul Config.identityKey (some p384G))
def agreementPublicKey : Bytes := encodePoint (scalarMul Config.agreementKey (some p384G))

end Sys2Proof.Machine
end

