-- ==== Sys2Proof/Machine/Key.lean ====
section
/-! DEFINITION. The keys of the dictionary's entries: index × 256 + subindex of every object of the object lists, under the
manual's name. An entry with instances takes the instance number (R9, R39, R40). The LANE objects' keys are those of a
camera port; laneKey (Objects.lean) moves them to the other lanes (R166). -/
namespace Sys2Proof.Machine.Key

/-- R40: instance i of an array of more than 255 instances. -/
def wideKey (base i : Nat) : Nat := (base + i / 255) * 256 + i % 255 + 1

/-- R22: subindex `sub` of object `off` of engine e's block. -/
def dmaKey (off e sub : Nat) : Nat := (0x7800 + 0x40 * e + off) * 256 + sub

def devicePartCode : Nat := 0x100001
def siliconRevision : Nat := 0x100002
def firmwareVersion : Nat := 0x100003
def invCameraPorts : Nat := 0x100201
def invPipelines : Nat := 0x100202
def invTileCores : Nat := 0x100203
def invCodecEngines : Nat := 0x100204
def invDmaChannels : Nat := 0x100205
def invFifos : Nat := 0x100206
def invCrossings : Nat := 0x100207
def invTrunkTxLanes : Nat := 0x100208
def dapNodeId : Nat := 0x101001
def dapCanNominalRate : Nat := 0x101002
def dapCanDataRate : Nat := 0x101003
def dapUdpPort : Nat := 0x101101
def dapMgmtVlan : Nat := 0x101102
def dapIpv4Address : Nat := 0x101103
def dapIpv4Prefix : Nat := 0x101104
def dapIpv6Enable : Nat := 0x101105
def dapMgmtMac : Nat := 0x101106
def dapSessionIdleTimeout : Nat := 0x101201
def dapSessionsOpen : Nat := 0x101202
def dapTagFailures : Nat := 0x101203
def dapOpenRefused : Nat := 0x101204
def evtQueueFill : Nat := 0x110001
def evtLostCount : Nat := 0x110002
def evtLostSticky : Nat := 0x110003
def evtNotifyClass : Nat := 0x110004
def evtResendInterval : Nat := 0x110005
def eventLog : Nat := 0x110101
def evtLogTotal : Nat := 0x110102
def storeCommand : Nat := 0x130001
def storeStatus : Nat := 0x130002
def storeSaveCount : Nat := 0x130003
def storeBank : Nat := 0x130004
def tbNow : Nat := 0x200001
def tbEpoch : Nat := 0x200002
def tbState : Nat := 0x200003
def tbSource : Nat := 0x200004
def tbRateAdj : Nat := 0x200005
def tbSlewLimit : Nat := 0x200006
def tbStepDetect : Nat := 0x200007
def tbDiscontinuityPolicy : Nat := 0x200008
def tbDiscontinuityAction : Nat := 0x200009
def tbLockThreshold : Nat := 0x20000A
def tbOffset : Nat := 0x20000B
def tbReepochLead : Nat := 0x20000C
def tbFreqEstimate : Nat := 0x20000D
def tbIncrement : Nat := 0x20000E
def tbOscLost : Nat := 0x20000F
def tbAcquireSamples : Nat := 0x200010
def tbAcquireSpread : Nat := 0x200011
def tbSourceTimeout : Nat := 0x200012
def tbExternalStep : Nat := 0x200013
def tbExtWatchdog : Nat := 0x200014
def tbHoldoverAverage : Nat := 0x200015
def tbHoldoverAlarm : Nat := 0x200016
def tbHoldoverTime : Nat := 0x200017
def tbSeamOldEpoch : Nat := 0x200101
def tbSeamOldTime : Nat := 0x200102
def tbSeamNewTime : Nat := 0x200103
def tbOutlierCount : Nat := 0x200201
def tbStepCount : Nat := 0x200202
def tbReepochCount : Nat := 0x200203
def ptpProfile : Nat := 0x201001
def ptpTransport : Nat := 0x201002
def ptpDomain : Nat := 0x201003
def ptpLogSyncInterval : Nat := 0x201004
def ptpPriority1 : Nat := 0x201005
def ptpPriority2 : Nat := 0x201006
def ptpVlan : Nat := 0x201007
def ptpPortEnable (i : Nat) : Nat := 0x202001 + i
def ptpPortState (i : Nat) : Nat := 0x202101 + i
def ptpMeanPathDelay (i : Nat) : Nat := 0x202201 + i
def ptpPortOffset (i : Nat) : Nat := 0x202301 + i
def ptpAsymTrim (i : Nat) : Nat := 0x202401 + i
def ptpAsymTrimReroute (i : Nat) : Nat := 0x202501 + i
def ptpRingPortA : Nat := 0x203001
def ptpRingPortB : Nat := 0x203002
def ptpPathDelta : Nat := 0x203003
def ptpPathHoldIntervals : Nat := 0x203004
def ptpAsymLimit : Nat := 0x203005
def ptpAsymFlag : Nat := 0x203006
def txtsFill (n : Nat) : Nat := (0x2040 + n) * 256 + 1
def txtsHeadId (n : Nat) : Nat := (0x2040 + n) * 256 + 2
def txtsHeadEpoch (n : Nat) : Nat := (0x2040 + n) * 256 + 3
def txtsHeadTime (n : Nat) : Nat := (0x2040 + n) * 256 + 4
def txtsHeadTime32 (n : Nat) : Nat := (0x2040 + n) * 256 + 5
def txtsPop (n : Nat) : Nat := (0x2040 + n) * 256 + 6
def txtsOverflowSticky (n : Nat) : Nat := (0x2040 + n) * 256 + 7
def txtsDiscardCount (n : Nat) : Nat := (0x2040 + n) * 256 + 8
def tbBeaconValid : Nat := 0x205001
def tbBeaconDelay : Nat := 0x205002
def tbBeaconTrim : Nat := 0x205003
def ttTable : Nat := 0x240001
def ttArmedCount : Nat := 0x240002
def ttLastRefusedEntry : Nat := 0x240003
def ttQueryEntry : Nat := 0x240101
def ttQueryState : Nat := 0x240102
def ttQueryNextEpoch : Nat := 0x240103
def ttQueryNextTime : Nat := 0x240104
def ttQueryFired : Nat := 0x240105
def ttQuerySkipped : Nat := 0x240106
def bellUnitsLoaded : Nat := 0x240201
def bellStarvedCount : Nat := 0x240202
def bellCommitsPending : Nat := 0x240203
def bellPinMode (i : Nat) : Nat := 0x240301 + i
def bellCamDelay (i : Nat) : Nat := 0x241001 + i
def bellMidpointExposure (i : Nat) : Nat := 0x241101 + i
def bellTriggerMaxLead : Nat := 0x241201
def bellCamSkipped (i : Nat) : Nat := 0x241301 + i
def laneEnable (i : Nat) : Nat := 0x300001 + i
def laneRate (i : Nat) : Nat := 0x300101 + i
def laneMinRate (i : Nat) : Nat := 0x300201 + i
def laneState (i : Nat) : Nat := 0x300301 + i
def laneRateActive (i : Nat) : Nat := 0x300401 + i
def laneFom (i : Nat) : Nat := 0x300501 + i
def laneTaps (i : Nat) : Nat := 0x300601 + i
def laneRxEq (i : Nat) : Nat := 0x300701 + i
def lanePartner (i : Nat) : Nat := 0x300801 + i
def laneCommand (i : Nat) : Nat := 0x300901 + i
def laneTestMode (i : Nat) : Nat := 0x300A01 + i
def lanePrbsPattern (i : Nat) : Nat := 0x300B01 + i
def laneInject (i : Nat) : Nat := 0x300C01 + i
def lanePrbsBits (i : Nat) : Nat := 0x300D01 + i
def lanePrbsErrors (i : Nat) : Nat := 0x300E01 + i
def laneCodeErrors (i : Nat) : Nat := 0x300F01 + i
def laneAlignLoss (i : Nat) : Nat := 0x301001 + i
def laneLosCount (i : Nat) : Nat := 0x301101 + i
def laneTrainCount (i : Nat) : Nat := 0x301201 + i
def laneMsgErrors (i : Nat) : Nat := 0x301301 + i
def lanePartnerErrors (i : Nat) : Nat := 0x301401 + i
def laneFomFloor : Nat := 0x308001
def laneIdleFreeze : Nat := 0x308002
def laneTdFloor : Nat := 0x308003
def laneDegradedRetry : Nat := 0x308004
def laneVerifyMaxErrors : Nat := 0x308005
def ethLaneMode (i : Nat) : Nat := 0x328001 + i
def ethTxPreset (i : Nat) : Nat := 0x328101 + i
def capPipe (i : Nat) : Nat := 0x400001 + i
def capWidth (i : Nat) : Nat := 0x400101 + i
def capHeight (i : Nat) : Nat := 0x400201 + i
def capFormat (i : Nat) : Nat := 0x400301 + i
def capNexp (i : Nat) : Nat := 0x400401 + i
def capLinePeriod (i : Nat) : Nat := 0x400501 + i
def capFramePeriod (i : Nat) : Nat := 0x400601 + i
def capCadenceMargin (i : Nat) : Nat := 0x400701 + i
def capTimeMode (i : Nat) : Nat := 0x400801 + i
def capTriggerLatency (i : Nat) : Nat := 0x400901 + i
def capTriggerWindow (i : Nat) : Nat := 0x400A01 + i
def capPortLatency (i : Nat) : Nat := 0x400B01 + i
def capReadoutOffset (i : Nat) : Nat := 0x400C01 + i
def capCrcPolicy (i : Nat) : Nat := 0x400D01 + i
def capRepairLimit (i : Nat) : Nat := 0x400E01 + i
def capFillValue (i : Nat) : Nat := 0x400F01 + i
def capIngressLines (i : Nat) : Nat := 0x401001 + i
def capNextFrame (i : Nat) : Nat := 0x470001 + i
def capIngressFill (i : Nat) : Nat := 0x470101 + i
def capIngressPeak (i : Nat) : Nat := 0x470201 + i
def capFramesTruncated (i : Nat) : Nat := 0x470301 + i
def capFramesDropped (i : Nat) : Nat := 0x470401 + i
def capLinesRepaired (i : Nat) : Nat := 0x470501 + i
def capOverflows (i : Nat) : Nat := 0x470601 + i
def capLinesDiscarded (i : Nat) : Nat := 0x470701 + i
def capFsRejected (i : Nat) : Nat := 0x470801 + i
def capCadenceMisses (i : Nat) : Nat := 0x470901 + i
def capTriggersUnmatched (i : Nat) : Nat := 0x470A01 + i
def capLastTag (i : Nat) : Nat := 0x470B01 + i
def capPipeLoad (i : Nat) : Nat := 0x471001 + i
def commitPendingCount : Nat := 0x101301
def commitLastTicket : Nat := 0x101302
def commitDiscardedCount : Nat := 0x101303
def capGenLive (i : Nat) : Nat := 0x472001 + i
def capGenFrame (i : Nat) : Nat := 0x472101 + i
def capGenTicket (i : Nat) : Nat := 0x472201 + i
def capGenPending (i : Nat) : Nat := 0x472301 + i
def pipeGenLive (i : Nat) : Nat := 0x570001 + i
def pipeGenLiveB (i : Nat) : Nat := 0x570101 + i
def pipeGenFrame (i : Nat) : Nat := 0x570201 + i
def pipeGenFrameB (i : Nat) : Nat := 0x570301 + i
def pipeGenTicket (i : Nat) : Nat := 0x570401 + i
def pipeGenPending (i : Nat) : Nat := 0x570501 + i
def mrgGenLive (i : Nat) : Nat := wideKey 0x6700 i
def mrgGenFrame (i : Nat) : Nat := wideKey 0x6708 i
def mrgGenTicket (i : Nat) : Nat := wideKey 0x6710 i
def mrgGenPending (i : Nat) : Nat := wideKey 0x6718 i
def pipeCfa (i : Nat) : Nat := 0x500001 + i
def pipeDecompand (i : Nat) : Nat := 0x500101 + i
def pipeBlackLevel (i : Nat) : Nat := 0x500201 + i
def pipeDpcThreshold (i : Nat) : Nat := 0x500301 + i
def pipeShading (i : Nat) : Nat := 0x500401 + i
def pipeMergeRatio1 (i : Nat) : Nat := 0x500501 + i
def pipeMergeRatio2 (i : Nat) : Nat := 0x500601 + i
def pipeMergeKnee0 (i : Nat) : Nat := 0x500701 + i
def pipeMergeKnee1 (i : Nat) : Nat := 0x500801 + i
def pipeMergeWidth0 (i : Nat) : Nat := 0x500901 + i
def pipeMergeWidth1 (i : Nat) : Nat := 0x500A01 + i
def pipeMergeShift (i : Nat) : Nat := 0x500B01 + i
def pipeNrAmount (i : Nat) : Nat := 0x500C01 + i
def pipeNrShift (i : Nat) : Nat := 0x500D01 + i
def pipeWbGain (i : Nat) : Nat := 0x500E01 + i
def pipeCcm (i : Nat) : Nat := 0x500F01 + i
def pipeMasks (i : Nat) : Nat := 0x501001 + i
def pipeMaskFill (i : Nat) : Nat := 0x501101 + i
def pipeBypass (i : Nat) : Nat := 0x510001 + i
def pipeDefectList (i : Nat) : Nat := 0x510101 + i
def pipeToneCurve (i : Nat) : Nat := 0x510201 + i
def pipeLtmGain (i : Nat) : Nat := 0x510301 + i
def pipeLtmStrength (i : Nat) : Nat := 0x510401 + i
def pipeOutCurve (i : Nat) : Nat := 0x510501 + i
def pipeCsc (i : Nat) : Nat := 0x510601 + i
def pipeCscRange (i : Nat) : Nat := 0x510701 + i
def pipeSharpGain (i : Nat) : Nat := 0x510801 + i
def pipeSharpCoring (i : Nat) : Nat := 0x510901 + i
def pipeSharpLimit (i : Nat) : Nat := 0x510A01 + i
def pipeScaleKernel (i : Nat) : Nat := 0x510B01 + i
def pipeCropCtrl (i : Nat) : Nat := wideKey 0x5200 i
def pipeCropSrc (i : Nat) : Nat := wideKey 0x5202 i
def pipeCropOut (i : Nat) : Nat := wideKey 0x5204 i
def pipeFrames (i : Nat) : Nat := 0x571001 + i
def pipeDpcCount (i : Nat) : Nat := 0x571101 + i
def pipeLtmHistoryFrame (i : Nat) : Nat := 0x571201 + i
def pipeCropSkipped (i : Nat) : Nat := 0x571301 + i
def pipeMaskLock (i : Nat) : Nat := 0x572001 + i
def statHistTap (i : Nat) : Nat := 0x700001 + i
def statHistChannels (i : Nat) : Nat := 0x700101 + i
def statAwbTap (i : Nat) : Nat := 0x700201 + i
def statAwbSat (i : Nat) : Nat := 0x700301 + i
def statAwbDark (i : Nat) : Nat := 0x700401 + i
def statExposure (i : Nat) : Nat := 0x700501 + i
def statSharpCoring (i : Nat) : Nat := 0x700601 + i
def statRecord (i : Nat) : Nat := 0x701001 + i
def statRseq (i : Nat) : Nat := 0x701101 + i
def statSnapshot (i : Nat) : Nat := 0x701201 + i
def expLatency (i : Nat) : Nat := 0x702001 + i
def expWriteLead (i : Nat) : Nat := 0x702101 + i
def expMap (i : Nat) : Nat := 0x702201 + i
def expEchoMap (i : Nat) : Nat := 0x702301 + i
def expSetTime (i : Nat) : Nat := 0x702401 + i
def expSetGain (i : Nat) : Nat := 0x702501 + i
def expApply (i : Nat) : Nat := 0x702601 + i
def expRawBundle (i : Nat) : Nat := 0x702701 + i
def expAeMode (i : Nat) : Nat := 0x702801 + i
def expAeTarget (i : Nat) : Nat := 0x702901 + i
def expAeWeights (i : Nat) : Nat := 0x702A01 + i
def expAeMaxStep (i : Nat) : Nat := 0x702B01 + i
def expAeMaxTime (i : Nat) : Nat := 0x702C01 + i
def expAeMaxGain (i : Nat) : Nat := 0x702D01 + i
def expAeFlicker (i : Nat) : Nat := 0x702E01 + i
def expAeSatLimit (i : Nat) : Nat := 0x702F01 + i
def expAeDeadband (i : Nat) : Nat := 0x703001 + i
def expGen (i : Nat) : Nat := 0x704001 + i
def expGenFrame (i : Nat) : Nat := 0x704101 + i
def expModelTime (i : Nat) : Nat := 0x704201 + i
def expModelGain (i : Nat) : Nat := 0x704301 + i
def expWaiting (i : Nat) : Nat := 0x704401 + i
def expWriteFailures (i : Nat) : Nat := 0x704501 + i
def expMismatches (i : Nat) : Nat := 0x704601 + i
def expAeMetric (i : Nat) : Nat := 0x704701 + i
def warpViewCtrl (i : Nat) : Nat := 0x600001 + i
def warpViewSize (i : Nat) : Nat := 0x600101 + i
def warpMesh (i : Nat) : Nat := 0x600201 + i
def warpFill (i : Nat) : Nat := 0x600301 + i
def warpMatchWindow (i : Nat) : Nat := 0x600401 + i
def warpMatchDeadline (i : Nat) : Nat := 0x600501 + i
def warpExtraWindow (i : Nat) : Nat := 0x600601 + i
def warpSource (i : Nat) : Nat := 0x601001 + i
def warpKernel : Nat := 0x601101
def warpCoreFence (i : Nat) : Nat := 0x674001 + i
def warpCoreState (i : Nat) : Nat := 0x674101 + i
def warpCoreTiles (i : Nat) : Nat := 0x674201 + i
def warpPartition (i : Nat) : Nat := 0x674301 + i
def warpMeshUsed (i : Nat) : Nat := 0x674401 + i
def warpEngineRate (i : Nat) : Nat := 0x674501 + i
def warpReissued (i : Nat) : Nat := 0x674601 + i
def warpCacheHits : Nat := 0x675001
def warpCacheMisses : Nat := 0x675002
def warpFrames (i : Nat) : Nat := 0x675801 + i
def warpTilesLate (i : Nat) : Nat := 0x675901 + i
def warpFramesIncomplete (i : Nat) : Nat := 0x675A01 + i
def warpLastMatch (i : Nat) : Nat := 0x675B01 + i
def mrgPw (i : Nat) : Nat := wideKey 0x6020 i
def mrgRoute (i : Nat) : Nat := wideKey 0x6028 i
def codecCtrl (i : Nat) : Nat := wideKey 0x6030 i
def codecBpp (i : Nat) : Nat := wideKey 0x6038 i
def mrgOutLimit (i : Nat) : Nat := 0x676001 + i
def mrgTime32 (i : Nat) : Nat := 0x676101 + i
def mrgOutFill (i : Nat) : Nat := 0x676201 + i
def mrgOutPeak (i : Nat) : Nat := 0x676301 + i
def mrgFrames (i : Nat) : Nat := wideKey 0x6768 i
def mrgTilesAbsent (i : Nat) : Nat := wideKey 0x6770 i
def mrgLastCard (i : Nat) : Nat := wideKey 0x6778 i
def mrgLastSignature (i : Nat) : Nat := wideKey 0x6780 i
def mrgQueueFill : Nat := 0x679001
def mrgQueuePeak : Nat := 0x679002
def mrgLateDiscards : Nat := 0x679003
def mrgQueueRefused : Nat := 0x679004
def codecEngineFence (i : Nat) : Nat := 0x67A001 + i
def codecEngineRate (i : Nat) : Nat := 0x67A101 + i
def codecSlices (i : Nat) : Nat := 0x67A201 + i
def trkEnable : Nat := 0x710001
def trkRate : Nat := 0x710002
def trkMinRate : Nat := 0x710003
def trkState : Nat := 0x710004
def trkLanes : Nat := 0x710005
def trkReturnLanes : Nat := 0x710006
def trkRateActive : Nat := 0x710007
def trkCreditTimeout : Nat := 0x710008
def trkPartnerBuffer : Nat := 0x710009
def trkWidenHold : Nat := 0x71000A
def trkTunnelRate : Nat := 0x71000B
def trkPacketsSent : Nat := 0x711001
def trkRxPackets : Nat := 0x711002
def trkRxErrored : Nat := 0x711003
def trkPacketsCut : Nat := 0x711004
def trkResizes : Nat := 0x711005
def trkCreditStalls : Nat := 0x711006
def trkTunnelDiscards : Nat := 0x711007
def nxPvid (i : Nat) : Nat := 0x740001 + i
def nxAccept (i : Nat) : Nat := 0x740101 + i
def nxDefaultPcp (i : Nat) : Nat := 0x740201 + i
def nxPcpMap (i : Nat) : Nat := 0x740301 + i
def nxVlanTable : Nat := 0x740401
def nxStaticTable : Nat := 0x740402
def nxAgeTime : Nat := 0x740501
def nxAddrUsed : Nat := 0x740502
def nxLearnMiss : Nat := 0x740503
def nxClassLimit (i : Nat) : Nat := 0x740601 + i
def nxEvReserve : Nat := 0x740701
def nxGateEnable (i : Nat) : Nat := 0x741001 + i
def nxGclAdmin (i : Nat) : Nat := 0x741101 + i
def nxAdminBaseEpoch (i : Nat) : Nat := 0x741201 + i
def nxAdminBaseTime (i : Nat) : Nat := 0x741301 + i
def nxAdminCycleTime (i : Nat) : Nat := 0x741401 + i
def nxAdminCycleExt (i : Nat) : Nat := 0x741501 + i
def nxGateConfigChange (i : Nat) : Nat := 0x741601 + i
def nxGclOper (i : Nat) : Nat := 0x741701 + i
def nxGateState (i : Nat) : Nat := 0x741801 + i
def nxPreempt (i : Nat) : Nat := 0x742001 + i
def nxPreemptVerify (i : Nat) : Nat := 0x742101 + i
def nxAddFrag (i : Nat) : Nat := 0x742201 + i
def nxPreemptStatus (i : Nat) : Nat := 0x742301 + i
def nxFlowClass (i : Nat) : Nat := 0x743001 + i
def nxFlowKey (i : Nat) : Nat := 0x743101 + i
def nxFlowWeight : Nat := 0x743201
def nxFlowLimit : Nat := 0x743202
def nxFlowPool : Nat := 0x743203
def nxFlowActive : Nat := 0x743204
def nxFlowQuery : Nat := 0x743301
def nxFlowQueryBytes : Nat := 0x743302
def nxFlowQueryDeficit : Nat := 0x743303
def nxFlowQuerySent : Nat := 0x743304
def nxFlowQueryDrops : Nat := 0x743305
def nxFlowCacheHits : Nat := 0x743401
def nxFlowCacheMisses : Nat := 0x743402
def nxEvMac : Nat := 0x744001
def nxEvDestBase : Nat := 0x744002
def nxEvVlan : Nat := 0x744003
def nxEvPcp : Nat := 0x744004
def nxEvFragment : Nat := 0x744005
def nxEvLatency : Nat := 0x744006
def nxEvVendor : Nat := 0x744007
def nxPtpRelayPort : Nat := 0x745001
def nxTsNextId (i : Nat) : Nat := 0x745101 + i
def nxRxFrames (i : Nat) : Nat := 0x746001 + i
def nxTxFrames (i : Nat) : Nat := 0x746101 + i
def nxDrops (i : Nat) : Nat := 0x746201 + i
def nxGateTooBig (i : Nat) : Nat := 0x746301 + i
def nxPreemptFragments (i : Nat) : Nat := 0x746401 + i
def dmaChSrcAddr (e ch : Nat) : Nat := dmaKey 0x00 e (ch + 1)
def dmaChSrcShape (e ch : Nat) : Nat := dmaKey 0x01 e (ch + 1)
def dmaChDstAddr (e ch : Nat) : Nat := dmaKey 0x02 e (ch + 1)
def dmaChDstShape (e ch : Nat) : Nat := dmaKey 0x03 e (ch + 1)
def dmaChCtrl (e ch : Nat) : Nat := dmaKey 0x04 e (ch + 1)
def dmaChPace (e ch : Nat) : Nat := dmaKey 0x05 e (ch + 1)
def dmaChTag (e ch : Nat) : Nat := dmaKey 0x06 e (ch + 1)
def dmaChCommand (e ch : Nat) : Nat := dmaKey 0x07 e (ch + 1)
def dmaChState (e ch : Nat) : Nat := dmaKey 0x08 e (ch + 1)
def dmaChDoneBytes (e ch : Nat) : Nat := dmaKey 0x09 e (ch + 1)
def dmaChStatus (e ch : Nat) : Nat := dmaKey 0x0A e (ch + 1)
def dmaChOwner (e ch : Nat) : Nat := dmaKey 0x0B e (ch + 1)
def dmaChRewinds (e ch : Nat) : Nat := dmaKey 0x0C e (ch + 1)
def dmaEngineState (e : Nat) : Nat := dmaKey 0x30 e 1
def dmaEngineCommand (e : Nat) : Nat := dmaKey 0x30 e 2
def dmaErrHoldoff (e : Nat) : Nat := dmaKey 0x30 e 3
def dmaAgeTime (e : Nat) : Nat := dmaKey 0x30 e 4
def dmaBusErrors (e : Nat) : Nat := dmaKey 0x30 e 5
def dmaLastErrAddr (e : Nat) : Nat := dmaKey 0x30 e 6
def dmaRingBase (e : Nat) : Nat := dmaKey 0x31 e 1
def dmaRingSize (e : Nat) : Nat := dmaKey 0x31 e 2
def dmaRingWritten (e : Nat) : Nat := dmaKey 0x31 e 3
def dmaRingRead (e : Nat) : Nat := dmaKey 0x31 e 4
def dmaRingLost (e : Nat) : Nat := dmaKey 0x31 e 5
def dmaRingLostSticky (e : Nat) : Nat := dmaKey 0x31 e 6
def dmaNextSeq (e : Nat) : Nat := dmaKey 0x31 e 7
def dmaLandedSeq (e : Nat) : Nat := dmaKey 0x31 e 8
def dmaRingData (e : Nat) : Nat := dmaKey 0x31 e 9
def fifoDirectory : Nat := 0x7AC001
def fifoFill (i : Nat) : Nat := wideKey 0x7B00 i
def fifoPeak (i : Nat) : Nat := wideKey 0x7B04 i
def fifoMark (i : Nat) : Nat := wideKey 0x7B08 i
def fifoWmStatus (i : Nat) : Nat := wideKey 0x7B0C i
def fifoWmAck (i : Nat) : Nat := wideKey 0x7B10 i
def fifoCommand (i : Nat) : Nat := wideKey 0x7B14 i
def fifoWmEvent (i : Nat) : Nat := wideKey 0x7B18 i
def memDramRate : Nat := 0x7C0001
def memDramRateActive : Nat := 0x7C0002
def memDramDensity : Nat := 0x7C0003
def memDramEcc : Nat := 0x7C0004
def memDramUsable : Nat := 0x7C0005
def memDramReady : Nat := 0x7C0006
def memHostSize : Nat := 0x7C0007
def memDeviceNeed : Nat := 0x7C0008
def memDeviceAvailable : Nat := 0x7C0009
def memLowpowerDram : Nat := 0x7C000A
def memHostSizeActive : Nat := 0x7C000B
def memScrubPeriod : Nat := 0x7C0101
def memDramScrubPeriod : Nat := 0x7C0102
def memCorrected (i : Nat) : Nat := 0x7C0201 + i
def memUncorrected (i : Nat) : Nat := 0x7C0301 + i
def memErrLog : Nat := 0x7C0401
def accessPlan : Nat := 0x140001
def protSeq : Nat := 0x140002
def protSealed : Nat := 0x140003
def enrolSeal : Nat := 0x140004
def roleSecret (i : Nat) : Nat := 0x140101 + i
def rolePubkey (i : Nat) : Nat := 0x140201 + i
def tandemProposal : Nat := 0x141001
def tandemDigest : Nat := 0x141002
def tandemSign : Nat := 0x141003
def tandemState : Nat := 0x141004
def tandemRemaining : Nat := 0x141005
def tandemSignedRoles : Nat := 0x141006
def tandemCommand : Nat := 0x141007
def fwImage : Nat := 0x142001
def fwActive : Nat := 0x142002
def fwRunning : Nat := 0x142003
def fwState : Nat := 0x142004
def fwCommand : Nat := 0x142005
def fwTrialTime : Nat := 0x142006
def measSlot (i : Nat) : Nat := 0x150001 + i
def measExtend : Nat := 0x150101
def bootCount : Nat := 0x150201
def bootReason : Nat := 0x150202
def idPubkey : Nat := 0x150301
def idCert : Nat := 0x150302
def idKexPubkey : Nat := 0x150303
def rollcallNonce : Nat := 0x150401
def rollcallReport : Nat := 0x150402
def pwrState : Nat := 0x120001
def pwrCommand : Nat := 0x120002
def pwrWakeMask : Nat := 0x120003
def pwrLastWake : Nat := 0x120004
def pwrDrainLimit : Nat := 0x120005
def pwrStandbyKeep : Nat := 0x120006
def pwrLimit : Nat := 0x120007
def pwrEstimate : Nat := 0x120008
def pwrThrottled : Nat := 0x120009
def rstDevice : Nat := 0x120101
def rstCluster : Nat := 0x120102
def rstClusterCount (i : Nat) : Nat := 0x120103 + i
def pwrDomainEnable (i : Nat) : Nat := 0x800001 + i
def pwrDomainState (i : Nat) : Nat := 0x800101 + i
def smWarnLevel (i : Nat) : Nat := 0x801001 + i
def smResetLevel (i : Nat) : Nat := 0x801101 + i
def smVoltage (i : Nat) : Nat := 0x801201 + i
def smTarget (i : Nat) : Nat := 0x801301 + i
def smDipActive : Nat := 0x802001
def smDipCount : Nat := 0x802002
def smLastDipRail : Nat := 0x802003
def smLastDipMin : Nat := 0x802004
def smLastDipDuration : Nat := 0x802005
def smLastDipEpoch : Nat := 0x802006
def smLastDipStart : Nat := 0x802007
def rcvCrossingTimeout : Nat := 0xA00001
def rcvPipeTimeout : Nat := 0xA00002
def rcvHubTimeout : Nat := 0xA00003
def rcvFwTimeout : Nat := 0xA00004
def rcvPolicy : Nat := 0xA00005
def rcvHubLimit : Nat := 0xA00006
def rcvClear : Nat := 0xA00007
def rcvCrossingDirectory : Nat := 0xA01001
def rcvCrossingCounts : Nat := 0xA01002
def rcvPipeCount (i : Nat) : Nat := 0xA01101 + i
def rcvHubCount (i : Nat) : Nat := 0xA01201 + i
def rcvFwCount : Nat := 0xA01301
def calTrims : Nat := 0x810001
def calFactory : Nat := 0x810002
def calSource : Nat := 0x810003
def calCommand : Nat := 0x810101
def calTarget : Nat := 0x810102
def calOscGate : Nat := 0x810103
def calEthLoopDelay : Nat := 0x810104
def calStatus : Nat := 0x810201
def calResult : Nat := 0x810202
def calMeasured : Nat := 0x810203
def calSaveCount : Nat := 0x810204
def testPipeFence (i : Nat) : Nat := 0x900001 + i
def testInjectDesc (i : Nat) : Nat := 0x900101 + i
def testInjectCommand (i : Nat) : Nat := 0x900201 + i
def testInjectState (i : Nat) : Nat := 0x900301 + i
def testInjectFrames (i : Nat) : Nat := 0x900401 + i
def testGoldenSpec (i : Nat) : Nat := 0x901001 + i
def testGoldenExpect (i : Nat) : Nat := 0x901101 + i
def testGoldenResult (i : Nat) : Nat := 0x901201 + i
def testGoldenSeen (i : Nat) : Nat := 0x901301 + i
def testBistCommand (i : Nat) : Nat := 0x902001 + i
def testBistResult (i : Nat) : Nat := 0x902101 + i
def testBistFails (i : Nat) : Nat := 0x902201 + i
def testBistFirstAddr (i : Nat) : Nat := 0x902301 + i
def testDramRetrain : Nat := 0x903001
def pwrTj : Nat := 0x803001
def pwrTjPeak : Nat := 0x803002
def pwrTjThrottle : Nat := 0x803003
def pwrAvsPoint : Nat := 0x803101
def pwrAvsFailures : Nat := 0x803102

end Sys2Proof.Machine.Key
end

