-- ==== Sys2Proof/Machine/Maps.lean ====
section
/-! DEFINITION. The operations on finite maps (Word.lean): look up, insert or replace keeping the keys rising, remove. -/
namespace Sys2Proof.Machine

/-- The value stored under a key, if any. -/
def mapGet {α : Type} (k : Nat) : Map α → Option α
  | [] => none
  | (k', v) :: r => if k = k' then some v else mapGet k r

/-- Store a value under a key. -/
def mapSet {α : Type} (k : Nat) (v : α) : Map α → Map α
  | [] => [(k, v)]
  | (k', v') :: r =>
    if k < k' then (k, v) :: (k', v') :: r
    else if k = k' then (k, v) :: r
    else (k', v') :: mapSet k v r

/-- Remove a key. -/
def mapDel {α : Type} (k : Nat) : Map α → Map α
  | [] => []
  | (k', v) :: r => if k = k' then mapDel k r else (k', v) :: mapDel k r

/-- The value under a key, or a default. -/
def mapGetD {α : Type} (k : Nat) (d : α) (m : Map α) : α :=
  match mapGet k m with
  | some v => v
  | none => d

/-- Keep the entries whose key passes a test. -/
def mapKeep {α : Type} (p : Nat → Bool) (m : Map α) : Map α := m.filter fun e => p e.1

end Sys2Proof.Machine
end

