-- ==== Sys2Proof/Machine/Objects.lean ====
section
/-! DEFINITION. The object dictionary's table: every entry of the manual's object lists with its type, access, default,
range, legal bits and whether the store holds it (R38 to R44, R68), and which of its instances a part has (R2 to R5). -/
namespace Sys2Proof.Machine

/-- R1: the three parts. -/
inductive Part where
  | p48 | p24 | p12
  deriving DecidableEq, Repr

/-- R10: the types of entries. -/
inductive Ty where
  | u8 | u16 | u32 | u64 | i16 | i32 | i64 | bool | time96 | domain
  deriving DecidableEq, Repr

/-- R11: the access types. -/
inductive Access where
  | ro | wo | rw | rws | rwp
  deriving DecidableEq, Repr

/-- What an object has one instance of. -/
inductive Inst where
  | one | port | input | pipe | cropper | stream | view | slot | warpEngine | core | codec | output | memory | bist | hub
  | cluster | domain | trunkLane | txts | dmaChannel | dmaEngine | fifo | fixed4 | fixed6 | fixed9 | fixed16
  deriving DecidableEq, Repr

/-- The defaults of the object lists. -/
inductive Dflt where
  | val (v : Int)
  | zeros (n : Nat)
  | partCode | inventory (n : Nat) | mac (n : Nat) | timeSource | capPipe | cropCtrl | partition | railTarget | fifoMark
  | channelOwner
  | identityCcm | toneCurve | ltmGain | outCurve | bilinear | aeWeights | vlanTable | flowWeights | accessPlan | trims
  deriving DecidableEq, Repr

/-- The ranges of the object lists, on the value with its reserved bits cleared (R16, R17). -/
inductive Rng where
  | any
  | span (lo hi : Int)
  | spanOr (lo hi other : Int)
  | zeroOr (lo hi : Int)
  | oneOf (l : List Int)
  | mult (lo hi m : Int)
  | fields (l : List (Nat × Nat × Nat × Nat))
  | timeSource | slot | pace | golden | route | fifoMark
  deriving DecidableEq, Repr

/-- One row of an object list: index and subindex of its first entry, what it has instances of, type, access, default, range,
the bits that are not reserved (0: all of them), and whether the persistent store holds it (R44, R68). -/
structure Obj where
  idx : Nat
  sub : Nat
  inst : Inst
  ty : Ty
  acc : Access
  dflt : Dflt
  rng : Rng
  mask : Nat
  stored : Bool
  deriving DecidableEq, Repr

def objects0 : List Obj := [
  ⟨0x1000, 1, .one, .u16, .ro, .partCode, .any, 0x0, false⟩ /- DEVICE_PART_CODE -/,
  ⟨0x1000, 2, .one, .u16, .ro, (.val 17153), .any, 0x0, false⟩ /- SILICON_REVISION -/,
  ⟨0x1000, 3, .one, .u32, .ro, (.val 16777216), .any, 0x0, false⟩ /- FIRMWARE_VERSION -/,
  ⟨0x1002, 1, .one, .u16, .ro, (.inventory 0), .any, 0x0, false⟩ /- INV_CAMERA_PORTS -/,
  ⟨0x1002, 2, .one, .u16, .ro, (.inventory 1), .any, 0x0, false⟩ /- INV_PIPELINES -/,
  ⟨0x1002, 3, .one, .u16, .ro, (.inventory 2), .any, 0x0, false⟩ /- INV_TILE_CORES -/,
  ⟨0x1002, 4, .one, .u16, .ro, (.inventory 3), .any, 0x0, false⟩ /- INV_CODEC_ENGINES -/,
  ⟨0x1002, 5, .one, .u16, .ro, (.inventory 4), .any, 0x0, false⟩ /- INV_DMA_CHANNELS -/,
  ⟨0x1002, 6, .one, .u16, .ro, (.inventory 5), .any, 0x0, false⟩ /- INV_FIFOS -/,
  ⟨0x1002, 7, .one, .u16, .ro, (.inventory 6), .any, 0x0, false⟩ /- INV_CROSSINGS -/,
  ⟨0x1002, 8, .one, .u16, .ro, (.inventory 7), .any, 0x0, false⟩ /- INV_TRUNK_TX_LANES -/,
  ⟨0x1010, 1, .one, .u8, .rw, (.val 0), (.span 0 127), 0x0, true⟩ /- DAP_NODE_ID -/,
  ⟨0x1010, 2, .one, .u32, .rw, (.val 500000), (.oneOf [125000, 250000, 500000, 1000000]), 0x0, true⟩ /- DAP_CAN_NOMINAL_RATE -/,
  ⟨0x1010, 3, .one, .u32, .rw, (.val 2000000), (.oneOf [1000000, 2000000, 4000000, 5000000, 8000000]), 0x0, true⟩ /- DAP_CAN_DATA_RATE -/,
  ⟨0x1011, 1, .one, .u16, .rw, (.val 40960), (.span 1024 65535), 0x0, true⟩ /- DAP_UDP_PORT -/,
  ⟨0x1011, 2, .one, .u16, .rw, (.val 100), (.span 1 4094), 0x0, true⟩ /- DAP_MGMT_VLAN -/,
  ⟨0x1011, 3, .one, .u32, .rw, (.val 0), (.span 0 4294967295), 0x0, true⟩ /- DAP_IPV4_ADDRESS -/,
  ⟨0x1011, 4, .one, .u8, .rw, (.val 24), (.span 8 30), 0x0, true⟩ /- DAP_IPV4_PREFIX -/,
  ⟨0x1011, 5, .one, .bool, .rw, (.val 1), (.span 0 1), 0x0, true⟩ /- DAP_IPV6_ENABLE -/,
  ⟨0x1011, 6, .one, .u64, .ro, (.mac 0), .any, 0x0, false⟩ /- DAP_MGMT_MAC -/,
  ⟨0x1012, 1, .one, .u16, .rw, (.val 30), (.span 5 600), 0x0, true⟩ /- DAP_SESSION_IDLE_TIMEOUT -/,
  ⟨0x1012, 2, .one, .u8, .ro, (.val 0), .any, 0x0, false⟩ /- DAP_SESSIONS_OPEN -/,
  ⟨0x1012, 3, .one, .u32, .ro, (.val 0), .any, 0x0, false⟩ /- DAP_TAG_FAILURES -/,
  ⟨0x1012, 4, .one, .u32, .ro, (.val 0), .any, 0x0, false⟩ /- DAP_OPEN_REFUSED -/,
  ⟨0x1013, 1, .one, .u16, .ro, (.val 0), .any, 0x0, false⟩ /- COMMIT_PENDING_COUNT -/,
  ⟨0x1013, 2, .one, .u16, .ro, (.val 0), .any, 0x0, false⟩ /- COMMIT_LAST_TICKET -/,
  ⟨0x1013, 3, .one, .u32, .ro, (.val 0), .any, 0x0, false⟩ /- COMMIT_DISCARDED_COUNT -/,
  ⟨0x1100, 1, .one, .u16, .ro, (.val 0), .any, 0x0, false⟩ /- EVT_QUEUE_FILL -/,
  ⟨0x1100, 2, .one, .u32, .ro, (.val 0), .any, 0x0, false⟩ /- EVT_LOST_COUNT -/,
  ⟨0x1100, 3, .one, .bool, .rw, (.val 0), (.oneOf [0]), 0x0, false⟩ /- EVT_LOST_STICKY -/,
  ⟨0x1100, 4, .one, .u8, .rw, (.val 2), (.span 0 3), 0x0, true⟩ /- EVT_NOTIFY_CLASS -/,
  ⟨0x1100, 5, .one, .u16, .rw, (.val 1000), (.span 100 10000), 0x0, true⟩ /- EVT_RESEND_INTERVAL -/,
  ⟨0x1101, 1, .one, .domain, .ro, (.zeros 0), (.span 0 196608), 0x0, false⟩ /- EVENT_LOG -/,
  ⟨0x1101, 2, .one, .u32, .ro, (.val 0), .any, 0x0, false⟩ /- EVT_LOG_TOTAL -/,
  ⟨0x1200, 1, .one, .u8, .ro, (.val 0), .any, 0x0, false⟩ /- PWR_STATE -/,
  ⟨0x1200, 2, .one, .u8, .wo, (.val 0), (.span 1 3), 0x0, false⟩ /- PWR_COMMAND -/,
  ⟨0x1200, 3, .one, .u8, .rw, (.val 7), .any, 0x7, false⟩ /- PWR_WAKE_MASK -/,
  ⟨0x1200, 4, .one, .u8, .ro, (.val 0), .any, 0x0, false⟩ /- PWR_LAST_WAKE -/,
  ⟨0x1200, 5, .one, .u16, .rw, (.val 100), (.span 10 1000), 0x0, false⟩ /- PWR_DRAIN_LIMIT -/,
  ⟨0x1200, 6, .one, .u64, .rw, (.val 108086391056891904), .any, 0x180000000000000, false⟩ /- PWR_STANDBY_KEEP -/]

def objects1 : List Obj := [
  ⟨0x1200, 7, .one, .u16, .rw, (.val 72), (.span 20 72), 0x0, false⟩ /- PWR_LIMIT -/,
  ⟨0x1200, 8, .one, .u32, .ro, (.val 0), .any, 0x0, false⟩ /- PWR_ESTIMATE -/,
  ⟨0x1200, 9, .one, .bool, .ro, (.val 0), .any, 0x0, false⟩ /- PWR_THROTTLED -/,
  ⟨0x1201, 1, .one, .u8, .wo, (.val 0), (.oneOf [1]), 0x0, false⟩ /- RST_DEVICE -/,
  ⟨0x1201, 2, .one, .u8, .wo, (.val 0), (.span 0 9), 0x0, false⟩ /- RST_CLUSTER -/,
  ⟨0x1201, 3, .cluster, .u32, .ro, (.val 0), .any, 0x0, false⟩ /- RST_CLUSTER_COUNT -/,
  ⟨0x1300, 1, .one, .u8, .wo, (.val 0), (.span 1 4), 0x0, false⟩ /- STORE_COMMAND -/,
  ⟨0x1300, 2, .one, .u8, .ro, (.val 0), .any, 0x0, false⟩ /- STORE_STATUS -/,
  ⟨0x1300, 3, .one, .u32, .ro, (.val 0), .any, 0x0, false⟩ /- STORE_SAVE_COUNT -/,
  ⟨0x1300, 4, .one, .u8, .ro, (.val 0), .any, 0x0, false⟩ /- STORE_BANK -/,
  ⟨0x1400, 1, .one, .domain, .rwp, .accessPlan, (.oneOf [64]), 0x0, false⟩ /- ACCESS_PLAN -/,
  ⟨0x1400, 2, .one, .u32, .ro, (.val 0), .any, 0x0, false⟩ /- PROT_SEQ -/,
  ⟨0x1400, 3, .one, .bool, .ro, (.val 0), .any, 0x0, false⟩ /- PROT_SEALED -/,
  ⟨0x1400, 4, .one, .u8, .wo, (.val 0), (.oneOf [1]), 0x0, false⟩ /- ENROL_SEAL -/,
  ⟨0x1401, 1, .fixed4, .domain, .rwp, (.zeros 32), (.oneOf [129]), 0x0, false⟩ /- ROLE_SECRET -/,
  ⟨0x1402, 1, .fixed4, .domain, .rwp, (.zeros 0), (.oneOf [0, 97]), 0x0, false⟩ /- ROLE_PUBKEY -/,
  ⟨0x1410, 1, .one, .domain, .rw, (.zeros 0), (.span 0 65536), 0x0, false⟩ /- TANDEM_PROPOSAL -/,
  ⟨0x1410, 2, .one, .domain, .ro, (.zeros 0), (.oneOf [0, 48]), 0x0, false⟩ /- TANDEM_DIGEST -/,
  ⟨0x1410, 3, .one, .domain, .wo, (.zeros 0), (.oneOf [97]), 0x0, false⟩ /- TANDEM_SIGN -/,
  ⟨0x1410, 4, .one, .u8, .ro, (.val 0), .any, 0x0, false⟩ /- TANDEM_STATE -/,
  ⟨0x1410, 5, .one, .u16, .ro, (.val 0), .any, 0x0, false⟩ /- TANDEM_REMAINING -/,
  ⟨0x1410, 6, .one, .u8, .ro, (.val 0), .any, 0x0, false⟩ /- TANDEM_SIGNED_ROLES -/,
  ⟨0x1410, 7, .one, .u8, .wo, (.val 0), (.oneOf [1]), 0x0, false⟩ /- TANDEM_COMMAND -/,
  ⟨0x1420, 1, .one, .domain, .rw, (.zeros 0), (.span 16 12582912), 0x0, false⟩ /- FW_IMAGE -/,
  ⟨0x1420, 2, .one, .u8, .ro, (.val 0), .any, 0x0, false⟩ /- FW_ACTIVE -/,
  ⟨0x1420, 3, .one, .u8, .ro, (.val 0), .any, 0x0, false⟩ /- FW_RUNNING -/,
  ⟨0x1420, 4, .one, .u8, .ro, (.val 0), .any, 0x0, false⟩ /- FW_STATE -/,
  ⟨0x1420, 5, .one, .u8, .wo, (.val 0), (.oneOf [1, 2]), 0x0, false⟩ /- FW_COMMAND -/,
  ⟨0x1420, 6, .one, .u16, .rw, (.val 300), (.span 30 3600), 0x0, false⟩ /- FW_TRIAL_TIME -/,
  ⟨0x1500, 1, .fixed16, .domain, .ro, (.zeros 48), (.oneOf [48]), 0x0, false⟩ /- MEAS_SLOT -/,
  ⟨0x1501, 1, .one, .domain, .wo, (.zeros 0), (.oneOf [49]), 0x0, false⟩ /- MEAS_EXTEND -/,
  ⟨0x1502, 1, .one, .u32, .ro, (.val 0), .any, 0x0, false⟩ /- BOOT_COUNT -/,
  ⟨0x1502, 2, .one, .u8, .ro, (.val 0), .any, 0x0, false⟩ /- BOOT_REASON -/,
  ⟨0x1503, 1, .one, .domain, .ro, (.zeros 0), (.oneOf [97]), 0x0, false⟩ /- ID_PUBKEY -/,
  ⟨0x1503, 2, .one, .domain, .ro, (.zeros 0), (.span 0 2048), 0x0, false⟩ /- ID_CERT -/,
  ⟨0x1503, 3, .one, .domain, .ro, (.zeros 0), (.oneOf [97]), 0x0, false⟩ /- ID_KEX_PUBKEY -/,
  ⟨0x1504, 1, .one, .domain, .wo, (.zeros 0), (.oneOf [32]), 0x0, false⟩ /- ROLLCALL_NONCE -/,
  ⟨0x1504, 2, .one, .domain, .ro, (.zeros 0), (.oneOf [0, 980]), 0x0, false⟩ /- ROLLCALL_REPORT -/,
  ⟨0x2000, 1, .one, .time96, .ro, (.val 0), .any, 0x0, false⟩ /- TB_NOW -/,
  ⟨0x2000, 2, .one, .u16, .ro, (.val 0), .any, 0x0, false⟩ /- TB_EPOCH -/]

def objects2 : List Obj := [
  ⟨0x2000, 3, .one, .u8, .ro, (.val 0), .any, 0x0, false⟩ /- TB_STATE -/,
  ⟨0x2000, 4, .one, .u8, .rw, .timeSource, .timeSource, 0x0, true⟩ /- TB_SOURCE -/,
  ⟨0x2000, 5, .one, .i64, .rw, (.val 0), (.span (-1000000000000) 1000000000000), 0x0, true⟩ /- TB_RATE_ADJ -/,
  ⟨0x2000, 6, .one, .u32, .rw, (.val 100000), (.span 1000 1000000), 0x0, true⟩ /- TB_SLEW_LIMIT -/,
  ⟨0x2000, 7, .one, .u32, .rw, (.val 10000), (.span 100 1000000000), 0x0, true⟩ /- TB_STEP_DETECT -/,
  ⟨0x2000, 8, .one, .u8, .rw, (.val 0), (.span 0 2), 0x0, true⟩ /- TB_DISCONTINUITY_POLICY -/,
  ⟨0x2000, 9, .one, .u8, .wo, (.val 0), (.oneOf [1, 2]), 0x0, false⟩ /- TB_DISCONTINUITY_ACTION -/,
  ⟨0x2000, 10, .one, .u32, .rw, (.val 100), (.span 10 100000), 0x0, true⟩ /- TB_LOCK_THRESHOLD -/,
  ⟨0x2000, 11, .one, .i64, .ro, (.val 0), .any, 0x0, false⟩ /- TB_OFFSET -/,
  ⟨0x2000, 12, .one, .u16, .rw, (.val 10), (.span 2 1000), 0x0, true⟩ /- TB_REEPOCH_LEAD -/,
  ⟨0x2000, 13, .one, .i64, .ro, (.val 0), .any, 0x0, false⟩ /- TB_FREQ_ESTIMATE -/,
  ⟨0x2000, 14, .one, .u64, .ro, (.val 93824992236885), .any, 0x0, false⟩ /- TB_INCREMENT -/,
  ⟨0x2000, 15, .one, .bool, .ro, (.val 0), .any, 0x0, false⟩ /- TB_OSC_LOST -/,
  ⟨0x2000, 16, .one, .u8, .rw, (.val 16), (.span 4 64), 0x0, true⟩ /- TB_ACQUIRE_SAMPLES -/,
  ⟨0x2000, 17, .one, .u32, .rw, (.val 1000), (.span 10 1000000), 0x0, true⟩ /- TB_ACQUIRE_SPREAD -/,
  ⟨0x2000, 18, .one, .u8, .rw, (.val 3), (.span 2 255), 0x0, true⟩ /- TB_SOURCE_TIMEOUT -/,
  ⟨0x2000, 19, .one, .i64, .rw, (.val 0), .any, 0x0, true⟩ /- TB_EXTERNAL_STEP -/,
  ⟨0x2000, 20, .one, .u16, .rw, (.val 10), (.span 1 3600), 0x0, true⟩ /- TB_EXT_WATCHDOG -/,
  ⟨0x2000, 21, .one, .u16, .rw, (.val 16), (.span 1 1024), 0x0, true⟩ /- TB_HOLDOVER_AVERAGE -/,
  ⟨0x2000, 22, .one, .u32, .rw, (.val 600), (.span 1 86400), 0x0, true⟩ /- TB_HOLDOVER_ALARM -/,
  ⟨0x2000, 23, .one, .u32, .ro, (.val 0), .any, 0x0, false⟩ /- TB_HOLDOVER_TIME -/,
  ⟨0x2001, 1, .one, .u16, .ro, (.val 0), .any, 0x0, false⟩ /- TB_SEAM_OLD_EPOCH -/,
  ⟨0x2001, 2, .one, .time96, .ro, (.val 0), .any, 0x0, false⟩ /- TB_SEAM_OLD_TIME -/,
  ⟨0x2001, 3, .one, .time96, .ro, (.val 0), .any, 0x0, false⟩ /- TB_SEAM_NEW_TIME -/,
  ⟨0x2002, 1, .one, .u32, .ro, (.val 0), .any, 0x0, false⟩ /- TB_OUTLIER_COUNT -/,
  ⟨0x2002, 2, .one, .u32, .ro, (.val 0), .any, 0x0, false⟩ /- TB_STEP_COUNT -/,
  ⟨0x2002, 3, .one, .u32, .ro, (.val 0), .any, 0x0, false⟩ /- TB_REEPOCH_COUNT -/,
  ⟨0x2010, 1, .one, .u8, .rw, (.val 2), (.span 0 2), 0x0, true⟩ /- PTP_PROFILE -/,
  ⟨0x2010, 2, .one, .u8, .rw, (.val 0), (.oneOf [0, 1]), 0x0, true⟩ /- PTP_TRANSPORT -/,
  ⟨0x2010, 3, .one, .u8, .rw, (.val 0), (.span 0 127), 0x0, true⟩ /- PTP_DOMAIN -/,
  ⟨0x2010, 4, .one, .i16, .rw, (.val (-3)), (.span (-7) 0), 0x0, true⟩ /- PTP_LOG_SYNC_INTERVAL -/,
  ⟨0x2010, 5, .one, .u8, .rw, (.val 255), (.span 0 255), 0x0, true⟩ /- PTP_PRIORITY1 -/,
  ⟨0x2010, 6, .one, .u8, .rw, (.val 248), (.span 0 255), 0x0, true⟩ /- PTP_PRIORITY2 -/,
  ⟨0x2010, 7, .one, .u16, .rw, (.val 0), (.span 0 4094), 0x0, true⟩ /- PTP_VLAN -/,
  ⟨0x2020, 1, .fixed4, .bool, .rw, (.val 1), (.span 0 1), 0x0, true⟩ /- PTP_PORT_ENABLE -/,
  ⟨0x2021, 1, .fixed4, .u8, .ro, (.val 0), .any, 0x0, false⟩ /- PTP_PORT_STATE -/,
  ⟨0x2022, 1, .fixed4, .i64, .ro, (.val 0), .any, 0x0, false⟩ /- PTP_MEAN_PATH_DELAY -/,
  ⟨0x2023, 1, .fixed4, .i64, .ro, (.val 0), .any, 0x0, false⟩ /- PTP_PORT_OFFSET -/,
  ⟨0x2024, 1, .fixed4, .i32, .rw, (.val 0), (.span (-1000000) 1000000), 0x0, true⟩ /- PTP_ASYM_TRIM -/,
  ⟨0x2025, 1, .fixed4, .i32, .rw, (.val 0), (.span (-1000000) 1000000), 0x0, true⟩ /- PTP_ASYM_TRIM_REROUTE -/]

def objects3 : List Obj := [
  ⟨0x2030, 1, .one, .u8, .rw, (.val 0), (.spanOr 0 3 255), 0x0, true⟩ /- PTP_RING_PORT_A -/,
  ⟨0x2030, 2, .one, .u8, .rw, (.val 1), (.spanOr 0 3 255), 0x0, true⟩ /- PTP_RING_PORT_B -/,
  ⟨0x2030, 3, .one, .u32, .rw, (.val 50), (.span 10 100000), 0x0, true⟩ /- PTP_PATH_DELTA -/,
  ⟨0x2030, 4, .one, .u8, .rw, (.val 8), (.span 1 64), 0x0, true⟩ /- PTP_PATH_HOLD_INTERVALS -/,
  ⟨0x2030, 5, .one, .u32, .rw, (.val 200), (.span 20 100000), 0x0, true⟩ /- PTP_ASYM_LIMIT -/,
  ⟨0x2030, 6, .one, .u8, .rw, (.val 0), (.fields [(2, 0, 0, 0)]), 0x7, false⟩ /- PTP_ASYM_FLAG -/,
  ⟨0x2040, 1, .txts, .u8, .ro, (.val 0), .any, 0x0, false⟩ /- TXTS_FILL -/,
  ⟨0x2040, 2, .txts, .u16, .ro, (.val 0), .any, 0x0, false⟩ /- TXTS_HEAD_ID -/,
  ⟨0x2040, 3, .txts, .u16, .ro, (.val 0), .any, 0x0, false⟩ /- TXTS_HEAD_EPOCH -/,
  ⟨0x2040, 4, .txts, .time96, .ro, (.val 0), .any, 0x0, false⟩ /- TXTS_HEAD_TIME -/,
  ⟨0x2040, 5, .txts, .u32, .ro, (.val 0), .any, 0x0, false⟩ /- TXTS_HEAD_TIME32 -/,
  ⟨0x2040, 6, .txts, .u16, .wo, (.val 0), .any, 0x0, false⟩ /- TXTS_POP -/,
  ⟨0x2040, 7, .txts, .bool, .rw, (.val 0), (.oneOf [0]), 0x0, false⟩ /- TXTS_OVERFLOW_STICKY -/,
  ⟨0x2040, 8, .txts, .u32, .ro, (.val 0), .any, 0x0, false⟩ /- TXTS_DISCARD_COUNT -/,
  ⟨0x2050, 1, .one, .bool, .ro, (.val 0), .any, 0x0, false⟩ /- TB_BEACON_VALID -/,
  ⟨0x2050, 2, .one, .i64, .ro, (.val 0), .any, 0x0, false⟩ /- TB_BEACON_DELAY -/,
  ⟨0x2050, 3, .one, .i32, .rw, (.val 0), (.span (-1000000) 1000000), 0x0, true⟩ /- TB_BEACON_TRIM -/,
  ⟨0x2400, 1, .one, .domain, .rw, (.zeros 196608), (.oneOf [196608]), 0x0, true⟩ /- TT_TABLE -/,
  ⟨0x2400, 2, .one, .u16, .ro, (.val 0), .any, 0x0, false⟩ /- TT_ARMED_COUNT -/,
  ⟨0x2400, 3, .one, .u16, .ro, (.val 65535), .any, 0x0, false⟩ /- TT_LAST_REFUSED_ENTRY -/,
  ⟨0x2401, 1, .one, .u16, .rw, (.val 0), (.span 0 4095), 0x0, false⟩ /- TT_QUERY_ENTRY -/,
  ⟨0x2401, 2, .one, .u8, .ro, (.val 0), .any, 0x0, false⟩ /- TT_QUERY_STATE -/,
  ⟨0x2401, 3, .one, .u16, .ro, (.val 0), .any, 0x0, false⟩ /- TT_QUERY_NEXT_EPOCH -/,
  ⟨0x2401, 4, .one, .time96, .ro, (.val 0), .any, 0x0, false⟩ /- TT_QUERY_NEXT_TIME -/,
  ⟨0x2401, 5, .one, .u32, .ro, (.val 0), .any, 0x0, false⟩ /- TT_QUERY_FIRED -/,
  ⟨0x2401, 6, .one, .u32, .ro, (.val 0), .any, 0x0, false⟩ /- TT_QUERY_SKIPPED -/,
  ⟨0x2402, 1, .one, .u16, .ro, (.val 0), .any, 0x0, false⟩ /- BELL_UNITS_LOADED -/,
  ⟨0x2402, 2, .one, .u32, .ro, (.val 0), .any, 0x0, false⟩ /- BELL_STARVED_COUNT -/,
  ⟨0x2402, 3, .one, .u8, .ro, (.val 0), .any, 0x0, false⟩ /- BELL_COMMITS_PENDING -/,
  ⟨0x2403, 1, .fixed16, .u8, .rw, (.val 0), (.span 0 2), 0x0, true⟩ /- BELL_PIN_MODE -/,
  ⟨0x2410, 1, .port, .u32, .rw, (.val 0), (.span 0 10000000), 0x0, true⟩ /- BELL_CAM_DELAY -/,
  ⟨0x2411, 1, .port, .u8, .rw, (.val 0), (.span 0 2), 0x0, true⟩ /- BELL_MIDPOINT_EXPOSURE -/,
  ⟨0x2412, 1, .one, .u32, .rw, (.val 200000), (.span 1000 1000000), 0x0, true⟩ /- BELL_TRIGGER_MAX_LEAD -/,
  ⟨0x2413, 1, .port, .u32, .ro, (.val 0), .any, 0x0, false⟩ /- BELL_CAM_SKIPPED -/,
  ⟨0x3000, 1, .port, .bool, .rw, (.val 1), (.span 0 1), 0x0, true⟩ /- LANE_ENABLE -/,
  ⟨0x3001, 1, .port, .u8, .rw, (.val 2), (.span 0 2), 0x0, true⟩ /- LANE_RATE -/,
  ⟨0x3002, 1, .port, .u8, .rw, (.val 0), (.span 0 2), 0x0, true⟩ /- LANE_MIN_RATE -/,
  ⟨0x3003, 1, .port, .u8, .ro, (.val 0), .any, 0x0, false⟩ /- LANE_STATE -/,
  ⟨0x3004, 1, .port, .u8, .ro, (.val 0), .any, 0x0, false⟩ /- LANE_RATE_ACTIVE -/,
  ⟨0x3005, 1, .port, .u8, .ro, (.val 0), .any, 0x0, false⟩ /- LANE_FOM -/]

def objects4 : List Obj := [
  ⟨0x3006, 1, .port, .u32, .ro, (.val 8710), .any, 0x0, false⟩ /- LANE_TAPS -/,
  ⟨0x3007, 1, .port, .u64, .ro, (.val 0), .any, 0x0, false⟩ /- LANE_RX_EQ -/,
  ⟨0x3008, 1, .port, .u64, .ro, (.val 0), .any, 0x0, false⟩ /- LANE_PARTNER -/,
  ⟨0x3009, 1, .port, .u8, .wo, (.val 0), (.oneOf [1, 2]), 0x0, false⟩ /- LANE_COMMAND -/,
  ⟨0x300A, 1, .port, .u8, .rw, (.val 0), (.span 0 4), 0x0, false⟩ /- LANE_TEST_MODE -/,
  ⟨0x300B, 1, .port, .u8, .rw, (.val 4), (.span 1 4), 0x0, true⟩ /- LANE_PRBS_PATTERN -/,
  ⟨0x300C, 1, .port, .u32, .rw, (.val 786432), (.fields [(19, 16, 3, 12)]), 0xFF0F0000, false⟩ /- LANE_INJECT -/,
  ⟨0x300D, 1, .port, .u64, .ro, (.val 0), .any, 0x0, false⟩ /- LANE_PRBS_BITS -/,
  ⟨0x300E, 1, .port, .u64, .ro, (.val 0), .any, 0x0, false⟩ /- LANE_PRBS_ERRORS -/,
  ⟨0x300F, 1, .port, .u32, .ro, (.val 0), .any, 0x0, false⟩ /- LANE_CODE_ERRORS -/,
  ⟨0x3010, 1, .port, .u32, .ro, (.val 0), .any, 0x0, false⟩ /- LANE_ALIGN_LOSS -/,
  ⟨0x3011, 1, .port, .u32, .ro, (.val 0), .any, 0x0, false⟩ /- LANE_LOS_COUNT -/,
  ⟨0x3012, 1, .port, .u32, .ro, (.val 0), .any, 0x0, false⟩ /- LANE_TRAIN_COUNT -/,
  ⟨0x3013, 1, .port, .u32, .ro, (.val 0), .any, 0x0, false⟩ /- LANE_MSG_ERRORS -/,
  ⟨0x3014, 1, .port, .u32, .ro, (.val 0), .any, 0x0, false⟩ /- LANE_PARTNER_ERRORS -/,
  ⟨0x3080, 1, .one, .u8, .rw, (.val 40), (.span 1 255), 0x0, true⟩ /- LANE_FOM_FLOOR -/,
  ⟨0x3080, 2, .one, .u16, .rw, (.val 50), (.span 10 10000), 0x0, true⟩ /- LANE_IDLE_FREEZE -/,
  ⟨0x3080, 3, .one, .u16, .rw, (.val 150), (.span 50 500), 0x0, true⟩ /- LANE_TD_FLOOR -/,
  ⟨0x3080, 4, .one, .u16, .rw, (.val 60), (.span 0 3600), 0x0, true⟩ /- LANE_DEGRADED_RETRY -/,
  ⟨0x3080, 5, .one, .u32, .rw, (.val 0), (.span 0 1000), 0x0, true⟩ /- LANE_VERIFY_MAX_ERRORS -/,
  ⟨0x3100, 1, .trunkLane, .bool, .rw, (.val 1), (.span 0 1), 0x0, true⟩ /- LANE_ENABLE -/,
  ⟨0x3101, 1, .trunkLane, .u8, .rw, (.val 2), (.span 0 2), 0x0, true⟩ /- LANE_RATE -/,
  ⟨0x3102, 1, .trunkLane, .u8, .rw, (.val 0), (.span 0 2), 0x0, true⟩ /- LANE_MIN_RATE -/,
  ⟨0x3103, 1, .trunkLane, .u8, .ro, (.val 0), .any, 0x0, false⟩ /- LANE_STATE -/,
  ⟨0x3104, 1, .trunkLane, .u8, .ro, (.val 0), .any, 0x0, false⟩ /- LANE_RATE_ACTIVE -/,
  ⟨0x3105, 1, .trunkLane, .u8, .ro, (.val 0), .any, 0x0, false⟩ /- LANE_FOM -/,
  ⟨0x3106, 1, .trunkLane, .u32, .ro, (.val 8710), .any, 0x0, false⟩ /- LANE_TAPS -/,
  ⟨0x3107, 1, .trunkLane, .u64, .ro, (.val 0), .any, 0x0, false⟩ /- LANE_RX_EQ -/,
  ⟨0x3108, 1, .trunkLane, .u64, .ro, (.val 0), .any, 0x0, false⟩ /- LANE_PARTNER -/,
  ⟨0x3109, 1, .trunkLane, .u8, .wo, (.val 0), (.oneOf [1, 2]), 0x0, false⟩ /- LANE_COMMAND -/,
  ⟨0x310A, 1, .trunkLane, .u8, .rw, (.val 0), (.span 0 4), 0x0, false⟩ /- LANE_TEST_MODE -/,
  ⟨0x310B, 1, .trunkLane, .u8, .rw, (.val 4), (.span 1 4), 0x0, true⟩ /- LANE_PRBS_PATTERN -/,
  ⟨0x310C, 1, .trunkLane, .u32, .rw, (.val 786432), (.fields [(19, 16, 3, 12)]), 0xFF0F0000, false⟩ /- LANE_INJECT -/,
  ⟨0x310D, 1, .trunkLane, .u64, .ro, (.val 0), .any, 0x0, false⟩ /- LANE_PRBS_BITS -/,
  ⟨0x310E, 1, .trunkLane, .u64, .ro, (.val 0), .any, 0x0, false⟩ /- LANE_PRBS_ERRORS -/,
  ⟨0x310F, 1, .trunkLane, .u32, .ro, (.val 0), .any, 0x0, false⟩ /- LANE_CODE_ERRORS -/,
  ⟨0x3110, 1, .trunkLane, .u32, .ro, (.val 0), .any, 0x0, false⟩ /- LANE_ALIGN_LOSS -/,
  ⟨0x3111, 1, .trunkLane, .u32, .ro, (.val 0), .any, 0x0, false⟩ /- LANE_LOS_COUNT -/,
  ⟨0x3112, 1, .trunkLane, .u32, .ro, (.val 0), .any, 0x0, false⟩ /- LANE_TRAIN_COUNT -/,
  ⟨0x3113, 1, .trunkLane, .u32, .ro, (.val 0), .any, 0x0, false⟩ /- LANE_MSG_ERRORS -/]

def objects5 : List Obj := [
  ⟨0x3114, 1, .trunkLane, .u32, .ro, (.val 0), .any, 0x0, false⟩ /- LANE_PARTNER_ERRORS -/,
  ⟨0x3200, 1, .fixed4, .bool, .rw, (.val 1), (.span 0 1), 0x0, true⟩ /- LANE_ENABLE -/,
  ⟨0x3201, 1, .fixed4, .u8, .rw, (.val 2), (.span 0 2), 0x0, true⟩ /- LANE_RATE -/,
  ⟨0x3202, 1, .fixed4, .u8, .rw, (.val 0), (.span 0 2), 0x0, true⟩ /- LANE_MIN_RATE -/,
  ⟨0x3203, 1, .fixed4, .u8, .ro, (.val 0), .any, 0x0, false⟩ /- LANE_STATE -/,
  ⟨0x3204, 1, .fixed4, .u8, .ro, (.val 0), .any, 0x0, false⟩ /- LANE_RATE_ACTIVE -/,
  ⟨0x3205, 1, .fixed4, .u8, .ro, (.val 0), .any, 0x0, false⟩ /- LANE_FOM -/,
  ⟨0x3206, 1, .fixed4, .u32, .ro, (.val 8710), .any, 0x0, false⟩ /- LANE_TAPS -/,
  ⟨0x3207, 1, .fixed4, .u64, .ro, (.val 0), .any, 0x0, false⟩ /- LANE_RX_EQ -/,
  ⟨0x3208, 1, .fixed4, .u64, .ro, (.val 0), .any, 0x0, false⟩ /- LANE_PARTNER -/,
  ⟨0x3209, 1, .fixed4, .u8, .wo, (.val 0), (.oneOf [1, 2]), 0x0, false⟩ /- LANE_COMMAND -/,
  ⟨0x320A, 1, .fixed4, .u8, .rw, (.val 0), (.span 0 4), 0x0, false⟩ /- LANE_TEST_MODE -/,
  ⟨0x320B, 1, .fixed4, .u8, .rw, (.val 4), (.span 1 4), 0x0, true⟩ /- LANE_PRBS_PATTERN -/,
  ⟨0x320C, 1, .fixed4, .u32, .rw, (.val 786432), (.fields [(19, 16, 3, 12)]), 0xFF0F0000, false⟩ /- LANE_INJECT -/,
  ⟨0x320D, 1, .fixed4, .u64, .ro, (.val 0), .any, 0x0, false⟩ /- LANE_PRBS_BITS -/,
  ⟨0x320E, 1, .fixed4, .u64, .ro, (.val 0), .any, 0x0, false⟩ /- LANE_PRBS_ERRORS -/,
  ⟨0x320F, 1, .fixed4, .u32, .ro, (.val 0), .any, 0x0, false⟩ /- LANE_CODE_ERRORS -/,
  ⟨0x3210, 1, .fixed4, .u32, .ro, (.val 0), .any, 0x0, false⟩ /- LANE_ALIGN_LOSS -/,
  ⟨0x3211, 1, .fixed4, .u32, .ro, (.val 0), .any, 0x0, false⟩ /- LANE_LOS_COUNT -/,
  ⟨0x3212, 1, .fixed4, .u32, .ro, (.val 0), .any, 0x0, false⟩ /- LANE_TRAIN_COUNT -/,
  ⟨0x3213, 1, .fixed4, .u32, .ro, (.val 0), .any, 0x0, false⟩ /- LANE_MSG_ERRORS -/,
  ⟨0x3214, 1, .fixed4, .u32, .ro, (.val 0), .any, 0x0, false⟩ /- LANE_PARTNER_ERRORS -/,
  ⟨0x3280, 1, .fixed4, .u8, .rw, (.val 1), (.span 0 5), 0x0, true⟩ /- ETH_LANE_MODE -/,
  ⟨0x3281, 1, .fixed4, .u8, .rw, (.val 1), (.span 0 3), 0x0, true⟩ /- ETH_TX_PRESET -/,
  ⟨0x4000, 1, .port, .u8, .rws, .capPipe, (.spanOr 0 2 255), 0x0, true⟩ /- CAP_PIPE -/,
  ⟨0x4001, 1, .port, .u16, .rws, (.val 1920), (.mult 16 8192 2), 0x0, true⟩ /- CAP_WIDTH -/,
  ⟨0x4002, 1, .port, .u16, .rws, (.val 1080), (.mult 8 6144 2), 0x0, true⟩ /- CAP_HEIGHT -/,
  ⟨0x4003, 1, .port, .u8, .rws, (.val 12), (.oneOf [8, 10, 12, 14, 16, 20]), 0x0, true⟩ /- CAP_FORMAT -/,
  ⟨0x4004, 1, .port, .u8, .rws, (.val 1), (.span 1 3), 0x0, true⟩ /- CAP_NEXP -/,
  ⟨0x4005, 1, .port, .u32, .rws, (.val 10000), (.span 500 1000000), 0x0, true⟩ /- CAP_LINE_PERIOD -/,
  ⟨0x4006, 1, .port, .u32, .rws, (.val 33333), (.span 1000 10000000), 0x0, true⟩ /- CAP_FRAME_PERIOD -/,
  ⟨0x4007, 1, .port, .u32, .rws, (.val 2000), (.span 100 1000000), 0x0, true⟩ /- CAP_CADENCE_MARGIN -/,
  ⟨0x4008, 1, .port, .u8, .rws, (.val 0), (.oneOf [0, 1]), 0x0, true⟩ /- CAP_TIME_MODE -/,
  ⟨0x4009, 1, .port, .u32, .rws, (.val 0), (.span 0 10000000), 0x0, true⟩ /- CAP_TRIGGER_LATENCY -/,
  ⟨0x400A, 1, .port, .u32, .rws, (.val 100000), (.span 10 1000000), 0x0, true⟩ /- CAP_TRIGGER_WINDOW -/,
  ⟨0x400B, 1, .port, .u32, .rws, (.val 0), (.span 0 10000000), 0x0, true⟩ /- CAP_PORT_LATENCY -/,
  ⟨0x400C, 1, .port, .u32, .rws, (.val 0), (.span 0 1000000000), 0x0, true⟩ /- CAP_READOUT_OFFSET -/,
  ⟨0x400D, 1, .port, .u8, .rws, (.val 0), (.oneOf [0, 1]), 0x0, true⟩ /- CAP_CRC_POLICY -/,
  ⟨0x400E, 1, .port, .u16, .rws, (.val 64), (.span 1 6144), 0x0, true⟩ /- CAP_REPAIR_LIMIT -/,
  ⟨0x400F, 1, .port, .u32, .rws, (.val 0), (.span 0 1048575), 0x0, true⟩ /- CAP_FILL_VALUE -/]

def objects6 : List Obj := [
  ⟨0x4010, 1, .port, .u8, .rws, (.val 32), (.span 8 64), 0x0, true⟩ /- CAP_INGRESS_LINES -/,
  ⟨0x4700, 1, .port, .u32, .ro, (.val 0), .any, 0x0, false⟩ /- CAP_NEXT_FRAME -/,
  ⟨0x4701, 1, .port, .u8, .ro, (.val 0), .any, 0x0, false⟩ /- CAP_INGRESS_FILL -/,
  ⟨0x4702, 1, .port, .u8, .ro, (.val 0), .any, 0x0, false⟩ /- CAP_INGRESS_PEAK -/,
  ⟨0x4703, 1, .port, .u32, .ro, (.val 0), .any, 0x0, false⟩ /- CAP_FRAMES_TRUNCATED -/,
  ⟨0x4704, 1, .port, .u32, .ro, (.val 0), .any, 0x0, false⟩ /- CAP_FRAMES_DROPPED -/,
  ⟨0x4705, 1, .port, .u32, .ro, (.val 0), .any, 0x0, false⟩ /- CAP_LINES_REPAIRED -/,
  ⟨0x4706, 1, .port, .u32, .ro, (.val 0), .any, 0x0, false⟩ /- CAP_OVERFLOWS -/,
  ⟨0x4707, 1, .port, .u32, .ro, (.val 0), .any, 0x0, false⟩ /- CAP_LINES_DISCARDED -/,
  ⟨0x4708, 1, .port, .u32, .ro, (.val 0), .any, 0x0, false⟩ /- CAP_FS_REJECTED -/,
  ⟨0x4709, 1, .port, .u32, .ro, (.val 0), .any, 0x0, false⟩ /- CAP_CADENCE_MISSES -/,
  ⟨0x470A, 1, .port, .u32, .ro, (.val 0), .any, 0x0, false⟩ /- CAP_TRIGGERS_UNMATCHED -/,
  ⟨0x470B, 1, .port, .domain, .ro, (.zeros 0), (.oneOf [0, 48]), 0x0, false⟩ /- CAP_LAST_TAG -/,
  ⟨0x4710, 1, .pipe, .u32, .ro, (.val 0), .any, 0x0, false⟩ /- CAP_PIPE_LOAD -/,
  ⟨0x4720, 1, .port, .u16, .ro, (.val 0), .any, 0x0, false⟩ /- CAP_GEN_LIVE -/,
  ⟨0x4721, 1, .port, .u32, .ro, (.val 0), .any, 0x0, false⟩ /- CAP_GEN_FRAME -/,
  ⟨0x4722, 1, .port, .u16, .ro, (.val 0), .any, 0x0, false⟩ /- CAP_GEN_TICKET -/,
  ⟨0x4723, 1, .port, .u32, .ro, (.val 0), .any, 0x0, false⟩ /- CAP_GEN_PENDING -/,
  ⟨0x5000, 1, .input, .u8, .rws, (.val 0), (.span 0 7), 0x0, true⟩ /- PIPE_CFA -/,
  ⟨0x5001, 1, .input, .domain, .rws, (.zeros 0), (.oneOf [0, 192]), 0x0, true⟩ /- PIPE_DECOMPAND -/,
  ⟨0x5002, 1, .input, .domain, .rws, (.zeros 48), (.oneOf [48]), 0x0, true⟩ /- PIPE_BLACK_LEVEL -/,
  ⟨0x5003, 1, .input, .u32, .rws, (.val 1048576), (.span 0 16777215), 0x0, true⟩ /- PIPE_DPC_THRESHOLD -/,
  ⟨0x5004, 1, .input, .domain, .rws, (.zeros 0), (.oneOf [0, 8712]), 0x0, true⟩ /- PIPE_SHADING -/,
  ⟨0x5005, 1, .input, .u16, .rws, (.val 4096), (.span 256 65535), 0x0, true⟩ /- PIPE_MERGE_RATIO1 -/,
  ⟨0x5006, 1, .input, .u16, .rws, (.val 16384), (.span 256 65535), 0x0, true⟩ /- PIPE_MERGE_RATIO2 -/,
  ⟨0x5007, 1, .input, .u32, .rws, (.val 12582912), (.span 0 16777215), 0x0, true⟩ /- PIPE_MERGE_KNEE0 -/,
  ⟨0x5008, 1, .input, .u32, .rws, (.val 12582912), (.span 0 16777215), 0x0, true⟩ /- PIPE_MERGE_KNEE1 -/,
  ⟨0x5009, 1, .input, .u8, .rws, (.val 20), (.span 10 22), 0x0, true⟩ /- PIPE_MERGE_WIDTH0 -/,
  ⟨0x500A, 1, .input, .u8, .rws, (.val 20), (.span 10 22), 0x0, true⟩ /- PIPE_MERGE_WIDTH1 -/,
  ⟨0x500B, 1, .input, .u8, .rws, (.val 4), (.span 0 8), 0x0, true⟩ /- PIPE_MERGE_SHIFT -/,
  ⟨0x500C, 1, .input, .u16, .rws, (.val 128), (.span 0 256), 0x0, true⟩ /- PIPE_NR_AMOUNT -/,
  ⟨0x500D, 1, .input, .u8, .rws, (.val 14), (.span 1 23), 0x0, true⟩ /- PIPE_NR_SHIFT -/,
  ⟨0x500E, 1, .input, .u64, .rws, (.val 1152939097061330944), .any, 0x0, true⟩ /- PIPE_WB_GAIN -/,
  ⟨0x500F, 1, .input, .domain, .rws, .identityCcm, (.oneOf [36]), 0x0, true⟩ /- PIPE_CCM -/,
  ⟨0x5010, 1, .input, .domain, .rws, (.zeros 0), (.oneOf [0, 1152]), 0x0, true⟩ /- PIPE_MASKS -/,
  ⟨0x5011, 1, .input, .u64, .rws, (.val 17594333560832), .any, 0xFFFFFFFFFFFF, true⟩ /- PIPE_MASK_FILL -/,
  ⟨0x5100, 1, .pipe, .u16, .rws, (.val 0), .any, 0x7FFE, true⟩ /- PIPE_BYPASS -/,
  ⟨0x5101, 1, .pipe, .domain, .rws, (.zeros 0), (.span 0 32768), 0x0, true⟩ /- PIPE_DEFECT_LIST -/,
  ⟨0x5102, 1, .pipe, .domain, .rws, .toneCurve, (.oneOf [2048]), 0x0, true⟩ /- PIPE_TONE_CURVE -/,
  ⟨0x5103, 1, .pipe, .domain, .rws, .ltmGain, (.oneOf [128]), 0x0, true⟩ /- PIPE_LTM_GAIN -/]

def objects7 : List Obj := [
  ⟨0x5104, 1, .pipe, .u16, .rws, (.val 0), (.span 0 256), 0x0, true⟩ /- PIPE_LTM_STRENGTH -/,
  ⟨0x5105, 1, .pipe, .domain, .rws, .outCurve, (.oneOf [512]), 0x0, true⟩ /- PIPE_OUT_CURVE -/,
  ⟨0x5106, 1, .pipe, .u8, .rws, (.val 1), (.span 0 3), 0x0, true⟩ /- PIPE_CSC -/,
  ⟨0x5107, 1, .pipe, .u8, .rws, (.val 1), (.oneOf [0, 1]), 0x0, true⟩ /- PIPE_CSC_RANGE -/,
  ⟨0x5108, 1, .pipe, .u16, .rws, (.val 32), (.span 0 1023), 0x0, true⟩ /- PIPE_SHARP_GAIN -/,
  ⟨0x5109, 1, .pipe, .u16, .rws, (.val 256), (.span 0 65535), 0x0, true⟩ /- PIPE_SHARP_CORING -/,
  ⟨0x510A, 1, .pipe, .u16, .rws, (.val 8192), (.span 0 65535), 0x0, true⟩ /- PIPE_SHARP_LIMIT -/,
  ⟨0x510B, 1, .pipe, .domain, .rws, .bilinear, (.oneOf [512]), 0x0, true⟩ /- PIPE_SCALE_KERNEL -/,
  ⟨0x5200, 1, .cropper, .u16, .rws, .cropCtrl, .any, 0x7FF3, true⟩ /- PIPE_CROP_CTRL -/,
  ⟨0x5202, 1, .cropper, .u64, .rws, (.val 0), .any, 0x0, true⟩ /- PIPE_CROP_SRC -/,
  ⟨0x5204, 1, .cropper, .u32, .rws, (.val 0), .any, 0x0, true⟩ /- PIPE_CROP_OUT -/,
  ⟨0x5700, 1, .pipe, .u16, .ro, (.val 0), .any, 0x0, false⟩ /- PIPE_GEN_LIVE -/,
  ⟨0x5701, 1, .pipe, .u16, .ro, (.val 0), .any, 0x0, false⟩ /- PIPE_GEN_LIVE_B -/,
  ⟨0x5702, 1, .pipe, .u32, .ro, (.val 0), .any, 0x0, false⟩ /- PIPE_GEN_FRAME -/,
  ⟨0x5703, 1, .pipe, .u32, .ro, (.val 0), .any, 0x0, false⟩ /- PIPE_GEN_FRAME_B -/,
  ⟨0x5704, 1, .pipe, .u16, .ro, (.val 0), .any, 0x0, false⟩ /- PIPE_GEN_TICKET -/,
  ⟨0x5705, 1, .pipe, .u32, .ro, (.val 0), .any, 0x0, false⟩ /- PIPE_GEN_PENDING -/,
  ⟨0x5710, 1, .input, .u32, .ro, (.val 0), .any, 0x0, false⟩ /- PIPE_FRAMES -/,
  ⟨0x5711, 1, .input, .u32, .ro, (.val 0), .any, 0x0, false⟩ /- PIPE_DPC_COUNT -/,
  ⟨0x5712, 1, .input, .u32, .ro, (.val 0), .any, 0x0, false⟩ /- PIPE_LTM_HISTORY_FRAME -/,
  ⟨0x5713, 1, .input, .u32, .ro, (.val 0), .any, 0x0, false⟩ /- PIPE_CROP_SKIPPED -/,
  ⟨0x5720, 1, .input, .bool, .rwp, (.val 0), (.span 0 1), 0x0, false⟩ /- PIPE_MASK_LOCK -/,
  ⟨0x6000, 1, .view, .u32, .rws, (.val 542208), .any, 0xB3FF7FE0, true⟩ /- WARP_VIEW_CTRL -/,
  ⟨0x6001, 1, .view, .u32, .rws, (.val 125830200), .any, 0x0, true⟩ /- WARP_VIEW_SIZE -/,
  ⟨0x6002, 1, .view, .domain, .rws, (.zeros 0), (.span 0 1048576), 0x0, true⟩ /- WARP_MESH -/,
  ⟨0x6003, 1, .view, .u64, .rws, (.val 17594333560832), .any, 0xFFFFFFFFFFFF, true⟩ /- WARP_FILL -/,
  ⟨0x6004, 1, .view, .u32, .rws, (.val 5000), (.span 0 1000000), 0x0, true⟩ /- WARP_MATCH_WINDOW -/,
  ⟨0x6005, 1, .view, .u32, .rws, (.val 3000), (.span 100 1000000), 0x0, true⟩ /- WARP_MATCH_DEADLINE -/,
  ⟨0x6006, 1, .view, .u32, .rws, (.val 2000), (.span 0 64000), 0x0, true⟩ /- WARP_EXTRA_WINDOW -/,
  ⟨0x6010, 1, .slot, .u64, .rws, (.val 18446462598732840960), .slot, 0xFFFFFFFFFFFFE000, true⟩ /- WARP_SOURCE -/,
  ⟨0x6011, 1, .one, .domain, .rws, .bilinear, (.oneOf [512]), 0x0, true⟩ /- WARP_KERNEL -/,
  ⟨0x6020, 1, .stream, .u32, .rws, (.val 4000), (.span 250 64000), 0x0, true⟩ /- MRG_PW -/,
  ⟨0x6028, 1, .stream, .u8, .rws, (.val 1), .route, 0x3, true⟩ /- MRG_ROUTE -/,
  ⟨0x6030, 1, .stream, .u16, .rws, (.val 16), .any, 0x8310, true⟩ /- CODEC_CTRL -/,
  ⟨0x6038, 1, .stream, .u16, .rws, (.val 96), (.span 16 192), 0x0, true⟩ /- CODEC_BPP -/,
  ⟨0x6700, 1, .stream, .u16, .ro, (.val 0), .any, 0x0, false⟩ /- MRG_GEN_LIVE -/,
  ⟨0x6708, 1, .stream, .u32, .ro, (.val 0), .any, 0x0, false⟩ /- MRG_GEN_FRAME -/,
  ⟨0x6710, 1, .stream, .u16, .ro, (.val 0), .any, 0x0, false⟩ /- MRG_GEN_TICKET -/,
  ⟨0x6718, 1, .stream, .u32, .ro, (.val 0), .any, 0x0, false⟩ /- MRG_GEN_PENDING -/,
  ⟨0x6740, 1, .core, .bool, .rw, (.val 0), (.span 0 1), 0x0, true⟩ /- WARP_CORE_FENCE -/]

def objects8 : List Obj := [
  ⟨0x6741, 1, .core, .u8, .ro, (.val 0), .any, 0x0, false⟩ /- WARP_CORE_STATE -/,
  ⟨0x6742, 1, .core, .u32, .ro, (.val 0), .any, 0x0, false⟩ /- WARP_CORE_TILES -/,
  ⟨0x6743, 1, .warpEngine, .u32, .rw, .partition, (.mult 0 131072 1024), 0x0, true⟩ /- WARP_PARTITION -/,
  ⟨0x6744, 1, .warpEngine, .u32, .ro, (.val 0), .any, 0x0, false⟩ /- WARP_MESH_USED -/,
  ⟨0x6745, 1, .warpEngine, .u32, .ro, (.val 0), .any, 0x0, false⟩ /- WARP_ENGINE_RATE -/,
  ⟨0x6746, 1, .warpEngine, .u32, .ro, (.val 0), .any, 0x0, false⟩ /- WARP_REISSUED -/,
  ⟨0x6750, 1, .one, .u64, .ro, (.val 0), .any, 0x0, false⟩ /- WARP_CACHE_HITS -/,
  ⟨0x6750, 2, .one, .u64, .ro, (.val 0), .any, 0x0, false⟩ /- WARP_CACHE_MISSES -/,
  ⟨0x6758, 1, .view, .u32, .ro, (.val 0), .any, 0x0, false⟩ /- WARP_FRAMES -/,
  ⟨0x6759, 1, .view, .u32, .ro, (.val 0), .any, 0x0, false⟩ /- WARP_TILES_LATE -/,
  ⟨0x675A, 1, .view, .u32, .ro, (.val 0), .any, 0x0, false⟩ /- WARP_FRAMES_INCOMPLETE -/,
  ⟨0x675B, 1, .view, .domain, .ro, (.zeros 0), (.oneOf [0, 260]), 0x0, false⟩ /- WARP_LAST_MATCH -/,
  ⟨0x6760, 1, .output, .u32, .rw, (.val 16777216), (.span 1048576 268435456), 0x0, true⟩ /- MRG_OUT_LIMIT -/,
  ⟨0x6761, 1, .output, .bool, .rw, (.val 0), (.span 0 1), 0x0, true⟩ /- MRG_TIME32 -/,
  ⟨0x6762, 1, .output, .u32, .ro, (.val 0), .any, 0x0, false⟩ /- MRG_OUT_FILL -/,
  ⟨0x6763, 1, .output, .u32, .ro, (.val 0), .any, 0x0, false⟩ /- MRG_OUT_PEAK -/,
  ⟨0x6768, 1, .stream, .u32, .ro, (.val 0), .any, 0x0, false⟩ /- MRG_FRAMES -/,
  ⟨0x6770, 1, .stream, .u32, .ro, (.val 0), .any, 0x0, false⟩ /- MRG_TILES_ABSENT -/,
  ⟨0x6778, 1, .stream, .u32, .ro, (.val 0), .any, 0x0, false⟩ /- MRG_LAST_CARD -/,
  ⟨0x6780, 1, .stream, .u32, .ro, (.val 0), .any, 0x0, false⟩ /- MRG_LAST_SIGNATURE -/,
  ⟨0x6790, 1, .one, .u32, .ro, (.val 0), .any, 0x0, false⟩ /- MRG_QUEUE_FILL -/,
  ⟨0x6790, 2, .one, .u32, .ro, (.val 0), .any, 0x0, false⟩ /- MRG_QUEUE_PEAK -/,
  ⟨0x6790, 3, .one, .u32, .ro, (.val 0), .any, 0x0, false⟩ /- MRG_LATE_DISCARDS -/,
  ⟨0x6790, 4, .one, .u32, .ro, (.val 0), .any, 0x0, false⟩ /- MRG_QUEUE_REFUSED -/,
  ⟨0x67A0, 1, .codec, .bool, .rw, (.val 0), (.span 0 1), 0x0, true⟩ /- CODEC_ENGINE_FENCE -/,
  ⟨0x67A1, 1, .codec, .u32, .ro, (.val 0), .any, 0x0, false⟩ /- CODEC_ENGINE_RATE -/,
  ⟨0x67A2, 1, .codec, .u32, .ro, (.val 0), .any, 0x0, false⟩ /- CODEC_SLICES -/,
  ⟨0x7000, 1, .input, .u8, .rw, (.val 2), (.span 0 2), 0x0, true⟩ /- STAT_HIST_TAP -/,
  ⟨0x7001, 1, .input, .u8, .rw, (.val 6), (.fields [(3, 0, 1, 15)]), 0xF, true⟩ /- STAT_HIST_CHANNELS -/,
  ⟨0x7002, 1, .input, .u8, .rw, (.val 0), (.oneOf [0, 1]), 0x0, true⟩ /- STAT_AWB_TAP -/,
  ⟨0x7003, 1, .input, .u32, .rw, (.val 15728640), (.span 1 16777215), 0x0, true⟩ /- STAT_AWB_SAT -/,
  ⟨0x7004, 1, .input, .u32, .rw, (.val 0), (.span 0 16777214), 0x0, true⟩ /- STAT_AWB_DARK -/,
  ⟨0x7005, 1, .input, .u8, .rw, (.val 0), (.span 0 2), 0x0, true⟩ /- STAT_EXPOSURE -/,
  ⟨0x7006, 1, .input, .u16, .rw, (.val 64), (.span 0 65535), 0x0, true⟩ /- STAT_SHARP_CORING -/,
  ⟨0x7010, 1, .input, .domain, .ro, (.zeros 0), (.oneOf [0, 21312]), 0x0, false⟩ /- STAT_RECORD -/,
  ⟨0x7011, 1, .input, .u32, .ro, (.val 0), .any, 0x0, false⟩ /- STAT_RSEQ -/,
  ⟨0x7012, 1, .input, .domain, .ro, (.zeros 0), (.oneOf [0, 21328]), 0x0, false⟩ /- STAT_SNAPSHOT -/,
  ⟨0x7020, 1, .port, .u8, .rw, (.val 2), (.span 0 3), 0x0, true⟩ /- EXP_LATENCY -/,
  ⟨0x7021, 1, .port, .u32, .rw, (.val 5000), (.span 100 1000000), 0x0, true⟩ /- EXP_WRITE_LEAD -/,
  ⟨0x7022, 1, .port, .domain, .rw, (.zeros 0), (.oneOf [0, 32]), 0x0, true⟩ /- EXP_MAP -/]

def objects9 : List Obj := [
  ⟨0x7023, 1, .port, .domain, .rw, (.zeros 0), (.oneOf [0, 16]), 0x0, true⟩ /- EXP_ECHO_MAP -/,
  ⟨0x7024, 1, .port, .u32, .rw, (.val 10000000), (.span 1000 1000000000), 0x0, true⟩ /- EXP_SET_TIME -/,
  ⟨0x7025, 1, .port, .u16, .rw, (.val 256), (.span 256 65535), 0x0, true⟩ /- EXP_SET_GAIN -/,
  ⟨0x7026, 1, .port, .u8, .wo, (.val 0), (.oneOf [1, 2]), 0x0, false⟩ /- EXP_APPLY -/,
  ⟨0x7027, 1, .port, .domain, .rw, (.zeros 0), (.zeroOr 4 64), 0x0, true⟩ /- EXP_RAW_BUNDLE -/,
  ⟨0x7028, 1, .port, .u8, .rw, (.val 0), (.oneOf [0, 1]), 0x0, true⟩ /- EXP_AE_MODE -/,
  ⟨0x7029, 1, .port, .u16, .rw, (.val 12000), (.span 256 65279), 0x0, true⟩ /- EXP_AE_TARGET -/,
  ⟨0x702A, 1, .port, .domain, .rw, .aeWeights, (.oneOf [768]), 0x0, true⟩ /- EXP_AE_WEIGHTS -/,
  ⟨0x702B, 1, .port, .u16, .rw, (.val 8192), (.span 4097 65535), 0x0, true⟩ /- EXP_AE_MAX_STEP -/,
  ⟨0x702C, 1, .port, .u32, .rw, (.val 30000000), (.span 1000 1000000000), 0x0, true⟩ /- EXP_AE_MAX_TIME -/,
  ⟨0x702D, 1, .port, .u16, .rw, (.val 4096), (.span 256 65535), 0x0, true⟩ /- EXP_AE_MAX_GAIN -/,
  ⟨0x702E, 1, .port, .u32, .rw, (.val 10000000), (.spanOr 1000 100000000 0), 0x0, true⟩ /- EXP_AE_FLICKER -/,
  ⟨0x702F, 1, .port, .u16, .rw, (.val 20), (.span 0 1024), 0x0, true⟩ /- EXP_AE_SAT_LIMIT -/,
  ⟨0x7030, 1, .port, .u16, .rw, (.val 82), (.span 0 4095), 0x0, true⟩ /- EXP_AE_DEADBAND -/,
  ⟨0x7040, 1, .port, .u16, .ro, (.val 0), .any, 0x0, false⟩ /- EXP_GEN -/,
  ⟨0x7041, 1, .port, .u32, .ro, (.val 0), .any, 0x0, false⟩ /- EXP_GEN_FRAME -/,
  ⟨0x7042, 1, .port, .u32, .ro, (.val 0), .any, 0x0, false⟩ /- EXP_MODEL_TIME -/,
  ⟨0x7043, 1, .port, .u16, .ro, (.val 0), .any, 0x0, false⟩ /- EXP_MODEL_GAIN -/,
  ⟨0x7044, 1, .port, .u8, .ro, (.val 0), .any, 0x0, false⟩ /- EXP_WAITING -/,
  ⟨0x7045, 1, .port, .u32, .ro, (.val 0), .any, 0x0, false⟩ /- EXP_WRITE_FAILURES -/,
  ⟨0x7046, 1, .port, .u32, .ro, (.val 0), .any, 0x0, false⟩ /- EXP_MISMATCHES -/,
  ⟨0x7047, 1, .port, .u16, .ro, (.val 0), .any, 0x0, false⟩ /- EXP_AE_METRIC -/,
  ⟨0x7100, 1, .one, .bool, .rw, (.val 1), (.span 0 1), 0x0, true⟩ /- TRK_ENABLE -/,
  ⟨0x7100, 2, .one, .u8, .rw, (.val 2), (.span 0 2), 0x0, true⟩ /- TRK_RATE -/,
  ⟨0x7100, 3, .one, .u8, .rw, (.val 0), (.span 0 2), 0x0, true⟩ /- TRK_MIN_RATE -/,
  ⟨0x7100, 4, .one, .u8, .ro, (.val 0), .any, 0x0, false⟩ /- TRK_STATE -/,
  ⟨0x7100, 5, .one, .u8, .ro, (.val 0), .any, 0x0, false⟩ /- TRK_LANES -/,
  ⟨0x7100, 6, .one, .u8, .ro, (.val 0), .any, 0x0, false⟩ /- TRK_RETURN_LANES -/,
  ⟨0x7100, 7, .one, .u8, .ro, (.val 0), .any, 0x0, false⟩ /- TRK_RATE_ACTIVE -/,
  ⟨0x7100, 8, .one, .u16, .rw, (.val 1000), (.span 100 60000), 0x0, true⟩ /- TRK_CREDIT_TIMEOUT -/,
  ⟨0x7100, 9, .one, .u32, .ro, (.val 0), .any, 0x0, false⟩ /- TRK_PARTNER_BUFFER -/,
  ⟨0x7100, 10, .one, .u16, .rw, (.val 1000), (.span 10 60000), 0x0, true⟩ /- TRK_WIDEN_HOLD -/,
  ⟨0x7100, 11, .one, .u32, .rw, (.val 100000), (.span 0 1000000), 0x0, true⟩ /- TRK_TUNNEL_RATE -/,
  ⟨0x7110, 1, .one, .u64, .ro, (.val 0), .any, 0x0, false⟩ /- TRK_PACKETS_SENT -/,
  ⟨0x7110, 2, .one, .u64, .ro, (.val 0), .any, 0x0, false⟩ /- TRK_RX_PACKETS -/,
  ⟨0x7110, 3, .one, .u32, .ro, (.val 0), .any, 0x0, false⟩ /- TRK_RX_ERRORED -/,
  ⟨0x7110, 4, .one, .u32, .ro, (.val 0), .any, 0x0, false⟩ /- TRK_PACKETS_CUT -/,
  ⟨0x7110, 5, .one, .u32, .ro, (.val 0), .any, 0x0, false⟩ /- TRK_RESIZES -/,
  ⟨0x7110, 6, .one, .u32, .ro, (.val 0), .any, 0x0, false⟩ /- TRK_CREDIT_STALLS -/,
  ⟨0x7110, 7, .one, .u32, .ro, (.val 0), .any, 0x0, false⟩ /- TRK_TUNNEL_DISCARDS -/]

def objects10 : List Obj := [
  ⟨0x7400, 1, .fixed6, .u16, .rw, (.val 1), (.span 1 4094), 0x0, true⟩ /- NX_PVID -/,
  ⟨0x7401, 1, .fixed6, .u8, .rw, (.val 0), (.span 0 2), 0x0, true⟩ /- NX_ACCEPT -/,
  ⟨0x7402, 1, .fixed6, .u8, .rw, (.val 0), (.span 0 7), 0x0, true⟩ /- NX_DEFAULT_PCP -/,
  ⟨0x7403, 1, .fixed6, .u32, .rw, (.val 1985229313), (.fields [(3, 0, 0, 7), (7, 4, 0, 7), (11, 8, 0, 7), (15, 12, 0, 7), (19, 16, 0, 7), (23, 20, 0, 7), (27, 24, 0, 7), (31, 28, 0, 7)]), 0xFFFFFFFF, true⟩ /- NX_PCP_MAP -/,
  ⟨0x7404, 1, .one, .domain, .rw, .vlanTable, (.oneOf [8192]), 0x0, true⟩ /- NX_VLAN_TABLE -/,
  ⟨0x7404, 2, .one, .domain, .rw, (.zeros 0), (.mult 0 16384 16), 0x0, true⟩ /- NX_STATIC_TABLE -/,
  ⟨0x7405, 1, .one, .u16, .rw, (.val 300), (.span 10 3600), 0x0, true⟩ /- NX_AGE_TIME -/,
  ⟨0x7405, 2, .one, .u16, .ro, (.val 0), .any, 0x0, false⟩ /- NX_ADDR_USED -/,
  ⟨0x7405, 3, .one, .u32, .ro, (.val 0), .any, 0x0, false⟩ /- NX_LEARN_MISS -/,
  ⟨0x7406, 1, .fixed6, .u32, .rw, (.val 1048576), (.span 16384 6291456), 0x0, true⟩ /- NX_CLASS_LIMIT -/,
  ⟨0x7407, 1, .one, .u32, .rw, (.val 1048576), (.span 0 4194304), 0x0, true⟩ /- NX_EV_RESERVE -/,
  ⟨0x7410, 1, .fixed4, .bool, .rw, (.val 0), (.span 0 1), 0x0, true⟩ /- NX_GATE_ENABLE -/,
  ⟨0x7411, 1, .fixed4, .domain, .rw, (.zeros 0), (.span 0 8192), 0x0, true⟩ /- NX_GCL_ADMIN -/,
  ⟨0x7412, 1, .fixed4, .u16, .rw, (.val 1), (.span 0 65535), 0x0, true⟩ /- NX_ADMIN_BASE_EPOCH -/,
  ⟨0x7413, 1, .fixed4, .time96, .rw, (.val 0), .any, 0x0, true⟩ /- NX_ADMIN_BASE_TIME -/,
  ⟨0x7414, 1, .fixed4, .u32, .rw, (.val 1000000), (.span 1000 1000000000), 0x0, true⟩ /- NX_ADMIN_CYCLE_TIME -/,
  ⟨0x7415, 1, .fixed4, .u32, .rw, (.val 10000), (.span 0 1000000), 0x0, true⟩ /- NX_ADMIN_CYCLE_EXT -/,
  ⟨0x7416, 1, .fixed4, .u8, .wo, (.val 0), (.oneOf [1]), 0x0, false⟩ /- NX_GATE_CONFIG_CHANGE -/,
  ⟨0x7417, 1, .fixed4, .domain, .ro, (.zeros 0), (.span 0 8192), 0x0, false⟩ /- NX_GCL_OPER -/,
  ⟨0x7418, 1, .fixed4, .u16, .ro, (.val 255), .any, 0x0, false⟩ /- NX_GATE_STATE -/,
  ⟨0x7420, 1, .fixed4, .u8, .rw, (.val 0), (.span 0 255), 0x0, true⟩ /- NX_PREEMPT -/,
  ⟨0x7421, 1, .fixed4, .bool, .rw, (.val 1), (.span 0 1), 0x0, true⟩ /- NX_PREEMPT_VERIFY -/,
  ⟨0x7422, 1, .fixed4, .u8, .rw, (.val 0), (.span 0 3), 0x0, true⟩ /- NX_ADD_FRAG -/,
  ⟨0x7423, 1, .fixed4, .u8, .ro, (.val 0), .any, 0x0, false⟩ /- NX_PREEMPT_STATUS -/,
  ⟨0x7430, 1, .fixed4, .u8, .rw, (.val 0), (.spanOr 0 7 255), 0x0, true⟩ /- NX_FLOW_CLASS -/,
  ⟨0x7431, 1, .fixed4, .u8, .rw, (.val 1), (.oneOf [0, 1]), 0x0, true⟩ /- NX_FLOW_KEY -/,
  ⟨0x7432, 1, .one, .domain, .rw, .flowWeights, (.oneOf [1048576]), 0x0, true⟩ /- NX_FLOW_WEIGHT -/,
  ⟨0x7432, 2, .one, .u32, .rw, (.val 65536), (.span 1536 1048576), 0x0, true⟩ /- NX_FLOW_LIMIT -/,
  ⟨0x7432, 3, .one, .u32, .rw, (.val 268435456), (.span 16777216 2147483648), 0x0, true⟩ /- NX_FLOW_POOL -/,
  ⟨0x7432, 4, .one, .u32, .ro, (.val 0), .any, 0x0, false⟩ /- NX_FLOW_ACTIVE -/,
  ⟨0x7433, 1, .one, .u32, .rw, (.val 0), (.span 0 1048575), 0x0, false⟩ /- NX_FLOW_QUERY -/,
  ⟨0x7433, 2, .one, .u32, .ro, (.val 0), .any, 0x0, false⟩ /- NX_FLOW_QUERY_BYTES -/,
  ⟨0x7433, 3, .one, .u32, .ro, (.val 0), .any, 0x0, false⟩ /- NX_FLOW_QUERY_DEFICIT -/,
  ⟨0x7433, 4, .one, .u64, .ro, (.val 0), .any, 0x0, false⟩ /- NX_FLOW_QUERY_SENT -/,
  ⟨0x7433, 5, .one, .u32, .ro, (.val 0), .any, 0x0, false⟩ /- NX_FLOW_QUERY_DROPS -/,
  ⟨0x7434, 1, .one, .u64, .ro, (.val 0), .any, 0x0, false⟩ /- NX_FLOW_CACHE_HITS -/,
  ⟨0x7434, 2, .one, .u64, .ro, (.val 0), .any, 0x0, false⟩ /- NX_FLOW_CACHE_MISSES -/,
  ⟨0x7440, 1, .one, .u64, .rw, (.mac 1), .any, 0xFFFFFFFFFFFF, true⟩ /- NX_EV_MAC -/,
  ⟨0x7440, 2, .one, .u64, .rw, (.val 160395285233664), .any, 0xFFFFFFFFFFFF, true⟩ /- NX_EV_DEST_BASE -/,
  ⟨0x7440, 3, .one, .u16, .rw, (.val 200), (.span 1 4094), 0x0, true⟩ /- NX_EV_VLAN -/]

def objects11 : List Obj := [
  ⟨0x7440, 4, .one, .u8, .rw, (.val 5), (.span 0 7), 0x0, true⟩ /- NX_EV_PCP -/,
  ⟨0x7440, 5, .one, .u16, .rw, (.val 1400), (.span 256 1440), 0x0, true⟩ /- NX_EV_FRAGMENT -/,
  ⟨0x7440, 6, .one, .u32, .rw, (.val 2000000), (.span 0 64000000), 0x0, true⟩ /- NX_EV_LATENCY -/,
  ⟨0x7440, 7, .one, .u64, .rw, (.val 0), .any, 0xFFFFFFFFFFFF, true⟩ /- NX_EV_VENDOR -/,
  ⟨0x7450, 1, .one, .u16, .rw, (.val 40961), (.span 1024 65535), 0x0, true⟩ /- NX_PTP_RELAY_PORT -/,
  ⟨0x7451, 1, .fixed4, .u16, .ro, (.val 0), .any, 0x0, false⟩ /- NX_TS_NEXT_ID -/,
  ⟨0x7460, 1, .fixed6, .u64, .ro, (.val 0), .any, 0x0, false⟩ /- NX_RX_FRAMES -/,
  ⟨0x7461, 1, .fixed6, .u64, .ro, (.val 0), .any, 0x0, false⟩ /- NX_TX_FRAMES -/,
  ⟨0x7462, 1, .fixed6, .u32, .ro, (.val 0), .any, 0x0, false⟩ /- NX_DROPS -/,
  ⟨0x7463, 1, .fixed4, .u32, .ro, (.val 0), .any, 0x0, false⟩ /- NX_GATE_TOO_BIG -/,
  ⟨0x7464, 1, .fixed4, .u64, .ro, (.val 0), .any, 0x0, false⟩ /- NX_PREEMPT_FRAGMENTS -/,
  ⟨0x7800, 1, .dmaChannel, .u64, .rw, (.val 0), .any, 0x0, true⟩ /- DMA_CH_SRC_ADDR -/,
  ⟨0x7801, 1, .dmaChannel, .u64, .rw, (.val 0), .any, 0x0, true⟩ /- DMA_CH_SRC_SHAPE -/,
  ⟨0x7802, 1, .dmaChannel, .u64, .rw, (.val 0), .any, 0x0, true⟩ /- DMA_CH_DST_ADDR -/,
  ⟨0x7803, 1, .dmaChannel, .u64, .rw, (.val 0), .any, 0x0, true⟩ /- DMA_CH_DST_SHAPE -/,
  ⟨0x7804, 1, .dmaChannel, .u32, .rw, (.val 2097152), (.fields [(17, 16, 0, 2), (13, 12, 0, 2)]), 0xE7333000, true⟩ /- DMA_CH_CTRL -/,
  ⟨0x7805, 1, .dmaChannel, .u64, .rw, (.val 18446462598732840960), .pace, 0xFFFFFFFFFFFF0001, true⟩ /- DMA_CH_PACE -/,
  ⟨0x7806, 1, .dmaChannel, .u32, .rw, (.val 0), .any, 0x0, true⟩ /- DMA_CH_TAG -/,
  ⟨0x7807, 1, .dmaChannel, .u8, .wo, (.val 0), (.span 1 4), 0x0, false⟩ /- DMA_CH_COMMAND -/,
  ⟨0x7808, 1, .dmaChannel, .u8, .ro, (.val 0), .any, 0x0, false⟩ /- DMA_CH_STATE -/,
  ⟨0x7809, 1, .dmaChannel, .u64, .ro, (.val 0), .any, 0x0, false⟩ /- DMA_CH_DONE_BYTES -/,
  ⟨0x780A, 1, .dmaChannel, .u16, .ro, (.val 0), .any, 0x0, false⟩ /- DMA_CH_STATUS -/,
  ⟨0x780B, 1, .dmaChannel, .u8, .ro, .channelOwner, .any, 0x0, false⟩ /- DMA_CH_OWNER -/,
  ⟨0x780C, 1, .dmaChannel, .u32, .ro, (.val 0), .any, 0x0, false⟩ /- DMA_CH_REWINDS -/,
  ⟨0x7830, 1, .dmaEngine, .u8, .ro, (.val 0), .any, 0x0, false⟩ /- DMA_ENGINE_STATE -/,
  ⟨0x7830, 2, .dmaEngine, .u8, .wo, (.val 0), (.oneOf [1]), 0x0, false⟩ /- DMA_ENGINE_COMMAND -/,
  ⟨0x7830, 3, .dmaEngine, .u16, .rw, (.val 1), (.span 1 1000), 0x0, true⟩ /- DMA_ERR_HOLDOFF -/,
  ⟨0x7830, 4, .dmaEngine, .u16, .rw, (.val 100), (.span 1 10000), 0x0, true⟩ /- DMA_AGE_TIME -/,
  ⟨0x7830, 5, .dmaEngine, .u32, .ro, (.val 0), .any, 0x0, false⟩ /- DMA_BUS_ERRORS -/,
  ⟨0x7830, 6, .dmaEngine, .u64, .ro, (.val 0), .any, 0x0, false⟩ /- DMA_LAST_ERR_ADDR -/,
  ⟨0x7831, 1, .dmaEngine, .u64, .rw, (.val 0), (.mult 0 18446744073709551615 32), 0x0, true⟩ /- DMA_RING_BASE -/,
  ⟨0x7831, 2, .dmaEngine, .u32, .rw, (.val 256), (.oneOf [16, 32, 64, 128, 256, 512, 1024, 2048, 4096, 8192, 16384, 32768, 65536]), 0x0, true⟩ /- DMA_RING_SIZE -/,
  ⟨0x7831, 3, .dmaEngine, .u32, .ro, (.val 0), .any, 0x0, false⟩ /- DMA_RING_WRITTEN -/,
  ⟨0x7831, 4, .dmaEngine, .u32, .rw, (.val 0), .any, 0x0, false⟩ /- DMA_RING_READ -/,
  ⟨0x7831, 5, .dmaEngine, .u32, .ro, (.val 0), .any, 0x0, false⟩ /- DMA_RING_LOST -/,
  ⟨0x7831, 6, .dmaEngine, .bool, .rw, (.val 0), (.oneOf [0]), 0x0, false⟩ /- DMA_RING_LOST_STICKY -/,
  ⟨0x7831, 7, .dmaEngine, .u32, .ro, (.val 1), .any, 0x0, false⟩ /- DMA_NEXT_SEQ -/,
  ⟨0x7831, 8, .dmaEngine, .u32, .ro, (.val 0), .any, 0x0, false⟩ /- DMA_LANDED_SEQ -/,
  ⟨0x7831, 9, .dmaEngine, .domain, .ro, (.zeros 0), (.span 0 2097152), 0x0, false⟩ /- DMA_RING_DATA -/,
  ⟨0x7AC0, 1, .one, .domain, .ro, (.zeros 0), (.oneOf [20352]), 0x0, false⟩ /- FIFO_DIRECTORY -/]

def objects12 : List Obj := [
  ⟨0x7B00, 1, .fifo, .u32, .ro, (.val 0), .any, 0x0, false⟩ /- FIFO_FILL -/,
  ⟨0x7B04, 1, .fifo, .u32, .ro, (.val 0), .any, 0x0, false⟩ /- FIFO_PEAK -/,
  ⟨0x7B08, 1, .fifo, .u32, .rw, .fifoMark, .fifoMark, 0x0, true⟩ /- FIFO_MARK -/,
  ⟨0x7B0C, 1, .fifo, .u32, .ro, (.val 0), .any, 0x0, false⟩ /- FIFO_WM_STATUS -/,
  ⟨0x7B10, 1, .fifo, .u16, .wo, (.val 0), .any, 0x0, false⟩ /- FIFO_WM_ACK -/,
  ⟨0x7B14, 1, .fifo, .u8, .wo, (.val 0), (.oneOf [1, 2]), 0x0, false⟩ /- FIFO_COMMAND -/,
  ⟨0x7B18, 1, .fifo, .bool, .rw, (.val 0), (.span 0 1), 0x0, true⟩ /- FIFO_WM_EVENT -/,
  ⟨0x7C00, 1, .one, .u16, .rw, (.val 8533), (.oneOf [6400, 7500, 8533]), 0x0, true⟩ /- MEM_DRAM_RATE -/,
  ⟨0x7C00, 2, .one, .u16, .ro, (.val 0), .any, 0x0, false⟩ /- MEM_DRAM_RATE_ACTIVE -/,
  ⟨0x7C00, 3, .one, .u8, .ro, (.val 0), .any, 0x0, false⟩ /- MEM_DRAM_DENSITY -/,
  ⟨0x7C00, 4, .one, .bool, .rw, (.val 1), (.span 0 1), 0x0, true⟩ /- MEM_DRAM_ECC -/,
  ⟨0x7C00, 5, .one, .u64, .ro, (.val 0), .any, 0x0, false⟩ /- MEM_DRAM_USABLE -/,
  ⟨0x7C00, 6, .one, .bool, .ro, (.val 0), .any, 0x0, false⟩ /- MEM_DRAM_READY -/,
  ⟨0x7C00, 7, .one, .u32, .rw, (.val 1024), (.mult 0 16384 64), 0x0, true⟩ /- MEM_HOST_SIZE -/,
  ⟨0x7C00, 8, .one, .u64, .ro, (.val 0), .any, 0x0, false⟩ /- MEM_DEVICE_NEED -/,
  ⟨0x7C00, 9, .one, .u64, .ro, (.val 0), .any, 0x0, false⟩ /- MEM_DEVICE_AVAILABLE -/,
  ⟨0x7C00, 10, .one, .u8, .rw, (.val 0), (.oneOf [0, 1]), 0x0, true⟩ /- MEM_LOWPOWER_DRAM -/,
  ⟨0x7C00, 11, .one, .u32, .ro, (.val 0), .any, 0x0, false⟩ /- MEM_HOST_SIZE_ACTIVE -/,
  ⟨0x7C01, 1, .one, .u16, .rw, (.val 1000), (.span 100 60000), 0x0, true⟩ /- MEM_SCRUB_PERIOD -/,
  ⟨0x7C01, 2, .one, .u32, .rw, (.val 3600), (.span 600 86400), 0x0, true⟩ /- MEM_DRAM_SCRUB_PERIOD -/,
  ⟨0x7C02, 1, .memory, .u32, .ro, (.val 0), .any, 0x0, false⟩ /- MEM_CORRECTED -/,
  ⟨0x7C03, 1, .memory, .u32, .ro, (.val 0), .any, 0x0, false⟩ /- MEM_UNCORRECTED -/,
  ⟨0x7C04, 1, .one, .domain, .ro, (.zeros 0), (.span 0 1536), 0x0, false⟩ /- MEM_ERR_LOG -/,
  ⟨0x8000, 1, .domain, .bool, .rw, (.val 1), (.span 0 1), 0x0, true⟩ /- PWR_DOMAIN_ENABLE -/,
  ⟨0x8001, 1, .slot, .u8, .ro, (.val 0), .any, 0x0, false⟩ /- PWR_DOMAIN_STATE -/,
  ⟨0x8010, 1, .fixed9, .i16, .rw, (.val (-60)), (.span (-150) (-20)), 0x0, true⟩ /- SM_WARN_LEVEL -/,
  ⟨0x8011, 1, .fixed9, .i16, .rw, (.val (-100)), (.span (-200) (-50)), 0x0, true⟩ /- SM_RESET_LEVEL -/,
  ⟨0x8012, 1, .fixed9, .u16, .ro, (.val 0), .any, 0x0, false⟩ /- SM_VOLTAGE -/,
  ⟨0x8013, 1, .fixed9, .u16, .ro, .railTarget, .any, 0x0, false⟩ /- SM_TARGET -/,
  ⟨0x8020, 1, .one, .bool, .ro, (.val 0), .any, 0x0, false⟩ /- SM_DIP_ACTIVE -/,
  ⟨0x8020, 2, .one, .u32, .ro, (.val 0), .any, 0x0, false⟩ /- SM_DIP_COUNT -/,
  ⟨0x8020, 3, .one, .u8, .ro, (.val 0), .any, 0x0, false⟩ /- SM_LAST_DIP_RAIL -/,
  ⟨0x8020, 4, .one, .u16, .ro, (.val 0), .any, 0x0, false⟩ /- SM_LAST_DIP_MIN -/,
  ⟨0x8020, 5, .one, .u32, .ro, (.val 0), .any, 0x0, false⟩ /- SM_LAST_DIP_DURATION -/,
  ⟨0x8020, 6, .one, .u16, .ro, (.val 0), .any, 0x0, false⟩ /- SM_LAST_DIP_EPOCH -/,
  ⟨0x8020, 7, .one, .time96, .ro, (.val 0), .any, 0x0, false⟩ /- SM_LAST_DIP_START -/,
  ⟨0x8030, 1, .one, .i16, .ro, (.val 0), .any, 0x0, false⟩ /- PWR_TJ -/,
  ⟨0x8030, 2, .one, .i16, .ro, (.val (-400)), .any, 0x0, false⟩ /- PWR_TJ_PEAK -/,
  ⟨0x8030, 3, .one, .i16, .rw, (.val 1150), (.span 850 1250), 0x0, true⟩ /- PWR_TJ_THROTTLE -/,
  ⟨0x8031, 1, .one, .u16, .ro, (.val 750), .any, 0x0, false⟩ /- PWR_AVS_POINT -/]

def objects13 : List Obj := [
  ⟨0x8031, 2, .one, .u32, .ro, (.val 0), .any, 0x0, false⟩ /- PWR_AVS_FAILURES -/,
  ⟨0x8100, 1, .one, .domain, .rw, .trims, (.oneOf [164]), 0x0, false⟩ /- CAL_TRIMS -/,
  ⟨0x8100, 2, .one, .domain, .ro, .trims, (.oneOf [164]), 0x0, false⟩ /- CAL_FACTORY -/,
  ⟨0x8100, 3, .one, .u8, .ro, (.val 0), .any, 0x0, false⟩ /- CAL_SOURCE -/,
  ⟨0x8101, 1, .one, .u8, .wo, (.val 0), (.span 1 8), 0x0, false⟩ /- CAL_COMMAND -/,
  ⟨0x8101, 2, .one, .u8, .rw, (.val 0), (.span 0 47), 0x0, false⟩ /- CAL_TARGET -/,
  ⟨0x8101, 3, .one, .u16, .rw, (.val 100), (.span 10 1000), 0x0, false⟩ /- CAL_OSC_GATE -/,
  ⟨0x8101, 4, .one, .u32, .rw, (.val 0), (.span 0 1000000), 0x0, false⟩ /- CAL_ETH_LOOP_DELAY -/,
  ⟨0x8102, 1, .one, .u8, .ro, (.val 0), .any, 0x0, false⟩ /- CAL_STATUS -/,
  ⟨0x8102, 2, .one, .u8, .ro, (.val 0), .any, 0x0, false⟩ /- CAL_RESULT -/,
  ⟨0x8102, 3, .one, .i64, .ro, (.val 0), .any, 0x0, false⟩ /- CAL_MEASURED -/,
  ⟨0x8102, 4, .one, .u32, .ro, (.val 0), .any, 0x0, false⟩ /- CAL_SAVE_COUNT -/,
  ⟨0x9000, 1, .pipe, .bool, .rw, (.val 0), (.span 0 1), 0x0, false⟩ /- TEST_PIPE_FENCE -/,
  ⟨0x9001, 1, .pipe, .domain, .rw, (.zeros 0), (.oneOf [0, 48]), 0x0, false⟩ /- TEST_INJECT_DESC -/,
  ⟨0x9002, 1, .pipe, .u8, .wo, (.val 0), (.oneOf [1, 2]), 0x0, false⟩ /- TEST_INJECT_COMMAND -/,
  ⟨0x9003, 1, .pipe, .u8, .ro, (.val 0), .any, 0x0, false⟩ /- TEST_INJECT_STATE -/,
  ⟨0x9004, 1, .pipe, .u32, .ro, (.val 0), .any, 0x0, false⟩ /- TEST_INJECT_FRAMES -/,
  ⟨0x9010, 1, .fixed16, .u64, .rw, (.val 0), .golden, 0x3FF0100FFFFFFFF, false⟩ /- TEST_GOLDEN_SPEC -/,
  ⟨0x9011, 1, .fixed16, .u32, .rw, (.val 0), .any, 0x0, false⟩ /- TEST_GOLDEN_EXPECT -/,
  ⟨0x9012, 1, .fixed16, .u8, .ro, (.val 0), .any, 0x0, false⟩ /- TEST_GOLDEN_RESULT -/,
  ⟨0x9013, 1, .fixed16, .u32, .ro, (.val 0), .any, 0x0, false⟩ /- TEST_GOLDEN_SEEN -/,
  ⟨0x9020, 1, .bist, .u8, .wo, (.val 0), (.oneOf [1]), 0x0, false⟩ /- TEST_BIST_COMMAND -/,
  ⟨0x9021, 1, .bist, .u8, .ro, (.val 0), .any, 0x0, false⟩ /- TEST_BIST_RESULT -/,
  ⟨0x9022, 1, .bist, .u32, .ro, (.val 0), .any, 0x0, false⟩ /- TEST_BIST_FAILS -/,
  ⟨0x9023, 1, .bist, .u64, .ro, (.val 0), .any, 0x0, false⟩ /- TEST_BIST_FIRST_ADDR -/,
  ⟨0x9030, 1, .one, .u8, .wo, (.val 0), (.oneOf [1]), 0x0, false⟩ /- TEST_DRAM_RETRAIN -/,
  ⟨0xA000, 1, .one, .u16, .rw, (.val 10), (.span 2 1000), 0x0, true⟩ /- RCV_CROSSING_TIMEOUT -/,
  ⟨0xA000, 2, .one, .u8, .rw, (.val 2), (.span 2 16), 0x0, true⟩ /- RCV_PIPE_TIMEOUT -/,
  ⟨0xA000, 3, .one, .u16, .rw, (.val 100), (.span 20 10000), 0x0, true⟩ /- RCV_HUB_TIMEOUT -/,
  ⟨0xA000, 4, .one, .u16, .rw, (.val 2000), (.span 500 30000), 0x0, true⟩ /- RCV_FW_TIMEOUT -/,
  ⟨0xA000, 5, .one, .u8, .rw, (.val 0), .any, 0x7, true⟩ /- RCV_POLICY -/,
  ⟨0xA000, 6, .one, .u8, .rw, (.val 3), (.span 0 16), 0x0, true⟩ /- RCV_HUB_LIMIT -/,
  ⟨0xA000, 7, .one, .u8, .wo, (.val 0), (.oneOf [1]), 0x0, false⟩ /- RCV_CLEAR -/,
  ⟨0xA010, 1, .one, .domain, .ro, (.zeros 0), .any, 0x0, false⟩ /- RCV_CROSSING_DIRECTORY -/,
  ⟨0xA010, 2, .one, .domain, .ro, (.zeros 0), .any, 0x0, false⟩ /- RCV_CROSSING_COUNTS -/,
  ⟨0xA011, 1, .pipe, .u32, .ro, (.val 0), .any, 0x0, false⟩ /- RCV_PIPE_COUNT -/,
  ⟨0xA012, 1, .hub, .u32, .ro, (.val 0), .any, 0x0, false⟩ /- RCV_HUB_COUNT -/,
  ⟨0xA013, 1, .one, .u32, .ro, (.val 0), .any, 0x0, false⟩ /- RCV_FW_COUNT -/]

/-- The object lists of R6, R23, R72, R106, R129, R166, R193, R213, R252, R276, R306, R342, R369, R398, R400, R416, R436, R459, R472, R487 and R511,
by rising index. -/
def objects : List Obj :=
  objects0 ++ objects1 ++ objects2 ++ objects3 ++ objects4 ++ objects5 ++ objects6 ++ objects7 ++ objects8 ++ objects9 ++ objects10 ++ objects11 ++ objects12 ++ objects13

/-- R3: hubs present. -/
def Part.hubs : Part → Nat
  | .p48 => 8 | .p24 => 4 | .p12 => 2

/-- R3: camera ports present. -/
def Part.ports (p : Part) : Nat := 6 * p.hubs

/-- R3: pipelines present. -/
def Part.pipes (p : Part) : Nat := 3 * p.hubs

/-- R3: warp engines present; codec engines are as many. -/
def Part.warps : Part → Nat
  | .p48 => 4 | .p24 => 2 | .p12 => 1

/-- R3: trunk transmit lanes present. -/
def Part.txLanes : Part → Nat
  | .p12 => 4 | _ => 8

/-- R3: is NX present? -/
def Part.hasNx (p : Part) : Bool := p ≠ .p12

/-- R6: the part code. -/
def Part.code : Part → Nat
  | .p48 => 0x9648 | .p24 => 0x9624 | .p12 => 0x9612

/-- R21, R23: the part's inventory counts in the order of R23. -/
def Part.inventory (p : Part) (n : Nat) : Nat :=
  match n, p with
  | 0, p => p.ports
  | 1, p => p.pipes
  | 2, p => 16 * p.warps
  | 3, p => p.warps
  | 4, .p48 => 704 | 4, .p24 => 448 | 4, .p12 => 256
  | 5, .p48 => 636 | 5, .p24 => 388 | 5, .p12 => 248
  | 6, .p48 => 1904 | 6, .p24 => 1156 | 6, .p12 => 752
  | _, p => p.txLanes

/-- R22: is DMA engine e present: a hub's, MX.D0 and MX.D1, NX.D? -/
def Part.dmaPresent (p : Part) (e : Nat) : Bool :=
  e < p.hubs || e = 8 || e = 9 || (e = 10 && p.hasNx)

/-- R392: is FIFO f present? -/
def Part.fifoPresent (p : Part) (f : Nat) : Bool :=
  f < 62 * p.hubs || (496 ≤ f && f < 512 && p.hasNx) || (512 ≤ f && f < 636)

/-- R438: is power domain d present? -/
def Part.domainPresent (p : Part) (d : Nat) : Bool :=
  if d < 48 then d / 6 < p.hubs
  else if d < 52 then d - 48 < p.warps
  else if d = 53 then p = .p48
  else if d = 55 ∨ d = 56 ∨ d = 57 then p.hasNx
  else d < 64

/-- R416: is memory m present: hubs, MX, NX, CX, AX, DX.M0 to DX.M3? -/
def Part.memoryPresent (p : Part) (m : Nat) : Bool :=
  if m < 8 then m < p.hubs else if m = 9 then p.hasNx else m < 16

/-- R2, R4: is instance i of the units an object describes present on the part? -/
def Part.has (p : Part) (k : Inst) (i : Nat) : Bool :=
  match k with
  | .one => i = 0
  | .port => i < p.ports
  | .input => i < 2 * p.pipes
  | .pipe => i < p.pipes
  | .cropper => i < 20 * p.pipes
  | .stream => i < 40 * p.pipes || (960 ≤ i && i < 1024)
  | .view => i < 64
  | .slot => i < 64
  | .warpEngine => i < p.warps
  | .core => i < 16 * p.warps
  | .codec => i < p.warps
  | .output => i = 0 || (i = 1 && p.hasNx)
  | .memory => p.memoryPresent i
  | .bist => i < 12 && p.memoryPresent i
  | .hub => i < p.hubs
  | .cluster => i < p.hubs || i = 8 || (i = 9 && p.hasNx)
  | .domain => p.domainPresent i
  | .trunkLane => i < p.txLanes || i = 8 || i = 9
  | .txts => i < 4
  | .dmaChannel => p.dmaPresent (i / 64)
  | .dmaEngine => p.dmaPresent i
  | .fifo => p.fifoPresent i
  | .fixed4 => i < 4
  | .fixed6 => i < 6
  | .fixed9 => i < 9
  | .fixed16 => i < 16

/-- Largest instance number of a kind, plus one, on the largest part. -/
def Inst.count : Inst → Nat
  | .one => 1 | .port => 48 | .input => 48 | .pipe => 24 | .cropper => 480 | .stream => 1024 | .view => 64 | .slot => 64
  | .warpEngine => 4 | .core => 64 | .codec => 4 | .output => 2 | .memory => 16 | .bist => 12 | .hub => 8 | .cluster => 10
  | .domain => 64 | .trunkLane => 10 | .txts => 4 | .dmaChannel => 64 | .dmaEngine => 1 | .fifo => 636
  | .fixed4 => 4 | .fixed6 => 6 | .fixed9 => 9 | .fixed16 => 16

/-- R39: is the object an array (instances from subindex 0x01)? -/
def Obj.isArray (o : Obj) : Bool :=
  match o.inst with
  | .one | .txts | .dmaEngine | .cluster => false
  | _ => true

/-- An index with the engine (R22) or Ethernet port (R106) it names taken out: the table's index and that number. -/
def normIndex (index : Nat) : Nat × Nat :=
  if 0x7800 ≤ index ∧ index < 0x7AC0 then (0x7800 + (index - 0x7800) % 0x40, (index - 0x7800) / 0x40)
  else if 0x2040 ≤ index ∧ index < 0x2044 then (0x2040, index - 0x2040)
  else (index, 0)

/-- Does the row hold entry (index, sub)? Then which instance. -/
def Obj.instanceAt (o : Obj) (index sub : Nat) : Option Nat :=
  let n := normIndex index
  match o.inst with
  | .txts | .dmaEngine => if n.1 = o.idx ∧ sub = o.sub then some n.2 else none
  | .dmaChannel => if n.1 = o.idx ∧ 1 ≤ sub ∧ sub ≤ 64 then some (64 * n.2 + (sub - 1)) else none
  | .one => if index = o.idx ∧ sub = o.sub then some 0 else none
  | k =>
    if o.idx ≤ index ∧ o.sub ≤ sub ∧ sub < 256 then
      let i := (index - o.idx) * 255 + (sub - o.sub)
      if i < k.count then some i else none
    else none

/-- The row that holds the table entry (index, sub), with the instance. -/
def findIn (index sub : Nat) : List Obj → Option (Obj × Nat)
  | [] => none
  | o :: r =>
    match o.instanceAt index sub with
    | some i => some (o, i)
    | none => findIn index sub r

def findObj (index sub : Nat) : Option (Obj × Nat) := findIn index sub objects

/-- R41, R213: an index in one of the ranges that hold live copies. -/
def isLiveIndex (index : Nat) : Bool :=
  (0x4800 ≤ index && index ≤ 0x4FFF) || (0x5800 ≤ index && index ≤ 0x5FFF) || (0x6800 ≤ index && index ≤ 0x6FFF)

/-- R44: the group of an index, live copies with their shadow's group. -/
def groupOf (index : Nat) : Option Nat :=
  let i := if isLiveIndex index then index - 0x800 else index
  if 0x1000 ≤ i ∧ i < 0x1600 then some ((i - 0x1000) / 0x100)
  else if 0x2000 ≤ i ∧ i < 0x2400 then some 6
  else if 0x2400 ≤ i ∧ i < 0x2800 then some 7
  else if 0x3000 ≤ i ∧ i < 0x3400 then some 8
  else if 0x4000 ≤ i ∧ i < 0x4800 then some 9
  else if 0x5000 ≤ i ∧ i < 0x5800 then some 10
  else if 0x6000 ≤ i ∧ i < 0x6800 then some 11
  else if 0x7000 ≤ i ∧ i < 0x7100 then some 12
  else if 0x7100 ≤ i ∧ i < 0x7200 then some 13
  else if 0x7400 ≤ i ∧ i < 0x7800 then some 14
  else if 0x7800 ≤ i ∧ i < 0x7C00 then some 15
  else if 0x7C00 ≤ i ∧ i < 0x7D00 then some 16
  else if 0x8000 ≤ i ∧ i < 0x8100 then some 17
  else if 0x8100 ≤ i ∧ i < 0x8200 then some 18
  else if 0x9000 ≤ i ∧ i < 0x9400 then some 19
  else if 0xA000 ≤ i ∧ i < 0xA100 then some 20
  else none

/-- R4, R22, R106, R166: indices that the part refuses whole. -/
def Part.indexAbsent (p : Part) (index : Nat) : Bool :=
  (!p.hasNx && ((0x7400 ≤ index && index ≤ 0x77FF) || (0x2010 ≤ index && index ≤ 0x204F) ||
    (0x3200 ≤ index && index ≤ 0x32FF))) ||
  (0x7800 ≤ index && index < 0x7AC0 && !p.dmaPresent ((index - 0x7800) / 0x40))

/-- The bilinear kernel of R247 and R296, 64 phases of four taps. -/
def bilinearKernel : Bytes :=
  (List.range 64).flatMap fun ph => leBytes 2 0 ++ leBytes 2 (1024 - 16 * ph) ++ leBytes 2 (16 * ph) ++ leBytes 2 0

/-- R347: the default VLAN table. -/
def defaultVlanTable : Bytes :=
  (List.range 4096).flatMap fun v =>
    if v = 1 then [0x0F, 0x0F] else if v = 100 then [0x2F, 0x20] else if v = 200 then [0x1F, 0x00] else [0x00, 0x00]

/-- R232: the identity matrix in the layout of PIPE_CCM: nine I16 signed 4.12, offsets and IR coefficients 0. -/
def identityCcmBytes : Bytes :=
  ((List.range 9).flatMap fun i => leBytes 2 (if i % 4 = 0 then 4096 else 0)) ++ List.replicate 18 0

/-- R430: WRITE mask of group g in the factory plan; every READ mask is 0x0F. -/
def factoryWrite (g : Nat) : Nat :=
  if g = 5 then 0x08 else if g = 0 ∨ g = 1 ∨ g = 3 ∨ 18 ≤ g then 0x0C else 0x0E

/-- R428, R430: the access plan a device leaves the factory with. -/
def defaultAccessPlan : Bytes :=
  leBytes 2 1 ++ leBytes 2 0 ++ ((List.range 21).flatMap fun g => [0x0F, byteOf (factoryWrite g)]) ++
    [0, 0, 0, 1, 1, 0x0C, 0x0F] ++ List.replicate 11 0

/-- R462, R465: the factory trim record of a part with this many camera ports: every trim at its nominal value (per die:
log 3). -/
def factoryTrims (ports : Nat) : Bytes :=
  let per := fun (v : Nat) => (List.range 48).map fun i => byteOf (if i < ports then v else 0)
  let b := leBytes 2 1 ++ List.replicate 42 0 ++ per 32 ++ per 64 ++ List.replicate 20 0
  b ++ leBytes 4 (crc32 b)

/-- The device's MAC addresses of R50 (per die: log 3). -/
def factoryMac (n : Nat) : Nat := 0x020000000001 + n

/-- The default of an entry that is a byte string. -/
def Dflt.bytes : Dflt → Bytes
  | .zeros n => List.replicate n 0
  | .identityCcm => identityCcmBytes
  | .toneCurve => (List.range 1024).flatMap fun n => leBytes 2 (64 * n)
  | .ltmGain => (List.range 64).flatMap fun _ => leBytes 2 4096
  | .outCurve => (List.range 256).flatMap fun n => leBytes 2 (256 * n)
  | .bilinear => bilinearKernel
  | .aeWeights => List.replicate 768 1
  | .vlanTable => defaultVlanTable
  | .flowWeights => List.replicate 1048576 24
  | .accessPlan => defaultAccessPlan
  | .trims => factoryTrims 48
  | _ => []

/-- R499: the target voltage of a rail in mV. -/
def railTargetOf (k : Nat) : Nat := [750, 800, 800, 900, 1200, 1800, 3300, 500, 1050].getD k 0

/-- The default of an entry that is a number, for instance i on a part. -/
def Dflt.num (d : Dflt) (p : Part) (i : Nat) (fifoDepth : Nat → Nat) (owner : Nat → Nat) : Int :=
  match d with
  | .val v => v
  | .partCode => p.code
  | .inventory n => p.inventory n
  | .mac n => if p.hasNx then factoryMac n else 0
  | .timeSource => if p.hasNx then 1 else 3
  | .capPipe => ((i % 6) / 2 : Nat)
  | .cropCtrl => if i % 20 = 0 then 0x4603 else 0x4600
  | .partition => (131072 / p.warps : Nat)
  | .railTarget => (railTargetOf i : Nat)
  | .fifoMark => (fifoDepth i / 2 : Nat)
  | .channelOwner => (owner i : Nat)
  | _ => 0

/-- R17: does a value lie in the range? `mask` cleared its reserved bits already. -/
def Rng.holds (r : Rng) (p : Part) (v : Int) (depth : Nat) : Bool :=
  match r with
  | .any => true
  | .span lo hi => lo ≤ v && v ≤ hi
  | .spanOr lo hi o => (lo ≤ v && v ≤ hi) || v = o
  | .zeroOr lo hi => v = 0 || (lo ≤ v && v ≤ hi)
  | .oneOf l => l.contains v
  | .mult lo hi m => lo ≤ v && v ≤ hi && v % m = 0
  | .fields l => l.all fun f => f.2.2.1 ≤ field v.toNat f.1 f.2.1 && field v.toNat f.1 f.2.1 ≤ f.2.2.2
  | .timeSource => if p.hasNx then 0 ≤ v && v ≤ 3 else v = 0 || v = 3
  | .slot =>
    let st := field v.toNat 63 48
    st = 0xFFFF || (st < 960 && 16 ≤ field v.toNat 47 32 && field v.toNat 47 32 ≤ 8192 &&
      8 ≤ field v.toNat 31 16 && field v.toNat 31 16 ≤ 6144 && field v.toNat 15 13 ≤ 4)
  | .pace => field v.toNat 63 48 = 0xFFFF || field v.toNat 63 48 < 636
  | .golden => p.hasNx || field v.toNat 40 40 = 0
  | .route => p.hasNx || v < 2
  | .fifoMark => 1 ≤ v && v ≤ depth

/-- Size in bytes of a value of a type (R10). -/
def Ty.size : Ty → Nat
  | .u8 | .bool => 1 | .u16 | .i16 => 2 | .u32 | .i32 => 4 | .u64 | .i64 => 8 | .time96 => 12 | .domain => 4

def Ty.signed : Ty → Bool
  | .i16 | .i32 | .i64 => true
  | _ => false

/-- R10, R13: a value as the bytes a DAP message carries. -/
def Ty.encode (t : Ty) (v : Int) : Bytes :=
  beBytes t.size (if t.signed then ofSigned (8 * t.size) v else v.toNat)

/-- The value that the bytes of a DAP message carry. -/
def Ty.decode (t : Ty) (b : Bytes) : Int :=
  if t.signed then toSigned (8 * t.size) (beNat b) else (beNat b : Nat)

/-- Values that the type itself refuses (R10): a BOOL above 1, nanoseconds of 10^9 and more. -/
def Ty.legal (t : Ty) (v : Int) : Bool :=
  match t with
  | .bool => v ≤ 1
  | .time96 => time96Valid v.toNat
  | _ => true

/-- The bits that a DOMAIN's records give field by field: a mask for each byte of a record; empty: every bit (R108, R263, R265, R271,
R289, R347, R349, R354, R477). -/
def Obj.recordMask (o : Obj) : Bytes :=
  let all := fun (n : Nat) => List.replicate n (0xFF : Byte)
  let none_ := fun (n : Nat) => List.replicate n (0x00 : Byte)
  match o.idx, o.sub with
  | 0x2400, _ => all 27 ++ [0x07] ++ all 11 ++ none_ 9
  | 0x6002, _ => [0x01] ++ all 7
  | 0x7022, _ => [0x7F, 0x07] ++ all 24 ++ none_ 6
  | 0x7023, _ => [0xFF, 0, 0xFF, 0xFF, 0xFF, 0, 0xFF, 0xFF, 0xFF, 0, 0xFF, 0xFF, 0xFF, 0, 0, 0]
  | 0x7404, 1 => [0x3F]
  | 0x7404, _ => all 8 ++ [0x3F] ++ none_ 7
  | 0x7411, _ => [0xFF, 0xFF, 0, 0, 0xFF, 0xFF, 0xFF, 0xFF]
  | 0x9001, _ => all 14 ++ none_ 2 ++ all 28 ++ none_ 4
  | _, _ => []

/-- R16: a content with the reserved bits of its records cleared: `left` masks of the present record are still to come. -/
def clearReserved (m : Bytes) : Bytes → Bytes → Bytes
  | _, [] => []
  | [], b :: r => (b &&& m.headD 0xFF) :: clearReserved m m.tail r
  | k :: left, b :: r => (b &&& k) :: clearReserved m left r

/-- R16: a written DOMAIN content with its reserved bits cleared. -/
def Obj.cleanContent (o : Obj) (b : Bytes) : Bytes := if o.recordMask.isEmpty then b else clearReserved o.recordMask [] b

/-- R16: a written value with its reserved bits cleared. -/
def Obj.clean (o : Obj) (v : Int) : Int :=
  if o.mask = 0 then v else ((v.toNat &&& o.mask : Nat) : Int)

end Sys2Proof.Machine
end

