-- ==== Sys2Proof/Machine/Symbols.lean ====
section
/-! DEFINITION. The symbol layer of the Cendo lanes (R131 to R143, R160, R161, R324, R333 to R335): characters and their 8b/10b codes,
idle ordered sets, pattern generators, messages and packets as characters, and what a receiver makes of what it receives. A code is
written as the standard writes it, abcdei fghj, with bit a, which is sent first, the most significant of ten. -/
namespace Sys2Proof.Machine

/-! Characters (R133, R135). -/

/-- A character: a data byte, or a special character by its byte. -/
inductive Chr where
  | d (b : Byte)
  | k (b : Byte)
  deriving DecidableEq, Repr

def k280 : Byte := 0x1C
def k282 : Byte := 0x5C
def k283 : Byte := 0x7C
def k284 : Byte := 0x9C
def k285 : Byte := 0xBC
def k286 : Byte := 0xDC
def k237 : Byte := 0xF7
def k277 : Byte := 0xFB
def k297 : Byte := 0xFD
def k307 : Byte := 0xFE

/-- The special characters of the code table, those without a meaning among them. -/
def specials : Bytes := [k280, 0x3C, k282, k283, k284, k285, k286, 0xFC, k237, k277, k297, k307]

/-! The code table of IEEE 802.3 clause 36 (log 14). -/

/-- Ones among the low w bits. -/
def ones : Nat → Nat → Nat
  | 0, _ => 0
  | w + 1, x => x % 2 + ones w (x / 2)

/-- abcdei for EDCBA = 0 to 31 at negative running disparity. -/
def sixTable : List Nat :=
  [0b100111, 0b011101, 0b101101, 0b110001, 0b110101, 0b101001, 0b011001, 0b111000,
   0b111001, 0b100101, 0b010101, 0b110100, 0b001101, 0b101100, 0b011100, 0b010111,
   0b011011, 0b100011, 0b010011, 0b110010, 0b001011, 0b101010, 0b011010, 0b111010,
   0b110011, 0b100110, 0b010110, 0b110110, 0b001110, 0b101110, 0b011110, 0b101011]

/-- fghj for HGF = 0 to 7 at negative running disparity, in data characters. -/
def fourTable : List Nat := [0b1011, 0b1001, 0b0101, 0b1100, 0b1101, 0b1010, 0b0110, 0b1110]

/-- fghj for HGF = 0 to 7 in K28 at negative running disparity before the character. -/
def kFourTable : List Nat := [0b0100, 0b1001, 0b0101, 0b0011, 0b0010, 0b1010, 0b0110, 0b1000]

/-- abcdei of a data character. -/
def sixCode (positive : Bool) (x : Nat) : Nat :=
  let c := sixTable.getD x 0
  if positive && (ones 6 c ≠ 3 || x = 7) then 63 - c else c

/-- fghj of a data character; D.x.A7 where D.x.P7 would run. -/
def fourCode (positive : Bool) (x y : Nat) : Nat :=
  let alt := y = 7 && (if positive then x = 11 || x = 13 || x = 14 else x = 17 || x = 18 || x = 20)
  let c := if alt then 0b0111 else fourTable.getD y 0
  if positive && (ones 4 c ≠ 2 || y = 3) then 15 - c else c

/-- abcdei fghj of a special character at negative running disparity. -/
def specialCode (b : Byte) : Nat :=
  let x := b.toNat % 32
  if x = 28 then 0b001111 * 16 + kFourTable.getD (b.toNat / 32) 0 else sixTable.getD x 0 * 16 + 0b1000

/-- Running disparity after a block of w bits. -/
def disparityAfter (w : Nat) (positive : Bool) (block : Nat) : Bool :=
  let n := ones w block
  if w < 2 * n then true else if 2 * n < w then false
  else if block = 2 ^ (w / 2) - 1 then true else if block = 2 ^ w - 2 ^ (w / 2) then false else positive

/-- Running disparity after a ten-bit code. -/
def codeDisparity (positive : Bool) (code : Nat) : Bool := disparityAfter 4 (disparityAfter 6 positive (code / 16)) (code % 16)

/-- R133: the code of a character at a running disparity. -/
def Chr.code (positive : Bool) : Chr → Nat
  | .k b => if positive then 1023 - specialCode b else specialCode b
  | .d b =>
    let x := b.toNat % 32
    let six := sixCode positive x
    six * 16 + fourCode (disparityAfter 6 positive six) x (b.toNat / 32)

/-- R133: the codes of a run of characters, and the running disparity after them. -/
def encode (positive : Bool) : List Chr → List Nat × Bool
  | [] => ([], positive)
  | c :: r =>
    let t := encode (codeDisparity positive (c.code positive)) r
    (c.code positive :: t.1, t.2)

/-- The character that a code stands for at a running disparity, if any. -/
def charOf (positive : Bool) (code : Nat) : Option Chr :=
  match specials.find? fun b => (Chr.k b).code positive = code with
  | some b => some (.k b)
  | none => do
    let x ← (List.range 32).find? fun x => sixCode positive x = code / 16
    let y ← (List.range 8).find? fun y => fourCode (disparityAfter 6 positive (code / 16)) x y = code % 16
    return .d (byteOf (32 * y + x))

/-- A character as the receiver decodes it: what it stands for, none where its code is in no column of the table, and whether it
violates code or disparity. -/
structure Rx where
  chr : Option Chr
  bad : Bool
  deriving DecidableEq, Repr

/-- One code received at a running disparity. A code of the other column violates disparity. -/
def rxOf (positive : Bool) (code : Nat) : Rx :=
  match charOf positive code with
  | some c => ⟨some c, false⟩
  | none => ⟨charOf (!positive) code, true⟩

/-- A run of codes received. -/
def rxAll (positive : Bool) : List Nat → List Rx
  | [] => []
  | c :: r => rxOf positive c :: rxAll (codeDisparity positive c) r

/-- R134: does a comma straddle this code and the next? -/
def straddled (x y : Nat) : Bool :=
  (List.range 9).any fun i => let w := (x * 1024 + y) / 2 ^ (12 - i) % 128; w = 0b0011111 || w = 0b1100000

/-- R134: by code, whether a comma at another bit position begins in it. -/
def strays : List Nat → List Bool
  | x :: y :: r => straddled x y :: strays (y :: r)
  | [_] => [false]
  | [] => []

/-- R134, R135: the violations that each character counts as, with what a lane takes for special characters of its own. -/
def lineViolations (known : Byte → Bool) (x : Line) : List Bool :=
  ((rxAll x.positive x.codes).zip (strays x.codes)).map fun e =>
    e.1.bad || e.2 || (match e.1.chr with
      | some (.k b) => !known b
      | _ => false)

/-- R134: are there 8 violations within 64 consecutive characters? The first argument bounds the positions. -/
def slips : Nat → List Bool → Bool
  | 0, _ => false
  | n + 1, l => 8 ≤ ((l.take 64).filter id).length || slips n (l.drop 1)

/-- R135: the special characters of the forward lane, and of the trunk. -/
def cameraKnown (b : Byte) : Bool := [k285, k280, k284, k277, k297, k237, k283, k307].contains b
def trunkKnown (b : Byte) : Bool := [k285, k280, k284, k282, k307].contains b

/-! Generators (R136, R160, R161). -/

/-- A feedback shift register of n bits with taps n and m: the bit it generates, and the register after. -/
def lfsrStep (n m reg : Nat) : Bool × Nat :=
  let b := reg.testBit (n - 1) != reg.testBit (m - 1)
  (b, (2 * reg + boolNat b) % 2 ^ n)

/-- R136: a data character of the idle: 8 bits of PRBS-15, the first generated being bit 0. -/
def idleByte (reg : Nat) : Nat → Nat × Nat
  | 0 => (0, reg)
  | n + 1 =>
    let t := lfsrStep 15 14 reg
    let u := idleByte t.2 n
    (boolNat t.1 + 2 * u.1, u.2)

/-- R136: the characters of an idle ordered set left to send after its comma. -/
def idleData : Nat → Nat → List Chr × Nat
  | 0, reg => ([], reg)
  | n + 1, reg =>
    let b := idleByte reg 8
    let t := idleData n b.2
    (.d (byteOf b.1) :: t.1, t.2)

/-- R160: length and second tap of a pattern's polynomial. -/
def patternTaps (pattern : Nat) : Nat × Nat :=
  if pattern = 1 then (7, 6) else if pattern = 2 then (15, 14) else if pattern = 3 then (23, 18) else (31, 28)

/-- R160: do bits follow a pattern's polynomial throughout? -/
def followsPattern (pattern : Nat) (bits : List Bool) : Bool :=
  let t := patternTaps pattern
  (List.range (bits.length - t.1)).all fun i =>
    bits.getD (i + t.1) false == (bits.getD i false != bits.getD (i + t.1 - t.2) false)

/-- A pattern generator that runs: its pattern, its register, and the bits sent since injection was enabled (R161). -/
structure Gen where
  pattern : Nat
  reg : Nat
  injected : Option Nat := none
  deriving DecidableEq, Repr

/-- R160: a generator is seeded with all ones. -/
def Gen.start (pattern : Nat) : Gen := { pattern := pattern, reg := 2 ^ (patternTaps pattern).1 - 1 }

/-- R161: is bit k since injection was enabled inverted? Events stand at the start of each interval (log 14). -/
def injectsAt (inject k : Nat) : Bool :=
  (if inject.testBit 30 then k % 10 ^ field inject 19 16 else k) ≤ field inject 29 24

/-- R160, R161: the next bit that leaves a generator. -/
def Gen.next (inject : Nat) (g : Gen) : Bool × Gen :=
  let t := patternTaps g.pattern
  let b := lfsrStep t.1 t.2 g.reg
  if inject.testBit 31 then
    let k := g.injected.getD 0
    (b.1 != injectsAt inject k, { g with reg := b.2, injected := some (k + 1) })
  else (b.1, { g with reg := b.2, injected := none })

/-- The next n bits. -/
def Gen.bits (inject : Nat) : Nat → Gen → List Bool × Gen
  | 0, g => ([], g)
  | n + 1, g =>
    let b := g.next inject
    let t := Gen.bits inject n b.2
    (b.1 :: t.1, t.2)

/-- R161: has the one event of MODE 0 left, so that ENABLE clears? -/
def Gen.done (inject : Nat) (g : Gen) : Bool :=
  inject.testBit 31 && !inject.testBit 30 && field inject 29 24 < g.injected.getD 0

/-! Transmitters (R133, R136, R137). -/

/-- A transmitter that runs: its running disparity, its PRBS-15 register, the data characters left of the idle set in transmission,
whether a complete one was the last thing sent, the messages that wait, what is left of the one in transmission, and the trigger
pairs to place: slot and fine delay of each, and the fine delay that follows the K28.6 just sent (R517). -/
structure TxSt where
  positive : Bool := false
  prbs : Nat := 0x7FFF
  idle : Nat := 0
  gap : Bool := false
  queue : List (List Chr) := []
  sending : List Chr := []
  triggers : List (Nat × Nat) := []
  fine : Option Nat := none
  deriving DecidableEq, Repr

/-- Send one character. -/
def TxSt.put (x : TxSt) (c : Chr) : Nat × TxSt :=
  let code := c.code x.positive
  (code, { x with positive := codeDisparity x.positive code })

/-- R136: the next character of the idle. -/
def TxSt.idleChr (x : TxSt) : Chr × TxSt :=
  if x.idle = 0 then (.k k285, { x with idle := 7, gap := false })
  else
    let b := idleByte x.prbs 8
    (.d (byteOf b.1), { x with prbs := b.2, idle := x.idle - 1, gap := x.idle = 1 })

/-- R119, R136, R137, R517: the character of slot n: the fine delay of a trigger, a trigger, the message in transmission, the idle set in
transmission, a message that waits, or the idle. -/
def TxSt.nextChr (n : Nat) (x : TxSt) : Chr × TxSt :=
  match x.fine with
  | some f => (.d (byteOf f), { x with fine := none })
  | none =>
    match x.triggers.find? (·.1 ≤ n) with
    | some t => (.k k286, { x with fine := some t.2, triggers := x.triggers.erase t })
    | none =>
      match x.sending with
      | c :: r => (c, { x with sending := r, gap := false })
      | [] =>
        match x.queue with
        | (c :: m) :: q => if x.idle = 0 && x.gap then (c, { x with queue := q, sending := m, gap := false }) else x.idleChr
        | _ => x.idleChr

/-- A run of characters, coded. -/
def TxSt.run (x : TxSt) (l : List Chr) : List Nat × TxSt :=
  let t := encode x.positive l
  (t.1, { x with positive := t.2 })

/-- R136: n characters of the idle as characters. -/
def TxSt.idleRun : Nat → TxSt → List Chr × TxSt
  | 0, x => ([], x)
  | n + 1, x =>
    let c := x.idleChr
    let t := TxSt.idleRun n c.2
    (c.1 :: t.1, t.2)

/-! Messages and packets as characters (R138 to R144, R324). -/

/-- R140: data characters with their CRC-32, most significant byte first. -/
def crcChars (b : Bytes) : List Chr := (b ++ beBytes 4 (crc32 b)).map Chr.d

/-- R143, R151: a message that begins with K28.3 or K28.2. -/
def messageChars (start : Byte) (type tag : Nat) (payload : Bytes) : List Chr :=
  .k start :: crcChars (byteOf type :: byteOf tag :: byteOf payload.length :: payload)

/-- What a receiver finds from a start symbol on: the characters up to the next special character but K30.7, none where one is not a
data character, the special character that ended it, whether one violates code or disparity, and whether a K30.7 is among them. -/
structure Body where
  bytes : List (Option Byte)
  stop : Option Byte
  bad : Bool
  partner : Bool
  deriving DecidableEq, Repr

/-- Does a character end what is being received (R141)? -/
def Rx.ends (x : Rx) : Bool :=
  match x.chr with
  | some (.k b) => b ≠ k307
  | _ => false

/-- The data byte of a character. -/
def Rx.byte (x : Rx) : Option Byte :=
  match x.chr with
  | some (.d b) => some b
  | _ => none

/-- Is a character this special one? -/
def Rx.isK (k : Byte) (x : Rx) : Bool := x.chr = some (.k k)

/-- Receive from a start symbol on. -/
def bodyFrom (start : Byte) (l : List Rx) : Option Body :=
  match l.dropWhile (!·.isK start) with
  | [] => none
  | first :: r =>
    let inside := r.takeWhile (!·.ends)
    let stop := (r.drop inside.length).head?
    some {
      bytes := inside.map Rx.byte
      stop := stop.bind fun x => match x.chr with
        | some (.k b) => some b
        | _ => none
      bad := first.bad || inside.any (·.bad) || stop.any (·.bad)
      partner := inside.any (·.isK k307) }

/-- R140: do n body bytes precede their CRC-32? -/
def crcHolds (n : Nat) (b : Bytes) : Bool := n + 4 ≤ b.length && beAt b n 4 = crc32 (b.take n)

/-! The trunk's columns (R333 to R335). -/

/-- R333: characters in columns of n lanes, lane 0 first, the last one padded with data 0x00. The first argument bounds them. -/
def columns (n : Nat) : Nat → List Chr → List (List Chr)
  | 0, _ => []
  | m + 1, l => if l.isEmpty then [] else (l ++ List.replicate n (Chr.d 0)).take n :: columns n m (l.drop n)

/-- The characters of a lane's column entries. -/
def laneChars (i : Nat) (cols : List (List Chr)) : List Chr := cols.map fun c => c.getD i (Chr.d 0)

/-- R335: how far a lane's first K28.5 lies behind lane 0's, in characters. -/
def firstComma (l : List Rx) : Option Nat := l.findIdx? (·.isK k285)

/-- R335: the lanes in columns again: each from its first K28.5 on, where the skew is at most 32 characters. -/
def deskew (lanes : List (List Rx)) : Option (List (List Rx)) := do
  let at_ ← lanes.mapM firstComma
  if at_.any fun p => at_.any fun q => 32 < p - q then none
  else some ((lanes.zip at_).map fun e => e.1.drop e.2)

/-- Columns read lane 0 first. The first argument bounds them. -/
def unstripe : Nat → List (List Rx) → List (List Rx)
  | 0, _ => []
  | n + 1, lanes =>
    match lanes.mapM List.head? with
    | some c => if c.isEmpty then [] else c :: unstripe n (lanes.map (List.drop 1))
    | none => []

/-- R335: the lanes whose K28.5 falls outside its group's column: lane 0 begins a group there and they do not, or the reverse. -/
def offColumn (lane : Nat) (cols : List (List Rx)) : Nat :=
  (cols.filter fun col => col.head?.any (·.isK k285) != (col[lane]?).any (·.isK k285)).length

/-- R334: the packet after the idle groups: the columns from the first that does not begin a group to the next that does, as
characters. The first argument bounds the groups. -/
def packetOf : Nat → List (List Rx) → List Rx
  | 0, _ => []
  | n + 1, cols =>
    match cols with
    | [] => []
    | c :: _ =>
      if c.head?.any (·.isK k285) then packetOf n (cols.drop 8)
      else (cols.takeWhile fun c => !c.head?.any (·.isK k285)).flatten

end Sys2Proof.Machine
end

