-- ==== Sys2Proof/Machine/State.lean ====
section
/-! DEFINITION. The state of the device: its queue of waiting commands, the object dictionary (the one home of every entry of
the object lists), and the state the manual gives each unit beside its objects. Plain data throughout. -/
namespace Sys2Proof.Machine

/-- Why a command stops the model. -/
inductive Fault where
  /-- Raised by a command that names a unit absent on the part (R2 to R5): no such unit can do or see anything. Safe: the
  model answers nothing where the hardware has no such event. -/
  | noSuchUnit
  deriving DecidableEq, Repr

/-- Why a command is refused by the model. -/
inductive Refusal where
  /-- Raised by an arm of exec that has no meaning yet. Safe: the model answers nothing. -/
  | notModelled (mnemonic : String)
  deriving DecidableEq, Repr

/-- How the xSPI NOR is read: 1S-1S-1S at 25 MHz, or 8D-8D-8D at up to 200 MHz (R507). -/
inductive XspiMode where
  | serial | octal
  deriving DecidableEq, Repr

/-- The instructions of the JTAG port (R435). -/
inductive TapInstr where
  | idcode | bypass | sample | extest | extestPulse | extestTrain | debug
  deriving DecidableEq, Repr

/-- What the device sends or drives towards the outside (log 6). -/
inductive Out where
  /-- A CAN FD frame: identifier and data (R47, R48). -/
  | can (ident : Nat) (data : Bytes)
  /-- A DAP message in a UDP datagram: the MAC address NX.EM sends it from, the address and port it goes to (R50). -/
  | udp (mac : Nat) (dst : Source) (msg : Bytes)
  /-- An answer to an ARP request or a neighbour solicitation: MAC address given, and to whom (R50). -/
  | address (mac toMac toAddr : Nat)
  /-- What leaves a camera port's back channel in a character slot, or one trunk lane outside the columns, as 10-bit codes (R133). -/
  | lane (lane : Lane) (codes : List Nat)
  /-- Raw bits that leave a camera port's test transmitter (R160, R162). -/
  | test (port : Nat) (bits : List Bool)
  /-- An edge of a BELL pin: level and delay-line setting (R118). -/
  | bellPin (pin : Nat) (level : Bool) (delay : Int)
  /-- A PTP message sent on an Ethernet port: message type and body (R91). -/
  | ptp (port type : Nat) (body : Bytes)
  /-- Columns sent on the trunk: by lane, from lane 0, the codes of its characters (R333, R334). -/
  | trunk (lanes : List (List Nat))
  /-- The columns that were left of the packet in transmission are K30.7 (R341): the codes that leave in their place. -/
  | trunkCut (lanes : List (List Nat))
  /-- A frame sent by an Ethernet port (R353). -/
  | eth (port : Nat) (frame : Bytes)
  /-- A frame given to NX.EM, the internal management port (R350, R344). -/
  | toEm (port : Nat) (frame : Bytes)
  /-- A set-point write on AVSBus, mV (R501). -/
  | avs (millivolt : Nat)
  /-- A mode in which the device begins to read the xSPI NOR (R507). -/
  | xspi (mode : XspiMode)
  /-- What TDO drives while a register is shifted (R508). -/
  | tdo (level : Bool)
  /-- What boundary scan drives on the lanes: the instruction, and the levels by boundary cell (R435, R508). -/
  | scan (instr : TapInstr) (levels : List Bool)
  deriving DecidableEq, Repr

/-- An instant on the device's timescale: epoch, and time in units of 2^-16 ns (R75). -/
structure Instant where
  epoch : Nat
  t : Int
  deriving DecidableEq, Repr

/-- R63: an event record. -/
structure EventRec where
  evseq : Nat
  at_ : Instant
  cls : Nat
  level : Nat
  cause : Nat
  path : Bytes
  detail : Bytes
  deriving DecidableEq, Repr

/-- R65: a queued record, the sessions that still owe an acknowledgement, and whether it was raised while none admitted it. -/
structure QueuedEvent where
  record : EventRec
  owed : List Nat
  orphan : Bool
  deriving DecidableEq, Repr

/-- The event queue and log of AX (R63 to R66). -/
structure Events where
  seq : Nat := 0
  queue : List QueuedEvent := []
  log : List EventRec := []
  lostPending : Bool := false
  resent : Nat := 0
  deriving DecidableEq, Repr

/-- A DAP session, half-open until CONFIRM is answered (R52 to R56). -/
structure Session where
  sid : Nat
  role : Nat
  src : Source
  key : Bytes
  open_ : Bool
  lastSeq : Nat
  devSeq : Nat
  cached : Bytes
  mask : Nat
  subscribed : Bool
  evtDst : Source
  acked : Nat
  tagFails : Nat
  lastMsg : Nat
  opened : Nat
  deriving DecidableEq, Repr

/-- An open block transfer (R58 to R60): its session and handle, the entry, the mode, the stated total, the content a read
started from, the bytes written with their offsets in order, the cycle of its last BLOCK_DATA, and whether it was abandoned. -/
structure Transfer where
  sid : Nat
  handle : Nat
  index : Nat
  sub : Nat
  mode : Nat
  total : Nat
  base : Bytes
  writes : List (Nat × Bytes)
  lastData : Nat
  abandoned : Bool
  deriving DecidableEq, Repr

/-- A DAP message being reassembled from CAN FD frames (R48). -/
structure CanPartial where
  host : Nat
  bytes : Bytes
  next : Nat
  last : Nat
  deriving DecidableEq, Repr

/-- DAP (chapter 02). -/
structure Dap where
  answering : Bool := false
  canEnabled : Bool := false
  sessions : List Session := []
  nextSid : Nat := 1
  transfers : List Transfer := []
  partials : List CanPartial := []
  opens : List (Nat × Nat) := []
  deriving DecidableEq, Repr

/-- A decided re-epoch (R82, R87): Ts, the offset, whether it is the first lock, and what TB_SOURCE was written meanwhile. -/
structure Reepoch where
  ts : Nat
  offset : Int
  first : Bool
  wroteStop : Bool
  wroteOther : Bool
  deriving DecidableEq, Repr

/-- One stretch of LOCKED operation at one value: its length in time base cycles (R104). -/
structure RateSpan where
  cycles : Nat
  value : Int
  deriving DecidableEq, Repr

/-- A PTP port beside its objects (R91 to R97): the last Sync's arrival, whether its Follow_Up is awaited, whether a mean path delay is
known, whether it changed since the hold began, whether only this port had the grandmaster then, whether the trim of R96 is in
force, the delay before the first such change, agreeing offsets since the exclusion, and the sender and data of the latest Announce. -/
structure PtpPort where
  lastSync : Instant := ⟨0, 0⟩
  measured : Bool := false
  delayKnown : Bool := false
  changed : Bool := false
  alone : Bool := false
  rerouted : Bool := false
  before : Int := 0
  agree : Nat := 0
  heard : Option (Nat × PtpDataset) := none
  deriving DecidableEq, Repr

/-- A transmit timestamp (R98). -/
structure TxStamp where
  ident : Nat
  at_ : Instant
  deriving DecidableEq, Repr

/-- The time base beside its objects (chapter 03). -/
structure TimeBase where
  phase : Int := 0
  rate : Int := 0
  samples : List Int := []
  candidate : Option Int := none
  /-- R84: f before the candidate was measured. -/
  beforeF : Int := 0
  /-- R106: thresholds as the latest measurement took them, by key. -/
  taken : Map Nat := []
  policy : Nat := 0
  slewing : Bool := false
  slewEnd : Nat := 0
  slewed : Bool := false
  scheduled : Option Reepoch := none
  lastMeas : Nat := 0
  measInterval : Nat := 0
  lastRateWrite : Nat := 0
  lockedSince : Nat := 0
  spanSince : Nat := 0
  spans : List RateSpan := []
  holdSince : Nat := 0
  holdAlarm : Bool := false
  pathHold : Option Nat := none
  steer : Option Nat := none
  ports : Map PtpPort := []
  syncSent : Nat := 0
  fastSince : Option Nat := none
  advised : Option Nat := none
  txts : Map (List TxStamp) := []
  txtsLost : Map Nat := []
  /-- R101, R102: beacons sent (BSEQ, T1), the next BSEQ, the millisecond of the last one queued, whether it still waits, and
  the partner's last beacon (BSEQ, arrival). -/
  beaconsSent : List (Nat × Instant) := []
  beaconNext : Nat := 0
  beaconMs : Option Nat := none
  beaconQueued : Bool := false
  beaconLast : Option (Nat × Instant) := none
  /-- R106: cycle of the latest beacon with an echo. -/
  beaconAt : Nat := 0
  deriving DecidableEq, Repr

/-- An outstanding request of the lane protocol (R145): TYPE, TAG, payload, retries made, cycle last sent. -/
structure LaneReq where
  type : Nat
  tag : Nat
  payload : Bytes
  retries : Nat
  sent : Nat
  deriving DecidableEq, Repr

/-- A transmitter's taps (R147). -/
structure Taps where
  pre : Nat
  main : Nat
  post : Nat
  deriving DecidableEq, Repr

/-- A serial lane beside its objects (chapter 05). `held`: bit 0 link test, bit 1 calibration, bit 2 PHY domain off, bit 3 cluster
reset. `waiting`: requests (TYPE, payload) that wait for the outstanding one (R145). `recent`: which of the latest characters violate
code or disparity (R134); `slip`: eight of 64 did. `goal`: taps that the next TRAIN goes to first (R449). `sparse`: the transition
density lay below the floor at the latest evaluation, and `lastStart`: cycle of the latest start symbol (R158). `locked`: the PRBS checker has been locked since this cycle (R160). -/
structure LaneSt where
  entered : Nat := 0
  attempt : Bool := false
  attemptAt : Nat := 0
  backoff : Nat := 10
  nextAt : Nat := 0
  held : Nat := 0
  req : Option LaneReq := none
  sensor : List LaneReq := []
  waiting : List (Nat × Bytes) := []
  nextTag : Nat := 1
  aligned : Bool := false
  recent : List Bool := []
  slip : Bool := false
  sparse : Bool := false
  lastStart : Nat := 0
  rated : Bool := false
  preset : Bool := false
  pattern : Bool := false
  tapsAt : Option Nat := none
  tested : List (Taps × Nat) := []
  goal : Option Taps := none
  retrain : Option Nat := none
  degradedAt : Nat := 0
  low : Nat := 0
  dipEvals : Nat := 0
  dipLow : Nat := 0
  frozen : Bool := false
  locked : Option Nat := none
  latency : Nat := 0
  loop_ : Bool := false
  phase : Nat := 32
  slicer : Nat := 64
  deriving DecidableEq, Repr

/-! Bells and the timetable (chapter 04). -/

/-- An enabled timetable entry's progress (R112 to R125): its state as TT_QUERY_STATE codes it, the epoch its grid is read in,
when it was armed, the next grid point to load, its counters since arming, the reasons of 0x2404 raised already, the points that
starved while an earlier one held a unit (R109), and the point after the last that acted. -/
structure Run where
  state : Nat
  grid : Nat
  armed : Instant
  next : Nat
  fired : Nat
  skipped : Nat
  raised : List Nat
  passed : List Nat := []
  after : Nat := 0
  deriving DecidableEq, Repr

/-- A bell unit that holds a firing (R115): entry, grid point index, its grid point, load deadline and action instant; for a
midpoint trigger, whether the exposure time was read yet, and the lead computed where it was clipped (R121). -/
structure BellUnit where
  entry : Nat
  k : Nat
  point : Instant
  deadline : Instant
  act : Instant
  sampled : Bool
  clipped : Option Nat
  deriving DecidableEq, Repr

/-- A pulse on a BELL pin (R116, R118): when its inactive edge is due, and the delay line in taps. -/
structure Pulse where
  ends : Nat
  taps : Nat
  deriving DecidableEq, Repr

structure Bells where
  runs : Map Run := []
  units : List BellUnit := []
  pulses : Map Pulse := []
  deriving DecidableEq, Repr

/-! Commits (chapter 07). -/

/-- A target of a commit: the frames at which input 0 (or the one hand-over) and input 1 took it, whether a dip
deferred it (R211), and under KIND 1 the FS stamp of input 0's frame N (R205). -/
structure CommitTarget where
  unit : Nat
  took0 : Option Nat
  took1 : Option Nat
  deferred : Bool
  stamp : Option Instant
  deriving DecidableEq, Repr

/-- A commit that is not complete (R200 to R211). `waiting`: KIND 2 before T. `timed`: pending at T, or launched by a bell.
`held`: its T fell in a dip (R124). `noted`: its deferral event was raised. -/
structure Commit where
  ticket : Nat
  scope : Nat
  kind : Nat
  frame : Nat
  at_ : Instant
  waiting : Bool
  timed : Bool
  held : Bool
  noted : Bool
  lastGen : Nat
  lastFrame : Nat
  /-- The target that took it last (R214). -/
  lastUnit : Nat
  targets : List CommitTarget
  /-- Outcomes of targets that no longer count: unit, outcome, frame (R209, R210). -/
  settled : List (Nat × Nat × Nat)
  /-- The targets as the COMMIT names them. -/
  units : List Nat
  deriving DecidableEq, Repr

structure Commits where
  pending : List Commit := []
  /-- R61: the ticket of the next commit, 1 to 65,535 in turn. -/
  nextTicket : Nat := 1
  /-- The 64 tickets remembered (R209), newest first, with their scope and each target's outcome and frame. -/
  remembered : List (Nat × Nat × List (Nat × Nat × Nat)) := []
  /-- R197: generation of a pipeline's newest live set. -/
  newest : Map Nat := []
  deriving DecidableEq, Repr

/-- A set of live values: numbers and DOMAIN contents by live key. -/
structure LiveSet where
  nums : Map Int := []
  doms : Map Bytes := []
  deriving DecidableEq, Repr

/-! Capture (chapter 06). -/

/-- A slot of the ingress buffer (R185): a line packet or its repair: image line, exposure, payload. -/
structure Slot where
  line : Nat
  exp : Nat
  payload : Bytes
  deriving DecidableEq, Repr

/-- A frame that a port accepted (R174, R176), from its FS until nothing needs it. -/
structure Frame where
  fid : Nat
  port : Nat
  num : Nat
  sframe : Nat
  /-- FS arrival stamp (R172) and its cycle. -/
  stamp : Instant
  arrived : Nat
  capture : Instant
  source : Nat
  nexp : Nat
  format : Nat
  width : Nat
  height : Nat
  linePeriod : Nat
  framePeriod : Nat
  fsDelay : Nat
  /-- The pipeline the port fed at acceptance (device-wide), if any, and the input it was handed to. -/
  pipe : Option Nat
  input : Nat
  capGen : Nat
  sensorGen : Nat
  pipeGen : Nat
  cflags : Nat
  /-- Report card bits of the frame beside its CFLAGS (R321). -/
  card : Nat
  sflags : Nat
  repaired : Nat
  /-- The link side: 0 receiving, 2 over. -/
  link : Nat
  /-- Closed by the link as whole or truncated with this reason of 0x4001 (0 = whole). -/
  reason : Nat
  dropped : Bool
  /-- Ended by a recovery action (R37). -/
  recovered : Bool
  slots : List Slot
  /-- Per exposure: the next line expected and the last good payload (R187, R188). -/
  nextLine : List Nat
  good : List (Option Bytes)
  embedded : Nat
  echo : Option Bytes
  echoLate : Bool
  /-- Handed over to the pipeline; the line groups it took, payloads by exposure; closed at the pipeline. -/
  handed : Bool
  taken : List (List Bytes)
  closed : Bool
  synthetic : Bool
  /-- Lines read from poisoned line memory (R414). -/
  spoiled : List Nat := []
  deriving DecidableEq, Repr

/-- A camera port beside its objects (chapter 06). -/
structure PortSt where
  triggers : List Instant := []
  /-- Cycle of the latest FS arrival since the port is up (R192), and its stamp (R268). -/
  lastFs : Option Nat := none
  lastStamp : Option Instant := none
  misses : Nat := 0
  /-- Packets up to the FE are discarded (R186, R189). -/
  discard : Bool := false
  /-- Report card bits of a commit taken at the hand-over of an FS that was then rejected (R173). -/
  owed : Nat := 0
  /-- Cycle of the latest trigger launched (R116). -/
  lastTrigger : Option Nat := none
  deriving DecidableEq, Repr

/-! Pipelines (chapters 08 and 09). -/

/-- The statistics objects an input sampled at its hand-over (R254). -/
structure StatSet where
  histTap : Nat := 2
  channels : Nat := 6
  awbTap : Nat := 0
  sat : Nat := 15728640
  dark : Nat := 0
  exposure : Nat := 0
  coring : Nat := 64
  deriving DecidableEq, Repr

/-- The zone history an input leaves for its next frame (R235). -/
structure History where
  width : Nat
  height : Nat
  means : List Int
  deriving DecidableEq, Repr

/-- A statistics record on its way to STAT_RECORD (R261): input instance, the record but for RSEQ and DONE, its cycle. -/
structure StatJob where
  inst : Nat
  port : Nat
  header : Bytes
  sections : Bytes
  /-- CFA period of the frame's pattern (R275). -/
  period : Nat
  at_ : Nat
  deriving DecidableEq, Repr

/-- A pipeline's context of one of its inputs (R183): line credits (R184), zone history and gains (R234, R235), the statistics
objects sampled (R254), and the number of the frame handed over last since its port's reset (R205). -/
structure InputSt where
  credits : Nat := 0
  creditAt : Nat := 0
  history : Option History := none
  zones : List Int := []
  stat : StatSet := {}
  lastHanded : Option Nat := none
  deriving DecidableEq, Repr

/-- An injection in progress (R477 to R480): its descriptor as START found it, the next frame's count k, the frames left to start
(none: without end), whether STOP was written. -/
structure Inject where
  desc : Bytes
  next : Nat
  left : Option Nat
  stopping : Bool
  deriving DecidableEq, Repr

/-- A pipeline beside its objects: the input that still processes with an older live set, and that set (R197); a restart that waits
for its FS (R516), the injection in progress (chapter 18), and since when its input waits without progress, with the timeout in
cycles (R455). -/
structure PipeSt where
  lag : Option (Nat × LiveSet) := none
  restart : Bool := false
  inj : Option Inject := none
  watch : Option (Nat × Nat) := none
  deriving DecidableEq, Repr

/-! Exposure (chapter 09). -/

/-- One settings generation of the model (R267): number, first frame, times by exposure in ns, gain, the encoded exposure-0
count and gain code. -/
structure SensorGen where
  gen : Nat
  first : Nat
  times : List Nat
  gain : Nat
  count : Nat
  code : Nat
  deriving DecidableEq, Repr

/-- A settings change that waits or is outstanding (R268): what it means, its bundle, since when it waits, and the TAG it was
sent under. -/
structure Change where
  time : Nat
  gain : Nat
  since : Nat
  bundle : Bytes
  made : SensorGen
  tag : Option Nat
  deriving DecidableEq, Repr

structure ExpSt where
  /-- The last 8 generations, newest first. -/
  gens : List SensorGen := []
  /-- Newest acknowledged time and gain, kept over a port reset (R273). -/
  acked : Option (Nat × Nat) := none
  change : Option Change := none
  unknownFrom : Option Nat := none
  /-- The change of R273 is still to be sent. -/
  owed : Bool := true
  /-- Reason of 0x7003 raised, 0 = none. -/
  idle : Nat := 0
  /-- Reasons of 0x2404 raised for sends. -/
  raised : List Nat := []
  /-- The write slot whose send starved (R115, R268). -/
  starved : Option Instant := none
  deriving DecidableEq, Repr

/-! Output streams (chapters 10 and 11). -/

/-- A tile in the frame store: its content and whether a word of it is poisoned (R315, reason 6). -/
structure Tile where
  bytes : Bytes
  poisoned : Bool
  deriving DecidableEq, Repr

/-- What one output has sent of a frame (R322, R325, R327). -/
structure Sent where
  card : Nat := 0
  tiles : Nat := 0
  absent : Nat := 0
  crc : Nat := 0xFFFFFFFF
  deriving DecidableEq, Repr

/-- A slot of a view's frame (R284): not decided yet, or the frame matched, or none. -/
inductive Match where
  | open_
  | frame (fid : Nat)
  | none_
  deriving DecidableEq, Repr

/-- An output frame of a stream, in the frame store (R281, R309). -/
structure OutFrame where
  oid : Nat
  stream : Nat
  fid : Nat
  num : Nat
  capture : Instant
  width : Nat
  height : Nat
  format : Nat
  tileW : Nat
  tileH : Nat
  /-- Pipeline streams: rectangle x, y, w, h in the source frame of NEXP exposures and height `srcH`, and SOURCE. -/
  rect : Nat × Nat × Nat × Nat
  nexp : Nat
  srcH : Nat
  irSource : Nat
  skipped : Bool
  pw : Nat
  linePeriod : Nat
  framePeriod : Nat
  route : Nat
  gen : Nat
  pipeGen : Nat
  sensorGen : Nat
  /-- CODEC_BPP (R326), and the profile of a coded stream. -/
  bpp : Nat
  coded : Option Nat
  card : Nat
  /-- Rows produced so far (pipeline streams), tiles by row × 1,024 + column, coded slices by row. -/
  rows : Nat
  tiles : Map Tile
  slices : Map Tile
  closed : Bool
  recovered : Bool
  /-- The release queue could not hold its tiles (R314); entries exist. -/
  refused : Bool
  queued : Bool
  ended : Bool
  /-- Keys of tiles, rows or slices whose packets were emitted. -/
  emitted : List Nat
  out0 : Sent
  out1 : Sent
  /-- Warp views: each used slot's match, and the live set the frame runs on. -/
  matches_ : Map Match
  set : LiveSet
  /-- Warp views: when every slot was decided (R314), and whether the release times are known since (R299). -/
  decided : Instant
  fixed : Bool
  missing : Bool
  deriving DecidableEq, Repr

/-- An entry of the release queue (R313, R314). `row`: 0 descriptor, 1 frame start, r + 2 for row r, 65,538 frame end,
65,539 marker. `late`: already past at creation (R315 reason 5). -/
structure Entry where
  at_ : Instant
  stream : Nat
  num : Nat
  row : Nat
  col : Nat
  oid : Nat
  late : Bool
  counted : Bool
  poisoned : Bool
  route : Nat
  arg : Nat
  entry : Nat
  act : Instant
  deriving DecidableEq, Repr

/-- A tile core at work: the view's frame and the tile (R300). -/
structure CoreSt where
  oid : Nat
  row : Nat
  col : Nat
  deriving DecidableEq, Repr

/-- A packet in an output queue (R317): its bytes from TYPE to the CRC-32, its release time (R365), and which of its bytes cannot be
read (R338). -/
structure Packet where
  bytes : Bytes
  release : Instant
  lost : List Nat := []
  deriving DecidableEq, Repr

structure Merge where
  frames : List OutFrame := []
  entries : List Entry := []
  nextOid : Nat := 0
  trunk : List Packet := []
  video : List Packet := []
  cores : Map CoreSt := []
  /-- R332: streams that fencing moved to another codec engine. -/
  moved : Map Nat := []
  /-- Release time of the entry being emitted. -/
  releasing : Instant := ⟨0, 0⟩
  deriving DecidableEq, Repr

/-! The trunk (chapter 11, R333 to R341). -/

/-- A packet in transmission on the trunk (R341): the cycle it began, its columns, and each lane's running disparity before them. -/
structure Flight where
  start : Nat
  columns : List (List Chr)
  before : List Bool
  deriving DecidableEq, Repr

structure Trunk where
  entered : Nat := 0
  /-- Transmit lanes the partner accepted (R339). -/
  accepted : List Nat := []
  /-- The lower rate asked for in TRAINING (R340). -/
  lowering : Option Nat := none
  /-- R336: LIMIT, units sent, whether a credit packet came, and since when the next media packet waits for credit. -/
  limit : Nat := 0
  units : Nat := 0
  credit : Bool := false
  waitSince : Option Nat := none
  stalled : Bool := false
  /-- The packet in transmission: one was started and no packet boundary came since (R341). -/
  inFlight : Option Flight := none
  /-- R337: training messages that wait for a packet boundary, with their transmit lanes. -/
  training : List (Nat × List Chr) := []
  /-- R145: the last request acted on: TYPE and TAG, and the answer's lane, TYPE and payload. -/
  answered : Option (Nat × Nat × Nat × Nat × Bytes) := none
  /-- R339: idle groups sent in a row since L is to change, none where no change is to come. -/
  groups : Option Nat := none
  widenSince : Option Nat := none
  /-- Tunnel frames toward the partner, and what was sent lately: cycle and bits (R337). -/
  tunnel : List Bytes := []
  tunnelSent : List (Nat × Nat) := []
  deriving DecidableEq, Repr

/-! The network complex (chapter 12). -/

/-- A dynamic entry of the address table (R348). -/
structure NxAddr where
  vid : Nat
  mac : Nat
  port : Nat
  fresh : Nat
  deriving DecidableEq, Repr

/-- A frame in a queue: its bytes as it leaves, without FCS; a transmit timestamp's identifier (R367). -/
structure NxFrame where
  bytes : Bytes
  stamp : Option Nat
  deriving DecidableEq, Repr

/-- A flow queue (R359 to R362). -/
structure Flow where
  frames : List NxFrame := []
  deficit : Nat := 0
  fresh : Bool := true
  sent : Nat := 0
  drops : Nat := 0
  deriving DecidableEq, Repr

/-- A gate list in force or pending (R355): its base, cycle in ns, and entries (gate states, interval in ns). -/
structure GateList where
  base : Instant
  cycle : Nat
  ext : Nat
  entries : List (Nat × Nat)
  bytes : Bytes
  deriving DecidableEq, Repr

/-- A bridge port beside its objects. `queues`: by class; `sending`: the preemptable frame last started, with its class, start
cycle and bytes left; `held`: the frame preempted (R358). -/
structure NxPort where
  ptp : List NxFrame := []
  queues : Map (List NxFrame) := []
  active : List Nat := []
  oper : Option GateList := none
  change : Option GateList := none
  sending : Option (Nat × Nat × Nat) := none
  held : Option (Nat × Nat) := none
  verifyFails : Nat := 0
  deriving DecidableEq, Repr

structure Net where
  addrs : List NxAddr := []
  ports : Map NxPort := []
  flows : Map Flow := []
  /-- R363: NX_FLOW_POOL in force. -/
  pool : Nat := 268435456
  /-- R365: bytes of the video queue's head packet that fragments took, and by stream the next sequence_num and PKT_SEQ. -/
  evOffset : Nat := 0
  evSeq : Map (Nat × Nat) := []
  deriving DecidableEq, Repr

/-! DMA engines, FIFOs, crossings and memory (chapters 13 and 14, R25, R26). -/

/-- A stream byte of a transfer as read, and whether its source word is poisoned (R414). -/
structure Datum where
  byte : Byte
  bad : Bool
  deriving DecidableEq, Repr

/-- A burst granted and not acknowledged (R380): its place in processing order, its destination address and its data. -/
structure Burst where
  pos : Nat
  addr : Nat
  data : List Datum
  deriving DecidableEq, Repr

/-- A channel that is not IDLE, beside its objects (R379 to R390). -/
structure Xfer where
  /-- State before HELD. -/
  prior : Nat := 0
  /-- R382: moves whole lines through the line buffer. -/
  overlap : Bool := false
  /-- Bytes granted so far, in processing order, and the bursts not acknowledged, oldest first. -/
  granted : Nat := 0
  flight : List Burst := []
  /-- R382: source lines read, by line. -/
  lines : Map (List Datum) := []
  tag : Nat := 0
  rewound : Bool := false
  paused : Bool := false
  /-- Completion sequence number given (R384, R388). -/
  seq : Option Nat := none
  /-- Cycle since which it is ready without a grant (R380), and the timeout of level 3 then, in cycles (R455). -/
  ready : Nat := 0
  limit : Nat := 0
  deriving DecidableEq, Repr

/-- A DMA engine beside its objects: cycles of its latest bus errors, the end of the hold-off, the channels granted last by
priority (8: aged), and the sequence numbers given and not landed, in order. -/
structure DmaEngine where
  errors : List Nat := []
  heldUntil : Nat := 0
  last : Map Nat := []
  unlanded : List Nat := []
  deriving DecidableEq, Repr

structure Dma where
  chans : Map Xfer := []
  engines : Map DmaEngine := []
  deriving DecidableEq, Repr

/-- A word of a FIFO: whether it ends its item, and whether it does so cut short, marked CUT (R392, R394). -/
structure FifoWord where
  word : Nat
  last : Bool
  cut : Bool := false
  deriving DecidableEq, Repr

/-- A FIFO (R392 to R397): its words with their end marks, oldest first; whether the producer and the consumer are within an
item; whether further words of the producer's item are discarded; the word the consumer took last and the ends of item
marked CUT it received; the watermark's sticky bits and count. -/
structure FifoSt where
  words : List FifoWord := []
  producing : Bool := false
  consuming : Bool := false
  dropping : Bool := false
  taken : Option FifoWord := none
  cuts : Nat := 0
  up : Bool := false
  down : Bool := false
  count : Nat := 0
  deriving DecidableEq, Repr

/-- A handshake crossing (R25, R26): credits the sender holds, the word requested, since when and with which timeout in
cycles (R455), and the words transferred, newest first. -/
structure CrossSt where
  credits : Nat := 0
  request : Option (Nat × Nat × Nat) := none
  moved : List Nat := []
  deriving DecidableEq, Repr

/-- A logged uncorrected error (R416): address, memory, instant. -/
structure MemError where
  addr : Nat
  memory : Nat
  at_ : Instant
  deriving DecidableEq, Repr

/-- The memories beside their content: by memory, the cycle its scrub pass began (R412); the error log, newest first. -/
structure Memories where
  scrubbed : Map Nat := []
  errors : List MemError := []
  deriving DecidableEq, Repr

/-- The supply monitor beside its objects (R450 to R453): whether a dip is in progress, its start and the cycle of it, and
whether the rails still hold the device in a supply reset. -/
structure Supply where
  dip : Bool := false
  start : Instant := ⟨0, 0⟩
  since : Nat := 0
  low : Bool := false
  deriving DecidableEq, Repr

/-- Occurrences of a rate-limited event of one unit: the cycle it was last raised, and how many were held back since. -/
structure Limit where
  last : Nat
  held : Nat
  deriving DecidableEq, Repr

/-- An entry to Standby (1) or Parked (2) in progress (R443): its stage (1 = the release queue drains, 2 = the output queues
drain), since when it is in it, and the drain limit in ms. -/
structure Entering where
  target : Nat
  stage : Nat
  since : Nat
  limit : Nat
  deriving DecidableEq, Repr

/-- Power states beside their objects (chapter 16). -/
structure PowerSt where
  /-- FS packets are no longer accepted (R443). -/
  stopFs : Bool := false
  /-- The source that asks for a wake: its bit of PWR_WAKE_MASK (R445). -/
  wake : Option Nat := none
  entry : Option Entering := none
  /-- R444: a command that waits for an action of level 3 or 4, or for a domain. -/
  waiting : Option Nat := none
  /-- Domains that are switching: 1 = on, 0 = off (R439). -/
  switching : Map Nat := []
  /-- The junction is at or above PWR_TJ_THROTTLE (R509). -/
  hot : Bool := false
  /-- The last junction temperature was 120 °C or above since a critical one (R509). -/
  critical : Bool := false
  /-- Island clocks that were changed: kind × 64 + instance, Hz (R27, R441). -/
  clocks : Map Nat := []
  /-- The source of a wake that waits for the DRAM (R445). -/
  waking : Option Nat := none
  deriving DecidableEq, Repr

/-- The xSPI NOR (R418): loader copies and images as the bytes of their regions; images whose writing was not ended (R60);
the store's banks, none where a bank holds no valid set, and whether the bank not in use holds a save that was cut short
(R69); the field trims' two copies (R463). -/
structure Flash where
  loader0 : Bytes
  loader1 : Bytes
  imageA : Bytes
  imageB : Bytes
  marred : List Nat
  bank0 : Option LiveSet
  bank1 : Option LiveSet
  torn : Bool
  trim0 : Bytes
  trim1 : Bytes
  deriving DecidableEq, Repr

/-- The persistent store's save in progress: the set it writes (R69). -/
structure Store where
  snapshot : Option LiveSet := none
  deriving DecidableEq, Repr

/-- A tandem proposal that is open (R431 to R434): its bytes, the cycle it opened, the roles that signed, how many signatures
did not verify, and whether its application waits for the end of a dip. -/
structure Proposal where
  bytes : Bytes
  opened : Nat
  signed : List Nat
  bad : Nat
  deferred : Bool
  deriving DecidableEq, Repr

/-- A session's roll call (R425): its nonce, and the report once it is signed. -/
structure RollCall where
  sid : Nat
  nonce : Bytes
  report : Option Bytes
  deriving DecidableEq, Repr

/-- Measurement and protection beside the objects (chapter 15): role secrets, slots, saves since boot, the open proposal and
the roll calls. -/
structure Prot where
  secrets : List Bytes := List.replicate 4 (List.replicate 32 0)
  slots : List Bytes := List.replicate 16 (List.replicate 48 0)
  saves : Nat := 0
  proposal : Option Proposal := none
  rollcalls : List RollCall := []
  deriving DecidableEq, Repr

/-- The states of the TAP controller (R435: IEEE 1149.1). -/
inductive TapState where
  | testLogicReset | runTestIdle
  | selectDr | captureDr | shiftDr | exit1Dr | pauseDr | exit2Dr | updateDr
  | selectIr | captureIr | shiftIr | exit1Ir | pauseIr | exit2Ir | updateIr
  deriving DecidableEq, Repr

/-- The JTAG port (R435, R508): the TAP's state, its instruction, the register between TDI and TDO, the boundary register's
update stage, and whether EXTEST_TRAIN is at an inverted level. -/
structure Tap where
  state : TapState := .testLogicReset
  instr : TapInstr := .idcode
  shift : List Bool := []
  latch : List Bool := []
  odd : Bool := false
  deriving DecidableEq, Repr

/-- The boot (R420, R447, R448): the kind of reset the device is held in; the cycle of the latest release; the mode: 0 = full,
1 = loader only, 2 = nothing runs; whether the boot is out of service; loader copy; debug state in force; whether a trial
runs and of which image; the BOOT_COUNT of a boot that the firmware watchdog reset; and the values that stay in force until the
next boot, by key; the last heartbeat of the firmware, with the timeout then, in cycles (R455). -/
structure Boot where
  held : Option Nat := some 0
  release : Nat := 0
  mode : Nat := 0
  outOfService : Bool := false
  loader : Nat := 0
  debug : Nat := 0
  trial : Option Nat := none
  barked : Nat := 0
  latched : Map Int := []
  beat : Nat × Nat := (0, 0)
  deriving DecidableEq, Repr

/-- DRAM training (R403): in progress, and whether it is that of a reset; a training that failed (R454). -/
structure Dram where
  training : Bool := false
  fresh : Bool := false
  failed : Bool := false
  deriving DecidableEq, Repr

/-- The recovery ladder beside its objects (R455 to R458): clusters whose reset is in progress (1 = by the hub watchdog), by
hub the cycles of its watchdog resets, level 1 actions by owning unit (its place among the units that own crossings), by hub
since when its fabric made no progress, with the timeout in cycles (R455). -/
structure Recovery where
  clusters : Map Nat := []
  hubTimes : Map (List Nat) := []
  crossings : Map Nat := []
  hubWatch : Map (Nat × Nat) := []
  deriving DecidableEq, Repr

/-- Calibration beside its objects (chapter 17): the procedure in progress with its target and start, the trims that a save in
progress writes, and the delay measured on BELL pin 0 since boot. -/
structure CalSt where
  running : Option (Nat × Nat × Nat) := none
  saving : Option Bytes := none
  d0 : Option Int := none
  deriving DecidableEq, Repr

/-- The device. -/
structure State where
  /-- Commands waiting, first in first out. -/
  pending : List Instr
  part : Part
  strapNode : Nat
  strapBoot : Nat
  /-- Time base cycles since power-on (R77). -/
  cycles : Nat
  /-- The time base's time in units of 2^-48 ns (R74). -/
  time : Nat
  /-- Every entry of the object lists that differs from its default: key index × 256 + subindex. -/
  dict : Map Int
  /-- Every DOMAIN entry that differs from its default. -/
  doms : Map Bytes
  /-- What the device sent, newest first (log 6). -/
  out : List Out
  /-- How many free values were drawn (log 7). -/
  free : Nat
  /-- Device memory: bytes by address (R408), canonical; an unlisted byte reads 0x00 (log 4). -/
  mem : List Host.Cell
  /-- 8-byte words whose check symbol is uncorrectable (R414). -/
  poison : List Nat
  ev : Events
  dap : Dap
  tb : TimeBase
  /-- Lanes by number: camera ports from 0, trunk lanes from 64, Ethernet ports from 80. -/
  lanes : Map LaneSt
  /-- Cendo transmitters that run: back channels by port, trunk lanes from 64 (R133, R136). -/
  txs : Map TxSt
  /-- Pattern generators that run, by port (R160 to R162). -/
  gens : Map Gen
  /-- Rate-limited events by cause × 65,536 + unit. -/
  limits : Map Limit
  bells : Bells
  commits : Commits
  ports : Map PortSt
  /-- Frames accepted and still needed, oldest first, and the next identity. -/
  frames : List Frame
  nextFid : Nat
  /-- Inputs of the pipelines, by object instance (R216). -/
  inputs : Map InputSt
  pipes : Map PipeSt
  statJobs : List StatJob
  exps : Map ExpSt
  mrg : Merge
  /-- Sets of scope 0x60 that a stream holds while scope-wide entries are newer (R196): by stream. -/
  wide : Map LiveSet
  sup : Supply
  pwr : PowerSt
  trk : Trunk
  net : Net
  dma : Dma
  fifos : Map FifoSt
  crossings : Map CrossSt
  mems : Memories
  flash : Flash
  /-- R507: how the xSPI NOR is read; none while the pins are high impedance (R418, R496). -/
  xspi : Option XspiMode
  jtag : Tap
  store : Store
  prot : Prot
  boot : Boot
  dram : Dram
  rcv : Recovery
  cal : CalSt
  deriving DecidableEq, Repr

/-- R419: an image of one body byte 0x00: magic, version 1, body length 1, CRC-32. -/
def minimalImage (magic : Nat) : Bytes := leBytes 4 magic ++ leBytes 4 1 ++ leBytes 4 1 ++ leBytes 4 (crc32 [0]) ++ [0]

/-- R419: the magics of a loader and of a firmware image. -/
def loaderMagic : Nat := 0x4C5A4254
def firmwareMagic : Nat := 0x465A4254

/-- The xSPI NOR as the model takes it to leave the factory (log 5): one valid loader, a valid image A, an empty store, no field
trims. -/
def Flash.factory : Flash where
  loader0 := minimalImage loaderMagic
  loader1 := []
  imageA := minimalImage firmwareMagic
  imageB := []
  marred := []
  bank0 := none
  bank1 := none
  torn := false
  trim0 := []
  trim1 := []

/-- The device as it stands powered and held in reset, before its boot (R447, R448): every entry at its default, memories
empty, nothing queued. RESET_RELEASE is the command that lets it boot (log 23). -/
def State.reset : State where
  pending := []
  part := .p48
  strapNode := 0
  strapBoot := 0
  cycles := 0
  time := 0
  dict := []
  doms := []
  out := []
  free := 0
  mem := []
  poison := []
  ev := {}
  dap := {}
  tb := {}
  lanes := []
  txs := []
  gens := []
  limits := []
  bells := {}
  commits := {}
  ports := []
  frames := []
  nextFid := 0
  inputs := []
  pipes := []
  statJobs := []
  exps := []
  mrg := {}
  wide := []
  sup := {}
  pwr := {}
  trk := {}
  net := {}
  dma := {}
  fifos := []
  crossings := []
  mems := {}
  flash := Flash.factory
  xspi := none
  jtag := {}
  store := {}
  prot := {}
  boot := {}
  dram := {}
  rcv := {}
  cal := {}

end Sys2Proof.Machine
end

