-- ==== Sys2Proof/Machine/Ops.lean ====
section
/-! DEFINITION. The named operations on the state: reading and writing entries of the dictionary, the time, outputs, free
values, device memory, and raising an event (R63 to R66). -/
namespace Sys2Proof.Machine

/-- The three outcomes of a command. -/
abbrev Res := Host.Outcome State Fault Refusal

/-- R71: an effect of a request, or the abort code it is refused with. -/
abbrev Effect := State → Except Nat State

/-! Abort codes of R71. -/
def abNoObject : Nat := 0x0001
def abNoSub : Nat := 0x0002
def abReadOnly : Nat := 0x0003
def abWriteOnly : Nat := 0x0004
def abLength : Nat := 0x0005
def abRange : Nat := 0x0006
def abPending : Nat := 0x0007
def abPlan : Nat := 0x0008
def abTandem : Nat := 0x0009
def abBusy : Nat := 0x000A
def abState : Nat := 0x000B
def abTimeout : Nat := 0x000C

/-- Refuse with a code where a condition holds, else go on. -/
def refuseIf (c : Bool) (code : Nat) : Except Nat Unit := if c then .error code else .ok ()

/-- A list of checks in the manual's order: the first that holds decides the code. -/
def firstCheck : List (Bool × Nat) → Except Nat Unit
  | [] => .ok ()
  | (c, code) :: r => if c then .error code else firstCheck r

/-- Depth in words of every FIFO that is present (R392 names no depth: log 8). -/
def fifoDepth (f : Nat) : Nat := if f < 636 then 256 else 0

/-- R373: owner of a DMA channel: 0 = host (channels 56 to 63), 1 = device. -/
def channelOwner (ch : Nat) : Nat := if 56 ≤ ch % 64 then 0 else 1

/-- An index with a live copy's offset of 0x0800 removed (R41). -/
def shadowIndex (index : Nat) : Nat := if isLiveIndex index then index - 0x800 else index

/-- The default of a numeric entry. -/
def defaultNum (p : Part) (key : Nat) : Int :=
  match findObj (shadowIndex (key / 256)) (key % 256) with
  | some (o, i) => o.dflt.num p i fifoDepth channelOwner
  | none => 0

/-- The default of a DOMAIN entry. -/
def defaultDom (key : Nat) : Bytes :=
  match findObj (shadowIndex (key / 256)) (key % 256) with
  | some (o, _) => o.dflt.bytes
  | none => []

/-- The value an entry holds. -/
def State.obj (s : State) (key : Nat) : Int :=
  match mapGet key s.dict with
  | some v => v
  | none => defaultNum s.part key

/-- An entry's value as a natural number. -/
def State.nat (s : State) (key : Nat) : Nat := (s.obj key).toNat

/-- Is a BOOL entry true? -/
def State.flag (s : State) (key : Nat) : Bool := s.obj key ≠ 0

/-- Store an entry's value. -/
def State.setObj (s : State) (key : Nat) (v : Int) : State := { s with dict := mapSet key v s.dict }

def State.setFlag (s : State) (key : Nat) (b : Bool) : State := s.setObj key (if b then 1 else 0)

/-- Return an entry to its default. -/
def State.resetObj (s : State) (key : Nat) : State := { s with dict := mapDel key s.dict }

/-- Advance a saturating counter. -/
def State.addTo (s : State) (key w d : Nat) : State := s.setObj key (satAdd w (s.nat key) d : Nat)

/-- Advance a saturating U32 counter by one. -/
def State.bump (s : State) (key : Nat) : State := s.addTo key 32 1

/-- The content of a DOMAIN entry. -/
def State.dom (s : State) (key : Nat) : Bytes :=
  match mapGet key s.doms with
  | some b => b
  | none => defaultDom key

def State.setDom (s : State) (key : Nat) (b : Bytes) : State := { s with doms := mapSet key b s.doms }

/-- Key of the live copy of a shadowed entry (R41). -/
def liveKey (key : Nat) : Nat := key + 0x80000

/-- Key of a LANE object for a lane, from its camera-port object number (R166). -/
def laneKey (off : Nat) : Lane → Nat
  | .camera i => (0x3000 + off) * 256 + i + 1
  | .trunk i => (0x3100 + off) * 256 + i + 1
  | .eth i => (0x3200 + off) * 256 + i + 1

/-- Live value of a shadowed entry. -/
def State.live (s : State) (key : Nat) : Int := s.obj (liveKey key)

def State.liveNat (s : State) (key : Nat) : Nat := (s.live key).toNat

/-- R74: the time reported, units of 2^-16 ns. -/
def State.now (s : State) : Nat := s.time / 2 ^ 32

def State.epoch (s : State) : Nat := s.nat Key.tbEpoch

/-- R75: the present instant. -/
def State.instant (s : State) : Instant := ⟨s.epoch, s.now⟩

/-- R88: an instant in terms of the present epoch: its time, or none where it lies before the seam or two epochs back, and so
is past, or `some` of a time yet to come. An instant of a later epoch is not due. -/
inductive Due where
  | past
  | at_ (t : Int)
  | later
  deriving DecidableEq, Repr

/-- R88: the seam translation. -/
def State.due (s : State) (i : Instant) : Due :=
  if i.epoch = s.epoch then .at_ i.t
  else if s.epoch < i.epoch then .later
  else if i.epoch + 1 = s.epoch then
    let told : Int := ofTime96 (s.nat Key.tbSeamOldTime)
    let tnew : Int := ofTime96 (s.nat Key.tbSeamNewTime)
    if told ≤ i.t then .at_ (i.t + tnew - told) else .past
  else .past

/-- Has the time base reached an instant? -/
def State.reached (s : State) (i : Instant) : Bool :=
  match s.due i with
  | .past => true
  | .at_ t => t ≤ s.now
  | .later => false

/-- R75, R88: a later instant by d units. -/
def Instant.plus (i : Instant) (d : Int) : Instant := ⟨i.epoch, i.t + d⟩

/-- R75: order of instants, epoch first. -/
def Instant.before (a b : Instant) : Bool := a.epoch < b.epoch || (a.epoch = b.epoch && a.t < b.t)

/-- R75, R88, R286: does an instant lie at or before another, in terms of the present epoch where both can be told there? -/
def State.leq (s : State) (a b : Instant) : Bool :=
  if a.epoch = b.epoch then a.t ≤ b.t
  else match s.due a, s.due b with
    | .at_ x, .at_ y => x ≤ y
    | .past, .at_ _ | .past, .later | .at_ _, .later => true
    | .at_ _, .past | .later, .past | .later, .at_ _ => false
    | _, _ => a.before b

/-- R88: an instant as a time of the present epoch; earlier epochs than the last lie before everything. -/
def State.inEpoch (s : State) (i : Instant) : Int :=
  if i.epoch = s.epoch then i.t
  else if i.epoch + 1 = s.epoch then
    i.t + (ofTime96 (s.nat Key.tbSeamNewTime) : Nat) - (ofTime96 (s.nat Key.tbSeamOldTime) : Nat)
  else if i.epoch < s.epoch then i.t - (2 ^ 96 : Nat)
  else i.t + (2 ^ 96 : Nat)

/-- Send something (newest first). -/
def State.send (s : State) (o : Out) : State := { s with out := o :: s.out }

/-- Draw a free value: the count that names it (log 7). -/
def State.draw (s : State) : Nat × State := (s.free, { s with free := s.free + 1 })

/-! Device memory (R407 to R410): bytes by address, canonical form. -/

/-- What an address reads as where nothing was written (log 4). -/
def emptyByte : Byte := 0

/-- Read one byte. -/
def Memory.read (a : Nat) : List Host.Cell → Byte
  | [] => emptyByte
  | c :: r => if c.1 = a then c.2 else Memory.read a r

/-- Write one byte, keeping addresses rising and leaving out bytes that read as an unlisted address does. -/
def Memory.write (a : Nat) (b : Byte) : List Host.Cell → List Host.Cell
  | [] => if b = emptyByte then [] else [(a, b)]
  | c :: r =>
    if a < c.1 then (if b = emptyByte then c :: r else (a, b) :: c :: r)
    else if a = c.1 then (if b = emptyByte then r else (a, b) :: r)
    else c :: Memory.write a b r

/-- Do the addresses rise strictly from `lo` on, with no entry that an unlisted address reads as? -/
def Memory.wfFrom (lo : Nat) : List Host.Cell → Bool
  | [] => true
  | c :: r => lo ≤ c.1 && c.2 != emptyByte && Memory.wfFrom (c.1 + 1) r

/-- The canonical form. -/
def Memory.wf (m : List Host.Cell) : Bool := Memory.wfFrom 0 m

/-- Write consecutive bytes. -/
def Memory.writeBytes (a : Nat) : Bytes → List Host.Cell → List Host.Cell
  | [], m => m
  | b :: r, m => Memory.writeBytes (a + 1) r (Memory.write a b m)

/-- Read consecutive bytes. -/
def Memory.readBytes (a n : Nat) (m : List Host.Cell) : Bytes := (List.range n).map fun i => Memory.read (a + i) m

/-- Remove the bytes of a range (content lost: they read as unlisted ones do). -/
def Memory.clear (lo hi : Nat) (m : List Host.Cell) : List Host.Cell :=
  m.filter fun c => !(lo ≤ c.1 && c.1 < hi)

/-! Paths of units (R20, R21). -/

def natText (n : Nat) : String := toString n
def pathPort (i : Nat) : String := "H" ++ natText (i / 6) ++ ".C" ++ natText (i % 6)
def pathPipe (i : Nat) : String := "H" ++ natText (i / 3) ++ ".P" ++ natText (i % 3)
def pathCropper (i : Nat) : String :=
  pathPipe (i / 20) ++ (if i % 20 < 4 then ".V" ++ natText (i % 20) else ".ROI" ++ natText (i % 20 - 4))
def pathDma (e : Nat) : String :=
  if e < 8 then "H" ++ natText e ++ ".D" else if e = 10 then "NX.D" else "MX.D" ++ natText (e - 8)
def pathChannel (e ch : Nat) : String := pathDma e ++ ".ch" ++ natText ch
def pathCore (i : Nat) : String := "MX.W" ++ natText (i / 16) ++ ".T" ++ natText (i % 16)
def pathEth (n : Nat) : String := if n = 4 then "NX.EV" else if n = 5 then "NX.EM" else "NX.E" ++ natText n
def pathCluster (c : Nat) : String := if c < 8 then "H" ++ natText c else if c = 8 then "MX" else "NX"
def pathBell (n : Nat) : String := "AX.B" ++ natText n
def pathView (v : Nat) : String := "MX.WV" ++ natText v
def pathMemory (m : Nat) : String :=
  if m < 10 then pathCluster m else if m = 10 then "CX" else if m = 11 then "AX" else "DX.M" ++ natText (m - 12)
/-- Path of a stream's cropper or view (R243, R279, R307). -/
def pathStream (st : Nat) : String :=
  if 960 ≤ st then pathView (st - 960) else pathCropper (20 * (st / 40) + st % 20)

/-! DAP messages the device sends (R45 to R52), and events. -/

/-- R45: header and payload. -/
def dapBody (service session seq : Nat) (payload : Bytes) : Bytes :=
  [1, byteOf service] ++ beBytes 2 session ++ beBytes 4 seq ++ beBytes 2 payload.length ++ payload

/-- R45: the tag over header and payload. -/
def dapTag (key body : Bytes) : Bytes := (hmacSha256 key body).take 16

/-- CAN FD data lengths above 8 (ISO 11898-1, R48). -/
def canLength (n : Nat) : Nat :=
  if n ≤ 8 then n else if n ≤ 12 then 12 else if n ≤ 16 then 16 else if n ≤ 20 then 20 else if n ≤ 24 then 24
  else if n ≤ 32 then 32 else if n ≤ 48 then 48 else 64

/-- R48: the frames of a message, from segment counter i on; the first argument bounds them. -/
def canSegments : Nat → Nat → Bytes → List Bytes
  | 0, _, _ => []
  | n + 1, i, m =>
    let part := m.take 63
    let rest := m.drop 63
    let hdr := (if i = 0 then 128 else 0) + (if rest.isEmpty then 64 else 0) + i % 64
    let f := byteOf hdr :: part
    padTo (canLength f.length) f :: (if rest.isEmpty then [] else canSegments n (i + 1) rest)

/-- R49, R406: an entry whose written value takes effect at the next device reset: the value in force. -/
def State.atReset (s : State) (key : Nat) : Nat := ((mapGet key s.boot.latched).getD (s.obj key)).toNat

/-- R49: the node ID in use. -/
def State.nodeId (s : State) : Nat :=
  let d := s.atReset Key.dapNodeId
  if d = 0 then s.strapNode else d

/-- R47: identifier of a device message, function 2 = response, 3 = event. -/
def canIdent (function host node : Nat) : Nat := function * 2 ^ 24 + host * 256 + node

/-- R428: the transport number of a source in the access plan: 0 = CAN FD, 1 = UDP. -/
def isCan : Source → Bool
  | .can _ => true
  | _ => false

/-- R428: a byte of the access plan. -/
def State.planByte (s : State) (n : Nat) : Nat := leAt (s.dom Key.accessPlan) n 1

/-- R428: the transport's bit. -/
def transportBit : Source → Nat
  | .can _ => 0
  | .udp4 _ _ => 1
  | .udp6 _ _ => 2

/-- R429: is a role admitted on the transport of a source? -/
def State.admitsRole (s : State) (role : Nat) (src : Source) : Bool := (s.planByte (46 + role)).testBit (transportBit src)

/-- R429, R51: is any role admitted there? -/
def State.transportOpen (s : State) (src : Source) : Bool := (List.range 4).any fun r => s.admitsRole r src

/-- R51: is UDP's path powered, domains 55 and 56? -/
def State.udpPowered (s : State) : Bool := s.nat (Key.pwrDomainState 55) = 2 && s.nat (Key.pwrDomainState 56) = 2

/-- R51: does the device send on the transport of a source? -/
def State.sends (s : State) (src : Source) : Bool := s.transportOpen src && (isCan src || s.udpPowered)

/-- Send a DAP message towards a host, in frames on CAN FD and in one datagram on UDP (R48, R50, R51). -/
def State.transmit (s : State) (dst : Source) (function : Nat) (msg : Bytes) : State :=
  if !s.sends dst then s
  else match dst with
    | .can h => (canSegments 32 0 msg).foldl (fun st f => st.send (.can (canIdent function h s.nodeId) f)) s
    | _ => s.send (.udp (s.nat Key.dapMgmtMac) dst msg)

/-- Replace a session, found by its number. -/
def State.updSession (s : State) (sid : Nat) (f : Session → Session) : State :=
  { s with dap := { s.dap with sessions := s.dap.sessions.map fun x => if x.sid = sid then f x else x } }

def State.session (s : State) (sid : Nat) : Option Session := s.dap.sessions.find? (·.sid = sid)

/-- R54, R52: send a message of a session under its next sequence number, tagged. -/
def State.sendTagged (s : State) (x : Session) (dst : Source) (function service : Nat) (payload : Bytes) : State :=
  let body := dapBody service x.sid x.devSeq payload
  (s.updSession x.sid fun y => { y with devSeq := y.devSeq + 1 }).transmit dst function (body ++ dapTag x.key body)

/-- R63: an event record in a DAP message, most significant byte first. -/
def EventRec.be (r : EventRec) : Bytes :=
  beBytes 4 r.evseq ++ beBytes 2 r.at_.epoch ++ beBytes 12 (toTime96 r.at_.t.toNat) ++
    [byteOf r.cls, byteOf r.level] ++ beBytes 2 r.cause ++ r.path ++ r.detail

/-- R63, R13: an event record in EVENT_LOG, least significant byte first. -/
def EventRec.le (r : EventRec) : Bytes :=
  leBytes 4 r.evseq ++ leBytes 2 r.at_.epoch ++ leBytes 12 (toTime96 r.at_.t.toNat) ++
    [byteOf r.cls, byteOf r.level] ++ leBytes 2 r.cause ++ r.path ++ r.detail

/-- R65: does a session's mask admit a class? -/
def Session.admits (x : Session) (cls : Nat) : Bool := x.open_ && x.subscribed && x.mask.testBit cls

/-- R46, R65: EVENT messages of 1 to 8 records; the first argument bounds their number. -/
def sendEvents : Nat → Nat → List EventRec → State → State
  | 0, _, _, s => s
  | n + 1, sid, recs, s =>
    if recs.isEmpty then s
    else match s.session sid with
      | none => s
      | some x =>
        let part := recs.take 8
        sendEvents n sid (recs.drop 8)
          (s.sendTagged x x.evtDst 3 0x40 ([byteOf part.length, 0] ++ part.flatMap EventRec.be))

/-- R65: deliver a fresh record to every session that admits it. -/
def State.deliver (s : State) (r : EventRec) : State :=
  ((s.dap.sessions.filter (·.admits r.cls)).map (·.sid)).foldl (fun st sid => sendEvents 1 sid [r] st) s

/-- R64: put a record into the queue, or count it as lost. -/
def State.enqueueEvent (s : State) (r : EventRec) : State :=
  if s.ev.queue.length < 256 then
    let owed := (s.dap.sessions.filter (·.admits r.cls)).map (·.sid)
    ({ s with ev := { s.ev with queue := s.ev.queue ++ [QueuedEvent.mk r owed owed.isEmpty] } }).deliver r
  else
    let s := (s.bump Key.evtLostCount).setFlag Key.evtLostSticky true
    { s with ev := { s.ev with lostPending := true } }

/-- R64: raise an event: log it, then queue it or count it lost. `level` is 0 but for recovery records (R36). -/
def State.raiseAt (s : State) (cause cls level : Nat) (path : String) (detail : Bytes) : State :=
  let r : EventRec := ⟨s.ev.seq + 1, s.instant, cls, level, cause, padTo 16 (ascii path), padTo 10 detail⟩
  let s := { s with ev := { s.ev with seq := s.ev.seq + 1, log := (r :: s.ev.log).take 4096 } }
  s.enqueueEvent r

/-- Raise an event of no recovery level. -/
def State.raise (s : State) (cause cls : Nat) (path : String) (detail : Bytes) : State := s.raiseAt cause cls 0 path detail

/-- Raise an event that is raised at most once per second per unit; DETAIL byte 9 holds the number held back since the last
one, saturating (R194, R253, R277, R307, R343, R417). -/
def State.raiseLimited (s : State) (cause cls unit : Nat) (path : String) (detail : Bytes) : State :=
  let key := cause * 65536 + unit
  match mapGet key s.limits with
  | none => ({ s with limits := mapSet key ⟨s.cycles, 0⟩ s.limits }).raise cause cls path (padTo 9 detail ++ [0])
  | some l =>
    if s.cycles - l.last < secCycles 1 then { s with limits := mapSet key ⟨l.last, min 255 (l.held + 1)⟩ s.limits }
    else ({ s with limits := mapSet key ⟨s.cycles, 0⟩ s.limits }).raise cause cls path (padTo 9 detail ++ [byteOf l.held])

/-- Raise an event that is raised at most once per second per unit and counts none held back (R348, R356, R362). -/
def State.raiseSparse (s : State) (cause cls unit : Nat) (path : String) (detail : Bytes) : State :=
  let key := cause * 65536 + unit
  let quiet := match mapGet key s.limits with
    | none => false
    | some l => s.cycles - l.last < secCycles 1
  if quiet then s else ({ s with limits := mapSet key ⟨s.cycles, 0⟩ s.limits }).raise cause cls path detail

/-- R64: event 0x1101 is queued once space returns after a loss. -/
def State.noteLost (s : State) : State :=
  if s.ev.lostPending && s.ev.queue.length < 256 then
    let s := { s with ev := { s.ev with lostPending := false } }
    s.raise 0x1101 1 "AX.EL" (leBytes 4 (s.nat Key.evtLostCount))
  else s

/-- R65: drop the records that nothing holds any more. -/
def State.pruneEvents (s : State) : State :=
  ({ s with ev := { s.ev with queue := s.ev.queue.filter fun q => q.orphan || !q.owed.isEmpty } }).noteLost

/-- R66: is NOTIFY_N driven low? -/
def State.notifyLow (s : State) : Bool :=
  s.flag Key.evtLostSticky || s.ev.queue.any fun q => s.nat Key.evtNotifyClass ≤ q.record.cls

/-- A command that names a unit absent on the part stops the model by name; any other has its effect. -/
def onUnit (present : Bool) (s : State) : Res := if present then .next s else .fault .noSuchUnit

/-- A command whose condition has not come about changes nothing (log 2). -/
def State.whenever (s : State) (c : Bool) (f : State → State) : State := if c then f s else s

/-- Elapsed time base cycles since a stamp. -/
def State.since (s : State) (stamp : Nat) : Nat := s.cycles - stamp

/-- R455: timeouts of levels 2 to 4 in cycles, as a wait that begins now takes them. -/
def State.pipeTimeout (s : State) (period : Nat) : Nat := s.nat Key.rcvPipeTimeout * usCycles period
def State.hubTimeout (s : State) : Nat := msCycles (s.nat Key.rcvHubTimeout)
def State.fwTimeout (s : State) : Nat := msCycles (s.nat Key.rcvFwTimeout)

/-- R455: has a wait, since when and with which timeout, reached its timeout? -/
def State.expired (s : State) (w : Nat × Nat) : Bool := w.2 ≤ s.since w.1

/-- R455: the fabric of a hub makes progress: its timing starts anew. -/
def State.hubMoves (s : State) (h : Nat) : State :=
  { s with rcv := { s.rcv with hubWatch := mapSet h (s.cycles, s.hubTimeout) s.rcv.hubWatch } }

/-- R438: is a power domain on (state 2)? -/
def State.domainOn (s : State) (d : Nat) : Bool := s.nat (Key.pwrDomainState d) = 2

/-- A sum of fractions, numerator and denominator. -/
def fracSum : List (Nat × Nat) → Nat × Nat
  | [] => (0, 1)
  | x :: r =>
    let t := fracSum r
    (x.1 * t.2 + t.1 * x.2, x.2 * t.2)

end Sys2Proof.Machine
end

