-- ==== Sys2Proof/Machine/TimeBase.lean ====
section
/-! DEFINITION. Chapter 03: the time base, its states, re-epochs, PTP, transmit timestamps and the oscillator (R74 to R107,
R471). Effects of requests end in `Write`; meanings are `exec…`. -/
namespace Sys2Proof.Machine

/-! TB_STATE codes (R106). -/
def tbFree : Nat := 0
def tbAcquire : Nat := 1
def tbLocked : Nat := 2
def tbHoldover : Nat := 3
def tbDiscont : Nat := 4

/-- The OSC trim of R462, parts per 10^15. -/
def State.oscTrim (s : State) : Int := toSigned 64 (leAt (s.dom Key.calTrims) 4 8)

/-- R78: the increment for an applied rate and trim, in 2^-48 ns. -/
def incrementFor (a trim : Int) : Int :=
  (93824992236885 * (1000000000000000 + a + trim) + 500000000000000) / 1000000000000000

def State.tbState (s : State) : Nat := s.nat Key.tbState
def State.tbSource (s : State) : Nat := s.nat Key.tbSource
def State.tbFreq (s : State) : Int := s.obj Key.tbFreqEstimate

/-- ±1,000 ppm in parts per 10^15 (R79). -/
def rateMax : Int := 1000000000000

/-- R106: a threshold as the latest measurement took it. -/
def State.taken (s : State) (key : Nat) : Nat := (mapGet key s.tb.taken).getD (s.nat key)

/-- The bound on |p| in parts per 10^15 (R79). -/
def State.slewLimit (s : State) : Int := s.taken Key.tbSlewLimit * 1000000

/-- R79, R94, R104: the applied rate a. -/
def State.appliedRate (s : State) : Int :=
  if s.tbSource = 2 ∧ s.tbState ≠ tbHoldover then s.obj Key.tbRateAdj
  else clip (s.tbFreq + clip s.tb.phase (-s.slewLimit) s.slewLimit) (-rateMax) rateMax

/-- R471: since when |f| has stayed above 5 ppm while LOCKED. -/
def State.noteFast (s : State) : State :=
  let fast := s.tbState = tbLocked ∧ 5000000000 < s.tbFreq.natAbs
  { s with tb := { s.tb with
      fastSince := if fast then some (s.tb.fastSince.getD s.cycles) else none } }

/-- R78: recompute the increment after a change of the applied rate or the trim. -/
def State.tbApply (s : State) : State :=
  let a := s.appliedRate
  (({ s with tb := { s.tb with rate := a } }).setObj Key.tbIncrement (incrementFor a s.oscTrim)).noteFast

def State.withTb (s : State) (f : TimeBase → TimeBase) : State := { s with tb := f s.tb }

/-- R106: written values that take effect at the next measurement, and are used between measurements too. -/
def takenKeys : List Nat := [Key.tbSlewLimit, Key.ptpAsymLimit, Key.ptpPathHoldIntervals]

/-- R106: a measurement, or a boot, takes the written thresholds. -/
def State.takeLimits (s : State) : State := s.withTb fun b => { b with taken := takenKeys.map fun k => (k, s.nat k) }

/-- The value averaged by R104: f, or the applied rate under the external servo. -/
def State.spanValue (s : State) : Int := if s.tbSource = 2 then s.tb.rate else s.tbFreq

/-- R104, R106: f, clipped, becomes the estimate. -/
def State.setFreq (s : State) (f : Int) : State := s.setObj Key.tbFreqEstimate (clip f (-rateMax) rateMax)

/-- R104: close the stretch of LOCKED operation at the present value. -/
def State.closeSpan (s : State) : State :=
  if s.tbState = tbLocked then
    s.withTb fun b => { b with spans := ⟨s.cycles - b.spanSince, s.spanValue⟩ :: b.spans, spanSince := s.cycles }
  else s

/-- R104: weighted sum and weight of the newest `w` cycles. -/
def spanSum : Nat → List RateSpan → Int × Nat
  | _, [] => (0, 0)
  | w, x :: r =>
    let c := min w x.cycles
    let t := spanSum (w - c) r
    (c * x.value + t.1, c + t.2)

/-- R104: the mean, rounded half up, or none where there was no LOCKED operation. -/
def spanMean (w : Nat) (l : List RateSpan) : Option Int :=
  let t := spanSum w l
  if t.2 = 0 then none else some ((2 * t.1 + t.2) / (2 * t.2 : Nat))

/-- R104: in HOLDOVER f is the mean of the latest LOCKED operation. The window reaches back to the latest entry to LOCKED at most
(DESIGN CHOICE, log 41). -/
def State.freezeMean (s : State) : State :=
  match spanMean (secCycles (s.nat Key.tbHoldoverAverage)) s.tb.spans with
  | some f => s.setFreq f
  | none => s

/-- R81: move to a state, with what entering and leaving one does (R94, R104); event 0x2001 on a change. A step from a state to itself
is no transition and raises none (DESIGN CHOICE, log 41). -/
def State.tbGo (s : State) (new : Nat) : State :=
  let old := s.tbState
  if old = new then s
  else
    let s := s.closeSpan
    let s :=
      if new = tbHoldover then
        s.freezeMean.withTb fun b => { b with
          phase := 0, slewing := false, slewed := false, holdSince := s.cycles, holdAlarm := false, candidate := none }
      else if new = tbLocked then
        s.withTb fun b => { b with lockedSince := s.cycles, spanSince := s.cycles, spans := [], slewing := false,
                                   slewed := false, samples := [] }
      else if new = tbFree then
        s.withTb fun b => { b with phase := 0, slewing := false, slewed := false, samples := [], candidate := none }
      else if new = tbAcquire then s.withTb fun b => { b with phase := 0, samples := [] }
      else s.withTb fun b => { b with candidate := none, samples := [] }
    ((s.setObj Key.tbState new).tbApply).raise 0x2001 0 "AX.TB" [byteOf old, byteOf new]

/-- R93: a new frequency estimate of the firmware servo: a free value within the bounds of R79 (log 11). -/
def State.servoF (s : State) : State :=
  let s := s.closeSpan
  let (n, s) := s.draw
  (s.setFreq (Config.servoFreq n)).tbApply

/-- R93: a new phase term of the firmware servo, within TB_SLEW_LIMIT (log 11). -/
def State.servoP (s : State) : State :=
  let (n, s) := s.draw
  (s.withTb fun b => { b with phase := clip (Config.servoPhase n) (-s.slewLimit) s.slewLimit }).tbApply

/-- R85: cycles that a slew of an offset takes at TB_SLEW_LIMIT. -/
def slewCycles (offset : Int) (limit : Nat) : Nat := ceilDiv (offset.natAbs * 3000000000) (65536 * limit)

/-- R85, policy 0: start or recompute the slew for an offset. -/
def State.startSlew (s : State) (offset : Int) : State :=
  (s.withTb fun b => { b with
    phase := if 0 < offset then -s.slewLimit else s.slewLimit,
    slewing := true, slewed := false,
    slewEnd := s.cycles + slewCycles offset (s.taken Key.tbSlewLimit) }).tbApply

/-- R87: Ts, the first whole millisecond at least TB_REEPOCH_LEAD ahead. -/
def State.stepInstant (s : State) : Nat :=
  ceilDiv (s.now + s.nat Key.tbReepochLead * msUnits) msUnits * msUnits

/-- R87, R89: decide a re-epoch, or slew where the epochs are exhausted. Under the external servo, to which TB_SLEW_LIMIT does not
apply (R79, R94), nothing slews (DESIGN CHOICE, log 41). -/
def State.decideReepoch (s : State) (offset : Int) (first : Bool) : State :=
  if s.epoch = 65535 then
    let s := s.raise 0x200C 2 "AX.TB" []
    if s.tbSource = 2 then s else s.startSlew offset
  else
    (s.withTb fun b => { b with
      phase := 0, slewing := false, scheduled := some ⟨s.stepInstant, offset, first, false, false⟩ }).tbApply

/-- R85: act on a detected step by policy. -/
def State.actPolicy (s : State) (offset : Int) : State :=
  if s.tb.policy = 0 then s.startSlew offset
  else if s.tb.policy = 2 then s.decideReepoch offset false
  else (s.withTb fun b => { b with phase := 0 }).tbApply

/-- R84: the first of what may be two offsets of a step, and f before it. -/
def State.suspect (s : State) (offset f : Int) : State := s.withTb fun b => { b with candidate := some offset, beforeF := f }

/-- R84: a step is detected: f is frozen at its value before the first of the two offsets. -/
def State.stepDetected (s : State) (offset : Int) : State :=
  let s := s.bump Key.tbStepCount
  let s := s.raise 0x2003 1 "AX.TB" (leBytes 8 (ofSigned 64 offset))
  let s := ((s.closeSpan.setFreq s.tb.beforeF).tbApply).tbGo tbDiscont
  (s.withTb fun b => { b with policy := s.nat Key.tbDiscontinuityPolicy }).actPolicy offset

/-- R84: does an offset exceed TB_STEP_DETECT? -/
def State.isStep (s : State) (offset : Int) : Bool := s.nat Key.tbStepDetect * 65536 < offset.natAbs

/-- R84, R90: two consecutive offsets of the same sign beyond the threshold. -/
def sameSign (a b : Int) : Bool := decide (0 < a) == decide (0 < b)

/-- R81, R84: an offset evaluated in LOCKED or HOLDOVER. -/
def State.track (s : State) (offset : Int) : State :=
  if s.isStep offset then
    match s.tb.candidate with
    | some c =>
      if sameSign c offset && s.tb.scheduled.isNone then s.stepDetected offset
      else (s.bump Key.tbOutlierCount).suspect offset s.tbFreq
    | none => (s.bump Key.tbOutlierCount).suspect offset s.tbFreq
  else
    let s := s.withTb fun b => { b with candidate := none }
    ((s.tbGo tbLocked).servoF).servoP

/-- R82: the mean of the offsets, rounded half up. -/
def meanRounded (l : List Int) : Int :=
  let n : Int := l.length
  (2 * l.foldl (· + ·) 0 + n) / (2 * n)

/-- Largest minus smallest (R81). -/
def spread : List Int → Int
  | [] => 0
  | x :: r => r.foldl max x - r.foldl min x

/-- R82: is the first-lock re-epoch decided? -/
def State.firstDecided (s : State) : Bool :=
  match s.tb.scheduled with
  | some r => r.first
  | none => false

/-- R81, R82: an offset in ACQUIRE. At epoch 0 a re-epoch that is scheduled already is the first lock. -/
def State.acquire (s : State) (offset : Int) : State :=
  let f := s.tbFreq
  let s := s.servoF
  if s.firstDecided || (s.epoch = 0 && s.tb.scheduled.isSome) then s
  else
    let n := s.nat Key.tbAcquireSamples
    let l := (offset :: s.tb.samples).take n
    let s := s.withTb fun b => { b with samples := l }
    if n ≤ l.length ∧ spread l ≤ s.nat Key.tbAcquireSpread * 65536 then
      if s.epoch = 0 then s.decideReepoch (meanRounded l) true
      else
        let s := (s.tbGo tbLocked).withTb fun b => { b with candidate := none }
        if s.isStep offset then s.suspect offset f else s
    else s

/-- R85: an offset in DISCONTINUITY. -/
def State.discontMeasure (s : State) (offset : Int) : State :=
  if s.tb.scheduled.isSome then s
  else if s.tb.slewing then s.startSlew offset
  else if s.tb.slewed then
    if offset.natAbs ≤ s.nat Key.tbLockThreshold * 65536 then ((s.tbGo tbLocked).servoF).servoP
    else (s.servoF).servoP
  else s

/-- R81 to R90, R105: a measured offset of the source in use; `interval` is its measurement interval in cycles. -/
def State.measure (s : State) (offset : Int) (interval : Nat) : State :=
  let s := s.takeLimits.setObj Key.tbOffset offset
  let s := s.withTb fun b => { b with lastMeas := s.cycles, measInterval := interval }
  if s.flag Key.tbOscLost then s
  else if s.tbState = tbFree then
    ((s.tbGo tbAcquire).withTb fun b => { b with samples := [offset] }).servoF
  else if s.tbState = tbAcquire then s.acquire offset
  else if s.tbState = tbLocked then s.track offset
  else if s.tbState = tbHoldover then (if s.tb.pathHold.isSome then s else s.track offset)
  else s.discontMeasure offset

/-- R92: the sync interval in cycles. -/
def State.syncInterval (s : State) : Nat := secCycles 1 / 2 ^ (-s.obj Key.ptpLogSyncInterval).toNat

/-- R103: the measurement interval of the source in use, in cycles. -/
def State.sourceInterval (s : State) : Nat := if s.tbSource = 3 then msCycles 1 else s.syncInterval

/-- R81: TB_SOURCE_TIMEOUT intervals have passed without a measurement. -/
def State.sourceSilent (s : State) : Bool :=
  s.nat Key.tbSourceTimeout * s.sourceInterval ≤ s.since s.tb.lastMeas

/-- R87: what Ts does to the time and the epoch, and the state after it (R81, R82). A step into LOCKED starts a full interval of
TB_EXT_WATCHDOG (R94). A first lock decided before TB_OSC was lost is made at its Ts as any re-epoch decided already is (DESIGN
CHOICE, log 41). -/
def State.reepochTime (s : State) (r : Reepoch) : State :=
  let tnew := (r.ts - r.offset).toNat
  let old := s.epoch
  let s := s.closeSpan
  let s := { s with time := tnew * 2 ^ 32 }
  let s := ((s.setObj Key.tbSeamOldEpoch old).setObj Key.tbSeamOldTime (toTime96 r.ts : Nat)).setObj
    Key.tbSeamNewTime (toTime96 tnew : Nat)
  let s := (s.setObj Key.tbEpoch (old + 1 : Nat)).bump Key.tbReepochCount
  let silent := s.sourceSilent
  let s := s.withTb fun b => { b with scheduled := none, phase := 0, candidate := none }
  let s := s.raise 0x2004 1 "AX.TB" (leBytes 2 (old + 1) ++ leBytes 8 (ofSigned 64 ((tnew : Int) - r.ts)))
  if r.first then
    if r.wroteStop then s.tbGo tbFree
    else if silent || r.wroteOther then s.tbGo tbHoldover
    else s.tbGo tbLocked
  else if s.tbState = tbDiscont then s.tbGo tbLocked
  else if s.tbSource = 2 && !r.wroteStop && !r.wroteOther then
    ((s.tbGo tbLocked).withTb fun b => { b with lockedSince := s.cycles }).tbApply
  else s.tbApply

/-- R81: TB_SOURCE is written. -/
def tbSourceWrite (v : Nat) (s : State) : State :=
  let old := s.tbSource
  if v = old then s
  else
    let st := s.tbState
    let mark := fun (r : Reepoch) =>
      { r with wroteStop := r.wroteStop || v = 0 || (v = 2 && r.first), wroteOther := r.wroteOther || v ≠ 0 }
    let s := s.closeSpan
    let s := s.withTb fun b => { b with scheduled := b.scheduled.map mark, lastMeas := s.cycles, pathHold := none }
    let s :=
      if st = tbAcquire then
        if s.firstDecided then s
        else if v = 0 ∨ v = 2 then s.tbGo tbFree
        else s.withTb fun b => { b with samples := [] }
      else if st = tbLocked ∨ st = tbDiscont then (if v = 0 then s.tbGo tbFree else s.tbGo tbHoldover)
      else if st = tbHoldover then (if v = 0 then s.tbGo tbFree else s)
      else s
    (s.setObj Key.tbSource v).tbApply

/-- R94: TB_RATE_ADJ is written. -/
def tbRateAdjWrite (v : Int) : Effect := fun s =>
  if s.tbSource ≠ 2 then .error abState
  else
    let s := s.closeSpan
    let s := (s.setObj Key.tbRateAdj v).withTb fun b => { b with lastRateWrite := s.cycles }
    let s := if s.tbState = tbHoldover ∨ (s.tbState = tbFree ∧ 0 < s.epoch) then s.tbGo tbLocked else s
    .ok s.tbApply

/-- R85, R94: TB_DISCONTINUITY_ACTION 1. -/
def tbActionSlew : Effect := fun s =>
  if s.tb.scheduled.isSome ∨ s.tbSource = 2 ∨ s.tbState ≠ tbDiscont ∨ s.tb.policy ≠ 1 then .error abState
  else if s.tb.slewing || s.tb.slewed then .ok s
  else .ok (s.startSlew (s.obj Key.tbOffset))

/-- R85, R87, R94: TB_DISCONTINUITY_ACTION 2. -/
def tbActionReepoch : Effect := fun s =>
  if s.tbSource = 2 then
    let step := s.obj Key.tbExternalStep
    if (s.stepInstant : Int) < step then .error abRange
    else if s.tb.scheduled.isSome ∨ (s.tbState = tbFree ∧ 0 < s.epoch) ∨ s.tbState = tbAcquire then .error abState
    else .ok (s.decideReepoch step false)
  else if s.tb.scheduled.isSome ∨ s.tbState ≠ tbDiscont ∨ s.tb.policy ≠ 1 then .error abState
  else .ok (s.decideReepoch (s.obj Key.tbOffset) false)

/-- R106: PTP_PROFILE (1), PTP_TRANSPORT (2) or PTP_DOMAIN (3) is written; a change restarts the instance. -/
def ptpInstanceWrite (sub value : Nat) (s : State) : State :=
  let key := 0x201000 + sub
  if s.nat key = value then s
  else
    let s := s.setObj key value
    if s.tbSource = 2 then s
    else
      let s := (List.range 4).foldl
        (fun st n => st.setObj (Key.ptpPortState n) (if st.flag (Key.ptpPortEnable n) then 1 else 0)) s
      let s := s.withTb fun b => { b with ports := [] }
      if s.tbState = tbLocked then s.tbGo tbHoldover else s

/-- R97: PTP_ASYM_FLAG is written 0: the excluded ports rejoin. -/
def ptpAsymClear (s : State) : State :=
  (s.setObj Key.ptpAsymFlag 0).withTb fun b => { b with
    steer := none, ports := b.ports.map fun e => (e.1, { e.2 with agree := 0 }) }

/-- R100: TXTS_POP is written. -/
def txtsPopWrite (port ident : Nat) : Effect := fun s =>
  match mapGetD port [] s.tb.txts with
  | [] => .error abRange
  | h :: r => if h.ident = ident then .ok (s.withTb fun b => { b with txts := mapSet port r b.txts }) else .error abRange

/-- R98, R99: a transmit timestamp arrives in a port's queue. -/
def State.stampTransmit (s : State) (port ident : Nat) (at_ : Instant) : State :=
  let q := mapGetD port [] s.tb.txts
  if q.length < 16 then s.withTb fun b => { b with txts := mapSet port (q ++ [TxStamp.mk ident at_]) b.txts }
  else
    let s := s.bump (Key.txtsDiscardCount port)
    if s.flag (Key.txtsOverflowSticky port) then s
    else (s.setFlag (Key.txtsOverflowSticky port) true).raise 0x200A 1 "AX.TB" (byteOf port :: leBytes 2 ident)

/-! PTP on the ports (R91 to R97). -/

def State.ptpPort (s : State) (n : Nat) : PtpPort := mapGetD n {} s.tb.ports
def State.setPtpPort (s : State) (n : Nat) (p : PtpPort) : State := s.withTb fun b => { b with ports := mapSet n p b.ports }

/-- R350: PTP over UDP/IPv4 without an address to send from: no port leaves state 0. -/
def State.ptpMute (s : State) : Bool :=
  s.nat Key.ptpProfile ≤ 1 && s.nat Key.ptpTransport = 1 && s.atReset Key.dapIpv4Address = 0

/-- PTP_PORT_STATE. -/
def State.ptpState (s : State) (n : Nat) : Nat := if s.ptpMute then 0 else s.nat (Key.ptpPortState n)

/-- R95: is a port excluded? -/
def State.excluded (s : State) (n : Nat) : Bool :=
  (n = s.nat Key.ptpRingPortA && (s.nat Key.ptpAsymFlag).testBit 0) ||
    (n = s.nat Key.ptpRingPortB && (s.nat Key.ptpAsymFlag).testBit 1)

/-- R93, R95: the port that the servo steers on. -/
def State.steerPort (s : State) : Option Nat :=
  match s.tb.steer with
  | some n => some n
  | none => (List.range 4).find? fun n => s.ptpState n = 2 && !s.excluded n

/-- R95, R96: does a ring port hear the grandmaster (slave or passive)? -/
def State.hears (s : State) (n : Nat) : Bool :=
  n < 4 && (s.ptpState n = 2 || s.ptpState n = 4)

/-- The two ring ports (R95). -/
def State.ringA (s : State) : Nat := s.nat Key.ptpRingPortA
def State.ringB (s : State) : Nat := s.nat Key.ptpRingPortB

/-- The ring port opposite to a port. -/
def State.otherRing (s : State) (n : Nat) : Nat := if n = s.ringA then s.ringB else s.ringA

def State.isRing (s : State) (n : Nat) : Bool := n = s.ringA || n = s.ringB

/-- R95: do the offsets through the ring ports agree? -/
def State.ringAgrees (s : State) : Bool :=
  (s.obj (Key.ptpPortOffset s.ringA) - s.obj (Key.ptpPortOffset s.ringB)).natAbs ≤ s.taken Key.ptpAsymLimit * 65536

/-- The disagreement of the offsets through the ring ports (R95). -/
def State.ringDisagreement (s : State) : Int := s.obj (Key.ptpPortOffset s.ringA) - s.obj (Key.ptpPortOffset s.ringB)

/-- R95: exclude a ring port and steer on the other. -/
def State.excludePort (s : State) (n : Nat) : State :=
  let b := if n = s.ringA then 0 else 1
  let d := s.ringDisagreement
  let s := s.setObj Key.ptpAsymFlag (setBit (s.nat Key.ptpAsymFlag) b true : Nat)
  let s := (s.setPtpPort n { s.ptpPort n with agree := 0 }).withTb fun x => { x with steer := some (s.otherRing n) }
  s.raise 0x2006 1 "AX.TB" (byteOf n :: leBytes 8 (ofSigned 64 d))

/-- R366: the latency trim of a port in units of 2^-16 ns (bytes of the trim record of R462). -/
def State.ethTrim (s : State) (base n : Nat) : Int := tenthsToUnits (leAt (s.dom Key.calTrims) (base + 2 * n) 2)

/-- R93: the offset that an origin time and a receive time yield on a port. -/
def State.portOffset (s : State) (n : Nat) (rx origin : Int) : Int :=
  let asym := if (s.ptpPort n).rerouted then s.obj (Key.ptpAsymTrimReroute n) else s.obj (Key.ptpAsymTrim n)
  rx - origin - s.obj (Key.ptpMeanPathDelay n) - tenthsToUnits asym

/-- R97: count the agreeing offsets of an excluded port. -/
def State.rejoin (s : State) (n : Nat) : State :=
  let b := if n = s.ringA then 0 else 1
  if s.isRing n && (s.nat Key.ptpAsymFlag).testBit b then
    let p := s.ptpPort n
    let c := if s.ringAgrees then p.agree + 1 else 0
    if 16 ≤ c then
      let s := s.setPtpPort n { p with agree := 0 }
      let s := s.setObj Key.ptpAsymFlag (setBit (s.nat Key.ptpAsymFlag) b false : Nat)
      s.withTb fun x => { x with steer := none }
    else s.setPtpPort n { p with agree := c }
  else s

/-- R93: an offset measured through a port. -/
def State.ptpOffset (s : State) (n : Nat) (rx origin : Int) : State :=
  let o := s.portOffset n rx origin
  let s := (s.takeLimits.setObj (Key.ptpPortOffset n) o).rejoin n
  if s.tbSource = 1 ∧ s.steerPort = some n then s.measure o s.syncInterval else s

/-- R95: freeze f and hold over after a path change; step detection restarts after the hold (R90). -/
def State.beginPathHold (s : State) (n : Nat) (change : Int) : State :=
  let s := s.raise 0x2005 1 "AX.TB" (byteOf n :: leBytes 8 (ofSigned 64 change))
  (s.tbGo tbHoldover).withTb fun b => { b with
    pathHold := some (s.cycles + s.taken Key.ptpPathHoldIntervals * s.syncInterval), candidate := none }

/-- R95, R96: the steering port's mean path delay changed beyond PTP_PATH_DELTA. `back`: it is near its value before the first
change again. -/
def State.steeringChange (s : State) (n : Nat) (old change : Int) (back : Bool) : State :=
  let p := { s.ptpPort n with rerouted := (s.ptpPort n).rerouted && !back }
  let alone := !(s.isRing n && s.hears (s.otherRing n))
  let s := if alone then s.raise 0x2007 1 "AX.TB" [byteOf n] else s
  if s.tbState = tbLocked ∨ s.tbState = tbHoldover then
    (s.setPtpPort n { p with
      changed := true, alone := alone && !back, before := if p.rerouted then p.before else old }).beginPathHold n change
  else s.setPtpPort n p

/-- R95: the same of the ring port that is not steered on: without a hold of its own; during a hold it is judged at its end. -/
def State.otherChange (s : State) (n : Nat) : State :=
  if s.tb.pathHold.isSome then s.setPtpPort n { s.ptpPort n with changed := true }
  else if s.ringAgrees then s
  else s.excludePort n

/-- R95, R96: a new mean path delay of a port. -/
def State.ptpDelay (s : State) (n : Nat) (delay : Int) : State :=
  let p := s.ptpPort n
  let old := s.obj (Key.ptpMeanPathDelay n)
  let limit := s.nat Key.ptpPathDelta * 65536
  let s := s.takeLimits.setObj (Key.ptpMeanPathDelay n) delay
  let change := delay - old
  let back := p.rerouted && decide ((delay - p.before).natAbs ≤ limit)
  if !p.delayKnown then s.setPtpPort n { p with delayKnown := true }
  else if s.tbSource ≠ 1 then s
  else if change.natAbs ≤ limit then (if back then s.setPtpPort n { p with rerouted := false } else s)
  else if s.steerPort = some n then s.steeringChange n old change back
  else if s.isRing n && s.hears (s.otherRing n) then s.otherChange n
  else s

/-! Best master selection (R91, R92; the algorithm is that of IEEE 1588-2019, PRESUMED, log 19). -/

/-- The clock's identity: the EUI-64 of its MAC address. -/
def State.clockIdentity (s : State) : Nat :=
  let mac := s.nat Key.dapMgmtMac
  mac / 2 ^ 24 * 2 ^ 40 + 0xFFFE * 2 ^ 24 + mac % 2 ^ 24

/-- What the device announces of itself as a grandmaster. -/
def State.ownDataset (s : State) : PtpDataset :=
  ⟨s.nat Key.ptpPriority1, 248, 0xFE, 0xFFFF, s.nat Key.ptpPriority2, s.clockIdentity, 0⟩

/-- How two data sets compare: is the first better, and does only the topology decide. -/
inductive Rank where
  | better
  | betterTopology
  | worseTopology
  | worse
  deriving DecidableEq, Repr

def ptpQuality (d : PtpDataset) : List Nat :=
  [d.priority1, d.clockClass, d.accuracy, d.variance, d.priority2, d.grandmaster]

/-- The first difference of two lists decides, the lower being better. -/
def lexLess : List Nat → List Nat → Bool
  | a :: r, b :: t => if a = b then lexLess r t else a < b
  | _, _ => false

/-- An Announce heard: receiving port, sender, data. -/
abbrev Heard := Nat × Nat × PtpDataset

/-- Two Announces that `me` hears: of different grandmasters the better one's, of one grandmaster the nearer one. -/
def rank (me : Nat) (a b : Heard) : Rank :=
  let x := a.2.2
  let y := b.2.2
  if x.grandmaster ≠ y.grandmaster then (if lexLess (ptpQuality x) (ptpQuality y) then .better else .worse)
  else if x.steps + 1 < y.steps then .better
  else if y.steps + 1 < x.steps then .worse
  else if x.steps < y.steps then (if me * 65536 ≤ b.2.1 then .better else .betterTopology)
  else if y.steps < x.steps then (if me * 65536 ≤ a.2.1 then .worse else .worseTopology)
  else if a.2.1 ≠ b.2.1 then (if a.2.1 < b.2.1 then .betterTopology else .worseTopology)
  else if a.1 ≤ b.1 then .betterTopology else .worseTopology

def Rank.first : Rank → Bool
  | .better | .betterTopology => true
  | .worse | .worseTopology => false

/-- The Announces heard on enabled ports. -/
def State.heardPorts (s : State) : List Heard :=
  (List.range 4).filterMap fun n =>
    if s.flag (Key.ptpPortEnable n) then (s.ptpPort n).heard.map fun h => (n, h.1, h.2) else none

/-- The state that best master selection gives a port: 2 = slave, 3 = master, 4 = passive. A clock of priority 255 is never selected
(R91). -/
def State.selectedState (s : State) (best : Heard) (n : Nat) : Nat :=
  let own := s.ownDataset
  if own.priority1 < 255 && lexLess (ptpQuality own) (ptpQuality best.2.2) then 3
  else if n = best.1 then 2
  else match s.heardPorts.find? (·.1 = n) with
    | some h => if rank s.clockIdentity best h = .betterTopology then 4 else 3
    | none => 3

/-- R91: select the master and set the states of the enabled ports. -/
def State.selectMaster (s : State) : State :=
  match s.heardPorts with
  | [] => s
  | h :: r =>
    let best := r.foldl (fun a b => if (rank s.clockIdentity a b).first then a else b) h
    ((List.range 4).filter fun n => s.flag (Key.ptpPortEnable n)).foldl
      (fun s n => s.setObj (Key.ptpPortState n) (s.selectedState best n : Nat)) s

/-! PTP messages (R91 to R93, R367). -/

/-- R367: an event message of the engine gets the port's next identifier; its timestamp goes to the firmware while TB_SOURCE is 1, to
the port's queue otherwise. -/
def State.sendEvent (s : State) (n type : Nat) (body : Bytes) : State :=
  let ident := s.nat (Key.nxTsNextId n)
  let s := (s.send (.ptp n type body)).setObj (Key.nxTsNextId n) ((ident + 1) % 65536 : Nat)
  if s.tbSource = 1 then s
  else s.stampTransmit n ident ⟨s.epoch, s.now + s.ethTrim 36 n⟩

/-- The transport in use: profile 2 runs over IEEE 802.3 only (R91). -/
def State.ptpTransport (s : State) : Nat := if s.nat Key.ptpProfile = 2 then 0 else s.nat Key.ptpTransport

/-- R91, R92: does the engine take a message: of its domain, on its transport and its VLAN? -/
def State.ptpTakes (s : State) (n : Nat) (h : PtpHead) : Bool :=
  s.tbSource ≠ 2 && !s.ptpMute && s.flag (Key.ptpPortEnable n) && s.nat (laneKey 3 (.eth n)) = 5 && h.domain = s.nat Key.ptpDomain &&
    h.transport = s.ptpTransport && h.vlan = s.nat Key.ptpVlan

/-- R93: PTP_MESSAGE on port n, received now, while the port is ACTIVE (R164). -/
def ptpReceive (n : Nat) (h : PtpHead) (m : PtpMessage) (s : State) : State :=
  s.whenever (s.ptpTakes n h) fun s =>
    let rx : Int := s.now - s.ethTrim 28 n
    let answer := byteOf (s.nat Key.ptpDomain) :: beBytes 12 (toTime96 rx.toNat) ++ beBytes 10 h.sender
    match m with
    | .oneStepSync origin => s.ptpOffset n rx origin
    | .twoStepSync => s.setPtpPort n { s.ptpPort n with lastSync := ⟨s.epoch, rx⟩, measured := true }
    | .followUp origin =>
      let p := s.ptpPort n
      if p.measured ∧ p.lastSync.epoch = s.epoch then
        (s.setPtpPort n { p with measured := false }).ptpOffset n p.lastSync.t origin
      else s
    | .pathDelay d => s.ptpDelay n d
    | .delayReq => if s.nat Key.ptpProfile = 0 ∧ s.ptpState n = 3 then s.send (.ptp n 9 answer) else s
    | .pdelayReq =>
      if s.nat Key.ptpProfile = 0 then s
      else (s.sendEvent n 3 answer).send (.ptp n 10
        (byteOf (s.nat Key.ptpDomain) :: beBytes 12 (toTime96 (s.now + s.ethTrim 36 n).toNat) ++ beBytes 10 h.sender))
    | .announce d => (s.setPtpPort n { s.ptpPort n with heard := some (h.sender, d) }).selectMaster
    | .management => s

/-- R91: an Announce of a master port: the selected grandmaster's data, or the device's own, and the steps from it. -/
def State.announceBody (s : State) : Bytes :=
  let d := match s.heardPorts.filter fun h => s.ptpState h.1 = 2 with
    | h :: _ => { h.2.2 with steps := h.2.2.steps + 1 }
    | [] => s.ownDataset
  [byteOf (s.nat Key.ptpDomain), byteOf d.priority1, byteOf d.clockClass, byteOf d.accuracy] ++ beBytes 2 d.variance ++
    [byteOf d.priority2] ++ beBytes 8 d.grandmaster ++ beBytes 2 d.steps

/-- R91: a master port sends an Announce, at intervals that the manual leaves to the firmware (log 19). -/
def State.sendAnnounce (s : State) (n : Nat) : State :=
  let (k, s) := s.draw
  if Config.announceDue k then s.send (.ptp n 11 s.announceBody) else s

/-- R91, R92: the messages of one port at an interval: 0x0 Sync and 0x8 Follow_Up, and an Announce where one is due, from a master;
0x1 Delay_Req or 0x2 Pdelay_Req by profile (log 19). -/
def ptpSendPort (s : State) (n : Nat) : State :=
  if s.ptpMute || !s.flag (Key.ptpPortEnable n) || s.nat (laneKey 3 (.eth n)) ≠ 5 then s
  else
    let dom := [byteOf (s.nat Key.ptpDomain)]
    let st := s.ptpState n
    let tx := (s.now + s.ethTrim 36 n).toNat
    let s := if st = 3 then ((s.sendEvent n 0 dom).send (.ptp n 8 (dom ++ beBytes 12 (toTime96 tx)))).sendAnnounce n else s
    if s.nat Key.ptpProfile = 0 then (if st = 2 then s.sendEvent n 1 dom else s)
    else s.sendEvent n 2 dom

/-- R92: the sync and delay request interval ends. The engine runs for every source but 2, which turns it off (DESIGN CHOICE for
sources 0 and 3, log 41). -/
def ptpTransmit (s : State) : State :=
  s.whenever (s.tbSource ≠ 2 && s.syncInterval ≤ s.since s.tb.syncSent) fun s =>
    (List.range 4).foldl ptpSendPort (s.withTb fun b => { b with syncSent := s.cycles })

/-! Meanings of the rows of chapter 03 that are not requests. -/

/-- PTP_MESSAGE (R93). -/
def execPtpMessage (port : Nat) (h : PtpHead) (m : PtpMessage) (s : State) : Res :=
  onUnit (s.part.hasNx && port < 4) (ptpReceive port h m s)

/-- PTP_SYNC_TRANSMIT (R91, R92). -/
def execPtpSyncTransmit (s : State) : Res := onUnit s.part.hasNx (ptpTransmit s)

/-- SOURCE_TIMEOUT (R81). -/
def sourceTimeout (s : State) : State :=
  s.whenever ((s.tbSource = 1 || s.tbSource = 3) && s.sourceSilent) fun s =>
    if s.tbState = tbAcquire ∧ !s.firstDecided then s.tbGo tbFree
    else if s.tbState = tbLocked then s.tbGo tbHoldover
    else if s.tbState = tbDiscont ∧ s.tb.slewing then s.tbGo tbHoldover
    else s

def execSourceTimeout (s : State) : Res := .next (sourceTimeout s)

/-- R95, R96: the path-change hold ends. -/
def pathHoldEnd (s : State) : State :=
  match s.tb.pathHold with
  | none => s
  | some t =>
    if s.cycles < t then s
    else
      let s := s.withTb fun b => { b with pathHold := none }
      match s.steerPort with
      | none => s
      | some n =>
        let p := s.ptpPort n
        let m := s.otherRing n
        let both := p.changed && (s.ptpPort m).changed
        let s := s.setPtpPort n { p with changed := false, alone := false, rerouted := p.rerouted || p.alone }
        let s := if s.isRing m then s.setPtpPort m { s.ptpPort m with changed := false } else s
        if p.alone || !s.isRing n || !s.hears m || s.ringAgrees then s
        else if both then
          (s.setObj Key.ptpAsymFlag (setBit (s.nat Key.ptpAsymFlag) 2 true : Nat)).withTb
            fun b => { b with steer := some s.ringA }
        else s.excludePort n

/-- PATH_HOLD_END (R95, R96). -/
def execPathHoldEnd (s : State) : Res := .next (pathHoldEnd s)

/-- SLEW_END (R85). -/
def slewEnd (s : State) : State :=
  s.whenever (s.tb.slewing && s.tb.slewEnd ≤ s.cycles) fun s =>
    (s.withTb fun b => { b with slewing := false, slewed := true }).servoP

def execSlewEnd (s : State) : Res := .next (slewEnd s)

/-- TB_EXT_WATCHDOG (R94). -/
def tbExtWatchdog (s : State) : State :=
  s.whenever (s.tbSource = 2 && s.tbState = tbLocked &&
    secCycles (s.nat Key.tbExtWatchdog) ≤ s.since (max s.tb.lastRateWrite s.tb.lockedSince)) fun s => s.tbGo tbHoldover

def execTbExtWatchdog (s : State) : Res := .next (tbExtWatchdog s)

/-- TB_OSC_LOST (R105). -/
def tbOscLost (s : State) : State :=
  s.whenever (!s.flag Key.tbOscLost) fun s =>
    let s := ((s.setFlag Key.tbOscLost true).withTb fun b => { b with candidate := none }).raise 0x2008 2 "AX.TB" []
    if s.tbState = tbLocked ∨ s.tbState = tbDiscont then s.tbGo tbHoldover
    else if s.tbState = tbAcquire then s.withTb fun b => { b with samples := [] }
    else s

def execTbOscLost (s : State) : Res := .next (tbOscLost s)

/-- TB_OSC_RESTORED (R105). -/
def tbOscRestored (s : State) : State :=
  s.whenever (s.flag Key.tbOscLost) fun s => (s.setFlag Key.tbOscLost false).raise 0x2009 0 "AX.TB" []

def execTbOscRestored (s : State) : Res := .next (tbOscRestored s)

/-- R106: seconds in the present holdover. -/
def State.holdoverSeconds (s : State) : Nat :=
  if s.tbState = tbHoldover then s.since s.tb.holdSince / secCycles 1 else 0

/-- TB_HOLDOVER_ALARM (R104). -/
def tbHoldoverAlarm (s : State) : State :=
  s.whenever (s.tbState = tbHoldover && !s.tb.holdAlarm && s.nat Key.tbHoldoverAlarm ≤ s.holdoverSeconds) fun s =>
    (s.withTb fun b => { b with holdAlarm := true }).raise 0x200D 1 "AX.TB" (leBytes 4 s.holdoverSeconds)

def execTbHoldoverAlarm (s : State) : Res := .next (tbHoldoverAlarm s)

/-- OSC_RECAL_ADVICE (R471): f above 5 ppm for an hour while LOCKED. -/
def oscRecalAdvice (s : State) : State :=
  s.whenever ((match s.tb.fastSince with
      | some t => decide (secCycles 3600 ≤ s.since t)
      | none => false) &&
    (match s.tb.advised with
      | some t => decide (secCycles 86400 ≤ s.since t)
      | none => true)) fun s =>
    (s.withTb fun b => { b with advised := some s.cycles }).raise 0x8103 1 "AX.TB" (leBytes 8 (ofSigned 64 s.tbFreq))

def execOscRecalAdvice (s : State) : Res := .next (oscRecalAdvice s)

/-- R77: one cycle of the time base clock. -/
def State.tick (s : State) : State := { s with cycles := s.cycles + 1, time := s.time + s.nat Key.tbIncrement }

end Sys2Proof.Machine
end

