-- ==== Sys2Proof/Machine/Lanes.lean ====
section
/-! DEFINITION. Chapter 05: the serial lanes, their states and messages (R131 to R167, R514, R517). What leaving ACTIVE does to
frames and to the trunk's lane acceptance is added in LaneRows.lean, which holds the rows' meanings. -/
namespace Sys2Proof.Machine

/-! LANE objects, by their offset from 0x3000 (R166). -/
def oEnable : Nat := 0x00
def oRate : Nat := 0x01
def oMinRate : Nat := 0x02
def oState : Nat := 0x03
def oRateActive : Nat := 0x04
def oFom : Nat := 0x05
def oTaps : Nat := 0x06
def oRxEq : Nat := 0x07
def oPartner : Nat := 0x08
def oCommand : Nat := 0x09
def oTestMode : Nat := 0x0A
def oPattern : Nat := 0x0B
def oInject : Nat := 0x0C
def oPrbsBits : Nat := 0x0D
def oPrbsErrors : Nat := 0x0E
def oCodeErrors : Nat := 0x0F
def oAlignLoss : Nat := 0x10
def oLosCount : Nat := 0x11
def oTrainCount : Nat := 0x12
def oMsgErrors : Nat := 0x13
def oPartnerErrors : Nat := 0x14

/-! Port states (R152). -/
def lnSeek : Nat := 0
def lnDetect : Nat := 1
def lnAlign : Nat := 2
def lnTrain : Nat := 3
def lnVerify : Nat := 4
def lnActive : Nat := 5
def lnDegraded : Nat := 6
def lnFallback : Nat := 7

/-- Number of a lane in State.lanes. -/
def laneId : Lane → Nat
  | .camera i => i
  | .trunk i => 64 + i
  | .eth i => 80 + i

/-- Is the lane present on the part (R3)? -/
def lanePresent (p : Part) : Lane → Bool
  | .camera i => i < p.ports
  | .trunk i => p.has .trunkLane i
  | .eth i => p.hasNx && i < 4

def State.lane (s : State) (l : Lane) : LaneSt := mapGetD (laneId l) {} s.lanes
def State.updLane (s : State) (l : Lane) (f : LaneSt → LaneSt) : State :=
  { s with lanes := mapSet (laneId l) (f (s.lane l)) s.lanes }

def State.laneNat (s : State) (l : Lane) (off : Nat) : Nat := s.nat (laneKey off l)
def State.setLane (s : State) (l : Lane) (off v : Nat) : State := s.setObj (laneKey off l) v
def State.laneState (s : State) (l : Lane) : Nat := s.laneNat l oState

/-- ACTIVE or ACTIVE-DEGRADED. -/
def State.laneUp (s : State) (l : Lane) : Bool := s.laneState l = lnActive || s.laneState l = lnDegraded

/-- R167: PATH of a lane's events. -/
def lanePath : Lane → String
  | .camera i => pathPort i
  | .trunk _ => "MX.TRK"
  | .eth i => pathEth i

/-- R167: raise an event of a lane; for MX.TRK, DETAIL byte 7 holds the lane instance. -/
def State.laneRaise (s : State) (l : Lane) (cause cls : Nat) (detail : Bytes) : State :=
  let d := match l with
    | .trunk i => overlay (padTo 10 detail) 7 [byteOf i]
    | _ => detail
  s.raise cause cls (lanePath l) d

/-- R166: the power domain of a lane's PHY (R438). -/
def laneDomain : Lane → Nat
  | .camera i => 6 * (i / 6) + (i % 6) / 3
  | .trunk _ => 58
  | .eth _ => 56

/-- R153: move to a state; event 0x3001 on each transition. -/
def State.laneGo (s : State) (l : Lane) (new : Nat) : State :=
  let old := s.laneState l
  if old = new then s
  else
    let s := s.setLane l oState new
    let s := s.updLane l fun x => { x with
      entered := s.cycles, attempt := false, aligned := x.aligned && lnAlign < new }
    let s := if new = lnActive ∨ new = lnDegraded then
        s.updLane l fun x => { x with backoff := 10, low := 0, degradedAt := s.cycles, retrain := none }
      else s
    s.laneRaise l 0x3001 0 [byteOf old, byteOf new, byteOf (s.laneNat l oRateActive)]

/-- R155: a failed attempt: the next one waits for the backoff, which doubles up to 1.28 s. -/
def State.backOff (s : State) (l : Lane) : State :=
  s.updLane l fun x => { x with nextAt := s.cycles + msCycles x.backoff, backoff := min 1280 (2 * x.backoff), attempt := false }

/-- R155: attempts resume at once, with the backoff at 10 ms. -/
def State.attemptsResume (s : State) (l : Lane) : State :=
  s.updLane l fun x => { x with nextAt := s.cycles, backoff := 10 }

/-- R153, R155: enter SEEK; outstanding requests are abandoned. -/
def State.toSeek (s : State) (l : Lane) : State :=
  let up := s.laneUp l
  let s := s.updLane l fun x => { x with req := none, sensor := [], waiting := [], rated := false, preset := false, pattern := false,
                                         tapsAt := none, tested := [], retrain := none, loop_ := false }
  let s := if s.laneState l = lnSeek then s
    else if up then s.attemptsResume l else s.backOff l
  s.laneGo l lnSeek

/-- Messages of a receiving trunk lane leave on TRK_TX0 (R151). -/
def outLane : Lane → Lane
  | .trunk i => if 8 ≤ i then .trunk 0 else .trunk i
  | l => l

/-! Transmission (R133, R136, R137, R143, R151). -/

def State.tx (s : State) (i : Nat) : TxSt := mapGetD i {} s.txs
def State.setTx (s : State) (i : Nat) (x : TxSt) : State := { s with txs := mapSet i x s.txs }

/-- R143, R151: the symbol that starts a message on a lane. -/
def messageStart : Lane → Byte
  | .trunk _ => k282
  | _ => k283

/-- R136, R137: a message leaves a transmit lane at once, after an idle ordered set: a trunk lane not in use (R334). -/
def State.sendAfterIdle (s : State) (l : Lane) (m : List Chr) : State :=
  let x := s.tx (laneId l)
  let g := ({ x with idle := 0 }).idleRun 8
  let c := g.2.run (g.1 ++ m)
  (s.setTx (laneId l) c.2).send (.lane l c.1)

/-- R137, R143, R334, R337: a message towards the partner, on the lane it leaves by. On a back channel, and on a trunk lane in use, it
waits for its turn. -/
def State.sendMessage (s : State) (l : Lane) (type tag : Nat) (payload : Bytes) : State :=
  let m := messageChars (messageStart l) type tag payload
  match outLane l with
  | .trunk i =>
    if i < s.nat Key.trkLanes then { s with trk := { s.trk with training := s.trk.training ++ [(i, m)] } }
    else s.sendAfterIdle (.trunk i) m
  | o => let x := s.tx (laneId o)
    s.setTx (laneId o) { x with queue := x.queue ++ [m] }

/-- R145: cycles until a message queued now on a back channel has left: a character lasts 40 ns. -/
def State.sendTime (s : State) (l : Lane) (payload : Bytes) : Nat :=
  match l with
  | .camera i =>
    let x := s.tx i
    120 * ((x.queue.map fun m => m.length + 8).foldl (· + ·) 0 + x.sending.length + x.idle + 8 + payload.length + 8)
  | _ => 0

/-- R145: send a request under a new TAG, timed from its end. Types 0x02 and 0x03 go to a list of their own. -/
def State.issueRequest (s : State) (l : Lane) (type : Nat) (payload : Bytes) : State :=
  let tag := (s.lane l).nextTag
  let r : LaneReq := ⟨type, tag, payload, 0, s.cycles + s.sendTime l payload⟩
  let s := s.updLane l fun x => { x with nextTag := (tag + 1) % 256 }
  let s := s.updLane l fun x => if type = 2 ∨ type = 3 then { x with sensor := x.sensor ++ [r] } else { x with req := some r }
  let s := if type = 1 then s.bump (laneKey oTrainCount l) else s
  s.sendMessage l type tag payload

/-- R145: may a request of a type be sent now? One is outstanding of types 0x01 and 0x04 to 0x07, and four of 0x02 and 0x03. -/
def LaneSt.mayAsk (x : LaneSt) (type : Nat) : Bool := if type = 2 ∨ type = 3 then x.sensor.length < 4 else x.req.isNone

/-- R145: make a request, which waits where too many are outstanding. -/
def State.laneRequest (s : State) (l : Lane) (type : Nat) (payload : Bytes) : State :=
  if (s.lane l).mayAsk type then s.issueRequest l type payload
  else s.updLane l fun x => { x with waiting := x.waiting ++ [(type, payload)] }

/-- R145: a request is no longer outstanding: the first that waits and may be sent follows. -/
def State.nextRequest (s : State) (l : Lane) : State :=
  let x := s.lane l
  match x.waiting.find? fun w => x.mayAsk w.1 with
  | some w => (s.updLane l fun x => { x with waiting := x.waiting.erase w }).issueRequest l w.1 w.2
  | none => s

/-- Payload byte 2 of a TAP_REQUEST: 0 on camera links, the partner's lane on the trunk (R144). -/
def tapLane : Lane → Nat
  | .trunk i => i - 8
  | _ => 0

/-- R144, R150: request a preset. -/
def State.requestPreset (s : State) (l : Lane) (preset : Nat) : State :=
  s.laneRequest l 1 [0, byteOf preset, byteOf (tapLane l)]

/-- R144, R153: ask for PRBS31 for 1 ms. -/
def State.requestPrbs (s : State) (l : Lane) : State :=
  s.laneRequest l 5 (4 :: beBytes 2 1000)

/-- R147: may a transmitter have these taps? -/
def Taps.legal (t : Taps) : Bool :=
  t.pre ≤ 8 && 16 ≤ t.main && t.main ≤ 40 && t.post ≤ 16 && t.pre + t.main + t.post ≤ 40 && t.pre + t.post + 10 ≤ t.main

/-- R449: the command byte of a single step of one tap from some taps toward others, none where they are reached. -/
def Taps.toward (t g : Taps) : Option Nat :=
  (([(g.post < t.post, { t with post := t.post - 1 }, 32), (g.pre < t.pre, { t with pre := t.pre - 1 }, 2),
    (g.main < t.main, { t with main := t.main - 1 }, 8), (t.main < g.main, { t with main := t.main + 1 }, 4),
    (t.pre < g.pre, { t with pre := t.pre + 1 }, 1), (t.post < g.post, { t with post := t.post + 1 }, 16)] :
      List (Bool × Taps × Nat)).find? fun e => e.1 && e.2.1.legal).map fun e => e.2.2

def Taps.ofNat (x : Nat) : Taps := ⟨field x 23 16, field x 15 8, field x 7 0⟩

/-- R449: the command byte of the step towards the taps that a lane kept, none where it is there, or kept none. -/
def State.stepHome (s : State) (l : Lane) : Option Nat :=
  (s.lane l).goal.bind fun g => (Taps.ofNat (s.laneNat l oTaps)).toward g

/-- R149: the next request of the device's own sequence: a command byte with some step (free: log 14), after those of R449. -/
def State.requestTap (s : State) (l : Lane) : State :=
  match s.stepHome l with
  | some b => s.laneRequest l 1 [byteOf b, 0xFF, byteOf (tapLane l)]
  | none =>
    let (n, s) := s.draw
    let c := 1 + Config.tapChoice n % 26
    let b := c % 3 + 4 * (c / 3 % 3) + 16 * (c / 9 % 3)
    s.laneRequest l 1 [byteOf b, 0xFF, byteOf (tapLane l)]

/-- R449: a lane without power keeps its training results: the next TRAIN begins with them. -/
def State.keepTraining (s : State) (l : Lane) : State :=
  let t := Taps.ofNat (s.laneNat l oTaps)
  s.updLane l fun x => { x with goal := if t = ⟨0, 34, 6⟩ then none else some t }

/-- R449: the training results of a lane are lost. -/
def State.dropTraining (s : State) (l : Lane) : State :=
  [laneKey oTaps l, laneKey oRxEq l, laneKey oFom l].foldl State.resetObj (s.updLane l fun x => { x with goal := none })

/-- R153, R156: enter TRAIN and make the first request; toward kept taps the bridge starts at preset 1 (R449). -/
def State.toTrain (s : State) (l : Lane) : State :=
  let s := if (s.lane l).goal.isSome then s.resetObj (laneKey oTaps l) else s
  let s := s.updLane l fun x => { x with tested := [], tapsAt := none, preset := false, pattern := false, retrain := none,
                                         req := none }
  (s.laneGo l lnTrain).requestTap l

/-- R150, R153: enter VERIFY with the trained taps. -/
def State.toVerify (s : State) (l : Lane) : State :=
  let s := s.updLane l fun x => { x with preset := false, pattern := false, req := none }
  (s.laneGo l lnVerify).requestPrbs l

/-- R150, R153: VERIFY with preset 2, which is requested first. -/
def State.toVerifyPreset (s : State) (l : Lane) : State :=
  let s := s.updLane l fun x => { x with preset := true, pattern := false, req := none }
  (s.laneGo l lnVerify).requestPreset l 2

/-- R159: the figure of merit. -/
def fomOf (h v : Nat) : Nat := (rshift (255 * (min h 64 * min v 128) : Nat) 13).toNat

/-- R158: the equaliser goes on adapting unless it is frozen: a free setting (log 14). -/
def State.adapt (s : State) (l : Lane) : State :=
  if (s.lane l).frozen || s.laneState l < lnAlign || s.laneState l = lnFallback then s
  else
    let (n, s) := s.draw
    s.setLane l oRxEq (Config.equaliser n % 2 ^ 44)

/-- R158: a packet or message start symbol ends a freeze, unless the transition density lies below its floor. -/
def State.startSeen (s : State) (l : Lane) : State :=
  s.updLane l fun x => { x with frozen := x.frozen && x.sparse, lastStart := s.cycles }

/-- Does the lane receive (R166)? -/
def receives : Lane → Bool
  | .trunk i => 8 ≤ i
  | _ => true

def isEth : Lane → Bool
  | .eth _ => true
  | _ => false

def isTrunk : Lane → Bool
  | .trunk _ => true
  | _ => false

/-- Is the lane one of the receiving Cendo lanes, which the port states and messages of chapter 05 concern? -/
def isCendo (l : Lane) : Bool := receives l && !isEth l

/-- May the lane make attempts: in service (R420), enabled, not held, its PHY powered (R153, R155), the trunk enabled (R340)? -/
def State.mayAttempt (s : State) (l : Lane) : Bool :=
  s.boot.held.isNone && !s.boot.outOfService && s.laneNat l oEnable = 1 && (s.lane l).held = 0 && s.domainOn (laneDomain l) && receives l &&
    (!isTrunk l || s.flag Key.trkEnable)

/-- The highest rate code sought (R153, R340). -/
def State.topRate (s : State) (l : Lane) : Nat :=
  if isTrunk l then min (s.laneNat l oRate) (s.nat Key.trkRate) else s.laneNat l oRate

/-- SEEK_ATTEMPT (R155): the attempt begins with LINK_RESET at rate code 0, under TAG 0x00, so that IDENTIFY has TAG 0x01 (log 14). -/
def seekAttempt (l : Lane) (s : State) : State :=
  let x := s.lane l
  s.whenever (isCendo l && s.laneState l = lnSeek && !x.attempt && s.mayAttempt l && x.nextAt ≤ s.cycles) fun s =>
    let s := s.setLane l oRateActive 0
    let s := s.updLane l fun x => { x with attempt := true, attemptAt := s.cycles, rated := false, nextTag := 1 }
    s.sendMessage l 8 0 []

/-- R464: the camera trims that take force when the port enters DETECT. -/
def State.loadCameraTrims (s : State) : Lane → State
  | .camera i =>
    let r := s.dom Key.calTrims
    s.updLane (.camera i) fun x => { x with phase := leAt r (44 + i) 1, slicer := leAt r (92 + i) 1 }
  | _ => s

def State.toDetect (s : State) (l : Lane) : State := (s.loadCameraTrims l).laneGo l lnDetect

/-- TRANSITIONS_DETECTED (R153): for 10 µs, at this density per 1,000 bits. -/
def transitionsDetected (l : Lane) (density : Nat) (s : State) : State :=
  let x := s.lane l
  s.whenever (s.laneState l = lnSeek && x.attempt && s.nat Key.laneTdFloor ≤ density && usCycles 10 ≤ s.since x.attemptAt &&
    s.since x.attemptAt ≤ msCycles 2) fun s => s.toDetect l

/-- ATTEMPT_TIMEOUT (R153, R155). -/
def attemptTimeout (l : Lane) (s : State) : State :=
  let x := s.lane l
  s.whenever (s.laneState l = lnSeek && x.attempt && msCycles 2 ≤ s.since x.attemptAt) fun s => s.backOff l

/-- CLOCK_RECOVERY_LOCK (R153). -/
def clockRecoveryLock (l : Lane) (s : State) : State :=
  s.whenever (s.laneState l = lnDetect && s.since (s.lane l).entered ≤ msCycles 1) fun s => s.laneGo l lnAlign

/-- DETECT_TIMEOUT (R153). -/
def detectTimeout (l : Lane) (s : State) : State :=
  s.whenever (s.laneState l = lnDetect && msCycles 1 ≤ s.since (s.lane l).entered) fun s => s.toSeek l

/-- R134: were the latest 4 commas, by the bit positions at which they were seen, at the same position modulo 10? -/
def fourCommas (l : List Nat) : Bool :=
  4 ≤ l.length && (l.drop (l.length - 4)).all fun p => p % 10 = l.getLastD 0 % 10

/-- SYMBOL_ALIGNMENT (R134, R153): in ALIGN, within 2 ms of its entry: IDENTIFY at rate code 0, or TRAIN at the rate agreed. -/
def symbolAlignment (l : Lane) (commas : List Nat) (s : State) : State :=
  s.whenever (lnAlign ≤ s.laneState l && !(s.lane l).aligned && fourCommas commas) fun s =>
    let s := s.updLane l fun x => { x with aligned := true, recent := [], slip := false }
    if s.laneState l ≠ lnAlign ∨ msCycles 2 < s.since (s.lane l).entered then s
    else if (s.lane l).rated then s.toTrain l else s.laneRequest l 6 []

/-- ALIGN_TIMEOUT (R153): no alignment within 2 ms. -/
def alignTimeout (l : Lane) (s : State) : State :=
  s.whenever (s.laneState l = lnAlign && !((s.lane l).aligned && (s.lane l).req.isSome) && msCycles 2 ≤ s.since (s.lane l).entered)
    fun s => s.toSeek l

/-! Reception (R133 to R135, R141, R142). -/

/-- R134, R135: count the violations of characters received, and note whether eight fall within 64 of them. -/
def State.hear (s : State) (l : Lane) (x : Line) : State :=
  let v := lineViolations (if isTrunk l then trunkKnown else cameraKnown) x
  let n := (v.filter id).length
  let s := if n = 0 then s else s.addTo (laneKey oCodeErrors l) 32 n
  let r := (s.lane l).recent ++ v
  s.updLane l fun x => { x with recent := r.drop (r.length - 63), slip := x.slip || slips r.length r }

/-- R134, R153: the receiver loses alignment where it must; an active port enters ALIGN at its rate. -/
def State.settleLine (s : State) (l : Lane) : State :=
  if !(s.lane l).slip then s
  else
    let s := (s.bump (laneKey oAlignLoss l)).updLane l fun x => { x with aligned := false, recent := [], slip := false }
    if s.laneUp l then
      let s := s.laneRaise l 0x3006 1 []
      (s.updLane l fun x => { x with rated := true, req := none, retrain := none }).laneGo l lnAlign
    else s

/-- What an aligned receiver does with characters: it counts their violations, takes what they carry, and may lose alignment. -/
def State.onLine (s : State) (l : Lane) (x : Line) (f : State → State) : State :=
  s.whenever (s.lane l).aligned fun s => (f (s.hear l x)).settleLine l

/-- ALIGNMENT_LOST (R134, R153): characters outside packets and messages with which the violations reach eight in 64. -/
def alignmentLost (l : Lane) (x : Line) (s : State) : State := s.onLine l x id

/-- The bytes of characters received; where one stands for no data byte, a free value (log 14). -/
def State.readBytes (s : State) (l : List (Option Byte)) : State × Bytes :=
  if l.all Option.isSome then (s, l.filterMap id)
  else
    let (n, s) := s.draw
    (s, (l.zip (List.range l.length)).map fun e => e.1.getD (Config.unreadByte n e.2))

/-- R142, R158: receive a packet or message from its start symbol on; one with a K30.7 in it is counted. -/
def State.receiveLine (s : State) (l : Lane) (start : Byte) (x : Line) : State × Option (Body × Bytes) :=
  match bodyFrom start (rxAll x.positive x.codes) with
  | none => (s, none)
  | some b =>
    let s := s.startSeen l
    let s := if b.partner then s.bump (laneKey oPartnerErrors l) else s
    let r := s.readBytes b.bytes
    (r.1, some (b, r.2))

/-- R144: payload lengths of the messages that have one length. -/
def messageLength (type : Nat) : Nat :=
  match type with
  | 0x01 => 3 | 0x81 => 5 | 0x82 => 1 | 0x83 => 3 | 0x84 => 1 | 0x85 => 3 | 0x86 => 10 | 0x87 => 1 | 0xFF => 1
  | _ => 0

/-- R143 to R145: take a message: one that fails its CRC-32, or states more than 64 bytes, is discarded and counted; `f` has the TYPE, TAG
and payload of any other. -/
def State.takeMessage (s : State) (l : Lane) (x : Line) (f : Nat → Nat → Bytes → State → State) : State :=
  s.onLine l x fun s =>
    match s.receiveLine l (messageStart l) x with
    | (s, none) => s
    | (s, some (_, b)) =>
      let n := beAt b 2 1
      if 64 < n || !crcHolds (3 + n) b then s.bump (laneKey oMsgErrors l) else f (beAt b 0 1) (beAt b 1 1) (slice b 3 n) s

/-- R144: take a message of one TYPE and its length; another is no such event. -/
def State.onMessage (s : State) (l : Lane) (x : Line) (type : Nat) (f : Nat → Bytes → State → State) : State :=
  s.takeMessage l x fun t tag p s => if t = type ∧ p.length = messageLength type then f tag p s else s

/-- LOSS_OF_SIGNAL (R154). -/
def lossOfSignal (l : Lane) (s : State) : State :=
  s.whenever (s.laneState l ≠ lnSeek) fun s =>
    let s := s.bump (laneKey oLosCount l)
    let s := s.laneRaise l 0x3007 1 [byteOf (s.laneState l)]
    s.toSeek l

/-- R514: a request of type 0x01 or 0x04 to 0x07 has failed. -/
def requestFailed (l : Lane) (type : Nat) (s : State) : State :=
  let s := s.updLane l fun x => { x with req := none }
  let s := s.laneRaise l 0x3004 2 [byteOf type]
  let st := s.laneState l
  if st = lnAlign ∨ st = lnTrain ∨ st = lnVerify ∨ st = lnFallback then s.toSeek l else s.nextRequest l

/-- R145: resend a request with its TAG, counted as a retry. -/
def State.resend (s : State) (l : Lane) (r : LaneReq) : State :=
  let s := s.bump (laneKey oMsgErrors l)
  let s := if r.type = 1 then s.bump (laneKey oTrainCount l) else s
  s.sendMessage l r.type r.tag r.payload

/-- The outstanding request with a tag among the two kinds (R145). -/
def LaneSt.outstanding (x : LaneSt) (tag : Nat) : Option LaneReq :=
  match x.req with
  | some r => if r.tag = tag then some r else x.sensor.find? (·.tag = tag)
  | none => x.sensor.find? (·.tag = tag)

/-- MESSAGE_RESPONSE_TIMEOUT (R145, R514): retry, or fail after the third retry. A failed SENSOR_WRITE is Exposure's. -/
def messageTimeout (l : Lane) (tag : Nat) (s : State) : State :=
  match (s.lane l).outstanding tag with
  | none => s
  | some r =>
    if s.since r.sent < msCycles 2 then s
    else if r.retries < 3 then
      let up := fun (q : LaneReq) => if q.tag = tag ∧ q.type = r.type then { q with retries := q.retries + 1, sent := s.cycles + s.sendTime l r.payload } else q
      (s.updLane l fun x => { x with req := x.req.map up, sensor := x.sensor.map up }).resend l r
    else if r.type = 2 ∨ r.type = 3 then
      (s.updLane l fun x => { x with sensor := x.sensor.filter (·.tag ≠ tag) }).nextRequest l
    else requestFailed l r.type s

/-- Does an answer match the outstanding request of a type? Then it is no longer outstanding. -/
def State.answers (s : State) (l : Lane) (type tag : Nat) : Bool :=
  match (s.lane l).req with
  | some r => r.type = type && r.tag = tag
  | none => false

def State.clearReq (s : State) (l : Lane) : State := (s.updLane l fun x => { x with req := none }).nextRequest l

/-- R148: did no tap change (results 1 to 3 on each)? -/
def tapsHeld (p : Bytes) : Bool :=
  let r := beAt p 0 1
  r % 4 ≠ 0 && r / 4 % 4 ≠ 0 && r / 16 % 4 ≠ 0

/-- TAP_STATUS (R148, R149, R153): whatever became of each tap, the taps as they are now. -/
def tapStatus (l : Lane) (tag : Nat) (p : Bytes) (s : State) : State :=
  s.whenever (s.answers l 1 tag) fun s =>
    let s := (s.clearReq l).setLane l oTaps (beAt p 1 3)
    if s.laneState l = lnTrain then
      if (s.stepHome l).isSome && !tapsHeld p then s.requestTap l
      else s.updLane l fun x => { x with tapsAt := some s.cycles, goal := none }
    else if s.laneState l = lnVerify ∧ (s.lane l).preset then s.requestPrbs l
    else s

/-- Highest rate code that a partner's rates byte and LANE_RATE allow (R153). -/
def bestRate (rates top : Nat) : Nat :=
  if 2 ≤ top ∧ rates.testBit 2 then 2 else if 1 ≤ top ∧ rates.testBit 1 then 1 else 0

/-- IDENTITY (R144, R153). -/
def identity (l : Lane) (tag : Nat) (p : Bytes) (s : State) : State :=
  s.whenever (s.answers l 6 tag) fun s =>
    let s := s.clearReq l
    let s := s.setLane l oPartner (beAt p 0 8)
    let s := s.updLane l fun x => { x with latency := beAt p 8 2 }
    if s.laneState l = lnAlign then s.laneRequest l 7 [byteOf (bestRate (beAt p 6 1) (s.topRate l))] else s

/-- First payload byte of the request outstanding: what its answer echoes (R144). -/
def State.asked (s : State) (l : Lane) : Nat := ((s.lane l).req.map fun r => beAt r.payload 0 1).getD 0

/-- RATE_ACK (R153): DETECT at the rate that was asked for. -/
def rateAck (l : Lane) (tag : Nat) (s : State) : State :=
  s.whenever (s.answers l 7 tag) fun s =>
    let code := s.asked l
    let s := s.clearReq l
    if s.laneState l = lnAlign ∨ s.laneState l = lnFallback then
      ((s.setLane l oRateActive code).updLane l fun x => { x with rated := true }).toDetect l
    else s

/-- R160 to R162: start, or stop, a camera port's pattern generator. -/
def State.startGen (s : State) (port : Nat) : State :=
  { s with gens := mapSet port (Gen.start (s.laneNat (.camera port) oPattern)) s.gens }
/-- R133: after a raw pattern the running disparity is negative again. -/
def State.stopGen (s : State) (port : Nat) : State :=
  let s := { s with gens := mapDel port s.gens }
  if (mapGet port s.txs).isSome then s.setTx port { s.tx port with positive := false } else s

/-- LOOP_ACK (R144, R162): with the far-end loop on, the pattern of mode 4 starts. -/
def loopAck (l : Lane) (tag : Nat) (s : State) : State :=
  s.whenever (s.answers l 4 tag) fun s =>
    let on := s.asked l = 1
    let s := (s.clearReq l).updLane l fun x => { x with loop_ := on }
    match l with
    | .camera i => if on && s.laneNat l oTestMode = 4 then s.startGen i else s
    | _ => s

/-- PRBS_ACK (R144, R153): the pattern asked for starts; VERIFY is timed from here, for the 1 ms asked for. -/
def prbsAck (l : Lane) (tag : Nat) (s : State) : State :=
  s.whenever (s.answers l 5 tag) fun s =>
    let on := s.asked l ≠ 0
    (s.clearReq l).updLane l fun x => { x with pattern := on, entered := if s.laneState l = lnVerify then s.cycles else x.entered }

/-- REFUSED (R145): counted, with event 0x3008; the request is answered. A refused SENSOR_WRITE is Exposure's. -/
def refusedAnswer (l : Lane) (tag type : Nat) (s : State) : State :=
  match (s.lane l).outstanding tag with
  | none => s
  | some r =>
    if r.type = type then
      let s := s.bump (laneKey oMsgErrors l)
      let s := s.updLane l fun x =>
        { x with req := x.req.filter (·.tag ≠ tag), sensor := x.sensor.filter (·.tag ≠ tag) }
      (s.laneRaise l 0x3008 1 [byteOf type]).nextRequest l
    else s

/-- The legal taps one single step of one tap away (R149). -/
def Taps.neighbours (t : Taps) : List Taps :=
  ([{ t with pre := t.pre + 1 }, { t with main := t.main + 1 }, { t with post := t.post + 1 },
    { t with main := t.main - 1 }] ++
   (if t.pre = 0 then [] else [{ t with pre := t.pre - 1 }]) ++
   (if t.post = 0 then [] else [{ t with post := t.post - 1 }])).filter Taps.legal

/-- The latest figure of merit seen at some taps. -/
def fomAt (t : Taps) (l : List (Taps × Nat)) : Option Nat := (l.find? fun e => e.1 = t).map (·.2)

/-- R149: no single step of one tap raises the figure of merit by 2 or more. -/
def converged (t : Taps) (f : Nat) (l : List (Taps × Nat)) : Bool :=
  t.neighbours.all fun u => match fomAt u l with
    | some g => g < f + 2
    | none => false

/-- TRAINING_EVALUATION (R149, R150). -/
def trainingEvaluation (l : Lane) (h v : Nat) (s : State) : State :=
  match (s.lane l).tapsAt with
  | none => s
  | some t0 =>
    if s.laneState l = lnTrain ∧ usCycles 150 ≤ s.since t0 then
      let f := fomOf h v
      let t := Taps.ofNat (s.laneNat l oTaps)
      let s := (s.setLane l oFom f).adapt l
      let s := s.updLane l fun x => { x with tapsAt := none, tested := (t, f) :: x.tested }
      if converged t f (s.lane l).tested then s.toVerify l else s.requestTap l
    else s

/-- TRAINING_BUDGET_EXPIRY (R150). -/
def trainingBudgetExpiry (l : Lane) (s : State) : State :=
  s.whenever (s.laneState l = lnTrain && msCycles 500 ≤ s.since (s.lane l).entered) fun s =>
    (s.laneRaise l 0x3002 1 [byteOf (s.laneNat l oFom)]).toVerifyPreset l

/-- R131, R153: bits of a millisecond at a lane's rate in use. -/
def State.millisecondBits (s : State) (l : Lane) : Nat :=
  (if isTrunk l then 3125000 else 1562500) * 2 ^ s.laneNat l oRateActive

/-- VERIFY_END (R153, R160): the bits of the millisecond and its errors are counted. -/
def verifyEnd (l : Lane) (errors h v : Nat) (s : State) : State :=
  let x := s.lane l
  s.whenever (s.laneState l = lnVerify && x.pattern && msCycles 1 ≤ s.since x.entered) fun s =>
    let f := fomOf h v
    let s := (s.addTo (laneKey oPrbsBits l) 64 (s.millisecondBits l)).addTo (laneKey oPrbsErrors l) 64 errors
    let s := s.setLane l oFom f
    let ok := errors ≤ s.nat Key.laneVerifyMaxErrors ∧ s.nat Key.laneFomFloor ≤ f
    let rate := s.laneNat l oRateActive
    if ok then s.laneGo l (if x.preset then lnDegraded else lnActive)
    else if !x.preset then s.toVerifyPreset l
    else if !isTrunk l && s.laneNat l oMinRate < rate then
      let s := s.laneRaise l 0x3003 1 [byteOf (rate - 1)]
      (s.laneGo l lnFallback).laneRequest l 7 [byteOf (rate - 1)]
    else s.toSeek l

/-- R156: a retrain request; one made while one is deferred adds nothing. -/
def State.requestRetrain (s : State) (l : Lane) : State :=
  if (s.lane l).retrain.isSome then s else s.updLane l fun x => { x with retrain := some s.cycles }

/-- Is a lane's receiver on (R152, R162): in an attempt, in every state but SEEK, and in the tests that hold the port? -/
def State.receiverOn (s : State) (l : Lane) : Bool :=
  s.laneState l ≠ lnSeek || (s.lane l).attempt || 2 ≤ s.laneNat l oTestMode

/-- FOM_EVALUATION (R156, R158, R159), with the ten evaluations after a supply dip (R452). `density`: transitions per 1,000 bits over the
last 1,024 characters. An Ethernet lane has no training to ask for (R164). -/
def fomEvaluation (l : Lane) (h v density : Nat) (s : State) : State :=
  s.whenever (s.receiverOn l) fun s =>
  let f := fomOf h v
  let sparse := density < s.nat Key.laneTdFloor
  let s := s.updLane l fun x => { x with sparse := sparse, frozen := x.frozen || (sparse && lnAlign ≤ s.laneState l) }
  let s := (s.setLane l oFom f).adapt l
  let below := f < s.nat Key.laneFomFloor
  let x := s.lane l
  let low := if below ∧ s.laneState l = lnActive then x.low + 1 else 0
  let dipLow := if below then x.dipLow + 1 else x.dipLow
  let ask := low = 10 ∨ (x.dipEvals = 1 ∧ dipLow = 10 ∧ s.laneUp l)
  let s := s.updLane l fun x => { x with
    low := if low = 10 then 0 else low, dipEvals := x.dipEvals - 1, dipLow := if x.dipEvals ≤ 1 then 0 else dipLow }
  if ask ∧ !isEth l ∧ (s.lane l).retrain.isNone then (s.laneRaise l 0x3005 1 [byteOf f]).requestRetrain l else s

/-- RETRAIN_DEFERRAL_TIMEOUT (R156). -/
def retrainDeferralTimeout (l : Lane) (s : State) : State :=
  match (s.lane l).retrain with
  | some t => if s.laneUp l ∧ msCycles 100 ≤ s.since t then s.toTrain l else s
  | none => s

/-- R156: the next FE packet lets a deferred retrain start. -/
def retrainAtFe (l : Lane) (s : State) : State :=
  if (s.lane l).retrain.isSome && s.laneUp l then s.toTrain l else s

/-- LANE_DEGRADED_RETRY (R156). -/
def laneDegradedRetry (l : Lane) (s : State) : State :=
  let n := s.nat Key.laneDegradedRetry
  s.whenever (s.laneState l = lnDegraded && n ≠ 0 && secCycles n ≤ s.since (s.lane l).degradedAt) fun s =>
    (s.updLane l fun x => { x with degradedAt := s.cycles }).requestRetrain l

/-- LANE_COMMAND 1 (R157). -/
def laneRetrain (l : Lane) : Effect := fun s =>
  let st := s.laneState l
  if !receives l || isEth l || st = lnSeek || st = lnDetect || st = lnFallback then .error abState
  else if s.laneUp l then .ok (s.requestRetrain l)
  else .ok s

/-- The counters of a lane (R166). -/
def laneCounters : List Nat :=
  [oPrbsBits, oPrbsErrors, oCodeErrors, oAlignLoss, oLosCount, oTrainCount, oMsgErrors, oPartnerErrors]

def State.clearLaneCounters (s : State) (l : Lane) : State :=
  laneCounters.foldl (fun st o => st.resetObj (laneKey o l)) s

/-- R157: the lane's part of a port reset. -/
def State.laneReset (s : State) (l : Lane) : State :=
  let up := s.laneUp l
  let s := (s.toSeek l).clearLaneCounters l
  s.updLane l fun x => { x with backoff := 10, attempt := false, nextAt := if up then s.cycles else s.cycles + msCycles 10 }

/-- LANE_ENABLE is written (R153, R155). -/
def laneEnable (l : Lane) (value : Nat) (s : State) : State :=
  let s := s.setLane l oEnable value
  if value = 0 then (s.toSeek l).updLane l fun x => { x with attempt := false }
  else s.attemptsResume l

/-- R181: the pipeline that a camera port feeds by its live CAP_PIPE. -/
def State.feeds (s : State) (port : Nat) : Option Nat :=
  let c := s.liveNat (Key.capPipe port)
  if c = 0xFF then none else some (3 * (port / 6) + c)

/-- R160: the pattern that a lane's checker seeks: that of a test in progress, or PRBS31 in VERIFY, 0 = none. -/
def State.checkerPattern (s : State) (l : Lane) : Nat :=
  if s.laneNat l oTestMode ≠ 0 then s.laneNat l oPattern
  else if s.laneState l = lnVerify && (s.lane l).pattern then 4 else 0

/-- R160: bits that a locked checker has checked: the lane's rate, per 3 × 10^9 cycles. -/
def State.lockedBits (s : State) (l : Lane) : Nat :=
  match (s.lane l).locked with
  | some t => s.since t * (s.millisecondBits l / 100) / 30000
  | none => 0

/-- R160: a checker that is stopped while locked has counted its bits, and errors that no command states: a free value (log 14). -/
def State.countLocked (s : State) (l : Lane) : State :=
  if (s.lane l).locked.isNone then s
  else
    let bits := s.lockedBits l
    let (n, s) := s.draw
    (s.addTo (laneKey oPrbsBits l) 64 bits).addTo (laneKey oPrbsErrors l) 64 (min bits (Config.prbsErrors n))

/-- R160, R162: the test in progress ends: the checker, the generator, and what the bridge was asked for. -/
def State.testEnds (s : State) (l : Lane) (old : Nat) : State :=
  let s := (s.countLocked l).updLane l fun x => { x with locked := none }
  let s := match l with
    | .camera i => if (mapGet i s.gens).isSome then s.stopGen i else s
    | _ => s
  if isEth l then s
  else if old = 1 then s.laneRequest l 5 [0, 0, 0]
  else if old = 4 then s.laneRequest l 4 [0] else s

/-- LANE_TEST_MODE is written (R162, R163). -/
def laneTestMode (l : Lane) (value : Nat) : Effect := fun s =>
  let fed := match l with
    | .camera i => (s.feeds i).isSome
    | _ => false
  let noLoop := value = 4 && !(s.laneNat l oPartner).testBit 0
  if value ≠ 0 && (fed || noLoop) then .error abState
  else
    let old := s.laneNat l oTestMode
    let s := (s.testEnds l old).setLane l oTestMode value
    if value = 0 then
      .ok ((s.updLane l fun x => { x with held := setBit x.held 0 false }).attemptsResume l)
    else if value = 1 then
      let s := if (s.lane l).held.testBit 0 then (s.updLane l fun x => { x with held := setBit x.held 0 false }).attemptsResume l else s
      .ok (if isEth l then s else s.laneRequest l 5 (byteOf (s.laneNat l oPattern) :: [0, 0]))
    else
      let s := (s.toSeek l).updLane l fun x => { x with held := setBit x.held 0 true, attempt := false }
      match l with
      | .camera i => .ok (if value = 4 then s.laneRequest l 4 [1] else s.startGen i)
      | .trunk _ => .ok (if value = 4 then s.laneRequest l 4 [1] else s)
      | .eth _ => .ok s

/-- PRBS_LOCK (R160): 64 consecutive bits follow the pattern's polynomial, each from the bits before it. -/
def prbsLock (l : Lane) (bits : List Bool) (s : State) : State :=
  let p := s.checkerPattern l
  s.whenever ((s.lane l).locked.isNone && p ≠ 0 && bits.length = (patternTaps p).1 + 64 && followsPattern p bits) fun s =>
    s.updLane l fun x => { x with locked := some s.cycles }

/-- PRBS_LOCK_LOST (R160): 64 errors within 1,024 bits, of which `window` marks the wrong ones; the bits and errors counted while locked. -/
def prbsLockLost (l : Lane) (bits errors : Nat) (window : List Bool) (s : State) : State :=
  s.whenever ((s.lane l).locked.isSome && window.length ≤ 1024 && 64 ≤ (window.filter id).length) fun s =>
    let s := (s.addTo (laneKey oPrbsBits l) 64 bits).addTo (laneKey oPrbsErrors l) 64 errors
    (s.updLane l fun x => { x with locked := none }).laneRaise l 0x3009 1 (leBytes 4 errors)

/-- LANE_IDLE_FREEZE (R158): from ALIGN onward, after LANE_IDLE_FREEZE without a start symbol. -/
def laneIdleFreeze (l : Lane) (s : State) : State :=
  s.whenever (lnAlign ≤ s.laneState l && s.laneState l ≤ lnDegraded &&
      usCycles (s.nat Key.laneIdleFreeze) ≤ s.since (s.lane l).lastStart) fun s =>
    s.updLane l fun x => { x with frozen := true }

/-- R163, R440, R468: hold a lane in SEEK without attempts, or let it go with a 10 ms backoff. -/
def State.holdLane (s : State) (l : Lane) (b : Nat) : State :=
  (s.toSeek l).updLane l fun x => { x with held := setBit x.held b true, attempt := false }

def State.freeLane (s : State) (l : Lane) (b : Nat) : State :=
  (s.updLane l fun x => { x with held := setBit x.held b false }).attemptsResume l

/-! The back channels (R119, R131, R136, R517): one character in each slot of 40 ns, 120 cycles. -/

/-- A slot, and the phase of the grid, in 2^-16 cycles. -/
def slotLength : Nat := 120 * 65536
def gridPhase : Nat := Config.slotPhase % slotLength

/-- R517: an instant of the present epoch on the scale of cycles, in 2^-16 cycles. -/
def State.cyclePoint (s : State) (t : Int) : Int :=
  (s.cycles * 65536 : Nat) - ((s.time : Int) - t * (2 ^ 32 : Nat)) * 65536 / max 1 (s.obj Key.tbIncrement)

/-- R517: slot and fine delay of a trigger launched at a point of that scale. -/
def triggerPlace (p : Int) : Nat × Nat :=
  let x := (p - gridPhase).toNat
  let fine := (8 * (x % slotLength) + 3 * 65536) / (6 * 65536)
  if fine = 160 then (x / slotLength + 1, 0) else (x / slotLength, fine)

/-- R119, R517: place a trigger pair for a launch instant. -/
def State.launchTrigger (s : State) (port : Nat) (act : Instant) : State :=
  let t : Int := match s.due act with
    | .at_ t => t
    | _ => s.now
  let x := s.tx port
  s.setTx port { x with triggers := x.triggers ++ [triggerPlace (s.cyclePoint t)] }

/-- Slots that have ended by a cycle. -/
def slotsBy (cycle : Nat) : Nat := (cycle * 65536 - gridPhase) / slotLength

/-- Does a camera port send on its back channel (R155)? -/
def State.backChannelOn (s : State) (i : Nat) : Bool :=
  s.boot.held.isNone && s.boot.mode = 0 && s.laneNat (.camera i) oEnable = 1 && s.domainOn (laneDomain (.camera i))

/-- R161: the one event of MODE 0 has left: ENABLE clears. -/
def State.injectClears (s : State) (port : Nat) (g : Gen) : State :=
  let l : Lane := .camera port
  if g.done (s.laneNat l oInject) then s.setLane l oInject (s.laneNat l oInject - 2 ^ 31) else s

/-- What a port's back channel sends in slot n: the pattern of the far-end loop (R162), or the next character. -/
def State.sendSlot (n : Nat) (s : State) (i : Nat) : State :=
  if !s.backChannelOn i then { s with txs := mapDel i s.txs }
  else
    let l : Lane := .camera i
    match mapGet i s.gens, s.laneNat l oTestMode with
    | some g, 4 =>
      let b := g.bits (s.laneNat l oInject) 10
      (({ s with gens := mapSet i b.2 s.gens }).injectClears i b.2).send (.lane l [bitsNat b.1])
    | _, _ =>
      let x := (s.tx i).nextChr n
      let c := x.2.put x.1
      (s.setTx i c.2).send (.lane l [c.1])

/-- R131: bits that a generator at the forward rate sends in a cycle. -/
def forwardBits (rate cycle : Nat) : Nat := (cycle + 1) * 25 * 2 ^ rate / 48 - cycle * 25 * 2 ^ rate / 48

/-- R162: the generators of the near-end loops in one cycle: that of the serial loop leaves the test transmitter, too. -/
def State.runGen (s : State) (i : Nat) : State :=
  let l : Lane := .camera i
  match mapGet i s.gens with
  | none => s
  | some g =>
    let mode := s.laneNat l oTestMode
    if mode = 4 then s
    else
      let b := g.bits (s.laneNat l oInject) (forwardBits (s.laneNat l oRateActive) s.cycles)
      let s := ({ s with gens := mapSet i b.2 s.gens }).injectClears i b.2
      if mode = 2 && !b.1.isEmpty then s.send (.test i b.1) else s

/-- The back channels and generators over one cycle: only they, what they send and an ENABLE that clears change. -/
def State.transmitCycle (s : State) : State :=
  let t := (s.gens.map (·.1)).foldl State.runGen s
  let t := if slotsBy (s.cycles - 1) < slotsBy s.cycles then (List.range s.part.ports).foldl (State.sendSlot (slotsBy s.cycles - 1)) t
    else t
  { s with txs := t.txs, gens := t.gens, out := t.out, dict := t.dict }

end Sys2Proof.Machine
end

