-- ==== Sys2Proof/Machine/Commits.lean ====
section
/-! DEFINITION. Chapter 07: shadow and live sets, pending commits, and what a hand-over takes (R195 to R214). -/
namespace Sys2Proof.Machine

/-- R195, R196: the scope of a shadowed entry and the target whose instance it is, none for scope-wide entries. -/
def setOf (key : Nat) : Option (Nat × Option Nat) :=
  let index := key / 256
  let i := key % 256 - 1
  if 0x4000 ≤ index ∧ index ≤ 0x4010 then some (0x40, some i)
  else if 0x5000 ≤ index ∧ index ≤ 0x5011 then some (0x50, some (i / 2))
  else if 0x5100 ≤ index ∧ index ≤ 0x510B then some (0x50, some i)
  else if 0x5200 ≤ index ∧ index ≤ 0x5205 then some (0x50, some ((index % 2 * 255 + i) / 20))
  else if 0x6000 ≤ index ∧ index ≤ 0x6006 then some (0x60, some (960 + i))
  else if index = 0x6010 ∨ index = 0x6011 then some (0x60, none)
  else if 0x6020 ≤ index ∧ index ≤ 0x603C then some (0x60, some (index % 8 * 255 + i))
  else none

/-- Entries of a target's own instance. -/
def ownKey (scope unit key : Nat) : Bool := setOf key == some (scope, some unit)

/-- Scope-wide entries of scope 0x60 (R282). -/
def wideEntry (key : Nat) : Bool := setOf key == some (0x60, none)

/-- The entries of the dictionary that a test picks, with their content. -/
def State.pick (s : State) (p : Nat → Bool) : LiveSet := ⟨mapKeep p s.dict, mapKeep p s.doms⟩

/-- R198: live copies of the entries a test picks become equal to their shadows. -/
def State.makeLive (s : State) (p : Nat → Bool) : State :=
  let keep := fun k => !(0x80000 ≤ k && p (k - 0x80000))
  { s with
    dict := (mapKeep p s.dict).foldl (fun m e => mapSet (liveKey e.1) e.2 m) (mapKeep keep s.dict),
    doms := (mapKeep p s.doms).foldl (fun m e => mapSet (liveKey e.1) e.2 m) (mapKeep keep s.doms) }

/-- R210: shadow copies of the entries a test picks become equal to their live copies. -/
def State.makeShadow (s : State) (p : Nat → Bool) : State :=
  let live := fun k => 0x80000 ≤ k && p (k - 0x80000)
  { s with
    dict := (mapKeep live s.dict).foldl (fun m e => mapSet (e.1 - 0x80000) e.2 m) (mapKeep (fun k => !p k) s.dict),
    doms := (mapKeep live s.doms).foldl (fun m e => mapSet (e.1 - 0x80000) e.2 m) (mapKeep (fun k => !p k) s.doms) }

/-- A number of a live set (by shadow key). -/
def LiveSet.num (l : LiveSet) (p : Part) (key : Nat) : Int := (mapGet key l.nums).getD (defaultNum p key)

/-- A DOMAIN content of a live set. -/
def LiveSet.dom (l : LiveSet) (key : Nat) : Bytes :=
  match mapGet key l.doms with
  | some b => b
  | none => defaultDom key

/-- The newest live set of a target, by shadow key. -/
def State.liveSet (s : State) (p : Nat → Bool) : LiveSet :=
  ⟨(mapKeep (fun k => 0x80000 ≤ k && p (k - 0x80000)) s.dict).map fun e => (e.1 - 0x80000, e.2),
   (mapKeep (fun k => 0x80000 ≤ k && p (k - 0x80000)) s.doms).map fun e => (e.1 - 0x80000, e.2)⟩

/-- The context of an input, by its object instance (R216). -/
def State.input (s : State) (inst : Nat) : InputSt := mapGetD inst {} s.inputs
def State.updInput (s : State) (inst : Nat) (f : InputSt → InputSt) : State :=
  { s with inputs := mapSet inst (f (s.input inst)) s.inputs }

def State.pipe (s : State) (p : Nat) : PipeSt := mapGetD p {} s.pipes
def State.updPipe (s : State) (p : Nat) (f : PipeSt → PipeSt) : State := { s with pipes := mapSet p (f (s.pipe p)) s.pipes }

/-- R197: the older set that input k of a pipeline still processes with. -/
def PipeSt.olderSet (x : PipeSt) (k : Nat) : Option LiveSet :=
  match x.lag with
  | some (i, l) => if i = k then some l else none
  | none => none

/-- R197, R183: the live value that input k of a pipeline works with. -/
def State.inLive (s : State) (pipe k key : Nat) : Int :=
  match (s.pipe pipe).olderSet k with
  | some l => l.num s.part key
  | none => s.live key

def State.inLiveDom (s : State) (pipe k key : Nat) : Bytes :=
  match (s.pipe pipe).olderSet k with
  | some l => l.dom key
  | none => s.dom (liveKey key)

/-- Key under which Machine.wide holds the scope-wide set that was live after the boot. -/
def wideBoot : Nat := 1024

/-- R196: the scope-wide entries as view v last took them. -/
def State.wideOf (s : State) (stream : Nat) : LiveSet :=
  match mapGet stream s.wide with
  | some l => l
  | none => mapGetD wideBoot {} s.wide

/-! Ports and pipelines. -/

/-- R181: the device-wide pipeline that a port feeds in a set, from CAP_PIPE. -/
def pipeOf (port : Nat) (v : Int) : Option Nat := if v = 255 then none else some (3 * (port / 6) + v.toNat)

def State.livePipe (s : State) (port : Nat) : Option Nat := pipeOf port (s.live (Key.capPipe port))

/-- Frames of a port that are accepted and not closed at the pipeline, oldest first. -/
def State.portFrames (s : State) (port : Nat) : List Frame := s.frames.filter fun f => f.port = port && !f.closed

/-- R197: the ports that feed a pipeline, rising: input 0 is the first. A port with frames still on their way counts. -/
def State.feeders (s : State) (pipe : Nat) : List Nat :=
  ((List.range 6).map (6 * (pipe / 3) + ·)).filter fun i =>
    s.livePipe i = some pipe || s.frames.any fun f => f.port = i && f.pipe = some pipe && !f.closed && !f.synthetic

/-- The input of a pipeline that a port is. -/
def State.inputOf (s : State) (pipe port : Nat) : Nat := if (s.feeders pipe).head? = some port then 0 else 1

/-- R197, R479: the input that a frame enters; an injected one enters input 0. -/
def State.inputFor (s : State) (pipe : Nat) (f : Frame) : Nat := if f.synthetic then 0 else s.inputOf pipe f.port

def State.isShared (s : State) (pipe : Nat) : Bool := 1 < (s.feeders pipe).length

/-- R438: the power domain of a pipeline. -/
def pipeDomain (pipe : Nat) : Nat := 6 * (pipe / 3) + 2 + pipe % 3

/-- R280: ENGINE of WARP_VIEW_CTRL. -/
def ctrlEngine (c : Nat) : Nat := field c 29 28

/-- R515: the power domains of a scope 0x60 target. -/
def State.streamDomains (s : State) (stream : Nat) : List Nat :=
  [if stream < 960 then pipeDomain (stream / 40) else 48 + ctrlEngine (s.liveNat (Key.warpViewCtrl (stream - 960))), 54]

/-! Pending commits. -/

/-- Does a commit still have the target? -/
def Commit.names (c : Commit) (scope unit : Nat) : Bool := c.scope = scope && c.targets.any (·.unit = unit)

/-- R202: the commit pending or waiting at a target. -/
def State.commitAt (s : State) (scope unit : Nat) : Option Commit := s.commits.pending.find? (·.names scope unit)

/-- R202: is any commit of the scope pending or waiting? -/
def State.scopePending (s : State) (scope : Nat) : Bool := s.commits.pending.any (·.scope = scope)

/-- R202: may the entry be written? -/
def State.shadowLocked (s : State) (key : Nat) : Bool :=
  match setOf key with
  | some (scope, some unit) => (s.commitAt scope unit).isSome
  | some (scope, none) => s.scopePending scope
  | none => false

/-- R213: the PENDING form of a target. -/
def State.pendingForm (s : State) (scope unit : Nat) : Nat :=
  match s.commitAt scope unit with
  | none => 0
  | some c =>
    let d := (c.targets.find? (·.unit = unit)).any (·.deferred)
    c.ticket * 65536 +
      (if s.sup.dip && d then 5 else if c.waiting then 3 else if c.timed then 4 else if c.kind = 1 then 2 else 1)

/-- Event causes 0xxxF1 to 0xxxF3 (R214). -/
def commitCause (scope n : Nat) : Nat := scope * 256 + n

/-- R214: the path of a commit event. -/
def commitPath (scope unit : Nat) : String :=
  if scope = 0x40 then pathPort unit else if scope = 0x50 then pathPipe unit else "MX.MRG"

/-- R199: the generation after g. -/
def nextGen (g : Nat) : Nat := if g = 65535 then 1 else g + 1

/-- Replace the pending commit at a target. -/
def State.updCommit (s : State) (scope unit : Nat) (f : Commit → Commit) : State :=
  { s with commits := { s.commits with pending := s.commits.pending.map fun c => if c.names scope unit then f c else c } }

/-- Replace one target of the pending commit there. -/
def State.updTarget (s : State) (scope unit : Nat) (f : CommitTarget → CommitTarget) : State :=
  s.updCommit scope unit fun c => { c with targets := c.targets.map fun t => if t.unit = unit then f t else t }

/-- R207: did every hand-over of a target take the commit? -/
def State.targetDone (s : State) (c : Commit) (t : CommitTarget) : Bool :=
  t.took0.isSome && (c.scope != 0x50 || t.took1.isSome || !s.isShared t.unit)

/-- R209: what a WITHDRAW reports of a target: outcome, frame. -/
def CommitTarget.outcome (t : CommitTarget) : Nat × Nat × Nat :=
  match t.took0, t.took1 with
  | some f, _ | none, some f => (t.unit, 1, f)
  | none, none => (t.unit, 0, 0)

/-- R209: remember a ticket's outcomes, 64 of them. -/
def Commits.remember (k : Commits) (c : Commit) (l : List (Nat × Nat × Nat)) : Commits :=
  if c.ticket = 0 then k else { k with remembered := ((c.ticket, c.scope, l) :: k.remembered).take 64 }

/-- R62, R209: the outcomes so far, one per target, in the order of the COMMIT. -/
def Commit.outcomes (c : Commit) : List (Nat × Nat × Nat) :=
  let l := c.settled ++ c.targets.map CommitTarget.outcome
  c.units.filterMap fun u => l.find? (·.1 = u)

/-- R207: settle targets that are done, and complete commits with none left. -/
def State.settleOne (s : State) (c : Commit) : State :=
  let done := c.targets.filter (s.targetDone c)
  let rest := c.targets.filter fun t => !s.targetDone c t
  let c' := { c with targets := rest, settled := c.settled ++ done.map CommitTarget.outcome }
  let others := s.commits.pending.filter (· != c)
  if !rest.isEmpty then
    { s with commits := { s.commits with pending := s.commits.pending.map fun x => if x == c then c' else x } }
  else
    let s := { s with commits := ({ s.commits with pending := others }).remember c c'.outcomes }
    if c'.settled.any (·.2.1 = 1) then
      s.raise (commitCause c.scope 0xF1) 0 (commitPath c.scope c.lastUnit)
        (leBytes 2 c.ticket ++ leBytes 2 c.lastUnit ++ leBytes 2 c.lastGen ++ leBytes 4 c.lastFrame)
    else s

def State.settle (s : State) : State := s.commits.pending.foldl State.settleOne s

/-- R211, R124: a commit is deferred at a target by a dip; event 0xxxF3 once per commit. -/
def State.deferAt (s : State) (scope unit : Nat) : State :=
  match s.commitAt scope unit with
  | none => s
  | some c =>
    let s := (s.updTarget scope unit fun t => { t with deferred := true }).updCommit scope unit fun c => { c with noted := true }
    if c.noted then s
    else s.raise (commitCause scope 0xF3) 1 (commitPath scope unit) (leBytes 2 c.ticket ++ leBytes 2 unit)

/-- R204 to R206: does the hand-over of frame `num` with FS stamp `stamp` at input k of a target admit the commit? -/
def State.admits (s : State) (c : Commit) (t : CommitTarget) (k num : Nat) (stamp : Instant) : Bool :=
  if c.waiting || c.held then false
  else if c.timed then s.leq c.at_ stamp
  else if c.kind = 0 then true
  else if c.scope = 0x50 ∧ k = 1 then
    match t.stamp with
    | some f => s.leq f stamp
    | none => false
  else atOrAfter32 num c.frame

/-- Report card bits (R320). -/
def cardUntimed : Nat := 0
def cardMissed : Nat := 1
def cardCapOverflow : Nat := 2
def cardOutOverflow : Nat := 3
def cardDip : Nat := 4
def cardMem : Nat := 5
def cardMismatch : Nat := 17
def cardWarp : Nat := 18
def cardDeferred : Nat := 19
def cardSkipped : Nat := 20
def cardNoHistory : Nat := 21

/-- R204, R211: report card bits of the frame that takes a commit. -/
def takenCard (c : Commit) (t : CommitTarget) : Nat :=
  (if c.kind = 0 ∧ !c.timed then 2 ^ cardUntimed else 0) + (if t.deferred then 2 ^ cardDeferred else 0)

/-- R203 to R207, scopes 0x40 and 0x60: the hand-over of a target; the new state, whether it took a commit, and the bits. -/
def State.takeAt (s : State) (scope unit num : Nat) (stamp : Instant) (genKey frameKey ticketKey : Nat) :
    State × Option Nat :=
  match s.commitAt scope unit with
  | none => (s, none)
  | some c =>
    match c.targets.find? (·.unit = unit) with
    | none => (s, none)
    | some t =>
      if !s.admits c t 0 num stamp then (s, none)
      else if s.sup.dip then (s.deferAt scope unit, none)
      else
        let g := nextGen (s.nat genKey)
        let s := s.makeLive fun k => ownKey scope unit k || (scope = 0x60 && wideEntry k)
        let s := if scope = 0x60 then { s with wide := mapSet unit (s.liveSet wideEntry) s.wide } else s
        let s := ((s.setObj genKey g).setObj frameKey num).setObj ticketKey c.ticket
        let s := (s.updTarget scope unit fun t => { t with took0 := some num }).updCommit scope unit fun c =>
          { c with lastGen := g, lastFrame := num, lastUnit := unit }
        (s.settle, some (takenCard c t))

/-- R173, R175, R195: the capture-scope hand-over of a port. -/
def State.takeCapture (s : State) (port : Nat) (stamp : Instant) : State × Option Nat :=
  s.takeAt 0x40 port (s.nat (Key.capNextFrame port)) stamp (Key.capGenLive port) (Key.capGenFrame port) (Key.capGenTicket port)

/-- R195, R212: the scope 0x60 hand-over of a stream; with a domain of it off the commit waits. -/
def State.takeStream (s : State) (stream num : Nat) (stamp : Instant) : State × Option Nat :=
  if !(s.streamDomains stream).all s.domainOn then (s, none)
  else s.takeAt 0x60 stream num stamp (Key.mrgGenLive stream) (Key.mrgGenFrame stream) (Key.mrgGenTicket stream)

/-- R197: as input k takes the newest set, the other input of a shared pipeline keeps the set it has. -/
def State.holdOther (s : State) (pipe k : Nat) : State :=
  let kept := ((s.pipe pipe).olderSet (1 - k)).getD (s.liveSet (ownKey 0x50 pipe))
  s.updPipe pipe fun x => { x with lag := if s.isShared pipe then some (1 - k, kept) else none }

/-- R197, R213: at a hand-over in exclusive mode input 1 keeps no set of its own. -/
def State.soleInput (s : State) (pipe : Nat) : State :=
  if s.isShared pipe || ((s.pipe pipe).olderSet 1).isNone then s
  else (s.updPipe pipe fun x => { x with lag := none }).setObj (Key.pipeGenLiveB pipe) (s.nat (Key.pipeGenLive pipe))

/-- R197, R203 to R207: the pipeline-scope hand-over of input k. Under KIND 1, the stamp that input 1 waits for is that of input 0's
frame N, whichever frame takes the commit (R205, R211). -/
def State.takePipe (s : State) (pipe k num : Nat) (stamp : Instant) : State × Option Nat :=
  match s.commitAt 0x50 pipe with
  | none => (s, none)
  | some c =>
    match c.targets.find? (·.unit = pipe) with
    | none => (s, none)
    | some t =>
      let had := if k = 0 then t.took0.isSome else t.took1.isSome
      if had || !s.admits c t k num stamp then (s, none)
      else if s.sup.dip then (s.deferAt 0x50 pipe, none)
      else
        let first := t.took0.isNone && t.took1.isNone
        let newest := mapGetD pipe 0 s.commits.newest
        let g := if first then nextGen newest else newest
        let s := if first then (s.holdOther pipe k).makeLive (ownKey 0x50 pipe) else s.updPipe pipe fun x => { x with lag := none }
        let s := { s with commits := { s.commits with newest := mapSet pipe g s.commits.newest } }
        let s := s.setObj (Key.pipeGenTicket pipe) c.ticket
        let s := if k = 0 then
            let s := (s.setObj (Key.pipeGenLive pipe) g).setObj (Key.pipeGenFrame pipe) num
            if s.isShared pipe then s else s.setObj (Key.pipeGenLiveB pipe) g
          else (s.setObj (Key.pipeGenLiveB pipe) g).setObj (Key.pipeGenFrameB pipe) num
        let s := (s.updTarget 0x50 pipe fun t =>
            if k = 0 then { t with took0 := some num, stamp := if c.kind = 1 then some (t.stamp.getD stamp) else t.stamp }
            else { t with took1 := some num }).updCommit 0x50 pipe fun c =>
              { c with lastGen := g, lastFrame := num, lastUnit := pipe }
        (s.settle, some (takenCard c t))

/-- R205: frame N of input 0 was accepted: input 1 learns its FS stamp. -/
def State.noteStamp (s : State) (pipe k num : Nat) (stamp : Instant) : State :=
  match s.commitAt 0x50 pipe with
  | some c =>
    if c.kind = 1 ∧ c.frame = num ∧ k = 0 then
      s.updTarget 0x50 pipe fun t => { t with stamp := some (t.stamp.getD stamp) }
    else s
  | none => s

/-- R210: a reset discards a commit at a target: 1 = port reset, 2 = cluster reset. -/
def State.discardAt (s : State) (scope unit reason : Nat) : State :=
  match s.commitAt scope unit with
  | none => s
  | some c =>
    let gone := (c.targets.filter (·.unit = unit)).map CommitTarget.outcome
    let s := s.bump Key.commitDiscardedCount
    let s := s.raise (commitCause scope 0xF2) 1 (commitPath scope unit) (leBytes 2 c.ticket ++ leBytes 2 unit ++ [byteOf reason])
    (s.updCommit scope unit fun c => { c with
      targets := c.targets.filter (·.unit != unit), settled := c.settled ++ gone }).settle

/-- R210, port reset: frame-launched commits whose numbering comes from the port. -/
def State.discardForPort (s : State) (port : Nat) : State :=
  let s := match s.commitAt 0x40 port with
    | some c => if c.kind = 1 then s.discardAt 0x40 port 1 else s
    | none => s
  match s.livePipe port with
  | none => s
  | some p =>
    match s.commitAt 0x50 p with
    | none => s
    | some c =>
      let untaken := (c.targets.find? (·.unit = p)).any (·.took0.isNone)
      if c.kind = 1 ∧ s.inputOf p port = 0 ∧ untaken then s.discardAt 0x50 p 1 else s

/-- R122: the commit of an action-3 firing, pending from the action instant on. -/
def State.launchCommit (s : State) (scope unit : Nat) (t : Instant) : State :=
  let c : Commit := {
    ticket := 0, scope := scope, kind := 0, frame := 0, at_ := t, waiting := false, timed := true, held := s.sup.dip,
    noted := false, lastGen := 0, lastFrame := 0, lastUnit := unit, targets := [⟨unit, none, none, false, none⟩], settled := [],
    units := [unit] }
  let s := { s with commits := { s.commits with pending := s.commits.pending ++ [c] } }
  if s.sup.dip then s.deferAt scope unit else s

/-- R213: commits accepted and not complete. -/
def State.commitCount (s : State) : Nat := (s.commits.pending.filter (·.ticket != 0)).length

/-- R123: KIND 2 commits that wait for T. -/
def State.waitingCommits (s : State) : List Commit := s.commits.pending.filter (·.waiting)

end Sys2Proof.Machine
end

