-- ==== Sys2Proof/Machine/Pixel.lean ====
section
/-! DEFINITION. Chapter 08: the arithmetic of pipeline stages S0 to S15 as functions of a frame's delivered lines and its live
set (R215 to R250). Pipeline.lean holds what a pipeline does with them. -/
namespace Sys2Proof.Machine

/-- One plane of samples: lines of columns. -/
abbrev Plane := Array (Array Int)

/-- A privacy polygon (R239). -/
structure Polygon where
  mosaic : Bool
  block : Nat
  vertices : List (Int × Int)
  deriving DecidableEq, Repr

/-- The parameters that shape one frame of one input, read from its live set. -/
structure PxParams where
  width : Nat
  height : Nat
  bits : Nat
  nexp : Nat
  cfa : Nat
  knees : List (Nat × Nat × Nat)
  black : List Nat
  dpcT : Nat
  defects : List (Nat × Nat)
  shading : Array Nat
  ratio1 : Nat
  ratio2 : Nat
  knee0 : Nat
  knee1 : Nat
  width0 : Nat
  width1 : Nat
  mshift : Nat
  nrAmount : Nat
  nrShift : Nat
  wb : List Nat
  ccm : List Int
  off : List Int
  kir : List Int
  bypass : Nat
  tone : Array Nat
  zones : Array Int
  outCurve : Array Nat
  csc : Nat
  cscRange : Nat
  sharpGain : Nat
  sharpCoring : Nat
  sharpLimit : Nat
  masks : List Polygon
  maskFill : List Nat
  maskOn : Bool
  kernel : Array Int
  deriving Repr

/-- R219: is stage s bypassed? -/
def PxParams.skips (p : PxParams) (s : Nat) : Bool := p.bypass.testBit s

/-- R217: the period of the pattern. -/
def cfaPeriod (cfa : Nat) : Nat := if cfa ≤ 5 then 2 else 4

/-- R217, patterns 6 and 7: 0 = R, 1 = G, 2 = B, 3 = IR. -/
def irSite (cfa x y : Nat) : Nat :=
  let c := [2, 1, 0, 1, 1, 3, 1, 3, 0, 1, 2, 1, 1, 3, 1, 3].getD (4 * (y % 4) + x % 4) 0
  if cfa = 7 then (if c = 0 then 2 else if c = 2 then 0 else c) else c

/-- R217: the channel index. -/
def channelAt (cfa x y : Nat) : Nat := if cfa ≤ 5 then 2 * (y % 2) + x % 2 else irSite cfa x y

/-- R217, R229: the plane that a site of patterns 0 to 5 samples. -/
def bayerPlane (cfa x y : Nat) : Nat :=
  let cell := match cfa with
    | 1 => [1, 0, 2, 1]
    | 2 => [1, 2, 0, 1]
    | 3 => [2, 1, 1, 0]
    | _ => [0, 1, 1, 2]
  cell.getD (2 * (y % 2) + x % 2) 0

/-- R218: the coordinate that one beyond an edge of a span of n reads, with period p. -/
def extend (p n : Nat) (x : Int) : Nat :=
  if x < 0 then (x + p * (ceilDiv (-x).toNat p : Nat)).toNat
  else if (n : Int) ≤ x then (x - p * (ceilDiv (x - ((n : Int) - 1)).toNat p : Nat)).toNat
  else x.toNat

/-- A sample of a plane at in-frame coordinates. -/
def Plane.at_ (a : Plane) (x y : Nat) : Int := (a.getD y #[]).getD x 0

/-- R218: a sample of a plane at any coordinates, extended with period p. -/
def Plane.get (a : Plane) (p : Nat) (x y : Int) : Int :=
  let w := (a.getD 0 #[]).size
  a.at_ (extend p w x) (extend p a.size y)

/-- A plane of w × h samples. -/
def mkPlane (w h : Nat) (f : Nat → Nat → Int) : Plane :=
  (Array.range h).map fun y => (Array.range w).map fun x => f x y

/-- The largest 24-bit value. -/
def max24 : Int := 16777215

/-- R221: S0. -/
def s0 (p : PxParams) (u : Nat) : Int :=
  match p.knees.reverse.find? fun k => k.1 ≤ u with
  | some (x, y, g) => clip (y + rshift (((u - x) * g : Nat) : Int) 12) 0 max24
  | none => (u * 2 ^ (24 - p.bits) : Nat)

/-- R222: S1. -/
def s1 (p : PxParams) (e c : Nat) (x : Int) : Int :=
  let b := p.black.getD (4 * e + c) 0
  let d := 16777216 - b
  let g := (68719476736 + d / 2) / d
  clip (rshift ((x - b) * g) 12) 0 max24

/-- R223: the same-colour set of a site, as offsets. -/
def sameColour (cfa x y : Nat) : List (Int × Int) :=
  if cfa ≥ 6 ∧ (irSite cfa x y = 0 ∨ irSite cfa x y = 2) then [(-2, -2), (2, -2), (-2, 2), (2, 2)]
  else [(-2, 0), (2, 0), (0, -2), (0, 2)]

/-- The eight offsets of R223 and R227. -/
def ring8 : List (Int × Int) := [(-2, 0), (2, 0), (0, -2), (0, 2), (-2, -2), (2, -2), (-2, 2), (2, 2)]

/-- Insert into an ascending list. -/
def insertAsc (v : Int) : List Int → List Int
  | [] => [v]
  | x :: r => if v ≤ x then v :: x :: r else x :: insertAsc v r

def sortAsc (l : List Int) : List Int := l.foldr insertAsc []

/-- R223: S2 at one site: the value, and whether the dynamic rule replaced it. -/
def s2 (p : PxParams) (a : Plane) (x y : Nat) : Int × Bool :=
  let v := a.at_ x y
  let per := cfaPeriod p.cfa
  let at_ := fun (o : Int × Int) => a.get per (x + o.1) (y + o.2)
  let n := sortAsc ((sameColour p.cfa x y).map at_)
  let rep := rshift (n.getD 1 0 + n.getD 2 0) 1
  if p.defects.contains (x, y) then (rep, false)
  else
    let site := p.cfa ≤ 5 || irSite p.cfa x y = 1 || irSite p.cfa x y = 3
    let nb := ring8.map at_
    let hi := nb.foldl max 0
    let lo := nb.foldl min max24
    if p.dpcT ≠ 0 ∧ site ∧ (hi + p.dpcT < v ∨ v < lo - p.dpcT) then (rep, true) else (v, false)

/-- R225: the gain of S3. -/
def shadingGain (p : PxParams) (c x y : Nat) : Int :=
  let sx := 2097152 / p.width
  let sy := 2097152 / p.height
  let gx := x * sx
  let gy := y * sy
  let i := gx / 65536
  let fx := gx % 65536
  let j := gy / 65536
  let fy := gy % 65536
  let g := fun (jj ii : Nat) => p.shading.getD (c * 1089 + jj * 33 + ii) 0
  let top := g j i * (65536 - fx) + g j (i + 1) * fx
  let bot := g (j + 1) i * (65536 - fx) + g (j + 1) (i + 1) * fx
  rshift ((top * (65536 - fy) + bot * fy : Nat) : Int) 32

def s3 (p : PxParams) (x y : Nat) (v : Int) : Int :=
  if p.shading.isEmpty then v
  else clip (rshift (v * shadingGain p (channelAt p.cfa x y) x y) 12) 0 max24

/-- R226: the blend of two exposures. -/
def blend (lo hi xl : Int) (knee width : Nat) : Int :=
  let w := rshift (clip (xl - knee) 0 (2 ^ width : Nat) * 256) width
  rshift (lo * (256 - w) + hi * w) 8

/-- R226: S4 on the samples of the exposures. -/
def s4 (p : PxParams) (x : List Int) : Int :=
  let n := fun (e r : Nat) => rshift (x.getD e 0 * r) (8 + p.mshift)
  let m :=
    if p.nexp = 1 then x.getD 0 0
    else if p.nexp = 2 then blend (n 0 256) (n 1 p.ratio1) (x.getD 0 0) p.knee0 p.width0
    else blend (n 0 256) (blend (n 1 p.ratio1) (n 2 p.ratio2) (x.getD 1 0) p.knee1 p.width1) (x.getD 0 0) p.knee0 p.width0
  clip m 0 max24

/-- R227: S5. -/
def s5 (p : PxParams) (a : Plane) (x y : Nat) : Int :=
  let xc := a.at_ x y
  let corner := p.cfa ≥ 6 && (irSite p.cfa x y = 0 || irSite p.cfa x y = 2)
  let offs := if corner then [(-2, -2), (2, -2), (-2, 2), (2, 2)] else ring8
  let per := cfaPeriod p.cfa
  let t := offs.foldl (fun (acc : Int × Int) (o : Int × Int) =>
    let xj := a.get per (x + o.1) (y + o.2)
    let wj := 16 - min 16 (rshift ((xj - xc).natAbs : Int) p.nrShift)
    (acc.1 + wj * xj, acc.2 + wj)) (16 * xc, 16)
  let avg := (t.1 + t.2 / 2) / t.2
  clip (xc + rshift ((avg - xc) * p.nrAmount) 8) 0 max24

/-- R228: S6. -/
def s6 (p : PxParams) (x y : Nat) (v : Int) : Int :=
  clip (rshift (v * p.wb.getD (channelAt p.cfa x y) 0) 12) 0 max24

/-- R229: the checkerboard plane at a site. -/
def checkerAt (cfa : Nat) (a : Plane) (x y : Nat) : Int :=
  if bayerPlane cfa x y = 1 then a.at_ x y
  else
    let v := fun (dx dy : Int) => a.get 2 (x + dx) (y + dy)
    let gh := rshift (2 * (v (-1) 0 + v 1 0) + 2 * v 0 0 - v (-2) 0 - v 2 0) 2
    let gv := rshift (2 * (v 0 (-1) + v 0 1) + 2 * v 0 0 - v 0 (-2) - v 0 2) 2
    let dh := (v (-1) 0 - v 1 0).natAbs + (2 * v 0 0 - v (-2) 0 - v 2 0).natAbs
    let dv := (v 0 (-1) - v 0 1).natAbs + (2 * v 0 0 - v 0 (-2) - v 0 2).natAbs
    clip (if dh < dv then gh else if dv < dh then gv else rshift (gh + gv) 1) 0 max24

/-- R229: a corner plane at a site, from the samples and the checkerboard plane. -/
def cornerAt (cfa pl : Nat) (a k : Plane) (x y : Nat) : Int :=
  let own := bayerPlane cfa x y
  let d := fun (dx dy : Int) => a.get 2 (x + dx) (y + dy) - k.get 2 (x + dx) (y + dy)
  if own = pl then a.at_ x y
  else if own = 1 then
    let horizontal := bayerPlane cfa (x + 1) y = pl
    let t := if horizontal then d (-1) 0 + d 1 0 else d 0 (-1) + d 0 1
    clip (k.at_ x y + rshift t 1) 0 max24
  else clip (k.at_ x y + rshift (d (-1) (-1) + d 1 (-1) + d (-1) 1 + d 1 1) 2) 0 max24

/-- R230: the mean of values, rounded. -/
def meanOf (l : List Int) : Int :=
  let n : Int := l.length
  if n = 0 then 0 else (l.foldl (· + ·) 0 + n / 2) / n

/-- R230: the G plane at a site. -/
def irGreen (cfa : Nat) (a : Plane) (x y : Nat) : Int :=
  if irSite cfa x y = 1 then a.at_ x y
  else
    let v := fun (dx dy : Int) => a.get 4 (x + dx) (y + dy)
    let dh := (v (-1) 0 - v 1 0).natAbs
    let dv := (v 0 (-1) - v 0 1).natAbs
    if dh < dv then meanOf [v (-1) 0, v 1 0]
    else if dv < dh then meanOf [v 0 (-1), v 0 1]
    else meanOf [v (-1) 0, v 1 0, v 0 (-1), v 0 1]

/-- Offsets of a window of ±r. -/
def windowOffsets (r : Nat) : List (Int × Int) :=
  (List.range (2 * r + 1)).flatMap fun (j : Nat) => (List.range (2 * r + 1)).map fun (i : Nat) =>
    ((i : Int) - (r : Int), (j : Int) - (r : Int))

/-- R230: the R (0) or B (2) plane at a site. -/
def irColour (cfa c w h : Nat) (a g : Plane) (x y : Nat) : Int :=
  if irSite cfa x y = c then a.at_ x y
  else
    let offs := (windowOffsets 2).filter fun o => irSite cfa (extend 4 w (x + o.1)) (extend 4 h (y + o.2)) = c
    g.at_ x y + meanOf (offs.map fun o => a.get 4 (x + o.1) (y + o.2) - g.get 4 (x + o.1) (y + o.2))

/-- R230: the IR plane at a site. -/
def irPlaneAt (cfa w h : Nat) (a : Plane) (x y : Nat) : Int :=
  let offs := (windowOffsets 1).filter fun o => irSite cfa (extend 4 w (x + o.1)) (extend 4 h (y + o.2)) = 3
  meanOf (offs.map fun o => a.get 4 (x + o.1) (y + o.2))

/-- R231: reduction to 20 bits. -/
def to20 (v : Int) : Int := clip (rshift v 4) 0 1048575

/-- R229 to R231, R219: S7: the three planes and the IR plane. -/
def s7 (p : PxParams) (a : Plane) : List Plane × Plane :=
  let w := p.width
  let h := a.size
  let zero := mkPlane w h fun _ _ => 0
  if p.skips 7 then
    let q := mkPlane w h fun x y => to20 (a.at_ x y)
    ([q, q, q], zero)
  else if p.cfa ≤ 5 then
    let k := mkPlane w h fun x y => checkerAt p.cfa a x y
    let c := fun pl => mkPlane w h fun x y => to20 (cornerAt p.cfa pl a k x y)
    ([c 0, mkPlane w h fun x y => to20 (k.at_ x y), c 2], zero)
  else
    let g := mkPlane w h fun x y => irGreen p.cfa a x y
    let c := fun pl => mkPlane w h fun x y => to20 (irColour p.cfa pl w h a g x y)
    ([c 0, mkPlane w h fun x y => to20 (g.at_ x y), c 2], mkPlane w h fun x y => to20 (irPlaneAt p.cfa w h a x y))

/-- Sample of plane i of a list. -/
def planeAt (l : List Plane) (i x y : Nat) : Int := Plane.at_ (l.getD i #[]) x y

/-- R232: S8, output plane i. -/
def s8 (p : PxParams) (l : List Plane) (ir : Plane) (i x y : Nat) : Int :=
  let v := fun j => planeAt l j x y
  let m := fun j => p.ccm.getD (3 * i + j) 0
  let r := if p.cfa ≤ 5 then 0 else ir.at_ x y
  clip (rshift (m 0 * v 0 + m 1 * v 1 + m 2 * v 2 - p.kir.getD i 0 * r) 12 + p.off.getD i 0) 0 1048575

/-- A curve point, with the end value 65,536 (R233, R236). -/
def curveAt (t : Array Nat) (n : Nat) : Int := (t.getD n 65536 : Nat)

/-- R233: the local gain at a pixel. -/
def localGain (p : PxParams) (x y : Nat) : Int :=
  let zx := 1048576 / p.width
  let zy := 786432 / p.height
  let u := clipN ((x * zx : Nat) - 32768) 983039
  let v := clipN ((y * zy : Nat) - 32768) 720895
  let i := u / 65536
  let fu : Int := (u % 65536 : Nat)
  let j := v / 65536
  let fv : Int := (v % 65536 : Nat)
  let z := fun (jj ii : Nat) => p.zones.getD (16 * jj + ii) 4096
  let top := z j i * (65536 - fu) + z j (i + 1) * fu
  let bot := z (j + 1) i * (65536 - fu) + z (j + 1) (i + 1) * fu
  rshift (top * (65536 - fv) + bot * fv) 32

/-- R233: S9 on one value. -/
def s9 (p : PxParams) (x y : Nat) (c : Int) : Int :=
  let c1 := clip (rshift (c * localGain p x y) 12) 0 1048575
  let n := (c1 / 1024).toNat
  let f := c1 - 1024 * n
  clip (curveAt p.tone n + rshift ((curveAt p.tone (n + 1) - curveAt p.tone n) * f) 10) 0 65535

/-- R236: S10 on one value. -/
def s10 (p : PxParams) (v : Int) : Int :=
  let n := (v / 256).toNat
  let f := v - 256 * n
  clip (curveAt p.outCurve n + rshift ((curveAt p.outCurve (n + 1) - curveAt p.outCurve n) * f) 8) 0 65535

/-- R237: the coefficient rows of PIPE_CSC. -/
def cscRows (csc : Nat) : List (List Int) :=
  match csc with
  | 0 => [[4899, 9617, 1868], [-2765, -5427, 8192], [8192, -6860, -1332]]
  | 1 => [[3483, 11718, 1183], [-1877, -6315, 8192], [8192, -7441, -751]]
  | _ => [[4304, 11108, 972], [-2288, -5904, 8192], [8192, -7533, -659]]

/-- R237: S11 on one pixel. -/
def s11 (p : PxParams) (rgb : List Int) : List Int :=
  if p.csc = 3 then rgb
  else
    let row := fun (r : List Int) => rshift ((List.zipWith (· * ·) r rgb).foldl (· + ·) 0) 14
    let v := (cscRows p.csc).map row
    let y := v.getD 0 0
    let cb := v.getD 1 0
    let cr := v.getD 2 0
    let out := if p.cscRange = 0 then [y, cb + 32768, cr + 32768]
      else [rshift (y * 219) 8 + 4096, rshift (cb * 224) 8 + 32768, rshift (cr * 224) 8 + 32768]
    out.map fun x => clip x 0 65535

/-- R238: S12 on one plane at a pixel. -/
def s12 (p : PxParams) (a : Plane) (x y : Nat) : Int :=
  let v := fun (dx dy : Int) => a.get 1 (x + dx) (y + dy)
  let b := rshift (v (-1) (-1) + 2 * v 0 (-1) + v 1 (-1) + 2 * v (-1) 0 + 4 * v 0 0 + 2 * v 1 0 + v (-1) 1 + 2 * v 0 1 + v 1 1) 4
  let d := v 0 0 - b
  let m := max 0 ((d.natAbs : Int) - p.sharpCoring)
  let dc := if d < 0 then -m else m
  let e := clip (rshift (dc * p.sharpGain) 6) (-(p.sharpLimit : Int)) p.sharpLimit
  clip (v 0 0 + e) 0 65535

/-- R240: does one edge of a polygon flip the test? -/
def edgeFlips (px py : Int) (a b : Int × Int) : Bool :=
  let ax := 2 * a.1
  let ay := 2 * a.2
  let bx := 2 * b.1
  let by_ := 2 * b.2
  if decide (py < ay) != decide (py < by_) then
    let cr := (bx - ax) * (py - ay) - (px - ax) * (by_ - ay)
    (decide (ay < by_) && decide (0 < cr)) || (decide (by_ < ay) && decide (cr < 0))
  else false

/-- R240: is a pixel inside a polygon? -/
def Polygon.inside (q : Polygon) (x y : Nat) : Bool :=
  let next := q.vertices.drop 1 ++ q.vertices.take 1
  let flips := (q.vertices.zip next).filter fun e => edgeFlips (2 * x + 1) (2 * y + 1) e.1 e.2
  flips.length % 2 = 1

/-- R240: the polygon that treats a pixel, the lowest-numbered that holds it. -/
def maskAt (p : PxParams) (x y : Nat) : Option Polygon := p.masks.find? fun q => q.inside x y

/-- R241: S13, plane i (3 = the IR plane). -/
def s13 (p : PxParams) (l : List Plane) (i x y : Nat) : Int :=
  if !p.maskOn then planeAt l i x y
  else match maskAt p x y with
    | none => planeAt l i x y
    | some q =>
      if q.mosaic then planeAt l i (q.block * (x / q.block)) (q.block * (y / q.block))
      else if i = 3 then 0
      else (p.maskFill.getD i 0 : Nat)

/-- The outputs of the stages that later stages, taps and croppers read (R215, R220). -/
structure Stages where
  t1 : List Plane
  t6 : Plane
  t8 : List Plane
  t9 : List Plane
  final : List Plane
  ir : Plane
  dpc : Nat
  deriving Repr

/-- R215: stages S0 to S13 over the delivered line groups: group, exposure, codes. -/
def runStages (p : PxParams) (groups : List (List (List Nat))) : Stages :=
  let w := p.width
  let h := groups.length
  let g : Array (Array (Array Nat)) := (groups.map fun l => (l.map List.toArray).toArray).toArray
  let code := fun (e x y : Nat) => ((g.getD y #[]).getD e #[]).getD x 0
  let pl := fun f => mkPlane w h f
  let es := List.range p.nexp
  let a1 := es.map fun e => pl fun x y =>
    let v := s0 p (code e x y)
    if p.skips 1 then v else s1 p e (channelAt p.cfa x y) v
  let d2 := a1.map fun a => (Array.range h).map fun y => (Array.range w).map fun x =>
    if p.skips 2 then (a.at_ x y, false) else s2 p a x y
  let dpc := (d2.map fun q => (q.toList.map fun r => (r.toList.filter (·.2)).length).foldl (· + ·) 0).foldl (· + ·) 0
  let a3 := d2.map fun q => pl fun x y =>
    let v := ((q.getD y #[]).getD x (0, false)).1
    if p.skips 3 then v else s3 p x y v
  let a4 := pl fun x y => if p.skips 4 then planeAt a3 0 x y else s4 p (es.map fun e => planeAt a3 e x y)
  let a5 := if p.skips 5 then a4 else pl fun x y => s5 p a4 x y
  let a6 := if p.skips 6 then a5 else pl fun x y => s6 p x y (a5.at_ x y)
  let (a7, ir) := s7 p a6
  let a8 := if p.skips 8 then a7 else [0, 1, 2].map fun i => pl fun x y => s8 p a7 ir i x y
  let a9 := a8.map fun a => pl fun x y =>
    if p.skips 9 then clip (rshift (a.at_ x y) 4) 0 65535 else s9 p x y (a.at_ x y)
  let a10 := if p.skips 10 then a9 else a9.map fun a => pl fun x y => s10 p (a.at_ x y)
  let a11 := if p.skips 11 then a10
    else [0, 1, 2].map fun i => pl fun x y => (s11 p ([0, 1, 2].map fun j => planeAt a10 j x y)).getD i 0
  let a12 := if p.skips 12 then a11
    else [0, 1, 2].map fun i =>
      if i = 0 ∨ p.csc = 3 then pl fun x y => s12 p (a11.getD i #[]) x y else a11.getD i #[]
  let all := a12 ++ [ir]
  let a13 := [0, 1, 2, 3].map fun i => pl fun x y => s13 p all i x y
  ⟨a1, a6, a8, a9, a13.take 3, a13.getD 3 #[], dpc⟩

/-- R234: the luminance of S9's input. -/
def ylAt (t8 : List Plane) (x y : Nat) : Int :=
  rshift (871 * planeAt t8 0 x y + 2929 * planeAt t8 1 x y + 296 * planeAt t8 2 x y) 12

/-- R234: the zone means of a frame, 16 × 12, by line; an empty zone's mean is not stated (log 22). -/
def zoneMeans (w h : Nat) (t8 : List Plane) : List Int :=
  let zx := 1048576 / w
  let zy := 786432 / h
  (List.range 192).map fun n =>
    let xs := (List.range w).filter fun x => x * zx / 65536 = n % 16
    let ys := (List.range h).filter fun y => y * zy / 65536 = n / 16
    let vals := ys.flatMap fun y => xs.map fun x => ylAt t8 x y
    if vals.isEmpty then (Config.emptyZoneMean n % 1048576 : Nat) else meanOf vals

/-- R234: the zone gains from the means. -/
def zoneGains (gain : List Nat) (strength : Nat) (means : List Int) : Array Int :=
  (means.map fun m => 4096 + rshift (((gain.getD (m / 16384).toNat 4096 : Nat) - 4096) * strength) 8).toArray

/-- A cropper's rectangle, output size and format, resolved for a frame (R244, R246). -/
structure Crop where
  x : Nat
  y : Nat
  w : Nat
  h : Nat
  ow : Nat
  oh : Nat
  format : Nat
  source : Nat
  tileW : Nat
  tileH : Nat
  deriving DecidableEq, Repr

/-- R247: the pre-decimation exponent. -/
def decimation (w ow : Nat) : Nat :=
  if ow ≤ w / 8 then 3 else if ow ≤ w / 4 then 2 else if ow ≤ w / 2 then 1 else 0

/-- R247: one scaled sample from the pre-decimated samples `s` of a span of w, scaled to ow. -/
def scaleAt (k : Array Int) (w ow : Nat) (s : Int → Int) (m : Nat) : Int :=
  if ow = w then s m
  else
    let kx := decimation w ow
    let q := fun (i : Int) => rshift (((List.range (2 ^ kx)).map fun (t : Nat) => s (i * (2 ^ kx : Nat) + t)).foldl (· + ·) 0) kx
    let step : Int := ((w / 2 ^ kx) * 65536 / ow : Nat)
    let p := m * step + rshift (step - 65536) 1
    let i := p / 65536
    let ph := ((p / 1024) % 64).toNat
    let c := fun (n : Nat) => k.getD (4 * ph + n) 0
    clip (rshift (c 0 * q (i - 1) + c 1 * q i + c 2 * q (i + 1) + c 3 * q (i + 2)) 10) 0 65535

/-- R247: output line r of one plane of a cropper. -/
def scaledLine (k : Array Int) (c : Crop) (a : Plane) (r : Nat) : List Int :=
  (List.range c.ow).map fun m =>
    let col := fun (line : Int) => scaleAt k c.w c.ow (fun i => a.get 1 (c.x + i) line) m
    scaleAt k c.h c.oh (fun i => col (c.y + i)) r

/-- R247: the last source line that output line r weighs with a tap of the kernel that is not 0. -/
def lastTapLine (k : Array Int) (c : Crop) (r : Nat) : Nat :=
  if c.oh = c.h then c.y + r
  else
    let ky := decimation c.h c.oh
    let step : Int := ((c.h / 2 ^ ky) * 65536 / c.oh : Nat)
    let p := r * step + rshift (step - 65536) 1
    let i := p / 65536
    let ph := ((p / 1024) % 64).toNat
    let taps := (List.range 4).filter fun n => k.getD (4 * ph + n) 0 != 0
    (c.y + ((i + (taps.getLast?.getD 1 : Nat)) * (2 ^ ky : Nat) - 1)).toNat

/-- R250: the unmargined source line of output line r. -/
def sourceOf (c : Crop) (nexp r : Nat) : Nat :=
  if c.format = 5 then c.y + r / nexp else c.y + ceilDiv ((r + 1) * c.h) c.oh - 1

/-- R248: bits of one output line or chroma line as bytes, padded to a whole byte. -/
def packLine (w : Nat) (l : List Int) : Bytes :=
  packCodes w (l.map fun v => clipN v (2 ^ w - 1))

/-- R248: a tile of lines l (three planes, each a list of lines) in formats 0 to 4. -/
def packTile (format : Nat) (planes : List (List (List Int))) : Bytes :=
  let n := (planes.getD 0 []).length
  let w := ((planes.getD 0 []).getD 0 []).length
  let v := fun (i r c : Nat) => ((planes.getD i []).getD r []).getD c 0
  match format with
  | 0 => (List.range n).flatMap fun r => packLine 10 ((List.range (w / 2)).flatMap fun c =>
      [rshift (v 0 r (2 * c)) 6, rshift (v 1 r (2 * c) + v 1 r (2 * c + 1)) 7,
       rshift (v 0 r (2 * c + 1)) 6, rshift (v 2 r (2 * c) + v 2 r (2 * c + 1)) 7])
  | 3 => (List.range n).flatMap fun r => packLine 8 ((List.range w).flatMap fun c =>
      [rshift (v 0 r c) 8, rshift (v 1 r c) 8, rshift (v 2 r c) 8])
  | 4 => (List.range n).flatMap fun r => packLine 12 ((List.range w).map fun c => rshift (v 0 r c) 4)
  | f =>
    let bits := if f = 1 then 8 else 10
    let ys := if f = 1 then 8 else 6
    let cs := if f = 1 then 10 else 8
    let sum := fun (i r c : Nat) => v i (2 * r) (2 * c) + v i (2 * r) (2 * c + 1) + v i (2 * r + 1) (2 * c) + v i (2 * r + 1) (2 * c + 1)
    ((List.range n).flatMap fun r => packLine bits ((List.range w).map fun c => rshift (v 0 r c) ys)) ++
    ((List.range (n / 2)).flatMap fun r => packLine bits ((List.range (w / 2)).flatMap fun c =>
      [rshift (sum 1 r c) cs, rshift (sum 2 r c) cs]))

/-- R249: output line r of raw passthrough. -/
def rawLine (p : PxParams) (c : Crop) (groups : List (List (List Nat))) (r : Nat) : List Nat :=
  let y := c.y + r / p.nexp
  let codes := (groups.getD y []).getD (r % p.nexp) []
  (List.range c.w).map fun i =>
    let x := c.x + i
    if (maskAt p x y).isSome then 0 else codes.getD x 0

/-- R248 to R250, R190: the tiles of tile row `row` of a cropper: lines beyond `lines` repeat the last computed one. -/
def tileRow (p : PxParams) (c : Crop) (st : Stages) (groups : List (List (List Nat))) (row lines : Nat) : List Bytes :=
  let th := 2 ^ c.tileH
  let tw := 2 ^ c.tileW
  let oh := if c.format = 5 then c.h * p.nexp else c.oh
  let ow := if c.format = 5 then c.w else c.ow
  let rs := (List.range (min th (oh - row * th))).map fun i => min (row * th + i) (lines - 1)
  let cols := List.range (ceilDiv ow tw)
  let cut := fun {α : Type} (l : List α) (col : Nat) => (l.drop (col * tw)).take tw
  if c.format = 5 then
    let ls := rs.map (rawLine p c groups)
    cols.map fun col => ls.flatMap fun l => packCodes (if p.bits = 20 then 24 else 16) (cut l col)
  else
    let ir16 : Plane := st.ir.map fun l => l.map fun v => clip (rshift v 4) 0 65535
    let planes := if c.source = 1 then [ir16] else if c.format = 4 then [st.final.getD 0 #[]] else st.final
    let ls := planes.map fun a => rs.map fun r => scaledLine p.kernel c a r
    cols.map fun col => packTile c.format (ls.map fun pl => pl.map fun l => cut l col)

end Sys2Proof.Machine
end

