-- ==== Sys2Proof/Machine/Frames.lean ====
section
/-! DEFINITION. Input frames and output frames: their tags, report card bits, tiles and release times (R176, R250, R281, R311,
R321). -/
namespace Sys2Proof.Machine

/-! Frames. -/

def State.frameOf (s : State) (fid : Nat) : Option Frame := s.frames.find? (·.fid = fid)

def State.updFrame (s : State) (fid : Nat) (f : Frame → Frame) : State :=
  { s with frames := s.frames.map fun x => if x.fid = fid then f x else x }

def State.outOf (s : State) (oid : Nat) : Option OutFrame := s.mrg.frames.find? (·.oid = oid)

def State.updOut (s : State) (oid : Nat) (f : OutFrame → OutFrame) : State :=
  { s with mrg := { s.mrg with frames := s.mrg.frames.map fun x => if x.oid = oid then f x else x } }

/-- R176: the fields of the frame tag: length in bytes, value. -/
def tagFields (f : Frame) : List (Nat × Nat) := [
  (2, if f.synthetic then 0xFFFF else f.port), (2, f.pipe.getD 0xFFFF), (4, f.num), (4, f.sframe), (2, f.capture.epoch),
  (12, toTime96 f.capture.t.toNat), (1, f.source), (1, f.nexp), (1, f.format), (1, f.cflags), (2, f.taken.length),
  (2, f.width), (2, f.height), (2, f.repaired), (2, f.capGen), (2, f.sensorGen), (4, f.fsDelay), (2, 0)]

/-- R176: the 48-byte tag, least significant byte first. -/
def Frame.tagLe (f : Frame) : Bytes := (tagFields f).flatMap fun x => leBytes x.1 x.2

/-- R325: the tag with fields most significant byte first. -/
def Frame.tagBe (f : Frame) : Bytes := (tagFields f).flatMap fun x => beBytes x.1 x.2

/-- R176, R318: the tag that a frame start carries: the frame's as it was accepted, with no line delivered or repaired yet, so that it
does not depend on how far the pipeline came (log 39). -/
def Frame.startTag (f : Frame) : Bytes := { f with taken := [], repaired := 0, cflags := f.cflags &&& 64 }.tagBe

/-- R187, R320: report card bits of the capture flags. -/
def capCard (cflags : Nat) : Nat :=
  let b := fun (i j : Nat) => if cflags.testBit i then 2 ^ j else 0
  b 0 9 + b 1 11 + b 2 2 + b 3 13 + b 4 12 + b 5 10 + b 6 16

/-- R321: the report card bits a frame gives its output frames. -/
def Frame.cardBits (f : Frame) : Nat := (if f.synthetic then 0 else capCard f.cflags) ||| f.card

/-! Output frames. -/

def OutFrame.isView (o : OutFrame) : Bool := 960 ≤ o.stream
def OutFrame.cols (o : OutFrame) : Nat := ceilDiv o.width (2 ^ o.tileW)
def OutFrame.rowCount (o : OutFrame) : Nat := ceilDiv o.height (2 ^ o.tileH)
/-- Lines of tile row r. -/
def OutFrame.rowLines (o : OutFrame) (r : Nat) : Nat := min (2 ^ o.tileH) (o.height - r * 2 ^ o.tileH)
def OutFrame.colWidth (o : OutFrame) (c : Nat) : Nat := min (2 ^ o.tileW) (o.width - c * 2 ^ o.tileW)

/-- The cropper's rectangle and output as S14 and S15 use them. -/
def OutFrame.crop (o : OutFrame) : Crop :=
  ⟨o.rect.1, o.rect.2.1, o.rect.2.2.1, o.rect.2.2.2, o.width, o.height, o.format, o.irSource, o.tileW, o.tileH⟩

/-- The last output line of tile row r. -/
def OutFrame.lastLine (o : OutFrame) (r : Nat) : Nat := r * 2 ^ o.tileH + o.rowLines r - 1

/-- R250: the source line of tile row r. -/
def OutFrame.sourceLine (o : OutFrame) (r : Nat) : Nat := min (o.srcH - 1) (sourceOf o.crop o.nexp (o.lastLine r) + 8)

/-- R247, R250: the line group after whose taking tile row r is complete, under a scaling kernel: that of its source line, or a later
one that S14 weighs (log 24). -/
def OutFrame.neededLine (o : OutFrame) (k : Array Int) (r : Nat) : Nat :=
  if o.format = 5 then o.sourceLine r
  else
    let last := ((List.range (o.rowLines r)).map fun i => lastTapLine k o.crop (r * 2 ^ o.tileH + i)).foldl max 0
    max (o.sourceLine r) (min (o.srcH - 1) (last + 8))

/-- R311: the release time of the tiles of row r of a pipeline stream. -/
def OutFrame.rowRelease (o : OutFrame) (r : Nat) : Instant :=
  o.capture.plus (nsUnits (o.sourceLine r * o.linePeriod) + usUnits o.pw : Nat)

/-- Key of a tile within a frame. -/
def tileKey (row col : Nat) : Nat := row * 1024 + col

end Sys2Proof.Machine
end

