-- ==== Sys2Proof/Machine/Mesh.lean ====
section
/-! DEFINITION. Chapter 10, geometry: views, source slots, the mesh, footprints, sampling and blending (R280 to R297). -/
namespace Sys2Proof.Machine

/-! WARP_VIEW_CTRL (R280). -/
def ctrlEnable (c : Nat) : Bool := c.testBit 31
def ctrlRefSlot (c : Nat) : Nat := field c 25 20
def ctrlLog (c : Nat) : Nat := field c 19 18 + 3
def ctrlLayers (c : Nat) : Nat := field c 17 17 + 1
def ctrlBicubic (c : Nat) : Bool := c.testBit 16
def ctrlTileH (c : Nat) : Nat := field c 14 12
def ctrlTileW (c : Nat) : Nat := field c 11 8
def ctrlFormat (c : Nat) : Nat := field c 7 5

/-! WARP_SOURCE (R282). -/
def slotStream (v : Nat) : Nat := field v 63 48
def slotWidth (v : Nat) : Nat := field v 47 32
def slotHeight (v : Nat) : Nat := field v 31 16
def slotFormat (v : Nat) : Nat := field v 15 13

/-- R282: the family of a format. -/
def formatFamily (f : Nat) : Nat := if f ≤ 2 then 0 else f

/-- The set a view's frame runs on: a reader of numbers and of DOMAIN contents by shadow key. -/
structure ViewSet where
  num : Nat → Nat
  dom : Nat → Bytes

def OutFrame.viewSet (o : OutFrame) (p : Part) : ViewSet :=
  ⟨fun k => (o.set.num p k).toNat, fun k => o.set.dom k⟩

/-- R288: columns of the grid. -/
def gridCols (w g : Nat) : Nat := (w - 1) / 2 ^ g + 2
def gridRows (h g : Nat) : Nat := (h - 1) / 2 ^ g + 2

/-- R289: an entry of the mesh: SLOT, SX, SY, WEIGHT, VALID. -/
structure MeshPoint where
  slot : Nat
  sx : Nat
  sy : Nat
  weight : Nat
  valid : Bool

def meshPoint (x : Nat) : MeshPoint := ⟨field x 63 58, field x 57 37, field x 36 16, field x 15 8, x.testBit 0⟩

/-- A view's mesh with its shape. -/
structure Mesh where
  log : Nat
  cols : Nat
  rows : Nat
  layers : Nat
  bytes : Bytes

def ViewSet.mesh (t : ViewSet) (v : Nat) : Mesh :=
  let c := t.num (Key.warpViewCtrl v)
  let z := t.num (Key.warpViewSize v)
  ⟨ctrlLog c, gridCols (field z 31 16) (ctrlLog c), gridRows (field z 15 0) (ctrlLog c), ctrlLayers c, t.dom (Key.warpMesh v)⟩

/-- R288: bytes of a mesh. -/
def Mesh.length (m : Mesh) : Nat := m.cols * m.rows * m.layers * 8

/-- R288: entry (l, j, i). -/
def Mesh.at_ (m : Mesh) (l j i : Nat) : MeshPoint := meshPoint (leAt m.bytes (8 * ((l * m.rows + j) * m.cols + i)) 8)

/-- R290: the slot with which layer l serves cell (i, j), if it does. -/
def Mesh.serves (m : Mesh) (l j i : Nat) : Option Nat :=
  if m.layers ≤ l then none
  else
    let e := m.at_ l j i
    let all := [e, m.at_ l j (i + 1), m.at_ l (j + 1) i, m.at_ l (j + 1) (i + 1)]
    if all.all fun x => x.valid && x.slot = e.slot then some e.slot else none

/-- R284: the slots that a mesh's valid points name. -/
def Mesh.slots (m : Mesh) : List Nat :=
  let n := m.cols * m.rows * m.layers
  let used := (List.range n).filterMap fun k =>
    let e := meshPoint (leAt m.bytes (8 * k) 8)
    if e.valid then some e.slot else none
  (List.range 64).filter fun i => used.contains i

/-- R290: source position (unsigned 15.6) and weight of layer l at output pixel (x, y). -/
def Mesh.sample (m : Mesh) (l x y : Nat) : Nat × Nat × Nat :=
  let sp := 2 ^ m.log
  let i := x / sp
  let j := y / sp
  let fx := x - sp * i
  let fy := y - sp * j
  let e := fun a b => m.at_ l (j + b) (i + a)
  let mix := fun (f : MeshPoint → Nat) =>
    let top := f (e 0 0) * (sp - fx) + f (e 1 0) * fx
    let bot := f (e 0 1) * (sp - fx) + f (e 1 1) * fx
    (rshift ((top * (sp - fy) + bot * fy : Nat) : Int) (2 * m.log)).toNat
  (mix (·.sx), mix (·.sy), mix (·.weight))

/-- A box of source samples: columns x0 to x1, lines y0 to y1. -/
structure Box where
  x0 : Int
  x1 : Int
  y0 : Int
  y1 : Int

def Box.join (a b : Box) : Box := ⟨min a.x0 b.x0, max a.x1 b.x1, min a.y0 b.y0, max a.y1 b.y1⟩

/-- R293, R297: the luma positions that sampling from lo to hi, unsigned 15.6, reads along one axis, chroma included (log 27). -/
def supportSpan (lo hi : Int) (bicubic subsampled : Bool) : Int × Int :=
  let a : Int := if bicubic then 1 else 0
  let b : Int := if bicubic then 2 else 1
  let own := (lo / 64 - a, hi / 64 + b)
  if subsampled then
    let clo := rshift (lo - 32) 1 / 64
    let chi := rshift (hi - 32) 1 / 64
    (min own.1 (2 * (clo - a)), max own.2 (2 * (chi + b) + 1))
  else own

/-- R297: the boxes of an output tile by slot, before any clipping to the source frame: for each layer and slot, over the valid grid
points that name the slot, of every cell the tile touches (log 27). -/
def footprint (m : Mesh) (bicubic : Bool) (format : Nat → Nat) (x0 x1 y0 y1 : Nat) : List (Nat × Box) :=
  let sp := 2 ^ m.log
  let cells := (List.range (y1 / sp + 1 - y0 / sp)).flatMap fun j =>
    (List.range (x1 / sp + 1 - x0 / sp)).map fun i => (x0 / sp + i, y0 / sp + j)
  let parts := (List.range m.layers).flatMap fun l => cells.flatMap fun c =>
    ([m.at_ l c.2 c.1, m.at_ l c.2 (c.1 + 1), m.at_ l (c.2 + 1) c.1, m.at_ l (c.2 + 1) (c.1 + 1)].filter (·.valid)).map fun p =>
      (l, p.slot, p.sx, p.sx, p.sy, p.sy)
  let keys := (List.range m.layers).flatMap fun l => (List.range 64).map fun i => (l, i)
  keys.filterMap fun k =>
    let own := parts.filter fun p => p.1 = k.1 && p.2.1 = k.2
    match own with
    | [] => none
    | p :: r =>
      let b := r.foldl (fun (a : Nat × Nat × Nat × Nat) q =>
        (min a.1 q.2.2.1, max a.2.1 q.2.2.2.1, min a.2.2.1 q.2.2.2.2.1, max a.2.2.2 q.2.2.2.2.2)) p.2.2
      let f := format k.2
      let xs := supportSpan b.1 b.2.1 bicubic (f ≤ 2)
      let ys := supportSpan b.2.2.1 b.2.2.2 bicubic (f = 1 || f = 2)
      some (k.2, ⟨xs.1, xs.2, ys.1, ys.2⟩)

/-- R297: the tiles of a source frame that a box meets. -/
def OutFrame.tilesIn (o : OutFrame) (b : Box) : List (Nat × Nat) :=
  let cl := fun (v : Int) (n : Nat) => clipN v (n - 1)
  let r0 := cl b.y0 o.height / 2 ^ o.tileH
  let r1 := cl b.y1 o.height / 2 ^ o.tileH
  let c0 := cl b.x0 o.width / 2 ^ o.tileW
  let c1 := cl b.x1 o.width / 2 ^ o.tileW
  (List.range (r1 + 1 - r0)).flatMap fun r => (List.range (c1 + 1 - c0)).map fun c => (r0 + r, c0 + c)

/-! Source samples. -/

/-- `w` bits of a byte string from a bit offset, most significant first. -/
def bitsAt (b : Bytes) (off w : Nat) : Nat :=
  bitsNat ((((slice b (off / 8) 5).flatMap byteBits).drop (off % 8)).take w)

/-- R248: bits per code of a format. -/
def formatBits (f : Nat) : Nat := match f with
  | 0 | 2 => 10
  | 4 => 12
  | _ => 8

/-- R248: the code of a plane at (x, y) of a tile of w × h pixels; chroma coordinates are the chroma planes' own. -/
def tileCode (f w h : Nat) (b : Bytes) (plane x y : Nat) : Nat :=
  let line := fun (codes bits : Nat) => ceilDiv (codes * bits) 8
  match f with
  | 0 => bitsAt b (8 * (y * line (2 * w) 10) +
      10 * (if plane = 0 then 4 * (x / 2) + 2 * (x % 2) else 4 * x + (if plane = 1 then 1 else 3))) 10
  | 3 => bitsAt b (8 * (y * 3 * w) + 8 * (3 * x + plane)) 8
  | 4 => bitsAt b (8 * (y * line w 12) + 12 * x) 12
  | _ =>
    let n := formatBits f
    if plane = 0 then bitsAt b (8 * (y * line w n) + n * x) n
    else bitsAt b (8 * ((h + y) * line w n) + n * (2 * x + (plane - 1))) n

/-- R293: size of a plane of a source frame: columns and lines per sample of it. -/
def planeStep (f plane : Nat) : Nat × Nat :=
  if plane = 0 ∨ f = 3 ∨ f = 4 then (1, 1) else if f = 0 then (2, 1) else (2, 2)

/-- R293, R294: a 16-bit sample of a source frame, none where its tile was not produced. -/
def OutFrame.sampleAt (o : OutFrame) (plane : Nat) (x y : Int) : Option Int :=
  let st := planeStep o.format plane
  let cx := clipN x (o.width / st.1 - 1)
  let cy := clipN y (o.height / st.2 - 1)
  let col := cx * st.1 / 2 ^ o.tileW
  let row := cy * st.2 / 2 ^ o.tileH
  match mapGet (tileKey row col) o.tiles with
  | none => none
  | some t =>
    let c := tileCode o.format (o.colWidth col) (o.rowLines row) t.bytes plane (cx - col * 2 ^ o.tileW / st.1)
      (cy - row * 2 ^ o.tileH / st.2)
    some (c * 2 ^ (16 - formatBits o.format) : Nat)

/-- All samples of a list, or none. -/
def allOf : List (Option Int) → Option (List Int)
  | [] => some []
  | x :: r => match x, allOf r with
    | some v, some l => some (v :: l)
    | _, _ => none

/-- R293: one plane of a source frame sampled at (px, py). -/
def samplePlane (o : OutFrame) (kernel : Nat → Nat → Int) (bicubic : Bool) (plane px py : Nat) : Option Int :=
  let st := planeStep o.format plane
  let qx : Int := if st.1 = 2 then rshift ((px : Int) - 32) 1 else (px : Int)
  let qy : Int := if st.2 = 2 then rshift ((py : Int) - 32) 1 else (py : Int)
  let ix := qx / 64
  let ux := qx - 64 * ix
  let iy := qy / 64
  let uy := qy - 64 * iy
  let p := fun (a b : Int) => o.sampleAt plane a b
  if !bicubic then
    match allOf [p ix iy, p (ix + 1) iy, p ix (iy + 1), p (ix + 1) (iy + 1)] with
    | some [a, b, c, d] =>
      some (rshift (a * (64 - ux) * (64 - uy) + b * ux * (64 - uy) + c * (64 - ux) * uy + d * ux * uy) 12)
    | _ => none
  else
    let k := fun (u : Int) (n : Nat) => kernel u.toNat n
    let rows := (List.range 4).map fun (r : Nat) =>
      (allOf ((List.range 4).map fun (c : Nat) => p (ix - 1 + c) (iy - 1 + r))).map fun l =>
        rshift (k ux 0 * l.getD 0 0 + k ux 1 * l.getD 1 0 + k ux 2 * l.getD 2 0 + k ux 3 * l.getD 3 0) 10
    (allOf rows).map fun h =>
      clip (rshift (k uy 0 * h.getD 0 0 + k uy 1 * h.getD 1 0 + k uy 2 * h.getD 2 0 + k uy 3 * h.getD 3 0) 10) 0 65535

/-! Views. -/

def OutFrame.view (o : OutFrame) : Nat := o.stream - 960

/-- R283: the frame a view's slot takes from: the reference slot its reference frame, others what was matched. -/
def OutFrame.slotFrame (o : OutFrame) (p : Part) (slot : Nat) : Match :=
  if slot = ctrlRefSlot ((o.viewSet p).num (Key.warpViewCtrl o.view)) then .frame o.fid else mapGetD slot .none_ o.matches_

/-- The output frame of the slot's stream that a slot takes from, if it is in the frame store. -/
def State.slotSource (s : State) (o : OutFrame) (slot : Nat) : Option OutFrame :=
  match o.slotFrame s.part slot with
  | .frame f =>
    let st := slotStream ((o.viewSet s.part).num (Key.warpSource slot))
    s.mrg.frames.find? fun x => x.fid = f && x.stream = st
  | _ => none

/-- R294, R298: is it known that a slot's stream gives this view's frame no tile? Nothing matched, or the frame matched brought no
output frame of the stream. -/
def State.sourceGone (s : State) (o : OutFrame) (slot : Nat) : Bool :=
  match o.slotFrame s.part slot with
  | .open_ => false
  | .none_ => true
  | .frame f => (s.slotSource o slot).isNone && !s.frames.any fun x => x.fid = f && !x.handed && !x.closed

/-- R294: layer l at a pixel: its values by plane and its weight; or whether the layer is lost for another reason than the
mesh. -/
def State.layerAt (s : State) (o : OutFrame) (m : Mesh) (l x y : Nat) : Option (List Int × Nat) × Bool :=
  match m.serves l (y / 2 ^ m.log) (x / 2 ^ m.log) with
  | none => (none, false)
  | some slot =>
    match s.slotSource o slot with
    | none => (none, true)
    | some src =>
      let t := o.viewSet s.part
      let q := m.sample l x y
      let kernel := t.dom Key.warpKernel
      let k := fun (ph n : Nat) => toSigned 16 (leAt kernel (8 * ph + 2 * n) 2)
      let planes := if src.format = 4 then [0] else [0, 1, 2]
      match allOf (planes.map fun pl => samplePlane src k (ctrlBicubic (t.num (Key.warpViewCtrl o.view))) pl q.1 q.2.1) with
      | none => (none, true)
      | some l => (some (l, q.2.2), false)

/-- R295: an output pixel's planes, and whether a layer was lost. -/
def State.warpPixel (s : State) (o : OutFrame) (m : Mesh) (x y : Nat) : List Int × Bool :=
  let a := s.layerAt o m 0 x y
  let b := s.layerAt o m 1 x y
  let fill := (o.viewSet s.part).num (Key.warpFill o.view)
  let v := match a.1, b.1 with
    | some (p, _), some (q, w) => List.zipWith (fun v0 v1 => rshift (v0 * (256 - w) + v1 * w) 8) p q
    | some (p, _), none => p
    | none, some (q, _) => q
    | none, none => [(field fill 47 32 : Nat), (field fill 31 16 : Nat), (field fill 15 0 : Nat)]
  (v, a.2 || b.2)

/-- R293 to R295, R248: the content of an output tile, and whether a pixel lost a layer. -/
def State.warpTile (s : State) (o : OutFrame) (row col : Nat) : Bytes × Bool :=
  let m := (o.viewSet s.part).mesh o.view
  let px := (List.range (o.rowLines row)).map fun r => (List.range (o.colWidth col)).map fun c =>
    s.warpPixel o m (col * 2 ^ o.tileW + c) (row * 2 ^ o.tileH + r)
  let plane := fun i => px.map fun l => l.map fun p => p.1.getD i 0
  (packTile o.format [plane 0, plane 1, plane 2], px.any fun l => l.any (·.2))

/-- R297: the footprint of an output tile: slots with boxes. -/
def State.tileBoxes (s : State) (o : OutFrame) (row col : Nat) : List (Nat × Box) :=
  let t := o.viewSet s.part
  let x0 := col * 2 ^ o.tileW
  let y0 := row * 2 ^ o.tileH
  footprint (t.mesh o.view) (ctrlBicubic (t.num (Key.warpViewCtrl o.view))) (fun i => slotFormat (t.num (Key.warpSource i)))
    x0 (x0 + o.colWidth col - 1) y0 (y0 + o.rowLines row - 1)

/-- R287, R294: does a pixel of an output tile lose a layer to a slot unmatched, or to a tile that is known not to be produced? -/
def State.tileLost (s : State) (o : OutFrame) (row col : Nat) : Bool :=
  let m := (o.viewSet s.part).mesh o.view
  let lost := fun (l x y : Nat) => match m.serves l (y / 2 ^ m.log) (x / 2 ^ m.log) with
    | none => false
    | some slot => (s.layerAt o m l x y).2 &&
      (s.sourceGone o slot || (s.slotSource o slot).any fun src => src.closed || src.skipped)
  (List.range (o.rowLines row)).any fun r => (List.range (o.colWidth col)).any fun c => (List.range m.layers).any fun l =>
    lost l (col * 2 ^ o.tileW + c) (row * 2 ^ o.tileH + r)

end Sys2Proof.Machine
end

