-- ==== Sys2Proof/Machine/Merge.lean ====
section
/-! DEFINITION. Chapter 11, merge and codec: output frames, release times, the release queue, report cards, packets and
coded slices (R308 to R332), and the golden comparators at a frame end (R482). -/
namespace Sys2Proof.Machine

/-! Rows of entries (R313): descriptor, frame start, tile rows, frame end, marker. -/
def rowDescriptor : Nat := 0
def rowStart : Nat := 1
def rowEnd : Nat := 65538
def rowMarker : Nat := 65539

/-- R313: does entry a come before entry b? -/
def State.entryBefore (s : State) (a b : Entry) : Bool :=
  if !s.leq b.at_ a.at_ then true
  else if !s.leq a.at_ b.at_ then false
  else if a.stream ≠ b.stream then a.stream < b.stream
  else if (a.row = rowMarker) ≠ (b.row = rowMarker) then b.row = rowMarker
  else if a.num ≠ b.num then atOrAfter32 b.num a.num
  else if a.row ≠ b.row then a.row < b.row
  else a.col < b.col

/-- The first of a list of entries in an order. -/
def firstBy (before : Entry → Entry → Bool) : List Entry → Option Entry
  | [] => none
  | e :: r =>
    match firstBy before r with
    | none => some e
    | some x => if before x e then some x else some e

/-- The first of a list of entries in the order of R313. -/
def State.firstEntry (s : State) (l : List Entry) : Option Entry := firstBy s.entryBefore l

/-- R299, R315: has an entry's release time passed? A view's release times are known once the frames it matched are handed over. -/
def State.entryDue (s : State) (e : Entry) : Bool :=
  s.reached e.at_ && (e.row = rowMarker || (s.outOf e.oid).all (·.fixed))

/-! Packets. -/

/-- R323: which outputs a route names: 0 trunk, 1 video port. -/
def routeOutputs (route : Nat) : List Nat := (if route.testBit 0 then [0] else []) ++ (if route.testBit 1 then [1] else [])

/-- R323: GEOMETRY. -/
def geometry (col row w h format : Nat) : Nat :=
  col % 1024 * 2 ^ 30 + row % 4096 * 2 ^ 18 + (w - 1) % 256 * 2 ^ 10 + (h - 1) % 64 * 2 ^ 4 + format % 8 * 2

/-- R323: the media header. -/
def State.mediaHeader (s : State) (out type reason stream num : Nat) (cap : Instant) (geom len pipeGen sensorGen : Nat) :
    Bytes :=
  let short := s.flag (Key.mrgTime32 out)
  let t := cap.t.toNat
  [byteOf type, byteOf ((if short then 128 else 0) + reason)] ++ beBytes 2 stream ++ beBytes 4 num ++ beBytes 2 cap.epoch ++
    beBytes 6 (if short then 0 else t / secUnits) ++
    beBytes 4 (if short then time32 t else t % secUnits / 65536) ++
    beBytes 5 geom ++ beBytes 3 len ++ beBytes 2 pipeGen ++ beBytes 2 sensorGen

/-- R324: header and payload with their CRC-32. -/
def withCrc (b : Bytes) : Bytes := b ++ beBytes 4 (crc32 b)

def queueBytes (q : List Packet) : Nat := (q.map (·.bytes.length)).foldl (· + ·) 0

/-- R317: bytes in an output's queue. -/
def State.outFill (s : State) (out : Nat) : Nat := queueBytes (if out = 0 then s.mrg.trunk else s.mrg.video)

/-- Put a packet into an output queue. -/
def State.pushPacket (s : State) (out : Nat) (b : Bytes) : State :=
  let p : Packet := ⟨b, s.mrg.releasing, []⟩
  let s := if out = 0 then { s with mrg := { s.mrg with trunk := s.mrg.trunk ++ [p] } }
    else { s with mrg := { s.mrg with video := s.mrg.video ++ [p] } }
  s.setObj (Key.mrgOutPeak out) (max (s.nat (Key.mrgOutPeak out)) (s.outFill out) : Nat)

def OutFrame.sent (o : OutFrame) (out : Nat) : Sent := if out = 0 then o.out0 else o.out1

def OutFrame.updSent (o : OutFrame) (out : Nat) (f : Sent → Sent) : OutFrame :=
  if out = 0 then { o with out0 := f o.out0 } else { o with out1 := f o.out1 }

/-- Count a tile or slice packet of an output frame on an output. -/
def State.countTile (s : State) (oid out card absent : Nat) (payload : Bytes) : State :=
  s.updOut oid fun o => o.updSent out fun t => { t with
    card := t.card ||| card, tiles := t.tiles + 1, absent := t.absent + absent, crc := crcFold t.crc payload }

/-- Does the frame send its content as coded slices? -/
def OutFrame.isCoded (o : OutFrame) : Bool := o.coded.isSome

/-- Geometry of a tile or slice packet. -/
def OutFrame.tileGeometry (o : OutFrame) (row col : Nat) : Nat :=
  if o.isCoded then geometry 0 row (2 ^ o.tileW) (o.rowLines row) o.format
  else geometry col row (o.colWidth col) (o.rowLines row) o.format

/-- R315: the report card bit of an absent reason. -/
def reasonCard (reason : Nat) : Nat :=
  match reason with
  | 1 | 5 => 2 ^ cardMissed
  | 3 => 2 ^ cardSkipped
  | 4 => 2 ^ cardOutOverflow
  | 6 => 2 ^ cardMem
  | _ => 0

/-- R315, R316: emit an absent packet on an output. -/
def State.emitAbsent (s : State) (o : OutFrame) (out row col reason : Nat) : State :=
  let h := s.mediaHeader out 2 reason o.stream o.num o.capture (o.tileGeometry row col) 0 o.pipeGen o.sensorGen
  let s := (s.pushPacket out (withCrc h)).countTile o.oid out (reasonCard reason) 1 []
  let s := s.bump (Key.mrgTilesAbsent o.stream)
  if reason = 1 ∨ reason = 5 then
    s.raiseLimited 0x6101 1 o.stream "MX.MRG" (leBytes 2 o.stream ++ leBytes 4 o.num ++ leBytes 2 row ++ [byteOf reason])
  else s

/-- R317: emit a tile or coded slice on an output, or its absent packet where the queue is full. -/
def State.emitPresent (s : State) (o : OutFrame) (out row col : Nat) (payload : Bytes) : State :=
  let h := s.mediaHeader out (if o.isCoded then 3 else 1) 0 o.stream o.num o.capture (o.tileGeometry row col)
    payload.length o.pipeGen o.sensorGen
  let b := withCrc (h ++ payload)
  if s.nat (Key.mrgOutLimit out) < s.outFill out + b.length then
    let s := s.emitAbsent o out row col 4
    s.raiseLimited 0x6102 1 o.stream "MX.MRG" (leBytes 2 o.stream ++ leBytes 4 o.num ++ [byteOf (out + 1)])
  else (s.pushPacket out b).countTile o.oid out 0 0 payload

/-- R315: the reason a tile or slice is absent, or its content. `found`: what landed; `made`: it was or will be made. -/
def absentReason (o : OutFrame) (e : Entry) (found : Option Tile) (unmade : Bool) : Nat ⊕ Bytes :=
  if o.skipped then .inl 3
  else if o.refused then .inl 4
  else if e.late then .inl 5
  else match found with
    | some t => if t.poisoned || e.poisoned then .inl 6 else .inr t.bytes
    | none => if e.poisoned then .inl 6 else if unmade then .inl 2 else .inl 1

/-- R189, R190: is row r of a pipeline stream known not to be produced, other than by a recovery action? -/
def OutFrame.unmade (o : OutFrame) (row : Nat) : Bool := !o.isView && o.closed && !o.recovered && o.rows ≤ row

/-- R299, R315: emit one tile or slice position on every output of the route; the tiles of a view not complete by now are late. -/
def State.emitTile (s : State) (e : Entry) (row col : Nat) : State :=
  match s.outOf e.oid with
  | none => s
  | some o =>
    let found := if o.isCoded then mapGet row o.slices else mapGet (tileKey row col) o.tiles
    let r := absentReason o e found (o.unmade row)
    let s := (routeOutputs o.route).foldl (fun st out =>
      match r with
      | .inl reason => st.emitAbsent o out row col reason
      | .inr b => st.emitPresent o out row col b) s
    let unmade := if o.isCoded then (List.range o.cols).filter fun c => (mapGet (tileKey row c) o.tiles).isNone else
      if found.isNone then [col] else []
    let s := if o.isView then unmade.foldl (fun s _ => s.bump (Key.warpTilesLate (o.stream - 960))) s else s
    s.updOut o.oid fun x => { x with emitted := (if o.isCoded then row else tileKey row col) :: x.emitted }

/-- The geometry of frame starts, frame ends and descriptors. -/
def OutFrame.frameGeometry (o : OutFrame) : Nat :=
  geometry (o.cols - 1) (o.rowCount - 1) (2 ^ o.tileW) (2 ^ o.tileH) o.format

/-- R326: the stream descriptor's payload. -/
def OutFrame.descriptor (o : OutFrame) : Bytes :=
  let v := o.isView
  beBytes 2 o.stream ++ [byteOf (boolNat v), byteOf (if v then o.stream - 960 else o.stream % 20)] ++
    beBytes 2 (if v then 0xFFFF else o.stream / 40) ++ [byteOf (if v then 0 else o.stream % 40 / 20), byteOf o.format] ++
    beBytes 2 o.width ++ beBytes 2 o.height ++ [byteOf o.tileW, byteOf o.tileH] ++ beBytes 2 o.gen ++ beBytes 4 o.pw ++
    [byteOf (match o.coded with
      | none => 0
      | some profile => profile + 1), 0] ++ beBytes 2 o.bpp ++ beBytes 4 o.framePeriod ++ beBytes 4 o.linePeriod

/-- R330: bytes of a slice of `lines` lines. -/
def sliceBytes (width lines bpp : Nat) : Nat := width * lines * bpp / 128

/-- R328: vertical decomposition levels of a profile: 0 = Light 422.10, 1 = Main 422.10. -/
def verticalLevels (profile : Nat) : Nat := if profile = 0 then 0 else 1

/-- R329: markers of ISO/IEC 21122-1 (log 13). -/
def socMarker : Bytes := [0xFF, 0x10]
def capMarker : Bytes := [0xFF, 0x50]
def pihMarker : Bytes := [0xFF, 0x12]
def cdtMarker : Bytes := [0xFF, 0x13]
def wgtMarker : Bytes := [0xFF, 0x14]
def slhMarker : Bytes := [0xFF, 0x20]
def eocMarker : Bytes := [0xFF, 0x11]

/-- R328, R329: bytes of the codestream header under a profile: SOC and the segments CAP, PIH, CDT and WGT. -/
def headerLength (profile : Nat) : Nat := 48 + if profile = 0 then 36 else 48

/-- R328, R329: the codestream header of a coded frame, of at most 256 bytes (log 13): no NLT and no CWD segment; 5 horizontal levels and
0 or 1 vertical ones; the level and sublevel, and the fields that the manual does not name, are free. -/
def OutFrame.codestreamHeader (o : OutFrame) : Bytes :=
  match o.coded with
  | none => []
  | some profile =>
    let free := fun (i n : Nat) => (List.range n).map fun k =>
      Config.codestreamHeaderByte profile o.bpp o.width o.height o.framePeriod (i + k)
    let bands := if profile = 0 then 18 else 24
    let slices := ((List.range o.rowCount).map fun r => sliceBytes o.width (o.rowLines r) o.bpp).foldl (· + ·) 0
    socMarker ++ capMarker ++ beBytes 2 2 ++
      pihMarker ++ beBytes 2 26 ++ beBytes 4 (headerLength profile + slices + 2) ++
      beBytes 2 (if profile = 0 then 0x1500 else 0x3540) ++ free 0 2 ++ beBytes 2 o.width ++ beBytes 2 o.height ++ beBytes 2 0 ++
      beBytes 2 (2 ^ o.tileH / 2 ^ verticalLevels profile) ++ [3] ++ free 2 5 ++ [byteOf (5 * 16 + verticalLevels profile)] ++ free 7 1 ++
      cdtMarker ++ beBytes 2 8 ++ [10, 0x11, 10, 0x21, 10, 0x21] ++
      wgtMarker ++ beBytes 2 (2 + 2 * bands) ++ free 8 (2 * bands)

/-- R329, R330: a slice's B bytes: its SLH marker with the slice's index, then what the codec makes of its samples (log 13). -/
def codedSlice (profile bpp row size : Nat) (samples : List Nat) : Bytes :=
  (slhMarker ++ beBytes 2 4 ++ beBytes 2 row ++ (List.range (size - 6)).map (Config.jpegXsByte profile bpp size samples)).take size

/-- R321: the report card of an output frame on an output; a view's also holds the flags of its reference and matched frames
(R287), except missed releases. -/
def State.streamCard (s : State) (o : OutFrame) (out : Nat) : Nat :=
  ((s.frameOf o.fid).map Frame.cardBits).getD 0 ||| o.card ||| (if o.skipped then 2 ^ cardSkipped else 0) ||| (o.sent out).card

def State.card (s : State) (o : OutFrame) (out : Nat) : Nat :=
  if !o.isView then s.streamCard o out
  else
    let strip := fun c => setBit c cardMissed false
    let fids := o.fid :: o.matches_.filterMap fun m => match m.2 with
      | .frame f => some f
      | _ => none
    let slots := ctrlRefSlot ((o.viewSet s.part).num (Key.warpViewCtrl o.view)) :: o.matches_.map (·.1)
    let srcs := slots.filterMap (s.slotSource o)
    let cards := srcs.map fun x => strip (s.streamCard x out)
    let base := (fids.filterMap s.frameOf).map Frame.cardBits
    (cards ++ base).foldl (· ||| ·) (o.card ||| (o.sent out).card ||| (if o.missing then 2 ^ cardWarp else 0))

/-- R482: the armed comparators look at a frame end. -/
def State.goldenCheck (s : State) (out stream num card sig : Nat) : State :=
  (List.range 16).foldl (fun st i =>
    let spec := st.nat (Key.testGoldenSpec i)
    if st.nat (Key.testGoldenResult i) = 1 ∧ field spec 57 48 = stream ∧ field spec 40 40 = out then
      let want := field spec 31 0
      if num = want then
        let r : Nat := if card % 256 ≠ 0 then 4 else if sig = st.nat (Key.testGoldenExpect i) then 2 else 3
        let st := (st.setObj (Key.testGoldenSeen i) sig).setObj (Key.testGoldenResult i) r
        if r = 2 then st else st.raise 0x9001 1 "MX.MRG" ([byteOf i, byteOf r] ++ leBytes 4 sig)
      else if atOrAfter32 num want then st.setObj (Key.testGoldenResult i) 5
      else st
    else st) s

/-- R322, R325, R327: emit a frame end on an output. -/
def State.emitEnd (s : State) (oid out : Nat) : State :=
  match s.outOf oid with
  | none => s
  | some o =>
    let card := s.card o out
    let t := o.sent out
    let sig := t.crc ^^^ 0xFFFFFFFF
    let payload := beBytes 4 card ++ beBytes 4 t.tiles ++ beBytes 4 t.absent ++ beBytes 4 sig ++
      (if o.isCoded then eocMarker else [])
    let h := s.mediaHeader out 5 0 o.stream o.num o.capture o.frameGeometry payload.length o.pipeGen o.sensorGen
    let s := (s.pushPacket out (withCrc (h ++ payload))).bump (Key.mrgFrames o.stream)
    let s := if out = 0 ∨ !o.route.testBit 0 then
        (s.setObj (Key.mrgLastCard o.stream) card).setObj (Key.mrgLastSignature o.stream) sig
      else s
    s.goldenCheck out o.stream o.num card sig

/-- R287, R294: what the tiles of a view's frame that never completed would have lost counts too. -/
def State.noteMissing (s : State) (o : OutFrame) : State :=
  if !o.isView || o.missing then s
  else
    let lost := (List.range o.rowCount).any fun r => (List.range o.cols).any fun c =>
      (mapGet (tileKey r c) o.tiles).isNone && s.tileLost o r c
    s.updOut o.oid fun x => { x with missing := lost }

/-- R306: a view's output frame is completed. -/
def State.viewEnded (s : State) (o : OutFrame) : State :=
  if o.isView then
    let s := s.bump (Key.warpFrames (o.stream - 960))
    if o.missing then s.bump (Key.warpFramesIncomplete (o.stream - 960)) else s
  else s

/-- R315: emit the packets of an entry. -/
def State.emitEntry (s : State) (e : Entry) : State :=
  if e.row = rowMarker then
    let (n, s) := s.draw
    (routeOutputs e.route).foldl (fun st out =>
      let payload := beBytes 4 e.arg ++ beBytes 2 e.entry ++ [0, 0]
      st.pushPacket out (withCrc (st.mediaHeader out 6 0 e.stream 0 e.act 0 8 0 (Config.markerGen n) ++ payload))) s
  else match s.outOf e.oid with
    | none => s
    | some o =>
      let packet := fun (st : State) (out type : Nat) (payload : Bytes) =>
        st.pushPacket out (withCrc (st.mediaHeader out type 0 o.stream o.num o.capture o.frameGeometry payload.length
          o.pipeGen o.sensorGen ++ payload))
      if e.row = rowDescriptor then
        (routeOutputs o.route).foldl (fun st out => packet st out 0x10 o.descriptor) s
      else if e.row = rowStart then
        let tag := match s.frameOf o.fid with
          | some f => f.startTag
          | none => List.replicate 48 0
        (routeOutputs o.route).foldl (fun st out => packet st out 4 (tag ++ o.codestreamHeader)) s
      else if e.row = rowEnd then
        let s := (routeOutputs o.route).foldl (fun st out => st.emitEnd o.oid out) (s.noteMissing o)
        (s.viewEnded ((s.outOf o.oid).getD o)).updOut o.oid fun x => { x with ended := true }
      else if o.isView && !o.isCoded then s.emitTile e (e.row - 2) e.col
      else if o.isCoded then s.emitTile e (e.row - 2) 0
      else (List.range o.cols).foldl (fun st c => st.emitTile e (e.row - 2) c) s

/-- R314: entries that the queue counts, and those of tiles, rows and slices among them. -/
def State.queueFill (s : State) : Nat := (s.mrg.entries.filter (·.counted)).length
def State.tileFill (s : State) : Nat := (s.mrg.entries.filter fun e => e.counted && rowStart < e.row && e.row < rowEnd).length

/-- R313, R315: emit the first of a list of entries and take it out of the queue. -/
def State.emitFirst (s : State) (l : List Entry) : State :=
  match s.firstEntry l with
  | none => s
  | some e => ({ s with mrg := { s.mrg with
      entries := s.mrg.entries.filter (· != e), releasing := e.at_ } }).emitEntry e

/-- Emit entries that a test picks, one by one in the order of R313; the first argument bounds their number. -/
def emitWhile (p : State → Entry → Bool) : Nat → State → State
  | 0, s => s
  | n + 1, s =>
    let l := s.mrg.entries.filter (p s)
    if l.isEmpty then s else emitWhile p n (s.emitFirst l)

/-- R314: put entries into the queue; those whose release time has passed leave at once (R315, reason 5). -/
def State.enqueue (s : State) (l : List Entry) : State :=
  let l := l.map fun e => { e with late := s.entryDue e }
  let s := { s with mrg := { s.mrg with entries := s.mrg.entries ++ l } }
  let s := s.setObj Key.mrgQueuePeak (max (s.nat Key.mrgQueuePeak) s.queueFill : Nat)
  emitWhile (fun _ e => e.late) l.length s

/-- The later of two instants. -/
def State.laterOf (s : State) (a b : Instant) : Instant := if s.leq a b then b else a
def State.earlierOf (s : State) (a b : Instant) : Instant := if s.leq a b then a else b

/-- R311: the release times of a frame's start and end, from its tile, row or slice entries as (row, column, release). -/
def State.frameTimes (s : State) (o : OutFrame) (tiles : List (Nat × Nat × Instant)) : Instant × Instant :=
  let a := (tiles.head?.map (·.2.2)).getD o.capture
  (tiles.foldl (fun a t => s.earlierOf a t.2.2) a, tiles.foldl (fun a t => s.laterOf a t.2.2) a)

/-- R314: queue an output frame: its tile, row or slice entries as (row, column, release), and its own. -/
def State.queueFrame (s : State) (oid : Nat) (tiles : List (Nat × Nat × Instant)) : State :=
  match s.outOf oid with
  | none => s
  | some o =>
    if o.route = 0 then s.updOut oid fun x => { x with queued := true, ended := !x.isView }
    else
      let full := 262144 - 4096 < s.tileFill + tiles.length
      let (first, last) := s.frameTimes o tiles
      let mk := fun (row col : Nat) (at_ : Instant) (counted : Bool) =>
        ({ at_ := at_, stream := o.stream, num := o.num, row := row, col := col, oid := oid, late := false, counted := counted,
           poisoned := false, route := o.route, arg := 0, entry := 0, act := at_ } : Entry)
      let s := s.updOut oid fun x => { x with queued := true, refused := full }
      let s := if full then (s.bump Key.mrgQueueRefused).raise 0x6103 2 "MX.MRG" (leBytes 2 o.stream ++ leBytes 4 o.num) else s
      s.enqueue ([mk rowDescriptor 0 first true, mk rowStart 0 first true] ++
        tiles.map (fun t => mk (t.1 + 2) t.2.1 t.2.2 (!full)) ++ [mk rowEnd 0 last true])

/-- R110, R314: the entry of a marker, created when its firing is loaded. -/
def State.queueMarker (s : State) (stream arg entry : Nat) (act : Instant) : State :=
  let e : Entry := {
    at_ := act.plus (usUnits (s.liveNat (Key.mrgPw stream)) : Nat), stream := stream, num := 0, row := rowMarker, col := 0,
    oid := 0, late := false, counted := true, poisoned := false, route := s.liveNat (Key.mrgRoute stream), arg := arg,
    entry := entry, act := act }
  if e.route = 0 then s else s.enqueue [e]

/-- R515: a skipped marker's entry is withdrawn. -/
def State.withdrawMarker (s : State) (stream entry : Nat) (act : Instant) : State :=
  let gone := fun (e : Entry) => e.row = rowMarker && e.stream = stream && e.entry = entry && e.act = act
  { s with mrg := { s.mrg with entries := s.mrg.entries.filter fun e => !gone e } }

/-! Which output frames are still needed. -/

/-- R284: does a view match frames of a stream, as its set stands? -/
def State.viewUses (s : State) (v stream : Nat) : Bool :=
  field (s.liveNat (Key.warpViewCtrl v)) 31 31 = 1 &&
    (List.range 64).any fun i => field ((s.wideOf (960 + v)).num s.part (Key.warpSource i)).toNat 63 48 = stream

/-- May an enabled view still match a frame of this capture time in this stream? -/
def State.mayMatch (s : State) (stream : Nat) (cap : Instant) : Bool :=
  (List.range 64).any fun v => s.viewUses v stream &&
    (match (s.mrg.frames.filter (·.stream = 960 + v)).getLast? with
      | none => true
      | some o => s.leq o.capture (cap.plus (usUnits (s.liveNat (Key.warpMatchWindow v)) : Nat)))

/-- Frames that an unfinished view frame uses. -/
def State.inUse (s : State) (fid : Nat) : Bool :=
  s.mrg.frames.any fun o => o.isView && !o.ended &&
    (o.fid = fid || o.matches_.any fun m => match m.2 with
      | .frame f => f = fid
      | .open_ => false
      | .none_ => false)

/-- R316: does a tile core or a codec engine still work on a frame? -/
def State.working (s : State) (o : OutFrame) : Bool :=
  s.mrg.cores.any (·.2.oid = o.oid) ||
    (o.isCoded && !o.refused && (List.range o.rowCount).any fun r =>
      (mapGet r o.slices).isNone && (List.range o.cols).all fun c => (mapGet (tileKey r c) o.tiles).isSome)

/-- Drop output frames and frames that nothing needs any more (R298, R316, R411). -/
def State.prune (s : State) : State :=
  let kept := fun (o : OutFrame) =>
    !o.ended || s.working o || (!o.isView && (!o.closed || s.inUse o.fid || s.mayMatch o.stream o.capture))
  let s := { s with mrg := { s.mrg with frames := s.mrg.frames.filter kept } }
  { s with frames := s.frames.filter fun f =>
    !f.closed || s.inUse f.fid || s.mrg.frames.any fun o => o.fid = f.fid }

/-- MERGE_RELEASE, R315: the first queued entry whose release time the time base has passed, while the merge's domain is on
(R438). -/
def mergeRelease (s : State) : State :=
  s.whenever (s.nat (Key.pwrDomainState 54) = 2) fun s => (s.emitFirst (s.mrg.entries.filter s.entryDue)).prune

def execMergeRelease (s : State) : Res := .next (mergeRelease s)

/-! Landing of tiles (R315, R316). -/

/-- A tile lands in the frame store; one that its absent packet preceded is counted (R316). -/
def State.landTile (s : State) (oid row col : Nat) (b : Bytes) : State :=
  match s.outOf oid with
  | none => s
  | some o =>
    let late := !o.isCoded && o.emitted.contains (tileKey row col)
    let s := s.updOut oid fun x => { x with tiles := mapSet (tileKey row col) ⟨b, false⟩ x.tiles }
    if late then s.bump Key.mrgLateDiscards else s

/-- A tile row of a pipeline stream lands. -/
def State.landRow (s : State) (oid row : Nat) (tiles : List Bytes) : State :=
  let s := (tiles.zip (List.range tiles.length)).foldl (fun st t => st.landTile oid row t.2 t.1) s
  s.updOut oid fun x => { x with rows := row + 1 }

/-! The codec (R328 to R332). -/

/-- R328: ENGINE and PROFILE of CODEC_CTRL. -/
def codecEngineOf (ctrl : Nat) : Nat := field ctrl 9 8

/-- R332: the engine that codes a stream. -/
def State.engineOf (s : State) (stream : Nat) : Nat :=
  (mapGet stream s.mrg.moved).getD (codecEngineOf (s.liveNat (Key.codecCtrl stream)))

/-- R330: the codes of a tile row of FORMAT 0: plane by plane, line by line, whatever the tiling. -/
def OutFrame.rowSamples (o : OutFrame) (row : Nat) : List Nat :=
  (List.range 3).flatMap fun plane => (List.range (o.rowLines row)).flatMap fun y =>
    (List.range (if plane = 0 then o.width else o.width / 2)).map fun x =>
      let col := (if plane = 0 then x else 2 * x) / 2 ^ o.tileW
      let x0 := if plane = 0 then col * 2 ^ o.tileW else col * 2 ^ o.tileW / 2
      tileCode 0 (o.colWidth col) (o.rowLines row) (((mapGet (tileKey row col) o.tiles).map (·.bytes)).getD []) plane (x - x0) y

/-- The slices an engine may code now: release, stream, frame, row. -/
def State.slicesReady (s : State) (engine : Nat) : List Entry :=
  (s.mrg.frames.filter fun o => o.isCoded && s.engineOf o.stream = engine && !o.refused).flatMap fun o =>
    ((List.range o.rowCount).filter fun r =>
      (mapGet r o.slices).isNone && (List.range o.cols).all fun c => (mapGet (tileKey r c) o.tiles).isSome).map fun r =>
      let at_ := match s.mrg.entries.find? fun e => e.oid = o.oid && e.row = r + 2 with
        | some e => e.at_
        | none => o.capture
      { at_ := at_, stream := o.stream, num := o.num, row := r, col := 0, oid := o.oid, late := false, counted := false,
        poisoned := false, route := 0, arg := 0, entry := 0, act := at_ }

/-- CODEC_SLICE_COMPLETE, R330: the engine finishes the slice first in release order (log 25). -/
def codecSliceComplete (engine : Nat) (s : State) : State :=
  if s.flag (Key.codecEngineFence engine) || s.nat (Key.pwrDomainState (52 + engine / 2)) ≠ 2 then s
  else match s.firstEntry (s.slicesReady engine) with
    | none => s
    | some e =>
      match s.outOf e.oid with
      | none => s
      | some o =>
        match o.coded with
        | none => s
        | some profile =>
          let ts := (List.range o.cols).filterMap fun c => mapGet (tileKey e.row c) o.tiles
          let b := codedSlice profile o.bpp e.row (sliceBytes o.width (o.rowLines e.row) o.bpp) (o.rowSamples e.row)
          let s := s.updOut o.oid fun x => { x with slices := mapSet e.row ⟨b, ts.any (·.poisoned)⟩ x.slices }
          let s := s.bump (Key.codecSlices engine)
          if o.emitted.contains e.row then (s.bump Key.mrgLateDiscards).prune else s

def execCodecSliceComplete (engine : Nat) (s : State) : Res :=
  onUnit (s.part.has .codec engine) (codecSliceComplete engine s)

/-- W × H of a stream in a set given by a reader of numbers: views by WARP_VIEW_SIZE, pipeline streams by their cropper and the
port's frame (R331). -/
def State.streamSize (s : State) (num : Nat → Int) (stream : Nat) : Nat × Nat :=
  if 960 ≤ stream then
    let z := (num (Key.warpViewSize (stream - 960))).toNat
    (field z 31 16, field z 15 0)
  else
    let pipe := stream / 40
    let j := 20 * pipe + stream % 20
    let out := (num (Key.pipeCropOut j)).toNat
    let src := (num (Key.pipeCropSrc j)).toNat
    let port := (s.feeders pipe).getD (stream % 40 / 20) 0
    let w := if field src 31 16 = 0 then (num (Key.capWidth port)).toNat else field src 31 16
    let h := if field src 31 16 = 0 then (num (Key.capHeight port)).toNat else field src 15 0
    let fixed := (num (Key.pipeBypass pipe)).toNat.testBit 14
    (if fixed || field out 31 16 = 0 then w else field out 31 16, if fixed || field out 15 0 = 0 then h else field out 15 0)

/-- The port that a stream's reference frames come from, in a set (R283, R309). -/
def State.refPort (s : State) (num : Nat → Int) (wide : LiveSet) (stream : Nat) : Nat :=
  let st := if 960 ≤ stream then
      field (wide.num s.part (Key.warpSource (field (num (Key.warpViewCtrl (stream - 960))).toNat 25 20))).toNat 63 48
    else stream
  (s.feeders (st / 40)).getD (st % 40 / 20) (2 * (st / 40) + st % 40 / 20)

/-- R304, R331: pixels per second of a stream as a fraction. -/
def State.pixelRate (s : State) (num : Nat → Int) (wide : LiveSet) (stream : Nat) : Nat × Nat :=
  let wh := s.streamSize num stream
  (wh.1 * wh.2 * 1000000, max 1 (num (Key.capFramePeriod (s.refPort num wide stream))).toNat)

/-- R331: a stream's required rate in pixels per second, rounded down. -/
def State.streamRate (s : State) (num : Nat → Int) (wide : LiveSet) (stream : Nat) : Nat :=
  let r := s.pixelRate num wide stream
  r.1 / r.2

/-- A reader of the live sets. -/
def State.liveNum (s : State) (key : Nat) : Int := s.live key

/-- The coded streams in force. -/
def State.codedStreams (s : State) : List Nat :=
  (List.range 1024).filter fun st => s.part.has .stream st && field (s.liveNat (Key.codecCtrl st)) 15 15 = 1

/-- R331: an engine's rate in pixels per second, from the live sets. -/
def State.engineRate (s : State) (engine : Nat) : Nat :=
  ((s.codedStreams.filter fun st => s.engineOf st = engine).map fun st =>
    s.streamRate s.liveNum (s.wideOf st) st).foldl (· + ·) 0

/-- The path of a codec engine (R20). -/
def pathCodec (e : Nat) : String := "MX.X" ++ natText e

/-- R332: move a stream to the unfenced engine with the lowest rate. -/
def State.moveStream (s : State) (stream : Nat) : State :=
  let free := (List.range s.part.warps).filter fun e => !s.flag (Key.codecEngineFence e)
  match free with
  | [] => s
  | e :: r =>
    let best := r.foldl (fun b x => if s.engineRate x < s.engineRate b then x else b) e
    { s with mrg := { s.mrg with moved := mapSet stream best s.mrg.moved } }

/-- R332: a stream took a commit: it is coded by the engine that its CODEC_CTRL names now, or moves on where that is fenced. -/
def State.remapStream (s : State) (stream : Nat) : State :=
  let ctrl := s.liveNat (Key.codecCtrl stream)
  let s := { s with mrg := { s.mrg with moved := mapDel stream s.mrg.moved } }
  if ctrl.testBit 15 && s.flag (Key.codecEngineFence (codecEngineOf ctrl)) then s.moveStream stream else s

/-- R195, R332: the scope 0x60 hand-over of a stream with its codec engine. -/
def State.handStream (s : State) (stream num : Nat) (stamp : Instant) : State × Option Nat :=
  let r := s.takeStream stream num stamp
  if r.2.isSome then (r.1.remapStream stream, r.2) else r

/-- CODEC_ENGINE_FENCE, R332. -/
def codecFenceWrite (engine value : Nat) (s : State) : State :=
  let was := s.flag (Key.codecEngineFence engine)
  if was = (value = 1) then s
  else if value = 1 then
    let streams := s.codedStreams.filter fun st => s.engineOf st = engine
    let s := s.setObj (Key.codecEngineFence engine) 1
    let s := s.raise 0x6201 0 (pathCodec engine) [byteOf engine, 1]
    streams.foldl (fun st x =>
      let st := st.moveStream x
      let e := st.engineOf x
      if 3000000000 < st.engineRate e then
        st.raise 0x6202 1 (pathCodec e) (byteOf e :: leBytes 4 (st.engineRate e / 1000))
      else st) s
  else
    let s := s.setObj (Key.codecEngineFence engine) 0
    let s := { s with mrg := { s.mrg with
      moved := s.mrg.moved.filter fun m => codecEngineOf (s.liveNat (Key.codecCtrl m.1)) != engine } }
    s.raise 0x6201 0 (pathCodec engine) [byteOf engine, 0]

end Sys2Proof.Machine
end

