-- ==== Sys2Proof/Machine/Stats.lean ====
section
/-! DEFINITION. Chapter 09, first half: the statistics sections and the record (R254 to R262). -/
namespace Sys2Proof.Machine

/-- Add to an element of an array of counters. -/
def bumpAt (a : Array Nat) (i d : Nat) : Array Nat := a.modify i (· + d)

/-- R255: the mosaic sample at (x, y) of the tap, with its channel. -/
def mosaicTap (st : Stages) (tap exposure : Nat) (x y : Nat) : Int :=
  if tap = 0 then planeAt st.t1 exposure x y else st.t6.at_ x y

/-- R255: yl of S9's output. -/
def yl9 (st : Stages) (x y : Nat) : Int :=
  rshift (871 * planeAt st.t9 0 x y + 2929 * planeAt st.t9 1 x y + 296 * planeAt st.t9 2 x y) 12

/-- All positions of a frame of w × h. -/
def positions (w h : Nat) : List (Nat × Nat) := (List.range h).flatMap fun y => (List.range w).map fun x => (x, y)

/-- R255: the histogram. -/
def histogram (p : PxParams) (c : StatSet) (e h : Nat) (st : Stages) : Array Nat :=
  (positions p.width h).foldl (fun a q =>
    if c.histTap = 2 then bumpAt a (yl9 st q.1 q.2 / 256).toNat 1
    else if c.channels.testBit (channelAt p.cfa q.1 q.2) then
      bumpAt a (mosaicTap st c.histTap e q.1 q.2 / 65536).toNat 1
    else a) (Array.replicate 256 0)

/-- R257: the white-balance grid: five counters per zone, and how many complete cells there are and were excluded. -/
def awbGrid (p : PxParams) (c : StatSet) (e h : Nat) (st : Stages) : Array Nat :=
  let n := cfaPeriod p.cfa
  let cells := positions (p.width / n) (h / n)
  cells.foldl (fun a q =>
    let x0 := q.1 * n
    let y0 := q.2 * n
    let pts := (positions n n).map fun d => (x0 + d.1, y0 + d.2)
    let v := pts.map fun d => (channelAt p.cfa d.1 d.2, mosaicTap st c.awbTap e d.1 d.2)
    if v.any fun s => (c.sat : Int) ≤ s.2 || s.2 ≤ c.dark then a
    else
      let z := 5 * (32 * (y0 * 24 / p.height) + x0 * 32 / p.width)
      bumpAt (v.foldl (fun a s => bumpAt a (z + s.1) (rshift s.2 8).toNat) a) (z + 4) 1) (Array.replicate 3840 0)

/-- R258: the sharpness section. -/
def sharpness (p : PxParams) (c : StatSet) (h : Nat) (st : Stages) : Array Nat :=
  (positions p.width h).foldl (fun a q =>
    let x := q.1
    let y := q.2
    if 1 ≤ x ∧ x + 2 ≤ p.width then
      let d := (2 * yl9 st x y - yl9 st (x - 1) y - yl9 st (x + 1) y).natAbs
      if c.coring < d then
        bumpAt a (16 * (y * 12 / p.height) + x * 16 / p.width) (rshift ((d - c.coring : Nat) : Int) 4).toNat
      else a
    else a) (Array.replicate 192 0)

/-- R255: the row sums. -/
def rowSums (p : PxParams) (e h : Nat) (st : Stages) : Array Nat :=
  (positions p.width h).foldl (fun a q =>
    bumpAt a (q.2 * 1024 / p.height) (rshift (planeAt st.t1 e q.1 q.2) 8).toNat) (Array.replicate 1024 0)

def u32s (a : Array Nat) : Bytes := a.toList.flatMap fun v => leBytes 4 v

/-- R218, R256: the line groups counted of `h` delivered ones. -/
def countedLines (p : PxParams) (h : Nat) : Nat := if h < cfaPeriod p.cfa then 0 else h

/-- R260: the sections of a frame with `h` delivered line groups; none is counted where there are fewer than the pattern's
period (R218). -/
def statSections (p : PxParams) (c : StatSet) (h : Nat) (st : Stages) : Bytes :=
  let e := if c.exposure < p.nexp then c.exposure else 0
  let n := countedLines p h
  u32s (histogram p c e n st) ++ u32s (awbGrid p c e n st) ++ u32s (sharpness p c n st) ++ u32s (rowSums p e n st)

/-- R259: the header but for RSEQ and DONE, from the frame, its settings and the line groups counted. -/
def statHeader (f : Frame) (c : StatSet) (lines time gain : Nat) : Bytes :=
  leBytes 2 (f.pipe.getD 0) ++ [byteOf f.input, 0] ++ leBytes 2 f.port ++ leBytes 2 f.pipeGen ++ leBytes 4 f.num ++
    leBytes 2 f.capture.epoch ++ leBytes 12 (toTime96 f.capture.t.toNat) ++ leBytes 2 f.sensorGen ++ leBytes 2 f.capGen ++
    leBytes 2 lines ++ leBytes 4 time ++ leBytes 2 gain ++
    [byteOf c.histTap, byteOf c.awbTap, byteOf (if c.exposure < f.nexp then c.exposure else 0), 0] ++
    leBytes 2 f.width ++ leBytes 2 f.height

/-- R259: SFLAGS of a frame. -/
def Frame.statFlags (f : Frame) : Nat :=
  f.sflags ||| (if f.cflags.testBit 0 then 1 else 0) ||| (if f.cflags.testBit 5 then 2 else 0) |||
    (if f.cflags.testBit 1 then 4 else 0) ||| (if f.card.testBit cardDip then 64 else 0)

/-- R254: the statistics objects of an input instance, as they stand. -/
def State.statSet (s : State) (inst : Nat) : StatSet :=
  ⟨s.nat (Key.statHistTap inst), s.nat (Key.statHistChannels inst), s.nat (Key.statAwbTap inst), s.nat (Key.statAwbSat inst),
   s.nat (Key.statAwbDark inst), s.nat (Key.statExposure inst), s.nat (Key.statSharpCoring inst)⟩

/-- R262: bell action 5: each input's record is copied into its snapshot. -/
def State.snapshot (s : State) (pipe : Nat) (act : Instant) : State :=
  [2 * pipe, 2 * pipe + 1].foldl (fun st i =>
    let r := st.dom (Key.statRecord i)
    st.setDom (Key.statSnapshot i)
      (if r.isEmpty then [] else leBytes 2 act.epoch ++ leBytes 12 (toTime96 act.t.toNat) ++ [0, 0] ++ r)) s

end Sys2Proof.Machine
end

