-- ==== Sys2Proof/Machine/Warp.lean ====
section
/-! DEFINITION. Chapter 10: warp views, frame matching, release and readiness, tile cores and commit checks (R278 to R307). -/
namespace Sys2Proof.Machine

/-- R299: the release time of an output tile. -/
def State.viewRelease (s : State) (o : OutFrame) (row col : Nat) : Instant :=
  let base := o.capture.plus (usUnits o.pw : Nat)
  let rel := (s.tileBoxes o row col).foldl (fun a b =>
    match s.slotSource o b.1 with
    | none => a
    | some src => (src.tilesIn b.2).foldl (fun a t => s.laterOf a (src.rowRelease t.1)) a) base
  rel.plus (usUnits ((o.viewSet s.part).num (Key.warpExtraWindow o.view)) : Nat)

/-- R298: is an output tile ready? -/
def State.tileReady (s : State) (o : OutFrame) (row col : Nat) : Bool :=
  (s.tileBoxes o row col).all fun b =>
    match o.slotFrame s.part b.1 with
    | .open_ => false
    | .none_ => true
    | .frame _ =>
      match s.slotSource o b.1 with
      | none => s.sourceGone o b.1
      | some src => (src.tilesIn b.2).all fun t => src.closed || src.skipped || (mapGet (tileKey t.1 t.2) src.tiles).isSome

/-- R307: the view's path and a rate-limited event. -/
def State.viewRaise (s : State) (v cause : Nat) (d : Bytes) : State := s.raiseLimited cause 1 v (pathView v) d

/-- Set a slot of a view's frame. -/
def State.setMatch (s : State) (oid slot : Nat) (m : Match) : State :=
  s.updOut oid fun o => { o with matches_ := mapSet slot m o.matches_ }

/-- R285: does a matched frame have its slot's shape? -/
def slotFits (v : Nat) (x : OutFrame) : Bool := x.width = slotWidth v && x.height = slotHeight v && x.format = slotFormat v

/-- R285: reject matched frames of another shape, once they are in the frame store. -/
def State.rejectShape (s : State) (oid slot : Nat) : State :=
  match s.outOf oid with
  | none => s
  | some o =>
    match s.slotSource o slot with
    | none => s
    | some x =>
      if slotFits ((o.viewSet s.part).num (Key.warpSource slot)) x then s
      else (s.setMatch oid slot .none_).viewRaise o.view 0x6002 (leBytes 4 o.num ++ [byteOf slot] ++ leBytes 4 x.num)

/-- R284: the frames of a slot's stream, in frame-number order: accepted ones that wait for their hand-over, and those that the
stream's cropper serves. -/
def State.streamFrames (s : State) (stream : Nat) : List Frame :=
  s.frames.filter fun f => f.pipe = some (stream / 40) &&
    (if f.handed then f.input = stream % 40 / 20 && s.mrg.frames.any fun x => x.fid = f.fid && x.stream = stream
     else !f.closed && s.inputFor (stream / 40) f = stream % 40 / 20)

/-- R284: decide an open slot: by the first frame captured at or after C − M, or, past D, as it stands. -/
def State.decideSlot (s : State) (o : OutFrame) (slot : Nat) (pastD : Bool) : State :=
  let t := o.viewSet s.part
  let m := usUnits (t.num (Key.warpMatchWindow o.view))
  let d := o.capture.plus (usUnits (t.num (Key.warpMatchDeadline o.view)) : Nat)
  let fs := (s.streamFrames (slotStream (t.num (Key.warpSource slot)))).filter fun f => s.leq f.stamp d
  let miss := fun (s : State) => (s.setMatch o.oid slot .none_).viewRaise o.view 0x6001 (leBytes 4 o.num ++ [byteOf slot])
  match fs.find? fun f => s.leq (o.capture.plus (-(m : Int))) f.capture with
  | some f =>
    if s.leq f.capture (o.capture.plus m) then (s.setMatch o.oid slot (.frame f.fid)).rejectShape o.oid slot else miss s
  | none => if pastD then miss s else s

/-- R306: WARP_LAST_MATCH. -/
def State.lastMatch (s : State) (o : OutFrame) : Bytes :=
  leBytes 4 o.num ++ (List.range 64).flatMap fun i =>
    match mapGet i o.matches_ with
    | some (.frame f) => leBytes 4 (((s.frameOf f).map (·.num)).getD 0xFFFFFFFF)
    | _ => if i = ctrlRefSlot ((o.viewSet s.part).num (Key.warpViewCtrl o.view)) then leBytes 4 o.num
           else leBytes 4 0xFFFFFFFF

/-- R299, R311: the entries of a view's tiles or slices, as (row, column, release). -/
def State.viewTiles (s : State) (o : OutFrame) : List (Nat × Nat × Instant) :=
  (List.range o.rowCount).flatMap fun r =>
    if o.isCoded then
      let l := (List.range o.cols).map (s.viewRelease o r)
      [(r, 0, l.foldl s.laterOf (l.headD o.capture))]
    else (List.range o.cols).map fun c => (r, c, s.viewRelease o r c)

/-- R299: the release times of a view's queued frame are known: its entries take them; those past at their creation leave at once
(R315, reason 5). -/
def State.fixReleases (s : State) (o : OutFrame) : State :=
  let tiles := s.viewTiles o
  let (first, last) := s.frameTimes o tiles
  let at_ := fun (e : Entry) =>
    if e.row ≤ rowStart then first
    else if e.row = rowEnd then last
    else ((tiles.find? fun t => t.1 + 2 = e.row && t.2.1 = e.col).map (·.2.2)).getD last
  let own := fun (e : Entry) => e.oid = o.oid && e.row != rowMarker
  let l := s.mrg.entries.map fun e => if own e then { e with at_ := at_ e, late := s.leq (at_ e) o.decided } else e
  let s := { s with mrg := { s.mrg with entries := l } }.updOut o.oid fun x => { x with fixed := true }
  emitWhile (fun _ e => own e && e.late) l.length s

/-- R314: queue a view's frame once every slot is decided; its release times are known once the frames it matched are handed over
or bring it nothing (R299, log 27). -/
def State.tryQueueView (s : State) (oid : Nat) : State :=
  match s.outOf oid with
  | none => s
  | some o =>
    let decided := o.matches_.all fun m => m.2 != .open_
    let known := o.matches_.all fun m => (s.slotSource o m.1).isSome || s.sourceGone o m.1
    if o.fixed || !decided || (o.queued && !known) then s
    else
      let s := s.setDom (Key.warpLastMatch o.view) (s.lastMatch o)
      if o.queued then s.fixReleases o
      else (s.updOut oid fun x => { x with decided := s.instant, fixed := known }).queueFrame oid (s.viewTiles o)

/-- Decide what can be decided of every view's frames, in order. -/
def State.settleViews (s : State) : State :=
  (s.mrg.frames.filter fun o => o.isView && !o.fixed && !o.ended).foldl (fun st o =>
    let st := o.matches_.foldl (fun st m => match m.2 with
      | .open_ => st.decideSlot o m.1 false
      | .frame _ => st.rejectShape o.oid m.1
      | .none_ => st) st
    st.tryQueueView o.oid) s

/-- R284: has D of a view's frame passed? -/
def State.pastDeadline (s : State) (o : OutFrame) : Bool :=
  s.reached (o.capture.plus (usUnits ((o.viewSet s.part).num (Key.warpMatchDeadline o.view)) : Nat))

/-- WARP_MATCH_DEADLINE, R284: the time base passes D of a view's frames: their open slots are decided. -/
def warpMatchDeadline (v : Nat) (s : State) : State :=
  (s.mrg.frames.filter fun o => o.stream = 960 + v && !o.queued && s.pastDeadline o).foldl (fun s o =>
    (o.matches_.foldl (fun st m => if m.2 = .open_ then st.decideSlot o m.1 true else st) s).tryQueueView o.oid) s

def execWarpMatchDeadline (view : Nat) (s : State) : Res := onUnit (view < 64) (warpMatchDeadline view s)

/-- The entries a view's frame runs on: its own and the scope-wide ones. -/
def State.viewLive (s : State) (v : Nat) : LiveSet :=
  let own := s.liveSet (ownKey 0x60 (960 + v))
  let wide := s.wideOf (960 + v)
  ⟨wide.nums.foldl (fun m e => mapSet e.1 e.2 m) own.nums, wide.doms.foldl (fun m e => mapSet e.1 e.2 m) own.doms⟩

/-- R283: the stream whose input's frames give view v its cadence. A disabled view is led by its shadow set, so that a commit
can enable it (log 27). -/
def State.viewRef (s : State) (v : Nat) : Nat :=
  if ctrlEnable (s.liveNat (Key.warpViewCtrl v)) then
    slotStream ((s.wideOf (960 + v)).num s.part (Key.warpSource (ctrlRefSlot (s.liveNat (Key.warpViewCtrl v))))).toNat
  else slotStream (s.nat (Key.warpSource (ctrlRefSlot (s.nat (Key.warpViewCtrl v)))))

/-- R281, R283: a reference frame is handed over: the view takes its commit and, where enabled, begins an output frame; with the
merge's domain off it takes no frame (R212). -/
def State.viewHandOver (s : State) (v : Nat) (f : Frame) : State :=
  let r := s.handStream (960 + v) f.num f.stamp
  let s := r.1
  let c := s.liveNat (Key.warpViewCtrl v)
  if !ctrlEnable c || !s.domainOn 54 then s
  else
    let set := s.viewLive v
    let t : ViewSet := ⟨fun k => (set.num s.part k).toNat, fun k => set.dom k⟩
    let z := t.num (Key.warpViewSize v)
    let mesh := t.mesh v
    let slots := mesh.slots.filter (· != ctrlRefSlot c)
    let cc := s.liveNat (Key.codecCtrl (960 + v))
    let o : OutFrame := {
      oid := s.mrg.nextOid, stream := 960 + v, fid := f.fid, num := f.num, capture := f.capture,
      width := field z 31 16, height := field z 15 0, format := ctrlFormat c, tileW := ctrlTileW c, tileH := ctrlTileH c,
      rect := (0, 0, 0, 0), nexp := 1, srcH := 1, irSource := 0, skipped := false, pw := s.liveNat (Key.mrgPw (960 + v)),
      linePeriod := f.linePeriod, framePeriod := f.framePeriod, route := s.liveNat (Key.mrgRoute (960 + v)),
      gen := s.nat (Key.mrgGenLive (960 + v)), pipeGen := s.nat (Key.mrgGenLive (960 + v)), sensorGen := f.sensorGen,
      bpp := s.liveNat (Key.codecBpp (960 + v)), coded := if cc.testBit 15 then some (field cc 4 4) else none,
      card := (r.2.getD 0) ||| (if s.sup.dip then 2 ^ cardDip else 0), rows := 0, tiles := [], slices := [], closed := false,
      recovered := false, refused := false, queued := false, ended := false, emitted := [], out0 := {}, out1 := {},
      matches_ := slots.map fun i => (i, .open_), set := set, decided := ⟨0, 0⟩, fixed := false, missing := false }
    { s with mrg := { s.mrg with frames := s.mrg.frames ++ [o], nextOid := s.mrg.nextOid + 1 } }

/-- R283: every view led by this input of a pipeline. -/
def State.viewsHandOver (s : State) (pipe input : Nat) (f : Frame) : State :=
  ((List.range 64).filter fun v => let st := s.viewRef v
    st / 40 = pipe && st % 40 / 20 = input && st < 960).foldl (fun st v => st.viewHandOver v f) s

/-! Engines and tile cores. -/

def coreOn (s : State) (core : Nat) : Bool := s.nat (Key.pwrDomainState (48 + core / 16)) = 2

/-- R306: WARP_CORE_STATE. -/
def State.coreState (s : State) (core : Nat) : Nat :=
  if !coreOn s core then 3
  else if s.flag (Key.warpCoreFence core) then 2
  else if (mapGet core s.mrg.cores).isSome then 1 else 0

/-- The engine of a view's frame. -/
def State.frameEngine (s : State) (o : OutFrame) : Nat := ctrlEngine ((o.viewSet s.part).num (Key.warpViewCtrl o.view))

/-- R300: the order of issue: release time, stream ID, tile row, tile column; then the older frame. -/
def State.issueBefore (s : State) (a b : Entry) : Bool :=
  if !s.leq b.at_ a.at_ then true
  else if !s.leq a.at_ b.at_ then false
  else if a.stream ≠ b.stream then a.stream < b.stream
  else if a.row ≠ b.row then a.row < b.row
  else if a.col ≠ b.col then a.col < b.col
  else atOrAfter32 b.num a.num

/-- R300: the ready tiles of an engine that no core works on, as entries. -/
def State.readyTiles (s : State) (engine : Nat) : List Entry :=
  (s.mrg.frames.filter fun o => o.isView && s.frameEngine o = engine).flatMap fun o =>
    ((List.range o.rowCount).flatMap fun r => (List.range o.cols).map fun c => (r, c)).filterMap fun t =>
      if (mapGet (tileKey t.1 t.2) o.tiles).isSome || s.mrg.cores.any (fun x => x.2 = ⟨o.oid, t.1, t.2⟩) ||
          !s.tileReady o t.1 t.2 then none
      else some { at_ := s.viewRelease o t.1 t.2, stream := o.stream, num := o.num, row := t.1, col := t.2, oid := o.oid,
                  late := false, counted := false, poisoned := false, route := 0, arg := 0, entry := 0, act := o.capture }

/-- R301: the block reads of a tile that is issued. -/
def State.countBlocks (s : State) : State :=
  let (n, s) := s.draw
  (s.addTo Key.warpCacheHits 64 (Config.cacheHits n)).addTo Key.warpCacheMisses 64 (Config.cacheMisses n)

/-- WARP_TILE_ISSUE, R300, R301. -/
def warpTileIssue (engine : Nat) (s : State) : State :=
  let free := (List.range 16).map (16 * engine + ·) |>.filter fun c => s.coreState c = 0
  match free, firstBy s.issueBefore (s.readyTiles engine) with
  | c :: _, some e => { s with mrg := { s.mrg with cores := mapSet c ⟨e.oid, e.row, e.col⟩ s.mrg.cores } }.countBlocks
  | _, _ => s

def execWarpTileIssue (engine : Nat) (s : State) : Res := onUnit (s.part.has .warpEngine engine) (warpTileIssue engine s)

/-- WARP_TILE_COMPLETE, R299, R316. A coded view's tile that lands after its own release time is late. -/
def warpTileComplete (core : Nat) (s : State) : State :=
  match mapGet core s.mrg.cores with
  | none => s
  | some k =>
    let s := { s with mrg := { s.mrg with cores := mapDel core s.mrg.cores } }
    match s.outOf k.oid with
    | none => s
    | some o =>
      let t := s.warpTile o k.row k.col
      let bad := (s.tileBoxes o k.row k.col).any fun b => match s.slotSource o b.1 with
        | none => false
        | some src => (src.tilesIn b.2).any fun x => ((mapGet (tileKey x.1 x.2) src.tiles).map (·.poisoned)).getD false
      let s := s.landTile k.oid k.row k.col t.1
      let s := s.updOut k.oid fun x => { x with
        missing := x.missing || t.2,
        card := if bad then x.card ||| 2 ^ cardMem else x.card,
        tiles := if bad then mapSet (tileKey k.row k.col) ⟨t.1, true⟩ x.tiles else x.tiles }
      let s := s.bump (Key.warpCoreTiles core)
      let late := o.isCoded && !o.emitted.contains k.row && o.fixed && o.route != 0 && s.reached (s.viewRelease o k.row k.col)
      let s := if late then s.bump (Key.warpTilesLate o.view) else s
      match s.outOf k.oid with
      | some o =>
        if o.route = 0 ∧ !o.ended ∧ o.tiles.length = o.rowCount * o.cols then
          ((s.viewEnded o).updOut k.oid fun x => { x with ended := true }).prune
        else if o.ended then s.prune else s
      | none => s

def execWarpTileComplete (core : Nat) (s : State) : Res := onUnit (s.part.has .core core) (warpTileComplete core s)

/-- R304: an engine's required rate in pixels per second, from a reader of sets, as a fraction. -/
def State.warpRate (s : State) (num : Nat → Int) (wide : Nat → LiveSet) (engine : Nat) : Nat × Nat :=
  fracSum (((List.range 64).filter fun v =>
    let c := (num (Key.warpViewCtrl v)).toNat
    ctrlEnable c && ctrlEngine c = engine).map fun v => s.pixelRate num (wide (960 + v)) (960 + v))

def State.unfenced (s : State) (engine : Nat) : Nat :=
  ((List.range 16).filter fun t => !s.flag (Key.warpCoreFence (16 * engine + t))).length

/-- R304: can the unfenced cores of an engine carry a rate at 3.0 GHz? -/
def State.carries (s : State) (engine : Nat) (rate : Nat × Nat) : Bool := rate.1 ≤ 375000000 * s.unfenced engine * rate.2

/-- R302, R303: a core's tile is abandoned and ready again. -/
def State.dropTile (s : State) (core : Nat) : State :=
  if (mapGet core s.mrg.cores).isSome then
    ({ s with mrg := { s.mrg with cores := mapDel core s.mrg.cores } }).bump (Key.warpReissued (core / 16))
  else s

/-- WARP_CORE_FENCE, R302, R304. -/
def warpFenceWrite (core value : Nat) (s : State) : State :=
  if s.flag (Key.warpCoreFence core) = (value = 1) then s
  else if value = 1 then
    let busy := (mapGet core s.mrg.cores).isSome
    let s := (s.setObj (Key.warpCoreFence core) 1).dropTile core
    let s := s.raise 0x6003 0 (pathCore core) [byteOf core, byteOf (boolNat busy)]
    let e := core / 16
    let rate := s.warpRate s.liveNum s.wideOf e
    if s.carries e rate then s
    else s.raise 0x6006 1 (pathCore core) ([byteOf e, byteOf (s.unfenced e)] ++ leBytes 4 (rate.1 / (1000 * rate.2)))
  else (s.setObj (Key.warpCoreFence core) 0).raise 0x6004 0 (pathCore core) [byteOf core]

/-- R303: a unit restart of a tile core. -/
def State.coreRestart (s : State) (core : Nat) : State := (s.dropTile core).raise 0x6005 1 (pathCore core) [byteOf core]

/-- R291: mesh entries that an engine's partition must hold. -/
def State.meshUsed (s : State) (engine : Nat) : Nat :=
  ((List.range 64).map fun v =>
    let live := s.liveNat (Key.warpViewCtrl v)
    let shadow := s.nat (Key.warpViewCtrl v)
    (if ctrlEnable live && ctrlEngine live = engine then (s.dom (liveKey (Key.warpMesh v))).length / 8 else 0) +
    (if ctrlEnable shadow && ctrlEngine shadow = engine && (s.commitAt 0x60 (960 + v)).isSome then
      (s.dom (Key.warpMesh v)).length / 8 else 0)).foldl (· + ·) 0

/-- WARP_PARTITION, R292, its refusals in the order of R71. -/
def warpPartitionWrite (engine value : Nat) : Effect := fun s => do
  let anyView := (List.range 64).any fun v => ctrlEnable (s.liveNat (Key.warpViewCtrl v))
  let others := (List.range s.part.warps).filter (· != engine)
  refuseIf (131072 < value + ((others.map fun e => s.nat (Key.warpPartition e)).foldl (· + ·) 0)) abRange
  refuseIf (anyView || s.scopePending 0x60) abState
  .ok (s.setObj (Key.warpPartition engine) value)

/-- R305: does a named view's shadow set pass the checks? `named` are the scope 0x60 targets of the request. -/
def State.viewRefused (s : State) (named : List Nat) (v : Nat) : Bool :=
  let num := fun (k : Nat) => match setOf k with
    | some (0x60, some u) => if named.contains u then s.obj k else s.live k
    | _ => s.live k
  let t : ViewSet := ⟨fun k => s.nat k, fun k => s.dom k⟩
  let c := t.num (Key.warpViewCtrl v)
  if !ctrlEnable c then false
  else
    let z := t.num (Key.warpViewSize v)
    let w := field z 31 16
    let h := field z 15 0
    let m := t.mesh v
    let fam := formatFamily (ctrlFormat c)
    let badSlot := fun i => let x := t.num (Key.warpSource i)
      slotStream x = 0xFFFF || formatFamily (slotFormat x) != fam
    let e := ctrlEngine c
    let shape := ctrlFormat c > 4 || ctrlTileH c < 3 || 6 < ctrlTileH c || ctrlTileW c < 4 || 8 < ctrlTileW c ||
      w % 2 = 1 || w < 16 || 16384 < w || h % 2 = 1 || h < 8 || 4096 < h
    let engine := s.part.warps ≤ e || s.nat (Key.pwrDomainState (48 + e)) ≠ 2
    if engine || shape then true
    else if m.bytes.length ≠ m.length then true
    else if badSlot (ctrlRefSlot c) || m.slots.any badSlot then true
    else
      let tw := 2 ^ ctrlTileW c
      let th := 2 ^ ctrlTileH c
      let wideBox := (List.range (ceilDiv h th)).any fun r => (List.range (ceilDiv w tw)).any fun k =>
        (footprint m (ctrlBicubic c) (fun i => slotFormat (t.num (Key.warpSource i))) (k * tw) (min w ((k + 1) * tw) - 1)
          (r * th) (min h ((r + 1) * th) - 1)).any fun b =>
            1024 < b.2.x1 - b.2.x0 + 1 || 512 < b.2.y1 - b.2.y0 + 1
      let held := ((List.range 64).map fun x =>
        let live := s.liveNat (Key.warpViewCtrl x)
        let sh := s.nat (Key.warpViewCtrl x)
        (if ctrlEnable live && ctrlEngine live = e then (s.dom (liveKey (Key.warpMesh x))).length / 8 else 0) +
        (if (named.contains (960 + x) || (s.commitAt 0x60 (960 + x)).isSome) && ctrlEnable sh && ctrlEngine sh = e then
          (s.dom (Key.warpMesh x)).length / 8 else 0)).foldl (· + ·) 0
      let rate := s.warpRate num (fun u => if named.contains u then s.pick wideEntry else s.wideOf u) e
      wideBox || s.nat (Key.warpPartition e) < held || !s.carries e rate

end Sys2Proof.Machine
end

