-- ==== Sys2Proof/Machine/Pipeline.lean ====
section
/-! DEFINITION. Chapters 06 to 08: a pipeline's hand-over, the taking of line groups, the production of tiles and the closing of
frames (R175, R184, R190, R218, R235, R243 to R251). -/
namespace Sys2Proof.Machine

/-- R216: the object instance of a frame's input, whose context it is processed in (R183). -/
def Frame.inst (f : Frame) : Nat := 2 * f.pipe.getD 0 + f.input

/-- R239: the enabled polygons of PIPE_MASKS. -/
def polygons (b : Bytes) : List Polygon :=
  (List.range (b.length / 36)).filterMap fun q =>
    let n := leAt b (36 * q) 1
    if n = 0 then none
    else some ⟨leAt b (36 * q + 1) 1 = 1, 2 ^ leAt b (36 * q + 2) 1,
      (List.range n).map fun v => ((leAt b (36 * q + 4 + 4 * v) 2 : Nat), (leAt b (36 * q + 6 + 4 * v) 2 : Nat))⟩

/-- n fields of a table of `w` bytes each, least significant byte first. -/
def leTable (w n : Nat) (b : Bytes) : List Nat := (List.range n).map fun i => leAt b (w * i) w

/-- R247: the scaling kernel that a frame's input works with. -/
def State.kernelOf (s : State) (f : Frame) : Array Int :=
  let pipe := f.pipe.getD 0
  ((leTable 2 256 (s.inLiveDom pipe f.input (Key.pipeScaleKernel pipe))).map (toSigned 16)).toArray

/-- R221 to R247: the parameters of a frame, from the live set of its input. -/
def State.pxParams (s : State) (f : Frame) : PxParams :=
  let pipe := f.pipe.getD 0
  let i := f.inst
  let num := fun k => (s.inLive pipe f.input k).toNat
  let dom := fun k => s.inLiveDom pipe f.input k
  let knees := dom (Key.pipeDecompand i)
  let ccm := dom (Key.pipeCcm i)
  let wb := num (Key.pipeWbGain i)
  let fill := num (Key.pipeMaskFill i)
  let x := s.input i
  let bypass := num (Key.pipeBypass pipe)
  { width := f.width, height := f.height, bits := f.format, nexp := f.nexp, cfa := num (Key.pipeCfa i),
    knees := (List.range (knees.length / 12)).map fun k => (leAt knees (12 * k) 4, leAt knees (12 * k + 4) 4, leAt knees (12 * k + 8) 4),
    black := leTable 4 12 (dom (Key.pipeBlackLevel i)), dpcT := num (Key.pipeDpcThreshold i),
    defects := (leTable 4 ((dom (Key.pipeDefectList pipe)).length / 4) (dom (Key.pipeDefectList pipe))).filterMap fun d =>
      if field d 31 31 = f.input then some (field d 12 0, field d 25 13) else none,
    shading := (leTable 2 ((dom (Key.pipeShading i)).length / 2) (dom (Key.pipeShading i))).toArray,
    ratio1 := num (Key.pipeMergeRatio1 i), ratio2 := num (Key.pipeMergeRatio2 i), knee0 := num (Key.pipeMergeKnee0 i),
    knee1 := num (Key.pipeMergeKnee1 i), width0 := num (Key.pipeMergeWidth0 i), width1 := num (Key.pipeMergeWidth1 i),
    mshift := num (Key.pipeMergeShift i), nrAmount := num (Key.pipeNrAmount i), nrShift := num (Key.pipeNrShift i),
    wb := [field wb 63 48, field wb 47 32, field wb 31 16, field wb 15 0],
    ccm := (leTable 2 9 ccm).map (toSigned 16),
    off := (List.range 3).map fun k => toSigned 32 (leAt ccm (18 + 4 * k) 4),
    kir := (List.range 3).map fun k => toSigned 16 (leAt ccm (30 + 2 * k) 2),
    bypass := bypass, tone := (leTable 2 1024 (dom (Key.pipeToneCurve pipe))).toArray, zones := x.zones.toArray,
    outCurve := (leTable 2 256 (dom (Key.pipeOutCurve pipe))).toArray, csc := num (Key.pipeCsc pipe),
    cscRange := num (Key.pipeCscRange pipe), sharpGain := num (Key.pipeSharpGain pipe),
    sharpCoring := num (Key.pipeSharpCoring pipe), sharpLimit := num (Key.pipeSharpLimit pipe),
    masks := polygons (dom (Key.pipeMasks i)), maskFill := [field fill 47 32, field fill 31 16, field fill 15 0],
    maskOn := s.flag (liveKey (Key.pipeMaskLock i)) || !bypass.testBit 13,
    kernel := s.kernelOf f }

/-- R169: the codes of the line groups a frame's pipeline took. -/
def Frame.groups (f : Frame) : List (List (List Nat)) := f.taken.map fun g => g.map fun b => unpackCodes f.format f.width b

/-- R244, R246: a cropper's rectangle and output for a frame: resolved with w = 0 as the whole frame. -/
structure CropCtrl where
  ctrl : Nat
  x : Nat
  y : Nat
  w : Nat
  h : Nat
  ow : Nat
  oh : Nat

def State.cropCtrl (s : State) (f : Frame) (j : Nat) : CropCtrl :=
  let pipe := f.pipe.getD 0
  let num := fun k => (s.inLive pipe f.input k).toNat
  let ctrl := num (Key.pipeCropCtrl (20 * pipe + j))
  let src := num (Key.pipeCropSrc (20 * pipe + j))
  let out := num (Key.pipeCropOut (20 * pipe + j))
  let whole := field src 31 16 = 0
  let w := if whole then f.width else field src 31 16
  let h := if whole then f.height else field src 15 0
  let fixed := field ctrl 7 5 = 5 || (num (Key.pipeBypass pipe)).testBit 14
  ⟨ctrl, field src 63 48, field src 47 32, w, h, if fixed || field out 31 16 = 0 then w else field out 31 16,
   if fixed || field out 15 0 = 0 then h else field out 15 0⟩

/-- R245, R246: is the resolved rectangle inside the frame and the output within the limits? -/
def CropCtrl.fits (c : CropCtrl) (f : Frame) : Bool :=
  c.x + c.w ≤ f.width && c.y + c.h ≤ f.height && c.ow ≤ c.w && ceilDiv c.w 16 ≤ c.ow && c.oh ≤ c.h && ceilDiv c.h 16 ≤ c.oh &&
    c.ow ≤ 8192

/-- R246: output pixels of a cropper. -/
def CropCtrl.pixels (c : CropCtrl) (f : Frame) : Nat :=
  if field c.ctrl 7 5 = 5 then c.w * c.h * f.nexp else c.ow * c.oh

/-- R246: the croppers that serve an input, with 0 or the reason each is skipped. -/
def cropPlan (f : Frame) : Nat → List (Nat × CropCtrl) → List (Nat × CropCtrl × Nat)
  | _, [] => []
  | used, (j, c) :: r =>
    if !c.fits f then (j, c, 1) :: cropPlan f used r
    else if 4 * f.width * f.height < used + c.pixels f then (j, c, 2) :: cropPlan f used r
    else (j, c, 0) :: cropPlan f (used + c.pixels f) r

/-- R309, R314: one stream's output frame begins: its scope 0x60 hand-over, then its entries; with the merge's domain off the stream
takes no frame (R212). -/
def State.openStream (s : State) (f : Frame) (j : Nat) (c : CropCtrl) (skip : Nat) : State :=
  let pipe := f.pipe.getD 0
  let stream := 40 * pipe + 20 * f.input + j
  let r := s.handStream stream f.num f.stamp
  let s := r.1
  let fmt := field c.ctrl 7 5
  let cc := s.liveNat (Key.codecCtrl stream)
  let o : OutFrame := {
    oid := s.mrg.nextOid, stream := stream, fid := f.fid, num := f.num, capture := f.capture,
    width := if fmt = 5 then c.w else c.ow, height := if fmt = 5 then c.h * f.nexp else c.oh, format := fmt,
    tileW := field c.ctrl 11 8, tileH := field c.ctrl 14 12, rect := (c.x, c.y, c.w, c.h), nexp := f.nexp, srcH := f.height,
    irSource := field c.ctrl 4 4, skipped := skip != 0, pw := s.liveNat (Key.mrgPw stream), linePeriod := f.linePeriod,
    framePeriod := f.framePeriod, route := s.liveNat (Key.mrgRoute stream), gen := s.nat (Key.mrgGenLive stream),
    pipeGen := f.pipeGen, sensorGen := f.sensorGen,
    bpp := s.liveNat (Key.codecBpp stream), coded := if cc.testBit 15 then some (field cc 4 4) else none,
    card := (r.2.getD 0) ||| (if s.sup.dip then 2 ^ cardDip else 0), rows := 0, tiles := [], slices := [], closed := false,
    recovered := false, refused := false, queued := false, ended := false, emitted := [], out0 := {}, out1 := {},
    matches_ := [], set := {}, decided := ⟨0, 0⟩, fixed := true, missing := false }
  let s := if skip = 0 then s
    else (s.bump (Key.pipeCropSkipped f.inst)).raiseLimited 0x5001 1 pipe (pathPipe pipe)
      (leBytes 4 f.num ++ [byteOf j, byteOf f.input, byteOf skip])
  if !s.domainOn 54 then s
  else { s with mrg := { s.mrg with frames := s.mrg.frames ++ [o], nextOid := s.mrg.nextOid + 1 } }.queueFrame o.oid ((List.range o.rowCount).map fun r => (r, 0, o.rowRelease r))

/-! Closing a frame. -/

/-- R190: the output lines of row r whose unmargined source line is at or below line L, counted from the frame's top. -/
def OutFrame.linesUpTo (o : OutFrame) (r last : Nat) : Nat :=
  r * 2 ^ o.tileH + ((List.range (o.rowLines r)).filter fun i => sourceOf o.crop o.nexp (r * 2 ^ o.tileH + i) ≤ last).length

/-- R414: does row r draw on a line read from poisoned line memory? -/
def OutFrame.spoiledRow (o : OutFrame) (k : Array Int) (f : Frame) (r : Nat) : Bool :=
  f.spoiled.any fun l => l ≤ o.neededLine k r && sourceOf o.crop o.nexp (r * 2 ^ o.tileH) ≤ l + 8

/-- Produce row `row` of an output frame with `lines` output lines computed in all. -/
def State.produceRow (s : State) (p : PxParams) (st : Stages) (g : List (List (List Nat))) (oid row lines : Nat) : State :=
  match s.outOf oid with
  | none => s
  | some o =>
    let bad := (s.frameOf o.fid).any (o.spoiledRow p.kernel · row)
    let s := s.landRow oid row (tileRow p o.crop st g row lines)
    if bad then s.updOut oid fun x => { x with
      tiles := x.tiles.map fun t => if t.1 / 1024 = row then (t.1, { t.2 with poisoned := true }) else t } else s

/-- The output frames that a frame's pipeline is still producing. -/
def State.openOuts (s : State) (fid : Nat) : List OutFrame :=
  s.mrg.frames.filter fun o => !o.isView && o.fid = fid && !o.closed && !o.skipped

/-- R250: produce the rows that the line groups taken so far complete. -/
def State.produceReady (s : State) (fid : Nat) : State :=
  match s.frameOf fid with
  | none => s
  | some f =>
    let n := f.taken.length
    let k := s.kernelOf f
    let due := (s.openOuts fid).flatMap fun o =>
      ((List.range o.rowCount).filter fun r => o.rows ≤ r && o.neededLine k r < n).map fun r => (o.oid, r, o.height)
    if due.isEmpty then s
    else
      let p := s.pxParams f
      let g := f.groups
      let st := runStages p g
      due.foldl (fun s d => s.produceRow p st g d.1 d.2.1 d.2.2) s

/-- R190: at a close, the rows at or below the last line in full, then the row that holds it. -/
def closeRows (f : Frame) (o : OutFrame) : List (Nat × Nat) :=
  let n := f.taken.length
  let whole := (List.range o.rowCount).filter fun r => o.rows ≤ r && o.sourceLine r < n
  let full := whole.map fun r => (r, o.height)
  match (List.range o.rowCount).find? fun r => o.rows ≤ r && n ≤ o.sourceLine r with
  | none => full
  | some r =>
    let l := o.linesUpTo r (n - 1)
    if l = r * 2 ^ o.tileH then full else full ++ [(r, l)]

/-- R254, R261: the record of a closed frame is on its way. -/
def State.startRecord (s : State) (f : Frame) (p : PxParams) (st : Stages) : State :=
  let c := (s.input f.inst).stat
  let g := ((mapGetD f.port {} s.exps).gens.find? fun g => g.gen = f.sensorGen && f.sensorGen != 0 && !f.synthetic)
  let f := if f.synthetic then { f with port := 0xFFFF } else f
  let h := statHeader f c (countedLines p f.taken.length) ((g.map fun g => g.times.headD 0).getD 0) ((g.map (·.gain)).getD 0)
  let job : StatJob := {
    inst := f.inst, port := f.port,
    header := h.take 3 ++ [byteOf (f.statFlags ||| (if f.sensorGen = 0 then 32 else 0))] ++ h.drop 4,
    sections := statSections p c f.taken.length st, period := cfaPeriod p.cfa, at_ := s.cycles }
  { s with statJobs := s.statJobs ++ [job] }

/-- R235: the history a frame leaves. -/
def State.leaveHistory (s : State) (f : Frame) (p : PxParams) (st : Stages) : State :=
  let strength := s.inLive (f.pipe.getD 0) f.input (Key.pipeLtmStrength (f.pipe.getD 0))
  let whole := !f.dropped && f.reason = 0 && !f.recovered
  let h := if whole && !p.skips 9 && 0 < strength then some (History.mk f.width f.height (zoneMeans f.width f.taken.length st.t8))
    else none
  s.updInput f.inst fun x => { x with history := h }

/-- R261, R187 to R191: a handed frame closes at the pipeline: its last rows, its record, its history. -/
def State.closeHanded (s : State) (f : Frame) : State :=
  let p := s.pxParams f
  let blind := f.taken.length < cfaPeriod p.cfa
  let f := { f with closed := true, slots := [] }
  let g := f.groups
  let st := runStages p (if blind then [] else g)
  let outs := s.openOuts f.fid
  let s := if f.dropped || blind then s
    else outs.foldl (fun s o => (closeRows f o).foldl (fun s r => s.produceRow p st g o.oid r.1 r.2) s) s
  let s := outs.foldl (fun s o => s.updOut o.oid fun x => { x with closed := true, recovered := f.recovered }) s
  let shut := fun (o : OutFrame) => if o.fid = f.fid && !o.isView then { o with closed := true } else o
  let s := { s with mrg := { s.mrg with frames := s.mrg.frames.map shut } }
  let s := (s.bump (Key.pipeFrames f.inst)).setObj (Key.pipeDpcCount f.inst) st.dpc
  let s := (s.startRecord f p st).leaveHistory f p st
  s.updFrame f.fid fun x => { x with closed := true, slots := [] }

/-- R194: the event of a truncated frame, and the counters of a close; the tag of the port's latest closed frame (R176). -/
def State.reportClose (s : State) (f : Frame) : State :=
  if f.synthetic then s
  else
    let s := s.setDom (Key.capLastTag f.port) f.tagLe
    if f.cflags.testBit 0 then
      (s.bump (Key.capFramesTruncated f.port)).raiseLimited 0x4001 1 f.port (pathPort f.port)
        (leBytes 4 f.num ++ [byteOf f.reason] ++ leBytes 2 f.taken.length)
    else s

/-! Injections (R480). -/

/-- R480: an injection ends: 1 = count reached, 2 = stopped, 3 = domain off or hub reset. -/
def State.endInjection (s : State) (p reason : Nat) : State :=
  if (s.pipe p).inj.isNone then s
  else
    let s := (s.updPipe p fun x => { x with inj := none }).setObj (Key.testInjectState p) 0
    s.raise 0x9002 0 (pathPipe p) (leBytes 4 (s.nat (Key.testInjectFrames p)) ++ [byteOf reason])

/-- R480: the injection of a pipeline ends once its last frame closed. -/
def State.injectSettle (s : State) (p : Nat) : State :=
  match (s.pipe p).inj with
  | none => s
  | some i =>
    if s.frames.any fun f => f.synthetic && f.pipe = some p && !f.closed then s
    else if i.left = some 0 then s.endInjection p 1
    else if i.stopping then s.endInjection p 2
    else s

/-- A frame closes: at the pipeline if it was handed over, else without output. -/
def State.closeFrame (s : State) (fid : Nat) : State :=
  match s.frameOf fid with
  | none => s
  | some f =>
    if f.closed then s
    else
      let s := if f.handed then s.closeHanded f else s.updFrame fid fun x => { x with closed := true, slots := [] }
      let s := (s.reportClose f).settleViews.prune
      if f.synthetic then s.injectSettle (f.pipe.getD 0) else s

/-- Is the next line group of a frame complete in the ingress buffer (or, injected, due)? -/
def State.groupReady (s : State) (f : Frame) : Bool :=
  let l := f.taken.length
  if f.dropped || f.height ≤ l then false
  else if f.synthetic then f.link = 0 && s.reached (f.capture.plus (nsUnits (l * f.linePeriod) : Nat))
  else (List.range f.nexp).all fun e => f.slots.any fun x => x.line = l && x.exp = e

/-- Close a frame whose link side is over once no complete line group of it is left (R186, R190). -/
def State.tryClose (s : State) (fid : Nat) : State :=
  match s.frameOf fid with
  | none => s
  | some f =>
    if f.closed || f.link = 0 then s
    else if f.handed then (if s.groupReady f then s else s.closeFrame fid)
    else if f.pipe.isNone then s.closeFrame fid
    else s

/-! The hand-over. -/

/-- R235: does the input's history serve this frame? -/
def State.historyServes (s : State) (f : Frame) (same : Bool) : Bool :=
  match (s.input f.inst).history with
  | none => false
  | some h => same && h.width = f.width && h.height = f.height

/-- The frame of a port that its pipeline has in progress. -/
def State.inProgress (s : State) (port : Nat) : Option Frame :=
  s.frames.find? fun f => f.port = port && !f.synthetic && f.handed && !f.closed

/-- Is the input that a frame is to enter still at another frame? -/
def State.inputBusy (s : State) (f : Frame) : Bool :=
  s.frames.any fun g => g.handed && !g.closed && g.pipe = f.pipe &&
    (g.input = s.inputFor (f.pipe.getD 0) f || (g.port = f.port && !f.synthetic))

/-- The oldest frame of an input that its pipeline has not begun; a fenced pipeline begins injected frames only (R475). -/
def State.waitingFrame (s : State) (pipe input : Nat) : Option Frame :=
  s.frames.find? fun f => f.pipe = some pipe && !f.handed && !f.closed && f.synthetic == s.flag (Key.testPipeFence pipe) &&
    s.inputFor pipe f = input

/-- R175, R195, R203, R242: the input stage takes an FS: commits, history, sampled objects, the mask lock (kept under its live
key), output frames and views. -/
def State.handOver (s : State) (f : Frame) : State :=
  let pipe := f.pipe.getD 0
  let s := (s.updPipe pipe fun x => { x with watch := none }).soleInput pipe
  let input := s.inputFor pipe f
  let lk := Key.pipeLtmGain pipe
  let sk := Key.pipeLtmStrength pipe
  let before := (s.inLiveDom pipe input lk, s.inLive pipe input sk)
  let r := s.takePipe pipe input f.num f.stamp
  let s := r.1
  let same := (s.inLiveDom pipe input lk, s.inLive pipe input sk) == before
  let gen := s.nat (if input = 0 then Key.pipeGenLive pipe else Key.pipeGenLiveB pipe)
  let f := { f with handed := true, input := input, pipeGen := gen, card := f.card ||| (r.2.getD 0) }
  let strength := (s.inLive pipe input sk).toNat
  let served := s.historyServes f same
  let zones := match (s.input f.inst).history with
    | some h => if served then (zoneGains (leTable 2 64 (s.inLiveDom pipe input lk)) strength h.means).toList else []
    | none => []
  let bare := 0 < strength && !served
  let f := if bare then { f with card := f.card ||| 2 ^ cardNoHistory } else f
  let s := if bare then (s.setObj (Key.pipeLtmHistoryFrame f.inst) f.num).raiseLimited 0x5002 0 pipe (pathPipe pipe)
      (leBytes 4 f.num ++ [byteOf input]) else s
  let s := s.updInput f.inst fun x => { x with
    credits := 4, creditAt := s.cycles, history := none, zones := zones, stat := s.statSet f.inst, lastHanded := some f.num }
  let s := s.setObj (liveKey (Key.pipeMaskLock f.inst)) (s.obj (Key.pipeMaskLock f.inst))
  let s := s.updFrame f.fid fun _ => f
  let serving := ((List.range 20).map fun j => (j, s.cropCtrl f j)).filter fun c => (field c.2.ctrl 1 0).testBit input
  let s := (cropPlan f 0 serving).foldl (fun s c => s.openStream f c.1 c.2.1 c.2.2) s
  ((s.viewsHandOver pipe input f).settleViews).tryClose f.fid

/-- May a pipeline take frames? Its domain is on, the boot in service (R420), and it is fenced for injected frames only (R212, R475). -/
def State.pipeTakes (s : State) (pipe : Nat) (f : Frame) : Bool :=
  !s.boot.outOfService && s.nat (Key.pwrDomainState (pipeDomain pipe)) = 2 && s.flag (Key.testPipeFence pipe) == f.synthetic

/-- R455: the frame that waits for a stage of a pipeline: one with a line group to take, or an accepted FS with none in progress. -/
def State.pipeWaiting (s : State) (p : Nat) : Option Frame :=
  s.frames.find? fun f => f.pipe = some p && !f.closed && s.pipeTakes p f &&
    (if f.handed then s.groupReady f else !s.inputBusy f)

/-- R455, R457: the timing of level 2 begins where input waits, and stops where none does or a restart waits. -/
def State.watchPipe (s : State) (p : Nat) (x : PipeSt) : PipeSt :=
  match s.pipeWaiting p with
  | some f => if x.restart then { x with watch := none }
      else { x with watch := some (x.watch.getD (s.cycles, s.pipeTimeout f.framePeriod)) }
  | none => { x with watch := none }

/-- R455: the timing of every pipeline as the cycle ends. -/
def State.watchPipes (s : State) : State :=
  { s with pipes := s.pipes.map fun e => (e.1, s.watchPipe e.1 e.2) }

/-- FS_ACCEPTED, R175. -/
def fsAccepted (pipe input : Nat) (s : State) : State :=
  match s.waitingFrame pipe input with
  | some f => if !s.inputBusy f && s.pipeTakes pipe f && !(s.pipe pipe).restart then s.handOver f else s
  | none => s

def execFsAccepted (pipe input : Nat) (s : State) : Res :=
  onUnit (s.part.has .pipe pipe && input < 2) (fsAccepted pipe input s)

/-! Taking line groups. -/

/-- R477: the descriptor of the injection in progress. -/
def State.injDesc (s : State) (pipe : Nat) : Bytes :=
  match (s.pipe pipe).inj with
  | some i => i.desc
  | none => []

/-- The payloads of the next line group. -/
def State.groupPayloads (s : State) (f : Frame) : List Bytes :=
  let l := f.taken.length
  if f.synthetic then
    let n := ceilDiv (f.width * f.format) 8
    let addr := leAt (s.injDesc (f.pipe.getD 0)) 0 8
    (List.range f.nexp).map fun e => Memory.readBytes (addr + (l * f.nexp + e) * n) n s.mem
  else (List.range f.nexp).map fun e =>
    ((f.slots.find? fun x => x.line = l && x.exp = e).map (·.payload)).getD []

/-- R414: does an injected group's buffer hold a poisoned word? -/
def State.groupPoisoned (s : State) (f : Frame) : Bool :=
  f.synthetic &&
    (let n := ceilDiv (f.width * f.format) 8
     let lo := leAt (s.injDesc (f.pipe.getD 0)) 0 8 + f.taken.length * f.nexp * n
     s.poison.any fun a => a < lo + f.nexp * n && lo < a + 8)

/-- R184: the input that the free input stage takes from, of the frames in progress with a complete group: with a credit
first, then the older FS, then the lower port. -/
def State.pickInput (s : State) (l : List Frame) : Option Frame :=
  let credit := fun (f : Frame) => 0 < (s.input f.inst).credits
  let better := fun (a b : Frame) =>
    if credit a != credit b then credit a
    else if s.leq a.stamp b.stamp && !s.leq b.stamp a.stamp then true
    else if s.leq b.stamp a.stamp && !s.leq a.stamp b.stamp then false
    else a.port ≤ b.port
  match l with
  | [] => none
  | f :: r => some (r.foldl (fun a b => if better a b then a else b) f)

/-- LINE_GROUP_TAKE, R184, R250. -/
def lineGroupTake (pipe : Nat) (s : State) : State :=
  let l := s.frames.filter fun f => f.pipe = some pipe && f.handed && !f.closed && s.groupReady f
  match s.pickInput l with
  | none => s
  | some f =>
    if !s.pipeTakes pipe f || (s.pipe pipe).restart then s
    else
      let g := s.groupPayloads f
      let n := f.taken.length
      let bad := s.groupPoisoned f
      let s := (s.updInput f.inst fun x => { x with credits := x.credits - 1 }).updPipe pipe fun x => { x with watch := none }
      let s := s.hubMoves (pipe / 3)
      let s := s.updFrame f.fid fun x => { x with
        taken := x.taken ++ [g], slots := x.slots.filter fun y => y.line != n,
        card := if bad then x.card ||| 2 ^ cardMem else x.card,
        link := if x.synthetic && x.height ≤ n + 1 then 2 else x.link }
      (s.produceReady f.fid).settleViews.tryClose f.fid

def execLineGroupTake (pipe : Nat) (s : State) : Res := onUnit (s.part.has .pipe pipe) (lineGroupTake pipe s)

/-- LINE_CREDIT_GAIN, R184: an input of a shared pipeline gains a credit per CAP_LINE_PERIOD, up to 4. -/
def lineCreditGain (port : Nat) (s : State) : State :=
  match s.inProgress port with
  | none => s
  | some f =>
    let x := s.input f.inst
    let period := nsCycles f.linePeriod
    if s.isShared (f.pipe.getD 0) && period ≤ s.since x.creditAt then
      s.updInput f.inst fun x => { x with credits := min 4 (x.credits + 1), creditAt := x.creditAt + period }
    else s

def execLineCreditGain (port : Nat) (s : State) : Res := onUnit (port < s.part.ports) (lineCreditGain port s)

end Sys2Proof.Machine
end

