-- ==== Sys2Proof/Machine/Exposure.lean ====
section
/-! DEFINITION. Chapter 09, second half: write bundles, the settings model, its sends, the echo, auto-exposure, and the
completion of statistics records (R261, R263 to R275). -/
namespace Sys2Proof.Machine

def State.exp (s : State) (port : Nat) : ExpSt := mapGetD port {} s.exps
def State.updExp (s : State) (port : Nat) (f : ExpSt → ExpSt) : State :=
  { s with exps := mapSet port (f (s.exp port)) s.exps }

/-! EXP_MAP (R265). -/

def mapUnit (m : Bytes) : Nat := leAt m 18 4
/-- Width in bytes of register addresses and of values (R263). -/
def mapAddrBytes (m : Bytes) : Nat := field (leAt m 1 1) 0 0 + 1
def mapValueBytes (m : Bytes) : Nat := field (leAt m 1 1) 2 1 + 1

/-- R266: the merge ratio of exposure e of the input a port feeds, or its default. -/
def State.mergeRatio (s : State) (port e : Nat) : Nat :=
  let key := if e = 1 then Key.pipeMergeRatio1 else Key.pipeMergeRatio2
  match s.livePipe port with
  | some p => (s.inLive p (s.inputOf p port) (key (2 * p + s.inputOf p port))).toNat
  | none => (defaultNum s.part (key 0)).toNat

/-- Division rounded half up. -/
def divHalf (a b : Nat) : Nat := (a + b / 2) / b

/-- R266: the counts of exposures 0 to nexp - 1 for an exposure-0 time in ns. -/
def State.expCounts (s : State) (port t : Nat) : List Nat :=
  let c0 := divHalf (t * 1000) (mapUnit (s.dom (Key.expMap port)))
  (List.range (s.liveNat (Key.capNexp port))).map fun e => if e = 0 then c0 else divHalf (c0 * 256) (s.mergeRatio port e)

/-- R266: a count's time in ns. -/
def countTime (unit count : Nat) : Nat := (count * unit + 500) / 1000

/-- R266: the gain code. -/
def gainCode (m : Bytes) (g : Nat) : Nat := (rshift (g * leAt m 24 2 : Nat) 8).toNat

/-- R263, R266: one entry of a bundle, none where the register is 0xFFFF. -/
def bundleEntry (m : Bytes) (reg value : Nat) : Bytes :=
  if reg = 0xFFFF then [] else beBytes (mapAddrBytes m) reg ++ beBytes (mapValueBytes m) value

/-- R266: the bundle. -/
def expBundle (m : Bytes) (counts : List Nat) (code : Nat) : Bytes :=
  let times := (counts.zip (List.range 3)).flatMap fun c => bundleEntry m (leAt m (12 + 2 * c.2) 2) c.1
  m.take 2 ++ bundleEntry m (leAt m 2 2) (leAt m 4 4) ++ times ++ bundleEntry m (leAt m 22 2) code ++
    bundleEntry m (leAt m 2 2) (leAt m 8 4)

/-- R270: the times of exposures where no map gives counts. -/
def State.plainTimes (s : State) (port t : Nat) : List Nat :=
  (List.range (s.liveNat (Key.capNexp port))).map fun e => if e = 0 then t else divHalf (t * 256) (s.mergeRatio port e)

/-- What the model records of a change, generation and first frame still open (R266, R274). -/
def State.changeMeaning (s : State) (port t g : Nat) (raw : Bool) : SensorGen :=
  let m := s.dom (Key.expMap port)
  let w := 2 ^ (8 * mapValueBytes m)
  let counts := if m.isEmpty then [] else s.expCounts port t
  let times := if raw || m.isEmpty then s.plainTimes port t else counts.map (countTime (mapUnit m))
  ⟨0, 0, times, g, counts.headD 0 % w, if m.isEmpty then 0 else gainCode m g % w⟩

/-- R266, R274: a change of exposure-0 time and gain. -/
def State.makeChange (s : State) (port t g : Nat) (raw : Bool) : Change :=
  let m := s.dom (Key.expMap port)
  let b := if raw then s.dom (Key.expRawBundle port) else expBundle m (s.expCounts port t) (gainCode m g)
  ⟨t, g, s.cycles, b, s.changeMeaning port t g raw, none⟩

/-- R273: the change that is due after a reset waits, once the port is up and its map is not empty. -/
def State.owesChange (s : State) (port : Nat) : Bool :=
  (s.exp port).owed && !(s.dom (Key.expMap port)).isEmpty && s.laneUp (.camera port)

/-- R268: does a change wait or is one outstanding? -/
def State.changing (s : State) (port : Nat) : Bool := (s.exp port).change.isSome || s.owesChange port

/-- EXP_WAITING (R276). -/
def State.expWaiting (s : State) (port : Nat) : Nat :=
  match (s.exp port).change with
  | some c => if c.tag.isSome then 2 else 1
  | none => if s.owesChange port then 1 else 0

/-! The model (R267). -/

/-- R267, R269: the generation of frame n, none where it is unknown. -/
def State.modelGen (s : State) (port n : Nat) : Option SensorGen :=
  let x := s.exp port
  let unknown := match x.unknownFrom with
    | some u => atOrAfter32 n u
    | none => false
  if unknown then none else x.gens.find? fun g => atOrAfter32 n g.first

def State.frameGen (s : State) (port n : Nat) : Nat := ((s.modelGen port n).map (·.gen)).getD 0

/-- R267: the change is acknowledged: a generation from the next accepted frame plus EXP_LATENCY on. -/
def State.acknowledge (s : State) (port : Nat) (c : Change) : State :=
  let x := s.exp port
  let gen := nextGen ((x.gens.head?.map (·.gen)).getD 0)
  let first := (s.nat (Key.capNextFrame port) + s.nat (Key.expLatency port)) % 2 ^ 32
  let g : SensorGen := { c.made with gen := gen, first := first }
  let s := s.updExp port fun x => { x with
    gens := (g :: x.gens).take 8, acked := some (c.time, c.gain), change := none, unknownFrom := none }
  (((s.setObj (Key.expGen port) gen).setObj (Key.expGenFrame port) first).setObj (Key.expModelTime port)
    (g.times.headD 0 : Nat)).setObj (Key.expModelGain port) g.gain

/-- R269: the change fails: 1 = bus error, 2 = malformed, 3 = partner silent, 4 = REFUSED. -/
def State.changeFailed (s : State) (port : Nat) (c : Change) (reason : Nat) : State :=
  let from_ := (s.nat (Key.capNextFrame port) + s.nat (Key.expLatency port)) % 2 ^ 32
  let s := s.updExp port fun x => { x with
    change := none, unknownFrom := if reason = 1 ∨ reason = 3 then some (x.unknownFrom.getD from_) else x.unknownFrom }
  (s.bump (Key.expWriteFailures port)).raise 0x7001 1 (pathPort port)
    (byteOf reason :: leBytes 4 c.time ++ leBytes 2 c.gain)

/-- The outstanding change of a port that was sent under a tag. -/
def State.sentChange (s : State) (port tag : Nat) : Option Change :=
  match (s.exp port).change with
  | some c => if c.tag = some tag then some c else none
  | none => none

/-- R269: the request of the outstanding change is gone without an answer (R145, R154). -/
def State.changeLost (s : State) (port : Nat) : State :=
  match (s.exp port).change with
  | some c => if c.tag.isSome && (s.lane (.camera port)).sensor.isEmpty then s.changeFailed port c 3 else s
  | none => s

/-- Take a request of type 0x02 or 0x03 off the list of outstanding ones. -/
def State.clearSensor (s : State) (port tag : Nat) : State :=
  (s.updLane (.camera port) fun x => { x with sensor := x.sensor.filter (·.tag ≠ tag) }).nextRequest (.camera port)

def State.sensorAnswers (s : State) (port type tag : Nat) : Bool :=
  (s.lane (.camera port)).sensor.any fun r => r.type = type && r.tag = tag

/-- WRITE_ACK (R264, R267, R269). -/
def writeAck (port tag code : Nat) (s : State) : State :=
  s.whenever (s.sensorAnswers port 2 tag) fun s =>
    let s := s.clearSensor port tag
    match s.sentChange port tag with
    | none => s
    | some c => if code = 0 then s.acknowledge port c else s.changeFailed port c (if code = 1 then 1 else 2)

/-- READ_DATA (R144): the request is answered. No rule makes a SENSOR_READ, or uses what one reads. -/
def readData (port tag : Nat) (s : State) : State :=
  s.whenever (s.sensorAnswers port 3 tag) fun s => s.clearSensor port tag

/-- R269: REFUSED answers a SENSOR_WRITE. -/
def State.changeRefused (s : State) (port tag : Nat) : State :=
  match s.sentChange port tag with
  | some c => s.changeFailed port c 4
  | none => s

/-! Requests to change (R274, R275). -/

/-- EXP_APPLY (R274), its refusals in the order of R71. -/
def expApply (port value : Nat) : Effect := fun s => do
  let empty := (s.dom (Key.expMap port)).isEmpty
  firstCheck [(s.nat (Key.expAeMode port) = 1, abState), (value = 1 && empty, abState),
    (value = 2 && (s.dom (Key.expRawBundle port)).isEmpty, abState), (s.changing port, abBusy)]
  let c := s.makeChange port (s.nat (Key.expSetTime port)) (s.nat (Key.expSetGain port)) (value = 2)
  return s.updExp port fun x => { x with change := some c }

/-- R275: event 0x7003 once where the controller has nothing to act on. -/
def State.checkIdle (s : State) (port : Nat) : State :=
  if s.nat (Key.expAeMode port) ≠ 1 then s.updExp port fun x => { x with idle := 0 }
  else
    let r : Nat := if (s.livePipe port).isNone then 1 else if (s.dom (Key.expMap port)).isEmpty then 2 else 0
    let old := (s.exp port).idle
    let s := s.updExp port fun x => { x with idle := r }
    if r = 0 ∨ r = old then s else s.raise 0x7003 1 (pathPort port) [byteOf r]

/-- EXP_AE_MODE (R274). -/
def expAeMode (port value : Nat) : Effect := fun s => do
  refuseIf (value = 1 && (s.dom (Key.expMap port)).isEmpty) abState
  return (s.setObj (Key.expAeMode port) value).checkIdle port

/-- R275: the level of a zone of the white-balance grid with n cells of period p. -/
def zoneLevel (p n sum : Nat) : Nat := divHalf sum (n * p * p)

/-- R275: the zones with a cell: number, n, level. -/
def aeZones (period : Nat) (sections : Bytes) : List (Nat × Nat × Nat) :=
  (List.range 768).filterMap fun z =>
    let v := fun (k : Nat) => leAt sections (1024 + 20 * z + 4 * k) 4
    if v 4 = 0 then none else some (z, v 4, zoneLevel period (v 4) (v 0 + v 1 + v 2 + v 3))

/-- R275: the change of time and gain for a metric m and a factor r. -/
def State.aeChange (s : State) (port : Nat) (g0 : SensorGen) (r : Nat) : Nat × Nat :=
  let e := (rshift (g0.times.headD 0 * g0.gain / 256 * r : Nat) 12).toNat
  let t := min e (s.nat (Key.expAeMaxTime port))
  let fl := s.nat (Key.expAeFlicker port)
  let t := if 0 < fl ∧ fl ≤ t then fl * (t / fl) else t
  let tq := ((s.changeMeaning port t g0.gain false).times.headD 0)
  let g := if tq = 0 then Config.aeGain e else divHalf (e * 256) tq
  (t, (clip (g : Nat) 256 (s.nat (Key.expAeMaxGain port))).toNat)

/-- R275: the controller acts on a record. -/
def State.aeControl (s : State) (j : StatJob) : State :=
  let port := j.port
  let s := s.checkIdle port
  match (s.exp port).gens.head? with
  | none => s
  | some g0 =>
    if s.nat (Key.expAeMode port) ≠ 1 ∨ (s.exp port).idle ≠ 0 ∨ s.changing port ∨ leAt j.header 26 2 ≠ g0.gen then s
    else
      let w := fun (z : Nat) => leAt (s.dom (Key.expAeWeights port)) z 1
      let zones := aeZones j.period j.sections
      let wsum := (zones.map fun z => w z.1).foldl (· + ·) 0
      if wsum = 0 then s
      else
        let m := divHalf ((zones.map fun z => w z.1 * z.2.2).foldl (· + ·) 0) wsum
        let counted := (zones.map fun z => z.2.1).foldl (· + ·) 0
        let cells := (leAt j.header 60 2 / j.period) * (leAt j.header 30 2 / j.period)
        let step := s.nat (Key.expAeMaxStep port)
        let r := if s.nat (Key.expAeSatLimit port) * cells < (cells - counted) * 1024 then 2048
          else (s.nat (Key.expAeTarget port) * 4096 + m / 2) / max m 1
        let r := (clip (r : Nat) (16777216 / step : Nat) (step : Nat)).toNat
        let s := s.setObj (Key.expAeMetric port) (min m 65535 : Nat)
        if ((r : Int) - 4096).natAbs ≤ s.nat (Key.expAeDeadband port) then s
        else
          let c := s.aeChange port g0 r
          let ch := s.makeChange port c.1 c.2 false
          s.updExp port fun x => { x with change := some ch }

/-! Completion of records (R261). -/

/-- STAT_RECORD_COMPLETE, R261: the oldest record of the input on its way replaces STAT_RECORD. -/
def statRecordComplete (pipe input : Nat) (s : State) : State :=
  let inst := 2 * pipe + input
  match s.statJobs.find? (·.inst = inst) with
  | none => s
  | some j =>
    let rseq := satAdd 32 (s.nat (Key.statRseq inst)) 1
    let record := j.header.take 42 ++ leBytes 4 rseq ++ leBytes 2 s.epoch ++ leBytes 12 (toTime96 s.now) ++
      j.header.drop 42 ++ j.sections
    let s := (s.setDom (Key.statRecord inst) record).setObj (Key.statRseq inst) rseq
    let s := { s with statJobs := s.statJobs.erase j }
    if j.port < s.part.ports then s.aeControl { j with header := record.take 64 } else s

def execStatRecordComplete (pipe input : Nat) (s : State) : Res :=
  onUnit (s.part.has .pipe pipe && input < 2) (statRecordComplete pipe input s)

/-! The echo (R271, R272). -/

/-- An echoed field: none where it is not echoed, `some none` where it is absent. -/
def echoField (m : Bytes) (off cnt : Nat) (payload : Bytes) : Option (Nat × Nat) :=
  let o := leAt m off 2
  let n := leAt m cnt 1
  if n = 0 ∨ payload.length < o + n then none else some (beAt payload o n, 2 ^ (8 * n))

/-- Does a present echoed field equal a value's low bytes? An absent one says nothing. -/
def echoAgrees (f : Option (Nat × Nat)) (v : Nat) : Bool :=
  match f with
  | some (x, w) => x = v % w
  | none => true

/-- R272: does the echo name this generation's settings? -/
def echoNames (m payload : Bytes) (g : SensorGen) : Bool :=
  echoAgrees (echoField m 6 8 payload) g.count && echoAgrees (echoField m 10 12 payload) g.code

/-- R272: the echo's verdict on a frame: its SENSOR_GEN, and the row of the table, 0 = no mismatch. -/
def State.echoVerdict (s : State) (f : Frame) (payload : Bytes) : Nat × Nat :=
  let m := s.dom (Key.expEchoMap f.port)
  let silent := (echoField m 6 8 payload).isNone && (echoField m 10 12 payload).isNone
  let model := s.modelGen f.port f.num
  let gen : Nat × Nat :=
    if silent then ((model.map (·.gen)).getD 0, 0)
    else if model.any (echoNames m payload) then ((model.map (·.gen)).getD 0, 0)
    else match (s.exp f.port).gens.find? (echoNames m payload) with
      | some g => (g.gen, 2)
      | none => (0, 3)
  if echoAgrees (echoField m 2 4 payload) f.sframe then gen else (gen.1, 1)

/-- R272: the echo of a frame arrives in time. -/
def State.takeEcho (s : State) (f : Frame) (payload : Bytes) : State :=
  let v := s.echoVerdict f payload
  let bad := v.2 ≠ 0
  let s := s.updFrame f.fid fun x => { x with
    echo := some payload, sensorGen := v.1, sflags := if bad then x.sflags ||| 8 else x.sflags,
    card := if bad then x.card ||| 2 ^ cardMismatch else x.card }
  let retag := fun (o : OutFrame) => if o.fid = f.fid then { o with sensorGen := v.1 } else o
  let s := { s with mrg := { s.mrg with frames := s.mrg.frames.map retag } }
  if bad then (s.bump (Key.expMismatches f.port)).raiseLimited 0x7002 1 f.port (pathPort f.port)
      (leBytes 4 f.num ++ [byteOf v.2] ++ leBytes 2 v.1)
  else s

/-- R272: line 0 begins, or the frame ends on the link: an echo that has not come is absent. -/
def State.echoOver (s : State) (f : Frame) : State :=
  if f.echoLate || f.synthetic then s
  else
    let gone := f.echo.isNone && !(s.dom (Key.expEchoMap f.port)).isEmpty
    s.updFrame f.fid fun x => { x with echoLate := true, sflags := if gone then x.sflags ||| 16 else x.sflags }

/-! Resets (R273). -/

/-- A port reset clears the model; its counters are cleared with it (R276). -/
def State.expPortReset (s : State) (port : Nat) : State :=
  let s := s.updExp port fun x => { x with gens := [], change := none, unknownFrom := none, owed := true, raised := [] }
  [Key.expGen port, Key.expGenFrame port, Key.expModelTime port, Key.expModelGain port, Key.expWriteFailures port,
    Key.expMismatches port].foldl State.resetObj s

/-! Sends (R268). -/

/-- Number that stands for a port's send among the bells' entries, after every timetable entry in the load order. -/
def sendEntry (port : Nat) : Nat := 4096 + port

/-- R268: the port's write slot: its latest FS arrival stamp plus CAP_FRAME_PERIOD minus EXP_WRITE_LEAD. -/
def State.writeSlot (s : State) (port : Nat) : Option Instant :=
  ((mapGetD port {} s.ports : PortSt).lastStamp).map fun i =>
    i.plus ((usUnits (s.liveNat (Key.capFramePeriod port)) : Nat) - (usUnits (s.nat (Key.expWriteLead port)) : Nat) : Int)

/-- R268: since when a change of the port waits, if one does. -/
def State.waitsSince (s : State) (port : Nat) : Option Nat :=
  match (s.exp port).change with
  | some c => if c.tag.isSome then none else some c.since
  | none => if s.owesChange port then some (s.lane (.camera port)).entered else none

/-- Put the owed change of R273 among the waiting ones. -/
def State.settleOwed (s : State) (port : Nat) : State :=
  if (s.exp port).change.isSome || !s.owesChange port then s
  else
    let v := (s.exp port).acked.getD (s.nat (Key.expSetTime port), s.nat (Key.expSetGain port))
    let c := s.makeChange port v.1 v.2 false
    s.updExp port fun x => { x with change := some c, owed := false }

/-- R273: the first write slot since the port is up passes with EXP_MAP empty: the change of R273 is no longer owed. -/
def State.dropOwed (s : State) (port : Nat) : State :=
  let slot := s.laneUp (.camera port) && (mapGetD port {} s.ports : PortSt).lastFs.isSome && (s.writeSlot port).any s.reached
  if slot && (s.exp port).owed && (s.dom (Key.expMap port)).isEmpty then s.updExp port fun x => { x with owed := false } else s

/-- EXP_WRITE_SLOT (R268): the loaded send of the port reaches its instant. -/
def expWriteSlot (port : Nat) (s : State) : State :=
  match s.bells.units.find? fun u => u.entry = sendEntry port && s.reached u.act with
  | none => s
  | some u =>
    let s := { s with bells := { s.bells with units := s.bells.units.erase u } }
    let off := !s.domainOn (laneDomain (.camera port))
    let down := !s.laneUp (.camera port)
    if off || down then
      let r : Nat := if off then 1 else 2
      if (s.exp port).raised.contains r then s
      else (s.updExp port fun x => { x with raised := r :: x.raised }).raise 0x2404 1 "AX.TT"
        (leBytes 2 0xFFFF ++ [byteOf r] ++ leBytes 2 port)
    else
      let s := s.settleOwed port
      match (s.exp port).change with
      | none => s
      | some c =>
        if c.tag.isSome then s
        else
          let tag := (s.lane (.camera port)).nextTag
          let s := s.laneRequest (.camera port) 2 c.bundle
          s.updExp port fun x => { x with change := some { c with tag := some tag }, owed := false, raised := [] }

def execExpWriteSlot (port : Nat) (s : State) : Res := onUnit (port < s.part.ports) (expWriteSlot port s)

end Sys2Proof.Machine
end

