-- ==== Sys2Proof/Machine/Capture.lean ====
section
/-! DEFINITION. Chapter 06: what a camera port accepts, frame starts and capture times, lines, repairs, overflows and the end of
frames on the link (R168 to R194). -/
namespace Sys2Proof.Machine

def State.port (s : State) (n : Nat) : PortSt := mapGetD n {} s.ports
def State.updPort (s : State) (n : Nat) (f : PortSt → PortSt) : State := { s with ports := mapSet n (f (s.port n)) s.ports }

/-- The frame of a port that is open on the link. -/
def State.openFrame (s : State) (port : Nat) : Option Frame :=
  s.frames.find? fun f => f.port = port && f.link = 0 && !f.synthetic

/-- R185: slots of a port in use. -/
def State.ingressFill (s : State) (port : Nat) : Nat :=
  ((s.portFrames port).map fun f => f.slots.length).foldl (· + ·) 0

/-- R194: an event of a port, at most one per second. -/
def State.capRaise (s : State) (port cause cls : Nat) (d : Bytes) : State := s.raiseLimited cause cls port (pathPort port) d

/-- R182: the required rate of a pipeline from the live sets, as clocks × 10^9 over nanoseconds: ports' numerators and
denominators. -/
def State.portRate (val : Nat → Nat) (port : Nat) : Nat × Nat :=
  ((val (Key.capWidth port) * val (Key.capNexp port) + 64) * 1000000000, val (Key.capLinePeriod port))

/-- CAP_PIPE_LOAD, R182, R193: kHz, rounded down. -/
def State.pipeLoad (s : State) (pipe : Nat) : Nat :=
  let ports := ((List.range 6).map (6 * (pipe / 3) + ·)).filter fun i => s.livePipe i = some pipe
  let r := fracSum (ports.map (State.portRate s.liveNat))
  r.1 / (r.2 * 1000)

/-- R181, R201: the mapping a capture commit would make legal? `named`: the ports whose shadow sets count. -/
def State.mappingOk (s : State) (named : Nat → Bool) (hub : Nat) : Bool :=
  let val := fun (i key : Nat) => if named i then s.nat key else s.liveNat key
  let ports := (List.range 6).map (6 * hub + ·)
  (List.range 3).all fun k =>
    let fed := ports.filter fun i => val i (Key.capPipe i) = k
    let r := fracSum (fed.map fun i => State.portRate (val i) i)
    fed.length ≤ 2 && (fed.length ≠ 2 || fed.all fun i => val i (Key.capWidth i) ≤ 4096) && r.1 ≤ 1500000000 * r.2

/-! Triggers (R177, R192). -/

/-- A trigger remains without a frame; in triggered mode that is a cadence miss. -/
def State.triggerUnmatched (s : State) (port : Nat) : State :=
  let s := s.bump (Key.capTriggersUnmatched port)
  let s := s.capRaise port 0x4006 1 (leBytes 4 (s.nat (Key.capTriggersUnmatched port)))
  if s.liveNat (Key.capTimeMode port) = 0 then
    (s.bump (Key.capCadenceMisses port)).capRaise port 0x4005 1 (leBytes 4 (s.nat (Key.capNextFrame port)))
  else s

/-- R177: a trigger is launched on a port. -/
def State.noteTrigger (s : State) (port : Nat) (t : Instant) : State :=
  if s.liveNat (Key.capTimeMode port) ≠ 0 then s
  else
    let full := 4 ≤ (s.port port).triggers.length
    let s := s.updPort port fun x => { x with triggers := (if full then x.triggers.drop 1 else x.triggers) ++ [t] }
    if full then s.triggerUnmatched port else s

/-- R177 to R180: the capture time and SOURCE of an FS, with the triggers it uses up. -/
def State.captureTime (s : State) (port : Nat) (stamp : Instant) : State × Instant × Nat :=
  let free := stamp.plus (-(tenthsToUnits (s.live (Key.capPortLatency port)) + tenthsToUnits (s.live (Key.capReadoutOffset port))))
  if s.liveNat (Key.capTimeMode port) = 1 then (s, free, 1)
  else
    let lo : Int := stamp.t - (usUnits (s.liveNat (Key.capTriggerWindow port)) : Nat)
    let old := (s.port port).triggers.filter fun t => s.inEpoch t < lo
    let keep := (s.port port).triggers.filter fun t => !(s.inEpoch t < lo)
    let s := s.updPort port fun x => { x with triggers := keep }
    let s := old.foldl (fun st _ => st.triggerUnmatched port) s
    match keep.find? fun t => s.inEpoch t < stamp.t with
    | none => (s, free, 2)
    | some t =>
      (s.updPort port fun x => { x with triggers := x.triggers.erase t },
       t.plus (tenthsToUnits (s.live (Key.capTriggerLatency port))), 0)

/-! The end of a frame on the link. -/

/-- R186 to R191: the link side of a frame is over, with these capture flags and this reason (0 = whole). -/
def State.endFrame (s : State) (f : Frame) (flags reason : Nat) : State :=
  let s := s.echoOver f
  let s := s.updFrame f.fid fun x => { x with link := 2, cflags := x.cflags ||| flags, reason := reason }
  s.tryClose f.fid

/-- R187: close the open frame at an FE, a watchdog or a new FS; `missing`: without its FE. -/
def State.closeAtEnd (s : State) (f : Frame) (missing : Bool) : State :=
  let whole := f.nextLine.all (· = f.height)
  s.endFrame f ((if missing then 8 else 0) + (if whole then 0 else 1)) (if whole then 0 else 2)

/-- R189: the frame is dropped: 1 = errored line, 2 = repair limit. -/
def State.dropFrame (s : State) (f : Frame) (reason : Nat) : State :=
  let s := s.bump (Key.capFramesDropped f.port)
  let s := s.capRaise f.port 0x4003 1 (leBytes 4 f.num ++ [byteOf reason])
  let s := s.updPort f.port fun x => { x with discard := true }
  let s := s.updFrame f.fid fun x => { x with dropped := true, slots := [] }
  s.endFrame f 32 0

/-- R186: the ingress buffer is full. -/
def State.overflow (s : State) (f : Frame) (line : Nat) : State :=
  let s := s.bump (Key.capOverflows f.port)
  let s := s.capRaise f.port 0x4002 1 (leBytes 4 f.num ++ leBytes 2 line)
  let s := s.updPort f.port fun x => { x with discard := true }
  s.endFrame f 5 1

/-! Frame starts. -/

/-- R172: the FS arrival stamp: the time base value, less the trim of the sampling phase (R464), truncated. -/
def State.fsStamp (s : State) (port : Nat) : Instant :=
  let l : Lane := .camera port
  let trim : Int := (((s.lane l).phase : Int) - 32) * (2 ^ 48 : Nat) / (100 * 2 ^ s.laneNat l oRateActive : Nat)
  ⟨s.epoch, ((s.time : Int) - trim) / (2 ^ 32 : Nat)⟩

/-- R176: FS arrival minus capture time in ns, saturating. -/
def State.fsDelay (s : State) (stamp capture : Instant) : Nat :=
  (clip ((stamp.t - s.inEpoch capture) / 65536) 0 (2 ^ 32 - 1 : Nat)).toNat

/-- R191: truncate a frame and discard its buffer: 4 = port reset, 5 = pipeline restart. -/
def State.cutFrame (s : State) (f : Frame) (reason : Nat) : State :=
  let s := s.echoOver f
  let ended := f.link = 2
  let s := s.updFrame f.fid fun x => { x with
    link := 2, slots := [], cflags := x.cflags ||| 1, reason := if ended && x.reason ≠ 0 then x.reason else reason }
  s.closeFrame f.fid

/-- R173, R174: the FS is accepted; R440: with the pipeline's domain off its frame closes at once. -/
def State.acceptFs (s : State) (port sframe : Nat) (stamp : Instant) : State :=
  let num := s.nat (Key.capNextFrame port)
  let s := s.setObj (Key.capNextFrame port) ((num + 1) % 2 ^ 32 : Nat)
  let s := if num = 2 ^ 32 - 1 then s.capRaise port 0x4008 0 [] else s
  let c := s.captureTime port stamp
  let s := c.1
  let fallback := c.2.2 = 2
  let s := if fallback then s.capRaise port 0x4007 1 (leBytes 4 num) else s
  let pipe := s.livePipe port
  let nexp := s.liveNat (Key.capNexp port)
  let f : Frame := {
    fid := s.nextFid, port := port, num := num, sframe := sframe, stamp := stamp, arrived := s.cycles, capture := c.2.1,
    source := c.2.2, nexp := nexp, format := s.liveNat (Key.capFormat port), width := s.liveNat (Key.capWidth port),
    height := s.liveNat (Key.capHeight port), linePeriod := s.liveNat (Key.capLinePeriod port),
    framePeriod := s.liveNat (Key.capFramePeriod port), fsDelay := s.fsDelay stamp c.2.1, pipe := pipe,
    input := (pipe.map fun p => s.inputOf p port).getD 0, capGen := s.nat (Key.capGenLive port),
    sensorGen := s.frameGen port num, pipeGen := 0, cflags := if fallback then 64 else 0,
    card := (s.port port).owed ||| (if s.sup.dip then 2 ^ cardDip else 0), sflags := 0, repaired := 0, link := 0, reason := 0,
    dropped := false, recovered := false, slots := [], nextLine := List.replicate nexp 0, good := List.replicate nexp none,
    embedded := 0, echo := none, echoLate := false, handed := false, taken := [], closed := false, synthetic := false }
  let s := { s with frames := s.frames ++ [f], nextFid := s.nextFid + 1 }
  let s := s.updPort port fun x => { x with owed := 0 }
  match pipe with
  | none => s
  | some p =>
    let s := s.noteStamp p (s.inputOf p port) num stamp
    (if s.domainOn (pipeDomain p) then s else s.cutFrame f 5).settleViews

/-- R192, R268: an FS arrival restarts the cadence watch and moves the write slot. -/
def State.noteArrival (s : State) (port : Nat) (stamp : Instant) : State :=
  let s := s.updPort port fun x => { x with lastFs := some s.cycles, lastStamp := some stamp, misses := 0 }
  { s with bells := { s.bells with units := s.bells.units.filter fun u => u.entry ≠ sendEntry port } }

/-- R141: a packet is received on a camera port that is up: from its start symbol on, what it carries goes on. -/
def State.onPacket (s : State) (port : Nat) (start : Byte) (x : Line) (f : Body → Bytes → State → State) : State :=
  s.whenever (s.laneUp (.camera port)) fun s =>
    s.onLine (.camera port) x fun s =>
      match s.receiveLine (.camera port) start x with
      | (s, none) => s
      | (s, some (b, bytes)) => f b bytes s

/-- R139, R141, R172 to R174, R187: an FS whose body and CRC-32 are these bytes. -/
def fsReceived (port : Nat) (b : Bytes) (s : State) : State :=
    let s := match s.openFrame port with
      | some f => s.closeAtEnd f true
      | none => s
    let s := s.updPort port fun x => { x with discard := false }
    if !crcHolds 8 b || s.pwr.stopFs then s
    else
      let sframe := beAt b 0 4
      let nexp := beAt b 4 1
      let format := beAt b 5 1
      let stamp := s.fsStamp port
      let r := s.takeCapture port stamp
      let s := (r.1.checkIdle port).updPort port fun x => { x with owed := x.owed ||| r.2.getD 0 }
      let s := s.noteArrival port stamp
      if nexp = s.liveNat (Key.capNexp port) ∧ format = s.liveNat (Key.capFormat port) then s.acceptFs port sframe stamp
      else (s.bump (Key.capFsRejected port)).capRaise port 0x4004 1 [byteOf nexp, byteOf format]

/-- FS_ARRIVAL: the command's instant is that of the first bit of the K28.0 (R172). -/
def fsArrival (port : Nat) (x : Line) (s : State) : State := s.onPacket port k280 x fun _ b s => fsReceived port b s

/-! Lines (R185 to R189). -/

/-- R169: the payload bytes of a line. -/
def Frame.lineBytes (f : Frame) : Nat := ceilDiv (f.width * f.format) 8

/-- R188: the payload of a repaired line: the last good packet of the exposure, or the fill value. -/
def State.repairPayload (s : State) (f : Frame) (exp : Nat) : Bytes :=
  match f.good.getD exp none with
  | some b => b
  | none =>
    let code := min (s.liveNat (Key.capFillValue f.port)) (2 ^ f.format - 1)
    packCodes f.format (List.replicate f.width code)

/-- R185: a line of an exposure is in, with its payload; a good one serves later repairs. A port that feeds no pipeline
discards it (R181). -/
def State.storeLine (s : State) (f : Frame) (exp line : Nat) (payload : Bytes) (good : Bool) : State :=
  let s := s.updFrame f.fid fun x => { x with
    nextLine := x.nextLine.set exp (line + 1), good := if good then x.good.set exp (some payload) else x.good,
    slots := if x.pipe.isSome then x.slots ++ [⟨line, exp, payload⟩] else x.slots }
  (s.hubMoves (f.port / 6)).setObj (Key.capIngressPeak f.port) (max (s.nat (Key.capIngressPeak f.port)) (s.ingressFill f.port) : Nat)

/-- R186: is the port's buffer full for this frame? -/
def State.ingressFull (s : State) (f : Frame) : Bool :=
  f.pipe.isSome && s.liveNat (Key.capIngressLines f.port) ≤ s.ingressFill f.port

/-- R187, R188: repair one line; the answer tells whether the frame goes on. `seen`: LINE of the packet that arrived. -/
def State.repairLine (s : State) (fid exp line seen : Nat) : State × Bool :=
  match s.frameOf fid with
  | none => (s, false)
  | some f =>
    if s.ingressFull f then (s.overflow f seen, false)
    else if s.liveNat (Key.capCrcPolicy f.port) = 1 then (s.dropFrame f 1, false)
    else if s.liveNat (Key.capRepairLimit f.port) ≤ f.repaired then (s.dropFrame f 2, false)
    else
      let s := s.bump (Key.capLinesRepaired f.port)
      let s := s.updFrame fid fun x => { x with repaired := x.repaired + 1, cflags := x.cflags ||| 2 }
      (s.storeLine f exp line (s.repairPayload f exp) false, true)

/-- R187: repair n skipped lines from `line` on. -/
def State.repairLines (fid exp seen : Nat) : Nat → Nat → State → State × Bool
  | 0, _, s => (s, true)
  | n + 1, line, s =>
    let r := s.repairLine fid exp line seen
    if r.2 then State.repairLines fid exp seen n (line + 1) r.1 else r

/-- R139: COUNT of the header of a line or embedded packet. -/
def packetCount (b : Bytes) : Nat := beAt b 4 2

/-- R141: is a line or embedded packet errored, by its characters? It ends at the first special character but K30.7. -/
def packetErrored (x : Body) (b : Bytes) : Bool :=
  !crcHolds (6 + packetCount b) b || b.length != packetCount b + 10 || x.stop != some k297 || x.bad || x.partner

/-- R141: is a line packet errored? -/
def lineErrored (f : Frame) (x : Body) (b : Bytes) : Bool :=
  packetErrored x b || beAt b 1 1 != f.format || packetCount b != f.lineBytes

/-- R187: a packet is discarded and counted. -/
def State.discardPacket (s : State) (port : Nat) : State := s.bump (Key.capLinesDiscarded port)

/-- R187: a line packet of the open frame. -/
def State.takeLine (s : State) (f : Frame) (x : Body) (b : Bytes) : State :=
  let exp := beAt b 0 1 % 4
  let line := beAt b 2 2
  let next := f.nextLine.getD exp 0
  if f.nexp ≤ exp ∨ f.height ≤ line ∨ line < next then
    (s.discardPacket f.port).updFrame f.fid fun x => { x with cflags := x.cflags ||| 16 }
  else if s.ingressFull f then s.overflow f line
  else
    let r := State.repairLines f.fid exp line (line - next) next s
    if !r.2 then r.1
    else if lineErrored f x b then (r.1.repairLine f.fid exp line line).1
    else if r.1.ingressFull f then r.1.overflow f line
    else r.1.storeLine f exp line (slice b 6 (packetCount b)) true

/-- R168 to R170, R185 to R189: a line packet's characters. -/
def lineReceived (port : Nat) (x : Body) (b : Bytes) (s : State) : State :=
  match s.openFrame port with
  | none => if (s.port port).discard then s else s.discardPacket port
  | some f =>
    let s := if beAt b 2 2 = 0 && beAt b 0 1 % 4 < f.nexp then s.echoOver f else s
    match s.frameOf f.fid with
    | some f => s.takeLine f x b
    | none => s

/-- LINE_PACKET (R138, R139, R187). -/
def linePacket (port : Nat) (x : Line) (s : State) : State := s.onPacket port k277 x (lineReceived port)

/-- R171, R272: an embedded packet's characters. -/
def embeddedReceived (port : Nat) (x : Body) (b : Bytes) (s : State) : State :=
  match s.openFrame port with
  | none => if (s.port port).discard then s else s.discardPacket port
  | some f =>
    let s := s.updFrame f.fid fun x => { x with embedded := x.embedded + 1 }
    let line := beAt b 2 2
    if packetErrored x b || 16 ≤ f.embedded || 16 ≤ line then s.discardPacket port
    else
      let m := s.dom (Key.expEchoMap port)
      if !m.isEmpty && line = leAt m 0 1 && !f.echoLate && f.echo.isNone then s.takeEcho f (slice b 6 (packetCount b)) else s

/-- EMBEDDED_PACKET (R138, R139, R171). -/
def embeddedPacket (port : Nat) (x : Line) (s : State) : State := s.onPacket port k237 x (embeddedReceived port)

/-- R187, R189: an FE whose body and CRC-32 are these bytes: one whose CRC-32 fails is discarded (R141); a deferred retrain may start
(R156). Its SFRAME and LINES decide nothing. -/
def feReceived (port : Nat) (b : Bytes) (s : State) : State :=
  s.whenever (crcHolds 8 b) fun s =>
    let s := match s.openFrame port with
      | some f => s.closeAtEnd f false
      | none =>
        if (s.port port).discard then s.updPort port fun x => { x with discard := false } else s.discardPacket port
    retrainAtFe (.camera port) s

/-- FE_PACKET (R138, R139, R187). -/
def fePacket (port : Nat) (x : Line) (s : State) : State := s.onPacket port k284 x fun _ b s => feReceived port b s

/-- FE_WATCHDOG (R187). -/
def feWatchdog (port : Nat) (s : State) : State :=
  match s.openFrame port with
  | none => s
  | some f =>
    s.whenever (usCycles (f.framePeriod + s.liveNat (Key.capCadenceMargin port)) ≤ s.since f.arrived) fun s => s.closeAtEnd f true

def execFeWatchdog (port : Nat) (s : State) : Res := onUnit (port < s.part.ports) (feWatchdog port s)

/-- CADENCE_MISS (R192), free-running mode. -/
def cadenceMiss (port : Nat) (s : State) : State :=
  match (s.port port).lastFs with
  | none => s
  | some t =>
    let period := s.liveNat (Key.capFramePeriod port)
    let due := usCycles (period + s.liveNat (Key.capCadenceMargin port) + (s.port port).misses * period)
    s.whenever (s.laneUp (.camera port) && s.liveNat (Key.capTimeMode port) = 1 && due ≤ s.since t) fun s =>
      let s := s.updPort port fun x => { x with misses := x.misses + 1 }
      (s.bump (Key.capCadenceMisses port)).capRaise port 0x4005 1 (leBytes 4 (s.nat (Key.capNextFrame port)))

def execCadenceMiss (port : Nat) (s : State) : Res := onUnit (port < s.part.ports) (cadenceMiss port s)

/-! Ports that leave ACTIVE, and port resets (R174, R191 to R193). -/

/-- R191, R192: the port left ACTIVE or ACTIVE-DEGRADED: its open frame is truncated (reason 3), the cadence watch stops, and
a sensor change whose request was abandoned has failed. -/
def State.portLeft (s : State) (port : Nat) : State :=
  let s := s.updPort port fun x => { x with lastFs := none, misses := 0, discard := false }
  let s := match s.openFrame port with
    | some f => s.endFrame f 1 3
    | none => s
  s.changeLost port

/-- The counters of a port (R193). -/
def portCounters (port : Nat) : List Nat :=
  [Key.capIngressPeak port, Key.capFramesTruncated port, Key.capFramesDropped port, Key.capLinesRepaired port,
   Key.capOverflows port, Key.capLinesDiscarded port, Key.capFsRejected port, Key.capCadenceMisses port,
   Key.capTriggersUnmatched port]

/-- R205, R235, R252: a port reset clears the history of the input that the port feeds, and its counters. -/
def State.inputCleared (s : State) (pipe k : Nat) : State :=
  let i := 2 * pipe + k
  let s := if (mapGet i s.inputs).isSome then s.updInput i fun x => { x with lastHanded := none, history := none } else s
  [Key.pipeFrames i, Key.pipeDpcCount i, Key.pipeCropSkipped i, Key.pipeLtmHistoryFrame i].foldl State.resetObj s

/-- R174: the capture side of a port reset: frames truncated (reason 4), numbering and triggers gone, counters cleared, the
sensor model cleared, frame-launched commits discarded (R210). -/
def State.portReset (s : State) (port : Nat) : State :=
  let s := (s.portFrames port).foldl (fun st f => st.cutFrame f 4) s
  let s := s.discardForPort port
  let s := s.updPort port fun x => { owed := x.owed }
  let s := (portCounters port).foldl State.resetObj s
  let s := match s.livePipe port with
    | some p => s.inputCleared p (s.inputOf p port)
    | none => s
  (s.resetObj (Key.capNextFrame port)).expPortReset port

end Sys2Proof.Machine
end

