-- ==== Sys2Proof/Machine/Net.lean ====
section
/-! DEFINITION. Chapter 12: the bridge, its address table, class and flow queues, gates, preemption, video over IEEE 1722 and the
PTP relay (R344 to R370). -/
namespace Sys2Proof.Machine

def State.nxPort (s : State) (n : Nat) : NxPort := mapGetD n {} s.net.ports
def State.updNx (s : State) (n : Nat) (f : NxPort → NxPort) : State :=
  { s with net := { s.net with ports := mapSet n (f (s.nxPort n)) s.net.ports } }

/-- R345: is a bridge port up? NX.EV and NX.EM follow the NX switch domain. -/
def State.nxUp (s : State) (n : Nat) : Bool :=
  s.domainOn 55 && (if n < 4 then s.laneState (.eth n) = lnActive else n ≤ 5)

/-- R346: a discard of port n. -/
def State.nxDrop (s : State) (n : Nat) : State := s.bump (Key.nxDrops n)

/-! Frames. -/

/-- What R346 makes of a frame: VID, PCP, whether it was tagged, and its bytes without tag and FCS. -/
structure NxParsed where
  vid : Nat
  pcp : Nat
  tagged : Bool
  body : Bytes

/-- The frame check sequence (IEEE 802.3): the CRC-32 of R140, least significant byte first. -/
def withFcs (b : Bytes) : Bytes := b ++ leBytes 4 (crc32 b)

/-- R346: classify a frame received on port p; `b` without FCS. -/
def State.nxParse (s : State) (p : Nat) (b : Bytes) : NxParsed :=
  if beAt b 12 2 = 0x8100 then
    let tci := beAt b 14 2
    let vid := tci % 4096
    ⟨if vid = 0 then s.nat (Key.nxPvid p) else vid, tci / 8192, true, b.take 12 ++ b.drop 16⟩
  else ⟨s.nat (Key.nxPvid p), s.nat (Key.nxDefaultPcp p), false, b⟩

/-- R347: the member set and the untagged set of a VLAN. -/
def State.vlanMembers (s : State) (vid : Nat) : Nat := leAt (s.dom Key.nxVlanTable) (2 * vid) 1
def State.vlanUntagged (s : State) (vid : Nat) : Nat := leAt (s.dom Key.nxVlanTable) (2 * vid + 1) 1

/-- R346: does the port admit the frame? -/
def State.nxAdmits (s : State) (p : Nat) (b : Bytes) (x : NxParsed) : Bool :=
  let carriesVid := x.tagged && beAt b 14 2 % 4096 ≠ 0
  let accept := s.nat (Key.nxAccept p)
  x.vid ≠ 4095 && !(accept = 1 && !carriesVid) && !(accept = 2 && carriesVid) && (s.vlanMembers x.vid).testBit p

/-- R347: the frame as it leaves a port. -/
def State.nxLeave (s : State) (n : Nat) (x : NxParsed) : Bytes :=
  if (s.vlanUntagged x.vid).testBit n then x.body
  else x.body.take 12 ++ beBytes 2 0x8100 ++ beBytes 2 (x.pcp * 8192 + x.vid) ++ x.body.drop 12

/-! The address table (R348, R349). -/

def nxSet (vid mac : Nat) : Nat := crc32 (beBytes 2 vid ++ beBytes 6 mac) % 4096

/-- R349: the static entries: VID, MAC, port set. -/
def staticEntries (b : Bytes) : List (Nat × Nat × Nat) :=
  (List.range (b.length / 16)).map fun i => (leAt b (16 * i + 6) 2, leAt b (16 * i) 6, leAt b (16 * i + 8) 1)

def State.statics (s : State) : List (Nat × Nat × Nat) := staticEntries (s.dom Key.nxStaticTable)

/-- NX_ADDR_USED. -/
def State.addrUsed (s : State) : Nat := s.net.addrs.length + s.statics.length

/-- R348: learn (VID, source) on port p. -/
def State.nxLearn (s : State) (p vid mac : Nat) : State :=
  if (mac / 2 ^ 40) % 2 = 1 ∨ s.statics.any (fun e => e.1 = vid && e.2.1 = mac) then s
  else if s.net.addrs.any fun (a : NxAddr) => a.vid = vid && a.mac = mac then
    let move := fun (a : NxAddr) => if a.vid = vid ∧ a.mac = mac then { a with port := p, fresh := s.cycles } else a
    { s with net := { s.net with addrs := s.net.addrs.map move } }
  else
    let h := nxSet vid mac
    let used := (s.net.addrs.filter fun (a : NxAddr) => nxSet a.vid a.mac = h).length +
      (s.statics.filter fun e => nxSet e.1 e.2.1 = h).length
    if 8 ≤ used then
      (s.bump Key.nxLearnMiss).raiseSparse 0x7401 1 0 (pathEth p) (leBytes 2 vid ++ leBytes 6 mac)
    else { s with net := { s.net with addrs := s.net.addrs ++ [⟨vid, mac, p, s.cycles⟩] } }

/-- R348: an entry that no frame refreshed for twice NX_AGE_TIME goes at the latest. -/
def State.ageOut (s : State) : State :=
  { s with net := { s.net with addrs := s.net.addrs.filter fun a => s.since a.fresh < 2 * secCycles (s.nat Key.nxAgeTime) } }

/-- ADDRESS_AGING, R348. -/
def addressAging (vid mac : Nat) (s : State) : State :=
  let old := fun (a : NxAddr) => a.vid = vid && a.mac = mac && secCycles (s.nat Key.nxAgeTime) ≤ s.since a.fresh
  { s with net := { s.net with addrs := s.net.addrs.filter fun a => !old a } }

def execAddressAging (vid mac : Nat) (s : State) : Res := onUnit s.part.hasNx (addressAging vid mac s)

/-- R350: the ports that a destination selects; R50: the management address on its VLAN selects NX.EM. -/
def State.nxSelect (s : State) (from_ : Nat) (x : NxParsed) : List Nat :=
  let dst := beAt x.body 0 6
  let all := s.vlanMembers x.vid
  let sel := if dst = s.nat Key.dapMgmtMac ∧ x.vid = s.atReset Key.dapMgmtVlan then 32 else match s.statics.find? fun e => e.1 = x.vid && e.2.1 = dst with
    | some e => e.2.2
    | none => match s.net.addrs.find? fun (a : NxAddr) => a.vid = x.vid && a.mac = dst with
      | some a => 2 ^ a.port
      | none => all
  [0, 1, 2, 3, 5].filter fun n => sel.testBit n && n ≠ from_ && s.nxUp n

/-! Queues (R351, R352). -/

/-- R351: the class of a frame on an egress port. -/
def State.nxClass (s : State) (n pcp : Nat) : Nat := field (s.nat (Key.nxPcpMap n)) (4 * pcp + 3) (4 * pcp)

/-- Length from the destination address to the FCS (R360). -/
def NxFrame.len (f : NxFrame) : Nat := f.bytes.length + 4

def NxPort.queue (p : NxPort) (c : Nat) : List NxFrame := mapGetD c [] p.queues
def lengthSum (l : List NxFrame) : Nat := (l.map NxFrame.len).foldl (· + ·) 0

/-- R352: 256-byte cells in use. -/
def State.nxCells (s : State) : Nat :=
  ((s.net.ports.flatMap fun p => p.2.queues.flatMap fun q => q.2).map fun f => ceilDiv f.len 256).foldl (· + ·) 0

def nxCellCount : Nat := 24576

/-- R359: the flow key. -/
def flowKey (mode vid : Nat) (body : Bytes) : Bytes :=
  let et := beAt body 12 2
  let ip := body.drop 14
  let v4 := et = 0x0800
  let v6 := et = 0x86DD
  beBytes 2 vid ++
  (if mode = 1 ∧ v4 then
    let proto := beAt ip 9 1
    let hl := 4 * (beAt ip 0 1 % 16)
    let ports := if (proto = 6 ∨ proto = 17) ∧ beAt ip 6 2 % 8192 = 0 then slice ip hl 4 else [0, 0, 0, 0]
    slice ip 12 8 ++ [byteOf proto] ++ ports
  else if mode = 1 ∧ v6 then
    let next := beAt ip 6 1
    slice ip 8 32 ++ [byteOf next] ++ (if next = 6 ∨ next = 17 then slice ip 40 4 else [0, 0, 0, 0])
  else body.take 12)

/-- R359: the flow queue of a frame on an egress port. -/
def State.flowOf (s : State) (n : Nat) (x : NxParsed) : Nat :=
  262144 * n + crc32 (flowKey (s.nat (Key.nxFlowKey n)) x.vid x.body) % 262144

def State.flow (s : State) (f : Nat) : Flow := mapGetD f {} s.net.flows
def State.updFlow (s : State) (f : Nat) (g : Flow → Flow) : State :=
  { s with net := { s.net with flows := mapSet f (g (s.flow f)) s.net.flows } }

/-- R361: an access to a flow's state hits or misses the descriptor cache (log 26). -/
def State.flowAccess (s : State) : State :=
  let (n, s) := s.draw
  s.addTo (if Config.flowCacheHit n then Key.nxFlowCacheHits else Key.nxFlowCacheMisses) 64 1

/-- R361, R362: bytes of the pool in use. -/
def State.poolUsed (s : State) : Nat := (s.net.flows.map fun f => lengthSum f.2.frames).foldl (· + ·) 0

/-- R351: does a class of a port go to flow queues? -/
def State.isFlowClass (s : State) (n c : Nat) : Bool := n < 4 && s.nat (Key.nxFlowClass n) = c

/-- R352, R362: may a frame enter a port's queue? `video`: from NX.EV, which the reserve does not bind. -/
def State.nxTakes (s : State) (n : Nat) (x : NxParsed) (video : Bool) : Bool :=
  let c := s.nxClass n x.pcp
  let len := (s.nxLeave n x).length + 4
  if s.isFlowClass n c then
    lengthSum (s.flow (s.flowOf n x)).frames < s.nat Key.nxFlowLimit && s.poolUsed + len ≤ s.net.pool
  else
    let free := nxCellCount - s.nxCells
    lengthSum ((s.nxPort n).queue c) < s.nat (Key.nxClassLimit n) && ceilDiv len 256 ≤ free &&
      (video || ceilDiv (s.nat Key.nxEvReserve) 256 ≤ free)

/-- Put a frame into a port's class or flow queue. -/
def State.nxEnqueue (s : State) (n : Nat) (x : NxParsed) : State :=
  let c := s.nxClass n x.pcp
  let f : NxFrame := ⟨s.nxLeave n x, none⟩
  if s.isFlowClass n c then
    let q := s.flowOf n x
    let s := s.flowAccess
    let s := if (s.flow q).frames.isEmpty then
        (s.updFlow q fun w => { w with deficit := 0, fresh := true }).updNx n fun p =>
          { p with active := p.active.filter (· ≠ q) ++ [q] }
      else s
    s.updFlow q fun w => { w with frames := w.frames ++ [f] }
  else s.updNx n fun p => { p with queues := mapSet c (p.queue c ++ [f]) p.queues }

/-- R352, R362: a frame of another port than NX.EV arrives at an egress port. -/
def State.nxOffer (s : State) (n : Nat) (x : NxParsed) : State :=
  if s.nxTakes n x false then s.nxEnqueue n x
  else
    let c := s.nxClass n x.pcp
    let s := s.nxDrop n
    if s.isFlowClass n c then
      let q := s.flowOf n x
      let full := s.net.pool < s.poolUsed + (s.nxLeave n x).length + 4
      let s := s.flowAccess.updFlow q fun w => { w with drops := satAdd 32 w.drops 1 }
      if full && lengthSum (s.flow q).frames < s.nat Key.nxFlowLimit then s.raiseSparse 0x7405 1 0 "NX.QM" (leBytes 4 q) else s
    else s

/-! Traps and the PTP relay (R350, R366 to R368). -/

/-- R350: addresses that are never forwarded. -/
def reservedDst (dst : Nat) : Bool := (0x0180C2000000 ≤ dst && dst ≤ 0x0180C200000F) || dst = 0x011B19000000

/-- R350: PTP over UDP/IPv4 that is trapped. -/
def State.ptpOverUdp (s : State) (x : NxParsed) (tagged : Bool) : Bool :=
  let ip := x.body.drop 14
  let port := beAt ip (4 * (beAt ip 0 1 % 16) + 2) 2
  let dst := beAt ip 16 4
  let vlan := s.nat Key.ptpVlan
  s.nat Key.ptpProfile ≤ 1 && s.nat Key.ptpTransport = 1 && beAt x.body 12 2 = 0x0800 && beAt ip 9 1 = 17 &&
    beAt ip 6 2 % 8192 = 0 && (port = 319 || port = 320) && (dst = 0xE0000181 || dst = 0xE000006B) &&
    (if vlan = 0 then !tagged else x.vid = vlan && tagged)

/-- R368: the open session that the relay serves. -/
def State.relaySession (s : State) : Option Session :=
  s.dap.sessions.find? fun x => x.open_ && !isCan x.src && (x.role = 2 || x.role = 3)

/-- R366: a receive timestamp on an external port. -/
def State.rxStamp (s : State) (p : Nat) : Instant := s.instant.plus (-s.ethTrim 28 p)

/-- R350, R368: a trapped PTP frame: to the host under TB_SOURCE 2, else to the PTP engine, whose messages are commands of their
own (log 19). -/
def State.trapPtp (s : State) (p : Nat) (frame : Bytes) : State :=
  if s.nat Key.tbSource ≠ 2 then s
  else match s.relaySession with
    | none => s
    | some x =>
      let t := s.rxStamp p
      s.send (.udp (s.nat Key.dapMgmtMac) x.evtDst ([byteOf p, 0] ++ beBytes 2 t.epoch ++ beBytes 12 (toTime96 t.t.toNat) ++ frame))

/-- A frame of port p is forwarded, trapped or discarded (R346 to R352); `b` without FCS. The answer tells whether every port it
was forwarded to took it. -/
def State.nxForward (s : State) (p : Nat) (b : Bytes) : State × Bool :=
  let x := s.nxParse p b
  if !s.nxAdmits p b x then (s.nxDrop p, false)
  else
    let s := s.nxLearn p x.vid (beAt x.body 6 6)
    let dst := beAt x.body 0 6
    if reservedDst dst then
      if beAt x.body 12 2 = 0x88F7 ∧ p < 4 then (s.trapPtp p b, true) else (s.nxDrop p, false)
    else if p < 4 && s.ptpOverUdp x x.tagged then (s.trapPtp p b, true)
    else
      let outs := s.nxSelect p x
      (outs.foldl (fun st n => st.nxOffer n x) s, outs.all fun n => s.nxTakes n x false)

/-- ETH_FRAME_RECEIVE, R346: `frame` from the destination address to the FCS, on an external port or from CX on NX.EM. -/
def ethFrameReceive (p : Nat) (frame : Bytes) (s : State) : State :=
  s.whenever (s.nxUp p && p ≠ 4) fun s =>
    let s := if p < 4 then s.startSeen (.eth p) else s
    ((s.addTo (Key.nxRxFrames p) 64 1).nxForward p (frame.take (frame.length - 4))).1

def execEthFrameReceive (port : Nat) (frame : Bytes) (s : State) : Res :=
  onUnit (s.part.hasNx && port < 6) (ethFrameReceive port frame s)

/-- PTP_RELAY_DATAGRAM, R368. -/
def ptpRelayDatagram (src : Source) (data : Bytes) (s : State) : State :=
  let admitted := s.dap.sessions.any fun x => x.open_ && x.src = src && !isCan x.src && (x.role = 2 || x.role = 3)
  let n := beAt data 0 1
  let flags := beAt data 1 1
  let good := 16 ≤ data.length && n < 4 && flags ≤ 1 && (slice data 2 14).all (· = 0)
  s.whenever (admitted && good) fun s =>
    if !s.nxUp n then s.nxDrop n
    else
      let id := s.nat (Key.nxTsNextId n)
      let s := if flags = 1 then s.setObj (Key.nxTsNextId n) ((id + 1) % 65536 : Nat) else s
      s.updNx n fun p => { p with ptp := p.ptp ++ [⟨data.drop 16, if flags = 1 then some id else none⟩] }

def execPtpRelayDatagram (src : Source) (data : Bytes) (s : State) : Res := onUnit s.part.hasNx (ptpRelayDatagram src data s)

/-! Gates (R354 to R357). -/

/-- R354: the entries of a list. -/
def gateEntries (b : Bytes) : List (Nat × Nat) := (List.range (b.length / 8)).map fun i => (leAt b (8 * i) 1, leAt b (8 * i + 4) 4)

/-- R356: the entries as they hold within the cycle: gate states and duration in ns. -/
def fitCycle : Nat → List (Nat × Nat) → List (Nat × Nat)
  | _, [] => []
  | left, [(g, _)] => if left = 0 then [] else [(g, left)]
  | left, (g, d) :: r => if left = 0 then [] else (g, min d left) :: fitCycle (left - d) r

def GateList.fitted (l : GateList) : List (Nat × Nat) := fitCycle l.cycle l.entries

/-- R357: the time within the grid of a list at an instant of the present epoch, units of 2^-16 ns. -/
def GateList.phase (l : GateList) (t : Int) : Nat := ((t - l.base.t) % (nsUnits l.cycle : Nat)).toNat

/-- The gate states at a phase of the cycle, and the units left in that entry. -/
def gateAt : Nat → List (Nat × Nat) → Nat × Nat
  | _, [] => (255, 0)
  | ph, (g, d) :: r => if ph < nsUnits d then (g, nsUnits d - ph) else gateAt (ph - nsUnits d) r

/-- R355: the time value of a pending change in the present epoch. -/
def State.changeAt (s : State) (l : GateList) : Option Int :=
  match s.due l.base with
  | .at_ t => some t
  | .past => some s.now
  | .later => none

/-- R355: is the last cycle before a pending change extended up to it, and are we past its end? -/
def State.extended (s : State) (old new : GateList) : Bool :=
  match s.changeAt new with
  | none => false
  | some c =>
    let rest := old.phase c
    rest < nsUnits new.ext && c - rest ≤ s.now && rest ≠ 0

/-- R356: gates open now on an external port. -/
def State.gatesOpen (s : State) (n : Nat) : Nat :=
  match s.nat (Key.nxGateEnable n), (s.nxPort n).oper with
  | 0, _ | _, none => 255
  | _, some l =>
    let long := match (s.nxPort n).change with
      | some c => s.extended l c
      | none => false
    if long then ((l.fitted.getLast?).map (·.1)).getD 255 else (gateAt (l.phase s.now) l.fitted).1

/-- NX_GATE_STATE. -/
def State.gateState (s : State) (n : Nat) : Nat := (if (s.nxPort n).change.isSome then 256 else 0) + s.gatesOpen n

/-- Units for which class c stays open, walking the entries from one on; the first argument bounds the walk. -/
def openFor : Nat → Nat → List (Nat × Nat) → List (Nat × Nat) → Nat
  | 0, _, _, _ => 0
  | k + 1, c, [], all => match all with
    | [] => 0
    | _ => openFor k c all all
  | k + 1, c, (g, d) :: r, all => if g.testBit c then nsUnits d + openFor k c r all else 0

/-- Entries from a phase on, the first one cut. -/
def entriesFrom : Nat → List (Nat × Nat) → Nat × List (Nat × Nat)
  | _, [] => (0, [])
  | ph, (g, d) :: r => if ph < nsUnits d then (nsUnits d - ph, (g, d) :: r) else entriesFrom (ph - nsUnits d) r

/-- R356: units from a time value on for which a list keeps class c open, none where it always does. -/
def GateList.opens (l : GateList) (c : Nat) (t : Int) : Option Nat :=
  let e := l.fitted
  if e.all fun x => x.1.testBit c then none
  else
    let f := entriesFrom (l.phase t) e
    match f.2 with
    | [] => some 0
    | (g, _) :: r => some (if g.testBit c then f.1 + openFor (2 * e.length + 1) c r e else 0)

/-- R355, R356: units until class c closes on a port, none where it stays open: by its list up to a pending change, and by the
pending list from there on. -/
def State.closesIn (s : State) (n c : Nat) : Option Nat :=
  if s.nat (Key.nxGateEnable n) = 0 then none
  else
    let p := s.nxPort n
    let now := match p.oper with
      | none => none
      | some l =>
        if (p.change.map (s.extended l)).getD false then (if (s.gatesOpen n).testBit c then none else some 0) else l.opens c s.now
    match p.change with
    | none => now
    | some new => match s.changeAt new with
      | none => now
      | some t =>
        let d := (t - s.now).toNat
        if (now.map fun u => decide (u < d)).getD false then now
        else (new.opens c t).map (d + ·)

/-- R356: the longest run of class c within a cycle, in units. -/
def longestOpen (c : Nat) : Nat → List (Nat × Nat) → Nat
  | best, [] => best
  | best, (g, d) :: r =>
    let rest := longestOpen c best r
    if g.testBit c then max rest (openFor (r.length + 1) c ((g, d) :: r) []) else rest

/-- R164: rate of an external port in Gb/s. -/
def State.ethRate (s : State) (n : Nat) : Nat :=
  let m := s.nat (Key.ethLaneMode n)
  if m ≤ 1 then 25 else if m ≤ 3 then 10 else 1

/-- R356: units that a frame takes on the wire, preamble and gap included, times the rate in Gb/s. -/
def wireUnits (len : Nat) : Nat := (len + 20) * 8 * 65536

/-- R355: NX_GATE_CONFIG_CHANGE. -/
def gateConfigChange (n : Nat) : Effect := fun s => do
  let b := s.dom (Key.nxGclAdmin n)
  firstCheck [((s.nxPort n).change.isSome, abPending), (s.flag (Key.nxGateEnable n) && b.isEmpty, abState)]
  let base : Int := ofTime96 (s.nat (Key.nxAdminBaseTime n))
  let be := s.nat (Key.nxAdminBaseEpoch n)
  let cycle := s.nat (Key.nxAdminCycleTime n)
  let least : Int := s.now + usUnits 10
  let k : Int := if s.epoch < be ∨ least ≤ base then 0 else (least - base + (nsUnits cycle : Nat) - 1) / (nsUnits cycle : Nat)
  let l : GateList :=
    ⟨⟨if s.epoch < be then be else s.epoch, base + k * (nsUnits cycle : Nat)⟩, cycle, s.nat (Key.nxAdminCycleExt n), gateEntries b, b⟩
  return s.updNx n fun p => { p with change := some l }

/-- GATE_CHANGE_INSTANT, R355. -/
def gateChangeInstant (n : Nat) (s : State) : State :=
  match (s.nxPort n).change with
  | none => s
  | some l =>
    s.whenever (s.reached l.base) fun s =>
      let at_ : Instant := ⟨s.epoch, (s.changeAt l).getD s.now⟩
      let s := s.updNx n fun p => { p with oper := some { l with base := ⟨s.epoch, l.base.t⟩ }, change := none }
      (s.setDom (Key.nxGclOper n) l.bytes).raise 0x7402 0 (pathEth n)
        (leBytes 2 at_.epoch ++ leBytes 8 (at_.t / 65536).toNat)

def execGateChangeInstant (port : Nat) (s : State) : Res := onUnit (s.part.hasNx && port < 4) (gateChangeInstant port s)

/-! Preemption (R358). -/

/-- R358: is a class preemptable and preemption active? -/
def State.preempts (s : State) (n c : Nat) : Bool := s.nat (Key.nxPreemptStatus n) = 2 && (s.nat (Key.nxPreempt n)).testBit c

/-- R358: preemption as the port's objects and lane now have it. -/
def State.preemptSettle (s : State) (n : Nat) : State :=
  let can := s.nat (Key.nxPreempt n) ≠ 0 && s.ethRate n ≠ 1 && s.nxUp n
  let st := s.nat (Key.nxPreemptStatus n)
  let new : Nat := if !can then 0 else if !s.flag (Key.nxPreemptVerify n) then 2 else if st = 0 then 1 else st
  let s := if new = 0 then s.updNx n fun p => { p with verifyFails := 0 } else s
  s.setObj (Key.nxPreemptStatus n) new

/-- PREEMPT_VERIFY, R358: a verify exchange succeeds, or fails; the third failure is final. -/
def preemptVerify (n : Nat) (ok : Bool) (s : State) : State :=
  s.whenever (s.nat (Key.nxPreemptStatus n) = 1) fun s =>
    if ok then (s.setObj (Key.nxPreemptStatus n) 2).updNx n fun p => { p with verifyFails := 0 }
    else
      let k := (s.nxPort n).verifyFails + 1
      let s := s.updNx n fun p => { p with verifyFails := k }
      if 3 ≤ k then (s.setObj (Key.nxPreemptStatus n) 3).raise 0x7404 1 (pathEth n) [] else s

def execPreemptVerify (port : Nat) (success : Bool) (s : State) : Res :=
  onUnit (s.part.hasNx && port < 4) (preemptVerify port success s)

/-- R358: bytes of the preemptable frame in transmission that are not sent yet, where it may be cut now. -/
def State.cuttable (s : State) (n : Nat) : Option (Nat × Nat) :=
  match (s.nxPort n).sending with
  | none => none
  | some (c, start, left) =>
    let sent := s.since start * s.ethRate n / 24
    let least := 64 * (1 + s.nat (Key.nxAddFrag n))
    if s.preempts n c && least ≤ sent && sent + 64 ≤ left then some (c, left - sent) else none

/-- R358: preempt the frame in transmission. -/
def State.preempt (s : State) (n : Nat) : State :=
  match s.cuttable n with
  | none => s
  | some h => (s.updNx n fun p => { p with sending := none, held := some h }).addTo (Key.nxPreemptFragments n) 64 1

/-- GATE_INTERVAL_END, R356, R358: the next gate states apply, as the grid gives them; a preemptable frame whose gate closed is
preempted. -/
def gateIntervalEnd (n : Nat) (s : State) : State :=
  match (s.nxPort n).sending with
  | some (c, _, _) => if (s.gatesOpen n).testBit c then s else s.preempt n
  | none => s

def execGateIntervalEnd (port : Nat) (s : State) : Res := onUnit (s.part.hasNx && port < 4) (gateIntervalEnd port s)

/-! Egress (R353, R356, R360). -/

/-- R356: may a frame of class c start? -/
def State.fits (s : State) (n c len : Nat) : Bool :=
  match s.closesIn n c with
  | none => true
  | some u => s.preempts n c || wireUnits len ≤ u * s.ethRate n

/-- R356: is a frame longer than any window of its class? -/
def State.tooBig (s : State) (n c len : Nat) : Bool :=
  match s.nat (Key.nxGateEnable n), (s.nxPort n).oper with
  | 0, _ | _, none => false
  | _, some l => !(l.fitted.all fun x => x.1.testBit c) && longestOpen c 0 l.fitted * s.ethRate n < wireUnits len

/-- R360: serve the flow class: the flow and frame to send, with the state after it. The first argument bounds the visits. -/
def serveFlows (n : Nat) : Nat → State → Option (NxFrame × State)
  | 0, _ => none
  | k + 1, s =>
    match (s.nxPort n).active with
    | [] => none
    | f :: r =>
      let s := s.flowAccess
      let s := if (s.flow f).fresh then
          s.updFlow f fun w => { w with deficit := w.deficit + 64 * leAt (s.dom Key.nxFlowWeight) f 1, fresh := false }
        else s
      let w := s.flow f
      match w.frames with
      | [] => serveFlows n k ((s.updFlow f fun w => { w with deficit := 0, fresh := true }).updNx n fun p => { p with active := r })
      | h :: q =>
        if h.len ≤ w.deficit then
          some (h, s.updFlow f fun w => { w with frames := q, deficit := w.deficit - h.len, sent := w.sent + h.len })
        else serveFlows n k ((s.updFlow f fun w => { w with fresh := true }).updNx n fun p => { p with active := r ++ [f] })

/-- Visits that certainly reach a frame: each active flow gains 64 bytes or more per round. -/
def State.visits (s : State) (n : Nat) : Nat :=
  let longest := ((s.nxPort n).active.map fun f => ((s.flow f).frames.head?.map NxFrame.len).getD 0).foldl max 0
  ((s.nxPort n).active.length + 1) * (longest / 64 + 2)

/-- The frame that class c of a port would send, with the state after its removal. -/
def State.classHead (s : State) (n c : Nat) : Option (NxFrame × State) :=
  if s.isFlowClass n c then serveFlows n (s.visits n) s
  else match (s.nxPort n).queue c with
    | [] => none
    | f :: r => some (f, s.updNx n fun p => { p with queues := mapSet c r p.queues })

/-- A frame that was taken from the flow class and is not sent costs its flow nothing. -/
def State.unsent (s : State) (n c : Nat) (f : NxFrame) : State :=
  match (s.nxPort n).active with
  | q :: _ => if s.isFlowClass n c then s.updFlow q fun w => { w with deficit := w.deficit + f.len, sent := w.sent - f.len } else s
  | [] => s

/-- R356: discard the frames at the heads of the classes that are longer than any window. -/
def State.discardTooBig (s : State) (n c : Nat) : State :=
  match s.classHead n c with
  | none => s
  | some (f, t) =>
    if n < 4 && s.tooBig n c f.len then
      ((t.unsent n c f).bump (Key.nxGateTooBig n)).raiseSparse 0x7403 1 n (pathEth n) (byteOf c :: leBytes 2 f.len)
    else s

/-- R353: the frame that class c of a port may start: its gate is open and its head frame passes the guard band. -/
def State.startable (s : State) (n c : Nat) : Option (NxFrame × State) :=
  match s.classHead n c with
  | none => none
  | some (f, t) => if n = 5 || ((s.gatesOpen n).testBit c && s.fits n c f.len) then some (f, t) else none

/-- R353, R358: the class a port selects: the highest that may start a frame, or resume its preempted one (no frame given); until then
no other preemptable frame starts. -/
def State.nxPick (s : State) (n : Nat) : Option (Nat × Option (NxFrame × State)) :=
  let try_ := fun (c : Nat) =>
    match (s.nxPort n).held with
    | some (h, _) =>
      if c = h then (if (s.gatesOpen n).testBit c then some (c, none) else none)
      else if s.preempts n c then none
      else (s.startable n c).map fun x => (c, some x)
    | none => (s.startable n c).map fun x => (c, some x)
  [7, 6, 5, 4, 3, 2, 1, 0].findSome? try_

/-- R366, R367: the transmit timestamp of a frame from the PTP queue. -/
def State.txStamp (s : State) (n : Nat) : Instant := s.instant.plus (s.ethTrim 36 n)

/-- A frame starts on a port. -/
def State.nxSend (s : State) (n : Nat) (f : NxFrame) : State :=
  let s := s.addTo (Key.nxTxFrames n) 64 1
  if n = 5 then s.send (.toEm 5 (withFcs f.bytes)) else s.send (.eth n (withFcs f.bytes))

/-- R337: a frame that leaves NX.EM on the management VLAN also goes into the tunnel, unless it is for the device itself. -/
def State.tunnelFrame (s : State) (f : NxFrame) : State :=
  let b := withFcs f.bytes
  let tagged := beAt f.bytes 12 2 = 0x8100
  let vid := if tagged then beAt f.bytes 14 2 % 4096 else s.nat (Key.nxPvid 5)
  let untagged := (s.vlanUntagged (s.nat Key.dapMgmtVlan)).testBit 5
  let mgmt := if tagged then vid = s.nat Key.dapMgmtVlan else untagged
  if !mgmt || beAt f.bytes 0 6 = s.nat Key.dapMgmtMac then s
  else if s.nat Key.trkState < 2 || 1522 < b.length || b.length < 64 then
    (s.bump Key.trkTunnelDiscards).raise 0x7105 1 "MX.TRK" [2]
  else { s with trk := { s.trk with tunnel := s.trk.tunnel ++ [b] } }

/-- ETH_EGRESS_SELECT, R353: a port that can start a frame selects one; an express frame preempts (R358). -/
def ethEgressSelect (n : Nat) (s : State) : State :=
  s.whenever (s.nxUp n && n ≠ 4) fun s =>
    match (s.nxPort n).ptp with
    | f :: r =>
      let s := (s.preempt n).updNx n fun p => { p with ptp := r, sending := none }
      let s := match f.stamp with
        | some id => s.stampTransmit n id (s.txStamp n)
        | none => s
      s.nxSend n f
    | [] =>
      let s := (List.range 8).foldl (fun st c => st.discardTooBig n c) s
      match s.nxPick n with
      | none => s
      | some (c, none) =>
        s.updNx n fun p => { p with held := none, sending := some (c, s.cycles, (p.held.map (·.2)).getD 0) }
      | some (c, some (f, t)) =>
        if s.preempts n c then (t.updNx n fun p => { p with sending := some (c, s.cycles, f.len) }).nxSend n f
        else
          let cut := (s.cuttable n)
          let t := match cut with
            | some h => (t.updNx n fun p => { p with held := some h }).addTo (Key.nxPreemptFragments n) 64 1
            | none => t
          let t := (t.updNx n fun p => { p with sending := none }).nxSend n f
          if n = 5 then t.tunnelFrame f else t

def execEthEgressSelect (port : Nat) (s : State) : Res :=
  onUnit (s.part.hasNx && port < 6 && port ≠ 4) (ethEgressSelect port s)

/-! Video over IEEE 1722 (R364, R365). -/

/-- R365: the AVTPDU of a fragment up to the fragment header. Fields that IEEE 1722 leaves to its VSF format are free (log 19). -/
def State.avtpHeader (s : State) (stream seq : Nat) (release : Instant) (len : Nat) : Bytes :=
  let v := fun (i : Nat) => Config.protocolByte 0 i
  [0x6F, 0x81, byteOf seq, v 0] ++ beBytes 6 (s.nat Key.nxEvMac % 2 ^ 48) ++ beBytes 2 stream ++
    beBytes 4 ((release.t / 65536).toNat + s.nat Key.nxEvLatency) ++ [v 1, v 2, v 3, v 4] ++ beBytes 2 len ++ [v 5, v 6] ++
    beBytes 6 (s.nat Key.nxEvVendor % 2 ^ 48)

/-- The next fragment of the video queue: stream, the frame's bytes without FCS, bytes taken, whether it is the packet's last. -/
def State.evFragment (s : State) : Option (Nat × Bytes × Nat × Bool) :=
  match s.mrg.video with
  | [] => none
  | p :: _ =>
    let stream := beAt p.bytes 2 2 % 1024
    let part := slice p.bytes s.net.evOffset (s.nat Key.nxEvFragment)
    let q := mapGetD stream (0, 0) s.net.evSeq
    let data := beBytes 2 q.2 ++ beBytes 3 s.net.evOffset ++ beBytes 3 p.bytes.length ++ part
    let body := beBytes 6 (s.nat Key.nxEvDestBase % 2 ^ 48 + stream) ++ beBytes 6 (s.nat Key.nxEvMac % 2 ^ 48) ++
      beBytes 2 0x8100 ++ beBytes 2 (s.nat Key.nxEvPcp * 8192 + s.nat Key.nxEvVlan) ++ beBytes 2 0x22F0 ++
      s.avtpHeader stream q.1 p.release data.length ++ data
    some (stream, body, part.length, p.bytes.length ≤ s.net.evOffset + part.length)

/-- EV_FRAME_ACCEPT, R352, R365: the bridge takes the next fragment from NX.EV once every port it goes to can take it. -/
def evFrameAccept (s : State) : State :=
  match s.evFragment with
  | none => s
  | some (stream, b, n, last) =>
    s.whenever (s.nxUp 4) fun s =>
      let x := s.nxParse 4 b
      let admitted := s.nxAdmits 4 b x
      let outs := if admitted then s.nxSelect 4 x else []
      if !outs.all fun p => s.nxTakes p x true then s
      else
        let s := s.addTo (Key.nxRxFrames 4) 64 1
        let s := if admitted then s.nxLearn 4 x.vid (beAt x.body 6 6) else s.nxDrop 4
        let s := outs.foldl (fun st p => st.nxEnqueue p x) s
        let q := mapGetD stream (0, 0) s.net.evSeq
        let q := ((q.1 + 1) % 256, if last then (q.2 + 1) % 65536 else q.2)
        let s := { s with net := { s.net with
          evSeq := mapSet stream q s.net.evSeq, evOffset := if last then 0 else s.net.evOffset + n } }
        if last then { s with mrg := { s.mrg with video := s.mrg.video.drop 1 } } else s

def execEvFrameAccept (s : State) : Res := onUnit s.part.hasNx (evFrameAccept s)

/-! Ports up and down, and the reset of NX (R345, R362). -/

/-- Frames queued for a port. -/
def State.nxQueued (s : State) (n : Nat) : Nat :=
  let p := s.nxPort n
  p.ptp.length + (p.queues.map fun q => q.2.length).foldl (· + ·) 0 +
    (p.active.map fun f => (s.flow f).frames.length).foldl (· + ·) 0 + (if p.held.isSome then 1 else 0)

/-- R345: an external port goes down: its queued frames are discarded and counted, its dynamic addresses removed. -/
def State.nxPortDown (s : State) (n : Nat) : State :=
  let s := s.addTo (Key.nxDrops n) 32 (s.nxQueued n)
  let empty := fun (f : Nat × Flow) => if f.1 / 262144 = n then (f.1, { f.2 with frames := [], deficit := 0, fresh := true }) else f
  let s := { s with net := { s.net with
    flows := s.net.flows.map empty, addrs := s.net.addrs.filter fun a => a.port ≠ n } }
  (s.updNx n fun p => { p with ptp := [], queues := [], active := [], sending := none, held := none }).preemptSettle n

/-- ETH_LANE_STATE_CHANGE, R164, R345. -/
def ethLaneStateChange (n : Nat) (active : Bool) (s : State) : State :=
  let l : Lane := .eth n
  if active then
    s.whenever (s.laneState l ≠ lnActive && s.mayAttempt l) fun s => (s.laneGo l lnActive).preemptSettle n
  else
    s.whenever (s.laneState l = lnActive) fun s => (s.laneGo l lnSeek).nxPortDown n

def execEthLaneStateChange (port : Nat) (active : Bool) (s : State) : Res :=
  onUnit (s.part.hasNx && port < 4) (ethLaneStateChange port active s)

/-- R362: an uncorrected error in a flow's state empties the flow. -/
def State.flowLost (s : State) (f : Nat) : State :=
  ({ s with net := { s.net with flows := mapDel f s.net.flows } }.updNx (f / 262144) fun p =>
    { p with active := p.active.filter (· ≠ f) }).raise 0x7406 2 "NX.QM" (leBytes 4 f)

end Sys2Proof.Machine
end

