-- ==== Sys2Proof/Machine/Memory.lean ====
section
/-! DEFINITION. Chapter 14: the address map, the host windows, memory errors and poisoned data, and the need of the device area
(R402 to R417). The scrub itself, which may reset the device, stands in Machine/Resets.lean. -/
namespace Sys2Proof.Machine

/-! The address map (R408 to R410). -/

def mib : Nat := 1048576
def kib : Nat := 1024
def dramBase : Nat := 0x1000000000

/-- R416: base and size of the SRAM numbered m: hubs, MX, NX, CX; AX has no address. -/
def sramSpan (m : Nat) : Nat × Nat :=
  if m < 8 then (0x80000000 + 0x1000000 * m, 12 * mib)
  else if m = 8 then (0x90000000, 48 * mib)
  else if m = 9 then (0x94000000, 8 * mib)
  else if m = 10 then (0x95000000, 4 * mib)
  else (0, 0)

/-- R408: size of the host window at the top of that SRAM. -/
def sramWindow (m : Nat) : Nat := if m < 8 then 256 * kib else if m = 8 then mib else if m = 9 then 256 * kib else 0

/-- R409: bytes of the host region in force. -/
def State.hostBytes (s : State) : Nat := s.nat Key.memHostSizeActive * mib

/-- R410: the memory channel that holds a DRAM address. -/
def dramChannel (addr : Nat) : Nat := (addr - dramBase) / 4096 % 4

/-- R408, R416: the memory that holds an address, none outside every present region. -/
def State.memoryAt (s : State) (addr : Nat) : Option Nat :=
  if dramBase ≤ addr then
    if addr < dramBase + s.nat Key.memDramUsable then some (12 + dramChannel addr) else none
  else (List.range 11).find? fun m => s.part.memoryPresent m && (sramSpan m).1 ≤ addr && addr < (sramSpan m).1 + (sramSpan m).2

/-- R372, R408: the SRAM of a DMA engine's cluster. -/
def engineSram (e : Nat) : Nat := if e < 8 then e else if e = 10 then 9 else 8

/-- R372, R377: does a span lie in one region that the engine reaches and that is open to host channels? -/
def State.hostSpan (s : State) (e : Nat) (lo hi : Nat) : Bool :=
  let m := engineSram e
  let top := (sramSpan m).1 + (sramSpan m).2
  (top - sramWindow m ≤ lo && hi < top) || (dramBase ≤ lo && hi < dramBase + s.hostBytes)

/-- R409: bytes of the NX region. -/
def State.nxRegion (s : State) (pool : Nat) : Nat := if s.part.hasNx then 32 * mib + pool else 0

/-- R402, R406: usable bytes of four channels of `density` GiB. -/
def usableBytes (density : Nat) (ecc : Bool) : Nat :=
  let all := 4 * density * 1024 * mib
  if ecc then all / 8 * 7 else all

/-- R409: the host region in MiB that a reset puts in force. -/
def State.hostRegion (s : State) (usable : Nat) : Nat :=
  let keep := s.nxRegion s.net.pool + 512 * mib
  let want := s.nat Key.memHostSize
  if want * mib + keep ≤ usable then want else (usable - keep) / (64 * mib) * 64

/-! Poison (R414, R415). -/

/-- The 8-byte word of an address. -/
def wordOf (addr : Nat) : Nat := addr / 8 * 8

def State.isPoisoned (s : State) (addr : Nat) : Bool := s.poison.contains (wordOf addr)

/-- R415: store bytes; a word written whole is no longer poisoned (log 18). -/
def State.memWrite (s : State) (addr : Nat) (b : Bytes) : State :=
  { s with
    mem := Memory.writeBytes addr b s.mem,
    poison := s.poison.filter fun w => !(addr ≤ w && w + 8 ≤ addr + b.length) }

/-- Mark a word poisoned. -/
def State.poisonWord (s : State) (addr : Nat) : State :=
  if s.isPoisoned addr then s else { s with poison := wordOf addr :: s.poison }

/-- R414: an error that cannot be corrected strikes a word: its bytes are free from then on (log 18), and it is poisoned. -/
def State.spoilWord (s : State) (addr : Nat) : State :=
  if s.isPoisoned addr then s
  else
    let d := s.draw
    { d.2 with
      mem := Memory.writeBytes (wordOf addr) ((List.range 8).map (Config.poisonedByte d.1)) d.2.mem,
      poison := wordOf addr :: d.2.poison }

/-- R406, R407: does the memory check its words? -/
def State.hasEcc (s : State) (m : Nat) : Bool := m < 12 || s.atReset Key.memDramEcc ≠ 0

/-- R413: a single-bit error was corrected. -/
def State.noteCorrected (s : State) (m addr : Nat) : State :=
  (s.bump (Key.memCorrected m)).raiseLimited 0x7C01 0 m (pathMemory m) (byteOf m :: leBytes 8 addr)

/-- R414: an error that cannot be corrected was read: it is counted, logged and reported. -/
def State.noteUncorrected (s : State) (m addr : Nat) : State :=
  let s := s.bump (Key.memUncorrected m)
  let s := { s with mems := { s.mems with errors := (MemError.mk addr m s.instant :: s.mems.errors).take 64 } }
  s.raise 0x7C02 2 (pathMemory m) (byteOf m :: leBytes 8 addr)

/-- R416: content of MEM_ERR_LOG, oldest first. -/
def State.errLog (s : State) : Bytes :=
  s.mems.errors.reverse.flatMap fun e =>
    leBytes 8 e.addr ++ [byteOf e.memory, 0] ++ leBytes 2 e.at_.epoch ++ leBytes 12 (toTime96 e.at_.t.toNat)

/-- Place p of a list, if it has one, is drawn by the free holder of an address (log 18). -/
def State.holderOf (s : State) (addr n : Nat) : Nat × State :=
  let d := s.draw
  (Config.poisonHolder d.1 addr % (n + 1), d.2)

/-- R414: poisoned hub SRAM: a line of a frame in line memory is spoiled, or a live table, whose frames carry the flag. -/
def State.poisonHub (s : State) (hub addr : Nat) : State :=
  let l := s.frames.filter fun f => f.port / 6 = hub && !f.closed && !f.synthetic
  let d := s.holderOf addr (2 * l.length)
  match l[d.1 / 2]? with
  | none => d.2
  | some f =>
    if d.1 % 2 = 0 then d.2.updFrame f.fid fun x => { x with spoiled := x.taken.length :: x.spoiled }
    else d.2.updFrame f.fid fun x => { x with card := x.card ||| 2 ^ cardMem }

/-- R321, R414: poisoned MX SRAM: a release queue entry of a tile, row or slice, the others being held twice; or the mesh or the live
tables of an output frame, which carries the flag. -/
def State.poisonQueue (s : State) (addr : Nat) : State :=
  let open_ := s.mrg.frames.filter (!·.ended)
  let d := s.holderOf addr (s.mrg.entries.length + open_.length)
  let s := match open_[d.1 - s.mrg.entries.length]? with
    | some o => if d.1 < s.mrg.entries.length then d.2 else d.2.updOut o.oid fun x => { x with card := x.card ||| 2 ^ cardMem }
    | none => d.2
  let hit := fun (e : Entry × Nat) =>
    if e.2 = d.1 && 2 ≤ e.1.row && e.1.row < 65538 then { e.1 with poisoned := true } else e.1
  { s with mrg := { s.mrg with entries := (s.mrg.entries.zip (List.range s.mrg.entries.length)).map hit } }

/-- R414: poisoned NX SRAM: a class queue frame is discarded and counted. -/
def State.poisonClassQueue (s : State) (addr : Nat) : State :=
  let l := [0, 1, 2, 3, 5].flatMap fun n => (s.nxPort n).queues.flatMap fun q =>
    (List.range q.2.length).map fun i => (n, q.1, i)
  let d := s.holderOf addr l.length
  match l[d.1]? with
  | none => d.2
  | some (n, q, i) =>
    (d.2.updNx n fun p => { p with queues := mapSet q ((mapGetD q [] p.queues).eraseIdx i) p.queues }).nxDrop n

/-- R338: the word of a queued packet's payload that a read cannot correct. -/
def Packet.spoil (p : Packet) (n : Nat) : Packet :=
  let payload := p.bytes.length - 36
  if payload = 0 then p
  else
    let at_ := 32 + 8 * (n % ceilDiv payload 8)
    { p with lost := p.lost ++ (List.range (min 8 (p.bytes.length - 4 - at_))).map (at_ + ·) }

/-- R414: poisoned device area: a tile in the frame store, a coded slice, the payload of a packet that waits for the trunk (R338), or
a flow's state. -/
def State.poisonStore (s : State) (addr : Nat) : State :=
  if dramBase + s.nat Key.memDramUsable ≤ addr + s.nxRegion s.net.pool then
    let d := s.holderOf addr 1048576
    if d.1 < 1048576 then d.2.flowLost d.1 else d.2
  else
    let l := s.mrg.frames.flatMap fun o =>
      o.tiles.map (fun t => (o.oid, false, t.1)) ++ o.slices.map (fun t => (o.oid, true, t.1))
    let d := s.holderOf addr (l.length + s.mrg.trunk.length)
    match l[d.1]? with
    | none =>
      let e := d.2.draw
      { e.2 with mrg := { e.2.mrg with trunk := (e.2.mrg.trunk.zip (List.range e.2.mrg.trunk.length)).map fun p =>
        if p.2 + l.length = d.1 then p.1.spoil (Config.poisonHolder e.1 addr) else p.1 } }
    | some (oid, coded, key) =>
      let mark := fun (m : Map Tile) => m.map fun t => if t.1 = key then (t.1, { t.2 with poisoned := true }) else t
      d.2.updOut oid fun o => if coded then { o with slices := mark o.slices } else { o with tiles := mark o.tiles }

/-- R414: the consequence of poisoned data at an address of memory m; host windows keep the word poisoned for their reader. -/
def State.poisonAt (s : State) (m addr : Nat) : State :=
  let host := (12 ≤ m && addr < dramBase + s.hostBytes) ||
    (m < 10 && (sramSpan m).1 + (sramSpan m).2 - sramWindow m ≤ addr)
  if host then s.spoilWord addr
  else if m < 8 then s.poisonHub m addr
  else if m = 8 then s.poisonQueue addr
  else if m = 9 then s.poisonClassQueue addr
  else if 12 ≤ m then s.poisonStore addr
  else s

/-! The need of the device area (R411). -/

/-- Is a stream enabled in a set? Views by ENABLE, pipeline streams by the inputs their cropper serves. -/
def streamOn (num : Nat → Int) (stream : Nat) : Bool :=
  if 960 ≤ stream then (num (Key.warpViewCtrl (stream - 960))).toNat.testBit 31
  else (field (num (Key.pipeCropCtrl (20 * (stream / 40) + stream % 20))).toNat 1 0).testBit (stream % 40 / 20)

/-- R411: bytes the device area must hold for the sets a reader shows. -/
def State.deviceNeed (s : State) (num : Nat → Int) : Nat :=
  let streams := (List.range (40 * s.part.pipes) ++ (List.range 64).map (960 + ·)).filter (streamOn num)
  let frames := streams.map fun st =>
    let z := s.streamSize num st
    Config.frameNeed st z.1 z.2
  frames.foldl (· + ·) 0 + 2 * s.nat (Key.mrgOutLimit 0) +
    (if s.part.hasNx then 2 * s.nat (Key.mrgOutLimit 1) else 0) + s.nxRegion s.net.pool

/-- MEM_DEVICE_AVAILABLE, R416. -/
def State.deviceAvailable (s : State) : Nat := s.nat Key.memDramUsable - s.hostBytes

end Sys2Proof.Machine
end

