-- ==== Sys2Proof/Machine/Dma.lean ====
section
/-! DEFINITION. Chapter 13, the DMA engines: shapes, start checks, bursts, pacing, overlap copies, completion and landing, bus
errors (R371 to R391, R398, R399), and the FIFOs (R392 to R397, R400) whose levels pace them. -/
namespace Sys2Proof.Machine

/-! Channels and engines. -/

def dmaIdle : Nat := 0
def dmaRunning : Nat := 1
def dmaWaiting : Nat := 2
def dmaDraining : Nat := 3
def dmaFreewheel : Nat := 4
def dmaHeld : Nat := 5
def dmaLanding : Nat := 6

def State.chState (s : State) (e ch : Nat) : Nat := s.nat (Key.dmaChState e ch)
def State.chGo (s : State) (e ch st : Nat) : State := s.setObj (Key.dmaChState e ch) st
def State.xfer (s : State) (e ch : Nat) : Xfer := mapGetD (64 * e + ch) {} s.dma.chans
def State.updXfer (s : State) (e ch : Nat) (f : Xfer → Xfer) : State :=
  { s with dma := { s.dma with chans := mapSet (64 * e + ch) (f (s.xfer e ch)) s.dma.chans } }
def State.dropXfer (s : State) (e ch : Nat) : State :=
  { s with dma := { s.dma with chans := mapDel (64 * e + ch) s.dma.chans } }
def State.dmaEng (s : State) (e : Nat) : DmaEngine := mapGetD e {} s.dma.engines
def State.updEng (s : State) (e : Nat) (f : DmaEngine → DmaEngine) : State :=
  { s with dma := { s.dma with engines := mapSet e (f (s.dmaEng e)) s.dma.engines } }

/-! Shapes (R374 to R376). -/

/-- R374: a side of a transfer. -/
structure Shape where
  base : Nat
  len : Nat
  stride : Int
  lines : Nat
  deriving DecidableEq, Repr

/-- R398: the shape objects' fields. -/
def shapeOf (base shape : Nat) : Shape :=
  ⟨base, field shape 63 48 + 1, toSigned 32 shape, field shape 47 32 + 1⟩

def State.srcShape (s : State) (e ch : Nat) : Shape := shapeOf (s.nat (Key.dmaChSrcAddr e ch)) (s.nat (Key.dmaChSrcShape e ch))
def State.dstShape (s : State) (e ch : Nat) : Shape := shapeOf (s.nat (Key.dmaChDstAddr e ch)) (s.nat (Key.dmaChDstShape e ch))

def Shape.bytes (h : Shape) : Nat := h.len * h.lines

/-- R374: address of the first byte of line i. -/
def Shape.lineAt (h : Shape) (i : Nat) : Int := h.base + (i : Int) * h.stride

/-- R377: lowest and highest byte of the footprint. -/
def Shape.lo (h : Shape) : Int := min (h.lineAt 0) (h.lineAt (h.lines - 1))
def Shape.hi (h : Shape) : Int := max (h.lineAt 0) (h.lineAt (h.lines - 1)) + h.len - 1

/-- R375: destination lines do not overlap. -/
def Shape.disjoint (h : Shape) : Bool := h.lines = 1 || h.len ≤ h.stride.natAbs

/-- R377: do two footprints overlap? -/
def Shape.meets (a b : Shape) : Bool := a.lo ≤ b.hi && b.lo ≤ a.hi

/-- Address of stream byte q of a side. -/
def Shape.byteAt (h : Shape) (q : Nat) : Nat := (h.lineAt (q / h.len) + (q % h.len : Nat)).toNat

/-! DMA_CH_CTRL and DMA_CH_PACE (R399). -/

def State.chCtrl (s : State) (e ch : Nat) : Nat := s.nat (Key.dmaChCtrl e ch)
def ctrlRecord (c : Nat) : Bool := c.testBit 31
def ctrlEvent (c : Nat) : Bool := c.testBit 30
def ctrlWaitLanded (c : Nat) : Bool := c.testBit 29
def ctrlPriority (c : Nat) : Nat := field c 26 24
def ctrlBurst (c : Nat) : Nat := 64 * 2 ^ field c 21 20
def ctrlSwap (c : Nat) : Nat := field c 17 16
/-- Bytes of a unit. -/
def ctrlUnit (c : Nat) : Nat := 2 * 2 ^ field c 13 12

/-- R376: a valid entry of the table, for a transfer of n bytes. -/
def swapValid (c n : Nat) : Bool :=
  !(ctrlSwap c = 2 && ctrlUnit c = 2) && ctrlSwap c ≤ 2 && ctrlUnit c ≤ 8 && n % ctrlUnit c = 0

/-- R376: which source stream byte destination stream byte q takes. -/
def swapIndex (c q : Nat) : Nat :=
  let u := ctrlUnit c
  let k := q % u
  if ctrlSwap c = 1 then q - k + (u - 1 - k)
  else if ctrlSwap c = 2 then q - k + ((u - 2 - k / 2 * 2) + k % 2)
  else q

/-! FIFO levels and pacing (R381, R396). -/

def State.fifo (s : State) (f : Nat) : FifoSt := mapGetD f {} s.fifos
def State.fifoFill (s : State) (f : Nat) : Nat := (s.fifo f).words.length

def paceFifo (p : Nat) : Nat := field p 63 48
def paceStart (p : Nat) : Nat := field p 47 32
def paceStop (p : Nat) : Nat := field p 31 16

/-- R381: the level a PACE value watches. -/
def State.paceLevel (s : State) (p : Nat) : Nat :=
  if p.testBit 0 then fifoDepth (paceFifo p) - s.fifoFill (paceFifo p) else s.fifoFill (paceFifo p)

/-- R392: first and last FIFO of an engine's cluster. -/
def engineFifos (e : Nat) : Nat × Nat := if e < 8 then (62 * e, 62 * e + 61) else if e = 10 then (496, 511) else (512, 635)

/-- R392 (log 8): directory byte 21 of a FIFO that is present: host commands accepted and pacing permitted. -/
def fifoFlags : Nat := 3

/-- R377, check 6. -/
def State.paceValid (s : State) (e p : Nat) : Bool :=
  let f := paceFifo p
  f = 0xFFFF || ((engineFifos e).1 ≤ f && f ≤ (engineFifos e).2 && s.part.fifoPresent f && bit fifoFlags 1 &&
    paceStop p < paceStart p && paceStart p ≤ fifoDepth f)

/-- R381: the state in which a channel begins or resumes. -/
def State.runOrWait (s : State) (e ch : Nat) : Nat :=
  let p := s.nat (Key.dmaChPace e ch)
  if paceFifo p = 0xFFFF || paceStart p ≤ s.paceLevel p then dmaRunning else dmaWaiting

/-- The channels that hold a transfer: engine, channel. -/
def State.busyChannels (s : State) : List (Nat × Nat) := s.dma.chans.map fun c => (c.1 / 64, c.1 % 64)

def State.engineChannels (s : State) (e : Nat) : List Nat := (s.busyChannels.filter (·.1 = e)).map (·.2)

/-! Starting (R377, R378). -/

/-- R382: does a self-overlapping transfer qualify? -/
def overlapOk (a b : Shape) : Bool :=
  a.len = b.len && a.stride = b.stride && a.lines = b.lines && a.len ≤ 4096 && a.disjoint

/-- R377, R403: the checks of a start in order: code and check number of the first that fails. -/
def State.startRefused (s : State) (e ch : Nat) : Option (Nat × Nat) :=
  let a := s.srcShape e ch
  let b := s.dstShape e ch
  let c := s.chCtrl e ch
  let inside := fun (h : Shape) => 0 ≤ h.lo && h.hi < (2 ^ 64 : Nat) && s.hostSpan e h.lo.toNat h.hi.toNat
  let clash := fun (o : Nat) =>
    let x := s.srcShape e o
    let y := s.dstShape e o
    o != ch && (a.meets y || b.meets x || b.meets y)
  if !s.flag Key.memDramReady then some (abState, 0)
  else if s.chState e ch ≠ dmaIdle then some (abBusy, 1)
  else if s.nat (Key.dmaEngineState e) ≠ 0 then some (abState, 2)
  else if a.bytes ≠ b.bytes || !b.disjoint then some (abRange, 3)
  else if !swapValid c a.bytes then some (abRange, 4)
  else if !inside a || !inside b then some (abRange, 5)
  else if !s.paceValid e (s.nat (Key.dmaChPace e ch)) then some (abRange, 6)
  else if (s.engineChannels e).any clash then some (abBusy, 7)
  else if a.meets b && !overlapOk a b then some (abRange, 8)
  else none

/-- R377: the channel starts. -/
def State.startChannel (s : State) (e ch : Nat) : State :=
  let x : Xfer := {
    overlap := (s.srcShape e ch).meets (s.dstShape e ch), tag := s.nat (Key.dmaChTag e ch), ready := s.cycles,
    limit := s.hubTimeout }
  ((s.chGo e ch (s.runOrWait e ch)).setObj (Key.dmaChDoneBytes e ch) 0).updXfer e ch fun _ => x

/-- R373: the writable objects of a device channel are refused. -/
def ownedByDevice (ch : Nat) : Bool := ch < 56

/-- DMA_CH_COMMAND 1. -/
def dmaStart (e ch : Nat) : Effect := fun s =>
  if ownedByDevice ch then .error abState
  else match s.startRefused e ch with
    | some r => .error r.1
    | none => .ok (s.startChannel e ch)

/-- R378: a start by a firing of action 4, on a channel that is not running; DRAM that is not ready refuses it without a check's
number (R403). -/
def State.fireStart (s : State) (e ch : Nat) : State :=
  let old := s.nat (Key.dmaChStatus e ch)
  match s.startRefused e ch with
  | none => (s.startChannel e ch).setObj (Key.dmaChStatus e ch) (old % 256 : Nat)
  | some r =>
    if r.2 < 3 then s
    else
    (s.setObj (Key.dmaChStatus e ch) (256 * r.2 + old % 256 : Nat)).raise 0x7805 1 (pathChannel e ch)
      (leBytes 2 (64 * e + ch) ++ [byteOf r.2])

/-- R378, R117: what counts as running for a firing. -/
def State.dmaCountsRunning (s : State) (e ch : Nat) : Bool :=
  s.chState e ch ≠ dmaIdle || s.nat (Key.dmaEngineState e) ≠ 0

/-! Completion (R383 to R386). -/

/-- R383: DMA_LANDED_SEQ follows the completions that have not landed. -/
def State.landedSync (s : State) (e : Nat) : State :=
  let v := match (s.dmaEng e).unlanded with
    | k :: _ => (k + (2 ^ 32 - 1)) % 2 ^ 32
    | [] => (s.nat (Key.dmaNextSeq e) + (2 ^ 32 - 1)) % 2 ^ 32
  s.setObj (Key.dmaLandedSeq e) v

/-- R385: append a record to the ring. -/
def State.ringAppend (s : State) (e seq : Nat) (rec : Bytes) : State :=
  let base := s.nat (Key.dmaRingBase e)
  let size := s.nat (Key.dmaRingSize e)
  let written := s.nat (Key.dmaRingWritten e)
  if base = 0 then s
  else if (written + 2 ^ 32 - s.nat (Key.dmaRingRead e)) % 2 ^ 32 = size then
    let s := s.bump (Key.dmaRingLost e)
    if s.flag (Key.dmaRingLostSticky e) then s
    else (s.setFlag (Key.dmaRingLostSticky e) true).raise 0x7806 1 (pathDma e) (leBytes 4 seq)
  else
    (s.memWrite (base + 32 * (written % size)) rec).setObj (Key.dmaRingWritten e) ((written + 1) % 2 ^ 32 : Nat)

/-- R384: the 32-byte completion record. -/
def State.dmaRecord (s : State) (e ch seq status flags tag bytes : Nat) : Bytes :=
  leBytes 4 seq ++ leBytes 2 (64 * e + ch) ++ [byteOf status, byteOf flags] ++ leBytes 4 tag ++ leBytes 2 s.epoch ++
    leBytes 12 (toTime96 s.now) ++ leBytes 6 bytes

/-- R384: with EVENT set, the end of a transfer raises event 0x7804. -/
def State.dmaEvent (s : State) (e ch seq status : Nat) : State :=
  if ctrlEvent (s.chCtrl e ch) then
    s.raiseLimited 0x7804 0 (64 * e + ch) (pathChannel e ch) (leBytes 2 (64 * e + ch) ++ leBytes 4 seq ++ [byteOf status])
  else s

/-- R384: a transfer ends: its sequence number, record and event. `landed`: it has landed. -/
def State.dmaEnd (s : State) (e ch status : Nat) (landed : Bool) : State :=
  let x := s.xfer e ch
  let c := s.chCtrl e ch
  let seq := x.seq.getD (s.nat (Key.dmaNextSeq e))
  let s := if x.seq.isSome then s else s.setObj (Key.dmaNextSeq e) ((seq + 1) % 2 ^ 32 : Nat)
  let s := s.updEng e fun g => { g with
    unlanded := if landed then g.unlanded.filter (· ≠ seq) else if x.seq.isSome then g.unlanded else g.unlanded ++ [seq] }
  let s := (s.landedSync e).updXfer e ch fun y => { y with seq := some seq }
  let old := s.nat (Key.dmaChStatus e ch)
  let flags := boolNat landed + 2 * boolNat x.overlap + 4 * boolNat (x.rewound || x.seq.isSome) + 8 * boolNat x.paused
  let s := if ctrlRecord c then
      (s.ringAppend e seq (s.dmaRecord e ch seq status flags x.tag (s.nat (Key.dmaChDoneBytes e ch)))).setObj
        (Key.dmaChStatus e ch) (old / 256 * 256 + status : Nat)
    else s
  s.dmaEvent e ch seq status

/-- The channel returns to IDLE. -/
def State.dmaIdleNow (s : State) (e ch : Nat) : State := (s.chGo e ch dmaIdle).dropXfer e ch

/-- R379, R384: the last write has left: the channel lands, and completes unless it waits for landing. -/
def State.enterLanding (s : State) (e ch : Nat) : State :=
  let s := s.chGo e ch dmaLanding
  if ctrlWaitLanded (s.chCtrl e ch) || (s.xfer e ch).seq.isSome then s else s.dmaEnd e ch 0 false

/-- R379: a RUNNING channel whose last write has left lands. -/
def State.lastLeft (s : State) (e ch : Nat) : State :=
  if s.chState e ch = dmaRunning ∧ (s.srcShape e ch).bytes ≤ s.nat (Key.dmaChDoneBytes e ch) then s.enterLanding e ch else s

/-- R381: a paced channel follows its level. -/
def State.repace (s : State) (e ch : Nat) : State :=
  let p := s.nat (Key.dmaChPace e ch)
  if paceFifo p = 0xFFFF then s
  else if s.chState e ch = dmaWaiting ∧ paceStart p ≤ s.paceLevel p then
    ((s.chGo e ch dmaRunning).updXfer e ch fun x => { x with ready := s.cycles, limit := s.hubTimeout }).lastLeft e ch
  else if s.chState e ch = dmaRunning ∧ s.paceLevel p ≤ paceStop p then s.chGo e ch dmaWaiting
  else s

def State.repaceAll (s : State) : State := s.busyChannels.foldl (fun s c => s.repace c.1 c.2) s

/-! Commands (R379, R387). -/

/-- R414, R415: store a burst; poisoned bytes poison their words where the destination checks its words. -/
def State.storeBurst (s : State) (b : Burst) : State :=
  let s := s.memWrite b.addr (b.data.map (·.byte))
  ((b.data.zip (List.range b.data.length)).filter (·.1.bad)).foldl (fun s d =>
    if s.hasEcc ((s.memoryAt (b.addr + d.2)).getD 12) then s.poisonWord (b.addr + d.2) else s) s

/-- R383: memory acknowledges a burst of a channel. -/
def State.burstDone (s : State) (e ch : Nat) (b : Burst) : State :=
  ((s.storeBurst b).updXfer e ch fun x => { x with flight := x.flight.drop 1 }).setObj (Key.dmaChDoneBytes e ch)
    (b.pos + b.data.length : Nat)

/-- R387: a pause; from WAITING the bursts already granted complete at once (R381), so that DMA_CH_DONE_BYTES is exact. -/
def State.pauseChannel (s : State) (e ch : Nat) : State :=
  let s := s.updXfer e ch fun x => { x with paused := true }
  if s.chState e ch = dmaRunning then s.chGo e ch dmaDraining
  else ((s.xfer e ch).flight.foldl (fun s b => s.burstDone e ch b) s).chGo e ch dmaFreewheel

/-- DMA_CH_COMMAND 2. -/
def dmaPause (e ch : Nat) : Effect := fun s =>
  if ownedByDevice ch || !(s.chState e ch = dmaRunning || s.chState e ch = dmaWaiting) then .error abState
  else .ok (s.pauseChannel e ch)

/-- R379: go on with what is left of the stream, in RUNNING or WAITING, or land where nothing is left. -/
def State.goOn (s : State) (e ch st : Nat) : State :=
  let done := s.nat (Key.dmaChDoneBytes e ch)
  let s := s.updXfer e ch fun x => { x with granted := done, ready := s.cycles, limit := s.hubTimeout }
  if (s.srcShape e ch).bytes ≤ done then (s.chGo e ch dmaRunning).enterLanding e ch else s.chGo e ch st

/-- DMA_CH_COMMAND 3. -/
def dmaResume (e ch : Nat) : Effect := fun s =>
  if ownedByDevice ch || s.chState e ch ≠ dmaFreewheel then .error abState
  else .ok (s.goOn e ch (s.runOrWait e ch))

/-- R379: an abort: data not yet written is discarded. -/
def State.abortChannel (s : State) (e ch status : Nat) : State :=
  ((s.updXfer e ch fun x => { x with flight := [] }).dmaEnd e ch status true).dmaIdleNow e ch

/-- DMA_CH_COMMAND 4. -/
def dmaAbort (e ch : Nat) : Effect := fun s =>
  let st := s.chState e ch
  if ownedByDevice ch || st = dmaIdle || st = dmaLanding then .error abState
  else .ok (s.abortChannel e ch 1)

/-! Bursts (R380, R382). -/

/-- R438: the power domain of an engine. -/
def engineDomain (e : Nat) : Nat := if e < 8 then 6 * e + 5 else if e = 10 then 57 else 54


/-- R382: lines are taken from the last to the first. -/
def descending (a b : Shape) : Bool := (b.base > a.base) == decide (0 ≤ a.stride)

/-- The destination line and the byte in it at a place of the processing order. -/
def procLine (x : Xfer) (a b : Shape) (pos : Nat) : Nat × Nat :=
  let i := pos / b.len
  (if x.overlap && descending a b then b.lines - 1 - i else i, pos % b.len)

/-- R380: length of the next burst, and its destination address. -/
def nextBurst (x : Xfer) (a b : Shape) (burst : Nat) : Nat × Nat :=
  let l := procLine x a b x.granted
  let addr := (b.lineAt l.1 + (l.2 : Nat)).toNat
  let q := l.1 * b.len + l.2
  (min (burst - addr % burst) (min (b.len - l.2) (a.len - q % a.len)), addr)

/-- A source byte as read. -/
def State.datum (s : State) (addr : Nat) : Datum := ⟨Memory.read addr s.mem, s.isPoisoned addr⟩

/-- R382: read source line i into the line buffer, keeping the lines that a unit of the stream may still need. -/
def State.bufferLine (s : State) (e ch i : Nat) : State :=
  let a := s.srcShape e ch
  if (mapGet i (s.xfer e ch).lines).isSome then s
  else
    let d := (List.range a.len).map fun k => s.datum (a.byteAt (i * a.len + k))
    s.updXfer e ch fun x => { x with lines := mapSet i d (mapKeep (fun j => j ≤ i + 8 && i ≤ j + 8) x.lines) }

/-- A source stream byte: from the line buffer where it was read before, else from memory. -/
def State.sourceDatum (s : State) (e ch q : Nat) : Datum :=
  let a := s.srcShape e ch
  match mapGet (q / a.len) (s.xfer e ch).lines with
  | some l => l.getD (q % a.len) (s.datum (a.byteAt q))
  | none => s.datum (a.byteAt q)

/-- R414: the poisoned words that a burst read: counted, logged, and reported as copied. -/
def State.noteCopied (s : State) (e ch : Nat) (addrs : List Nat) : State :=
  ((addrs.map wordOf).eraseDups).foldl (fun s w =>
    let m := (s.memoryAt w).getD 0
    (s.noteUncorrected m w).raise 0x7C03 1 (pathChannel e ch) (leBytes 2 (64 * e + ch) ++ leBytes 8 w)) s

/-- R380: grant one burst to a channel: its source bytes are read. -/
def State.grantBurst (s : State) (e ch : Nat) : State :=
  let a := s.srcShape e ch
  let b := s.dstShape e ch
  let c := s.chCtrl e ch
  let x := s.xfer e ch
  let n := nextBurst x a b (ctrlBurst c)
  let l := procLine x a b x.granted
  let s := if x.overlap then s.bufferLine e ch l.1 else s
  let from_ := (List.range n.1).map fun k => swapIndex c (l.1 * b.len + l.2 + k)
  let data := from_.map (s.sourceDatum e ch)
  let bad := (from_.filter fun q => (s.sourceDatum e ch q).bad).map a.byteAt
  let s := s.updXfer e ch fun y => { y with
    granted := y.granted + n.1, flight := y.flight ++ [Burst.mk x.granted n.2 data], ready := s.cycles, limit := s.hubTimeout }
  (if e < 8 then s.hubMoves e else s).noteCopied e ch bad

/-- Has a RUNNING channel data to move? -/
def State.hasData (s : State) (e ch : Nat) : Bool :=
  s.chState e ch = dmaRunning && (s.xfer e ch).granted < (s.srcShape e ch).bytes

/-- Round robin: the first of the channels after the one granted last. -/
def roundRobin (last : Nat) (l : List Nat) : Option Nat :=
  match l.find? (last < ·) with
  | some c => some c
  | none => l.head?

/-- DMA_BURST_GRANT, R380, R381. -/
def dmaBurstGrant (e : Nat) (s : State) : State :=
  if s.nat (Key.dmaEngineState e) ≠ 0 || !s.domainOn (engineDomain e) then s
  else
    let s := (s.engineChannels e).foldl (fun s ch => s.repace e ch) s
    let l := (s.engineChannels e).filter (s.hasData e)
    let aged := l.filter fun ch => usCycles (s.nat (Key.dmaAgeTime e)) ≤ s.since (s.xfer e ch).ready
    let top := (l.map fun ch => ctrlPriority (s.chCtrl e ch)).foldl max 0
    let level := if aged.isEmpty then top else 8
    let class_ := if aged.isEmpty then l.filter fun ch => ctrlPriority (s.chCtrl e ch) = top else aged
    match roundRobin (mapGetD level 64 (s.dmaEng e).last) class_ with
    | none => s
    | some ch => (s.updEng e fun g => { g with last := mapSet level ch g.last }).grantBurst e ch

def execDmaBurstGrant (engine : Nat) (s : State) : Res := onUnit (s.part.dmaPresent engine) (dmaBurstGrant engine s)

/-- DMA_WRITE_ACK, R383: memory acknowledges the oldest burst; after the last a RUNNING channel enters LANDING. -/
def dmaWriteAck (e ch : Nat) (s : State) : State :=
  let st := s.chState e ch
  match (s.xfer e ch).flight with
  | [] => s
  | b :: _ =>
    if st = dmaRunning ∨ st = dmaWaiting ∨ st = dmaDraining then (s.burstDone e ch b).lastLeft e ch else s

def execDmaWriteAck (engine channel : Nat) (s : State) : Res :=
  onUnit (s.part.dmaPresent engine && channel < 64) (dmaWriteAck engine channel s)

/-- DMA_DRAINED, R387. -/
def dmaDrained (e ch : Nat) (s : State) : State :=
  if s.chState e ch = dmaDraining ∧ (s.xfer e ch).flight = [] then
    (s.chGo e ch dmaFreewheel).updXfer e ch fun x => { x with granted := s.nat (Key.dmaChDoneBytes e ch) }
  else s

def execDmaDrained (engine channel : Nat) (s : State) : Res :=
  onUnit (s.part.dmaPresent engine && channel < 64) (dmaDrained engine channel s)

/-- DMA_LANDED, R383, R384. -/
def dmaLanded (e ch : Nat) (s : State) : State :=
  if s.chState e ch ≠ dmaLanding then s
  else match (s.xfer e ch).seq with
    | some k =>
      ((s.updEng e fun g => { g with unlanded := g.unlanded.filter (· ≠ k) }).landedSync e).dmaIdleNow e ch
    | none => (s.dmaEnd e ch 0 true).dmaIdleNow e ch

def execDmaLanded (engine channel : Nat) (s : State) : Res :=
  onUnit (s.part.dmaPresent engine && channel < 64) (dmaLanded engine channel s)

/-! Bus errors (R388 to R390). -/

/-- R388: is a channel halted by a bus error? -/
def haltable (st : Nat) : Bool := st = dmaRunning || st = dmaWaiting || st = dmaDraining || st = dmaLanding

/-- R388: the place to which a halted channel is rewound: the end of its last fully written destination line; in LANDING the
line of the failing address does not count. -/
def State.rewindTo (s : State) (e ch addr : Nat) : Nat :=
  let b := s.dstShape e ch
  let x := s.xfer e ch
  let whole := s.nat (Key.dmaChDoneBytes e ch) / b.len
  let hit := (List.range whole).find? fun i =>
    let l := b.lineAt (procLine x (s.srcShape e ch) b (i * b.len)).1
    l ≤ (addr : Int) && (addr : Int) < l + b.len
  match hit with
  | some i => if s.chState e ch = dmaLanding then i * b.len else whole * b.len
  | none => whole * b.len

/-- R388: halt a channel. -/
def State.haltChannel (s : State) (e addr ch : Nat) : State :=
  let st := s.chState e ch
  if !haltable st then s
  else
    let back := s.rewindTo e ch addr
    let s := (s.setObj (Key.dmaChDoneBytes e ch) back).bump (Key.dmaChRewinds e ch)
    (s.chGo e ch dmaHeld).updXfer e ch fun x => { x with prior := st, granted := back, flight := [], rewound := true }

/-- R389: a halted channel resumes. -/
def State.resumeHeld (s : State) (e ch : Nat) : State :=
  if s.chState e ch ≠ dmaHeld then s
  else match (s.xfer e ch).prior with
    | 2 => s.chGo e ch dmaWaiting
    | 3 => s.chGo e ch dmaFreewheel
    | _ => s.goOn e ch dmaRunning

/-- R389: the engine returns to RUN. -/
def State.engineResume (s : State) (e : Nat) : State :=
  let l := (s.engineChannels e).filter fun ch => s.chState e ch = dmaHeld
  (l.foldl (fun s ch => s.resumeHeld e ch) (s.setObj (Key.dmaEngineState e) 0)).raise 0x7802 0 (pathDma e) [byteOf l.length]

/-- DMA_BUS_ERROR, R388, R389. -/
def dmaBusError (e addr : Nat) (s : State) : State :=
  let st := s.nat (Key.dmaEngineState e)
  let active := (s.engineChannels e).any fun ch => haltable (s.chState e ch)
  if st = 2 ∨ (st = 0 ∧ !active) then s
  else
    let s := ((s.engineChannels e).foldl (fun s ch => s.haltChannel e addr ch) s).bump (Key.dmaBusErrors e)
    let s := s.setObj (Key.dmaLastErrAddr e) addr
    let recent := s.cycles :: (s.dmaEng e).errors.filter fun t => s.since t ≤ secCycles 1
    let s := s.updEng e fun g => { g with errors := recent,
                                          heldUntil := s.cycles + msCycles (s.nat (Key.dmaErrHoldoff e)) }
    if 3 ≤ recent.length then
      (s.setObj (Key.dmaEngineState e) 2).raise 0x7803 2 (pathDma e) (leBytes 8 addr)
    else
      (s.setObj (Key.dmaEngineState e) 1).raise 0x7801 2 (pathDma e) (leBytes 8 addr ++ [byteOf recent.length])

def execDmaBusError (engine addr : Nat) (s : State) : Res := onUnit (s.part.dmaPresent engine) (dmaBusError engine addr s)

/-- DMA_HOLDOFF_END, R389. -/
def dmaHoldoffEnd (e : Nat) (s : State) : State :=
  s.whenever (s.nat (Key.dmaEngineState e) = 1 && (s.dmaEng e).heldUntil ≤ s.cycles) (·.engineResume e)

def execDmaHoldoffEnd (engine : Nat) (s : State) : Res := onUnit (s.part.dmaPresent engine) (dmaHoldoffEnd engine s)

/-- DMA_ENGINE_COMMAND 1, R389. -/
def dmaEngineCommand (e : Nat) : Effect := fun s =>
  if s.nat (Key.dmaEngineState e) ≠ 2 then .error abState else .ok (s.engineResume e)

/-- R390: a unit restart of an engine. -/
def State.engineRestart (s : State) (e : Nat) : State :=
  let l := (s.engineChannels e).filter fun ch => haltable (s.chState e ch)
  let s := l.foldl (fun s ch => s.haltChannel e (2 ^ 64) ch) s
  l.foldl (fun s ch => s.resumeHeld e ch) s

/-- R391: a reset of an engine's cluster. -/
def State.engineReset (s : State) (e : Nat) : State :=
  let inDram := dramBase ≤ s.nat (Key.dmaRingBase e)
  let s := (s.engineChannels e).foldl (fun s ch =>
    (if inDram then s.dmaEnd e ch 3 true
      else s.dmaEvent e ch ((s.xfer e ch).seq.getD (s.nat (Key.dmaNextSeq e))) 3).dmaIdleNow e ch) s
  let s := (List.range 64).foldl (fun s ch =>
    ((s.resetObj (Key.dmaChDoneBytes e ch)).resetObj (Key.dmaChStatus e ch)).resetObj (Key.dmaChRewinds e ch)) s
  let s := { s with dma := { s.dma with engines := mapDel e s.dma.engines } }
  [Key.dmaEngineState, Key.dmaBusErrors, Key.dmaLastErrAddr, Key.dmaRingWritten, Key.dmaRingRead, Key.dmaRingLost,
    Key.dmaRingLostSticky, Key.dmaNextSeq, Key.dmaLandedSeq].foldl (fun s k => s.resetObj (k e)) s

/-! The ring objects (R385). -/

/-- DMA_RING_READ. -/
def dmaRingRead (e v : Nat) : Effect := fun s =>
  if v < s.nat (Key.dmaRingRead e) ∨ s.nat (Key.dmaRingWritten e) < v then .error abRange
  else .ok (s.setObj (Key.dmaRingRead e) v)

/-- DMA_RING_BASE (sub 1) and DMA_RING_SIZE (sub 2). -/
def dmaRingConfig (e sub v : Nat) : Effect := fun s => do
  let base := if sub = 1 then v else s.nat (Key.dmaRingBase e)
  let size := if sub = 1 then s.nat (Key.dmaRingSize e) else v
  refuseIf (base ≠ 0 && (base % 32 ≠ 0 || !s.hostSpan e base (base + 32 * size - 1))) abRange
  refuseIf ((s.engineChannels e).any fun ch => ctrlRecord (s.chCtrl e ch)) abState
  let s := if sub = 1 then s.setObj (Key.dmaRingBase e) v else s.setObj (Key.dmaRingSize e) v
  .ok ((s.setObj (Key.dmaRingWritten e) 0).setObj (Key.dmaRingRead e) 0)

/-- DMA_RING_DATA. -/
def State.ringData (s : State) (e : Nat) : Bytes :=
  let base := s.nat (Key.dmaRingBase e)
  if base = 0 then [] else Memory.readBytes base (32 * s.nat (Key.dmaRingSize e)) s.mem

/-- R398: a descriptor object may be written only on an IDLE host channel. -/
def State.descriptorLocked (s : State) (e ch : Nat) : Bool := ownedByDevice ch || s.chState e ch ≠ dmaIdle

/-! FIFOs (R392 to R397). -/

/-- R392 (log 8): path of a FIFO. -/
def pathFifo (f : Nat) : String :=
  if f < 496 then "H" ++ natText (f / 62) ++ ".F" ++ natText (f % 62)
  else if f < 512 then "NX.F" ++ natText (f - 496) else "MX.F" ++ natText (f - 512)

/-- R392: FIFO_DIRECTORY. -/
def fifoDirectory (p : Part) : Bytes :=
  (List.range 636).flatMap fun f =>
    if p.fifoPresent f then
      padTo 16 (ascii (pathFifo f)) ++ leBytes 4 (fifoDepth f) ++ [8, byteOf fifoFlags] ++ List.replicate 10 0
    else List.replicate 32 0

/-- R396: the live bit ABOVE. -/
def State.above (s : State) (f : Nat) : Bool := s.nat (Key.fifoMark f) ≤ s.fifoFill f

/-- FIFO_WM_STATUS, R400. -/
def State.wmStatus (s : State) (f : Nat) : Nat :=
  let x := s.fifo f
  boolNat (s.above f) * 2 ^ 31 + boolNat x.up * 2 ^ 30 + boolNat x.down * 2 ^ 29 + x.count

/-- R396: what a change of a FIFO or its mark does to the watermark state; `was`: ABOVE before it. -/
def State.noteLevel (s : State) (f : Nat) (was : Bool) : State :=
  let now := s.above f
  let s := s.setObj (Key.fifoPeak f) (max (s.nat (Key.fifoPeak f)) (s.fifoFill f) : Nat)
  let s := s.repaceAll
  if now = was then s
  else
    let x := s.fifo f
    let x := { x with up := x.up || now, down := x.down || !now, count := satAdd 16 x.count 1 }
    let s := { s with fifos := mapSet f x s.fifos }
    if now && s.flag (Key.fifoWmEvent f) then
      s.raiseLimited 0x7B01 0 f (pathFifo f) (leBytes 2 f ++ leBytes 2 x.count)
    else s

/-- A change of a FIFO's content. -/
def State.updFifo (s : State) (f : Nat) (g : FifoSt → FifoSt) : State :=
  ({ s with fifos := mapSet f (g (s.fifo f)) s.fifos }).noteLevel f (s.above f)

/-- R393, R394: the producer's word, where the FIFO gives it a credit or discards it. -/
def FifoSt.push (x : FifoSt) (depth word : Nat) (last : Bool) : FifoSt :=
  if x.dropping then { x with producing := !last, dropping := !last }
  else if depth ≤ x.words.length then x
  else { x with words := x.words ++ [⟨word, last, false⟩], producing := !last }

/-- A word leaves. -/
def FifoSt.pop (x : FifoSt) : FifoSt :=
  match x.words with
  | [] => x
  | w :: r => { x with words := r, consuming := !w.last, taken := some w, cuts := if w.cut then x.cuts + 1 else x.cuts }

/-- The words after the first item. -/
def afterItem : List FifoWord → Option (List FifoWord)
  | [] => none
  | w :: r => if w.last then some r else afterItem r

/-- R394: an end of item marked CUT for a consumer within an item. -/
def FifoSt.cutConsumer (x : FifoSt) : FifoSt := if x.consuming then { x with consuming := false, cuts := x.cuts + 1 } else x

/-- R394: DROP_REMAINDER. -/
def FifoSt.dropRemainder (x : FifoSt) : FifoSt :=
  if x.words.isEmpty && !x.consuming then x
  else match afterItem x.words with
    | some r => ({ x with words := r }).cutConsumer
    | none => ({ x with words := [], dropping := x.producing }).cutConsumer

/-- R394: FLUSH. -/
def FifoSt.flush (x : FifoSt) : FifoSt := ({ x with words := [], dropping := x.producing }).cutConsumer

/-- FIFO_WORD_TRANSFER, R395. -/
def fifoWordTransfer (f : Nat) (m : FifoMove) (s : State) : State :=
  match m with
  | .push word last => s.updFifo f (·.push (fifoDepth f) word last)
  | .pop => s.updFifo f (·.pop)

def execFifoWordTransfer (fifo : Nat) (m : FifoMove) (s : State) : Res :=
  onUnit (s.part.fifoPresent fifo) (fifoWordTransfer fifo m s)

/-- FIFO_COMMAND, R394. -/
def fifoCommandWrite (f command : Nat) : Effect := fun s =>
  if !bit fifoFlags 0 then .error abState
  else .ok (s.updFifo f fun x => if command = 1 then x.dropRemainder else x.flush)

/-- FIFO_WM_ACK, R397. -/
def fifoWmAck (f v : Nat) : Effect := fun s =>
  let x := s.fifo f
  if x.count < v then .error abRange
  else
    let y := if v = x.count then { x with count := 0, up := false, down := false } else { x with count := x.count - v }
    .ok { s with fifos := mapSet f y s.fifos }

/-- A write of FIFO_MARK moves the level of ABOVE (R396). -/
def fifoMarkWrite (f v : Nat) : Effect := fun s => .ok ((s.setObj (Key.fifoMark f) v).noteLevel f (s.above f))

/-- R395: a producer unit restarts: the FIFO ends its item, marked CUT. -/
def FifoSt.producerRestart (x : FifoSt) : FifoSt :=
  if !x.producing then x
  else if x.dropping then { x with producing := false, dropping := false }
  else { x with words := (x.words.dropLast ++ (x.words.getLast?.map fun w => { w with last := true, cut := true }).toList), producing := false,
                consuming := x.consuming && !x.words.isEmpty, cuts := if x.words.isEmpty then x.cuts + 1 else x.cuts }

/-- R395, R396: a reset of the owner's cluster. -/
def State.fifoReset (s : State) (f : Nat) : State :=
  ({ s with fifos := mapDel f s.fifos }).resetObj (Key.fifoPeak f)

/-! Crossings (R25). -/

def State.crossing (s : State) (c : Nat) : CrossSt := mapGetD c {} s.crossings

/-- R25: one step of a crossing; a request needs a credit, and one is outstanding at a time. -/
def CrossSt.step (x : CrossSt) (now limit : Nat) (m : CrossingMove) : CrossSt :=
  match m with
  | .grant => { x with credits := x.credits + 1 }
  | .request w => if x.request.isNone && 0 < x.credits then { x with request := some (w, now, limit) } else x
  | .acknowledge =>
    match x.request with
    | some r => { x with credits := x.credits - 1, request := none, moved := r.1 :: x.moved }
    | none => x

/-- R21: crossings present. -/
def Part.crossings (p : Part) : Nat := p.inventory 6

/-- CROSSING_WORD_TRANSFER, R25. -/
def crossingWordTransfer (c : Nat) (m : CrossingMove) (s : State) : State :=
  { s with crossings := mapSet c ((s.crossing c).step s.cycles (usCycles (s.nat Key.rcvCrossingTimeout)) m) s.crossings }

def execCrossingWordTransfer (crossing : Nat) (m : CrossingMove) (s : State) : Res :=
  onUnit (crossing < s.part.crossings) (crossingWordTransfer crossing m s)

end Sys2Proof.Machine
end

