-- ==== Sys2Proof/Machine/Trunk.lean ====
section
/-! DEFINITION. Chapter 11, the trunk: lane acceptance, states, credit, packet boundaries, the tunnel (R333 to R343), and the
time beacons of chapter 03 (R101 to R103). -/
namespace Sys2Proof.Machine

def State.updTrk (s : State) (f : Trunk → Trunk) : State := { s with trk := f s.trk }

/-! TRK_STATE codes (R340). -/
def trkDown : Nat := 0
def trkTraining : Nat := 1
def trkUp : Nat := 2
def trkResizing : Nat := 3

def State.trkState (s : State) : Nat := s.nat Key.trkState
def State.trkL (s : State) : Nat := s.nat Key.trkLanes
def State.rx0 (_ : State) : Lane := .trunk 8

/-- R339: L as the accepted lanes give it. -/
def State.acceptedL (s : State) : Nat :=
  (([8, 4, 2].filter (· ≤ s.part.txLanes)).find? fun n => (List.range n).all fun i => s.trk.accepted.contains i).getD 0

/-! Columns (R333, R334, R337). -/

/-- Number of a transmit lane among the transmitters. -/
def txId (i : Nat) : Nat := laneId (.trunk i)

/-- Every present transmit lane sends the characters that a function gives it. -/
def State.sendLanes (s : State) (f : Nat → TxSt → List Chr × TxSt) : State :=
  let sent : List (Nat × List Nat × TxSt) := (List.range s.part.txLanes).map fun i =>
    let t := f i (s.tx (txId i))
    (txId i, t.2.run t.1)
  let txs : Map TxSt := sent.foldl (fun m e => mapSet e.1 e.2.2 m) s.txs
  let codes : List (List Nat) := sent.map fun e => e.2.1
  ({ s with txs := txs }).send (.trunk codes)

/-- R334, R339: an idle group on every lane in use; the other lanes go on with idle ordered sets of their own. -/
def State.sendIdleGroup (s : State) : State :=
  s.sendLanes fun i x => if i < s.trkL then ({ x with idle := 0 }).idleRun 8 else x.idleRun 8

/-- R333: columns on the lanes in use. -/
def State.sendColumns (s : State) (cols : List (List Chr)) : State :=
  s.sendLanes fun i x => if i < s.trkL then (laneChars i cols, x) else x.idleRun cols.length

/-- R324, R325, R338: a packet as characters: K28.0 before a frame start, K28.4 before a frame end, K30.7 for a byte that cannot be
read. -/
def Packet.chars (p : Packet) : List Chr :=
  let type := beAt p.bytes 0 1
  (if type = 4 then [.k k280] else if type = 5 then [.k k284] else []) ++
    (p.bytes.zip (List.range p.bytes.length)).map fun e => if p.lost.contains e.2 then .k k307 else .d e.1

/-- R333, R334: a packet, after an idle group, from lane 0 of a fresh column on. -/
def State.sendPacket (s : State) (chars : List Chr) : State :=
  let s := s.sendIdleGroup
  let cols := columns s.trkL (chars.length + 1) chars
  let flight : Flight := ⟨s.cycles, cols, (List.range s.trkL).map fun i => (s.tx (txId i)).positive⟩
  (s.sendColumns cols).updTrk fun t => { t with inFlight := some flight }

/-- R334: a training message in a message slot: the other lanes send idle ordered sets meanwhile, and an idle group ends the slot. -/
def State.sendTraining (s : State) (lane : Nat) (m : List Chr) : State :=
  ((s.sendIdleGroup).sendLanes fun i x => if i = lane then (m, x) else x.idleRun m.length).sendIdleGroup

/-- R131: columns that leave in a number of cycles, at 312.5 million a second and twice that by rate code. -/
def State.columnsIn (s : State) (cycles : Nat) : Nat := cycles * 5 * 2 ^ s.nat Key.trkRateActive / 48

/-- R341: the packet in transmission ends with K30.7 on every lane in use for the rest of its columns. -/
def State.cutFlight (s : State) : State :=
  match s.trk.inFlight with
  | none => s
  | some f =>
    let n := s.columnsIn (s.since f.start)
    let rest := f.columns.drop n
    let s := s.updTrk fun t => { t with inFlight := none }
    if rest.isEmpty then s
    else
      let sent : List (Nat × List Nat × Bool) := ((List.range f.before.length).zip f.before).map fun e =>
        (txId e.1, encode (encode e.2 (laneChars e.1 (f.columns.take n))).2 (List.replicate rest.length (.k k307)))
      let txs : Map TxSt := sent.foldl (fun m e => mapSet e.1 { s.tx e.1 with positive := e.2.2 } m) s.txs
      let codes : List (List Nat) := sent.map fun e => e.2.1
      ({ s.bump Key.trkPacketsCut with txs := txs }).send (.trunkCut codes)

/-- R340: change state, with event 0x7101. -/
def State.trkGo (s : State) (new : Nat) : State :=
  let old := s.trkState
  let s := (s.setObj Key.trkState new).updTrk fun t => { t with entered := s.cycles, lowering := none }
  s.raise 0x7101 0 "MX.TRK" [byteOf old, byteOf new, byteOf s.trkL, byteOf (s.nat Key.trkRateActive)]

/-- R341: L changes, with event 0x7102. -/
def State.trkSetL (s : State) (l : Nat) : State :=
  let old := s.trkL
  if old = l then s
  else ((s.setObj Key.trkLanes l).bump Key.trkResizes).raise 0x7102 1 "MX.TRK" [byteOf old, byteOf l]

/-- R152, R340: a state of every transmit lane present, as its acceptance gives it: the port states of R152 as far as a transmitter has
them (log 14). -/
def State.txLanesGo (s : State) (st : Nat → Nat) : State :=
  (List.range s.part.txLanes).foldl (fun s i => s.laneGo (.trunk i) (st i)) s

/-- R133, R166: the transmit lanes take a rate, and begin at negative running disparity. -/
def State.txRate (s : State) (rate : Nat) : State :=
  (List.range s.part.txLanes).foldl (fun s i =>
    (s.setLane (.trunk i) oRateActive rate).setTx (txId i) { s.tx (txId i) with positive := false }) s

/-- R340, R341: the trunk goes DOWN; `seek`: every lane enters SEEK, which they do as well where the rate was lowered, since the trunk
restarts from TRK_RATE. -/
def State.trkToDown (s : State) (seek : Bool) : State :=
  let lowered := s.trkState ≠ trkDown && s.nat Key.trkRateActive ≠ s.topRate (.trunk 8)
  let s := if seek || lowered then (s.toSeek (.trunk 8)).toSeek (.trunk 9) else s
  if s.trkState = trkDown then s
  else
    let s := (s.cutFlight.trkSetL 0).setObj Key.trkReturnLanes 0
    let s := s.updTrk fun t => { t with accepted := [], credit := false, waitSince := none, stalled := false, training := [],
                                        widenSince := none, groups := none }
    (s.txLanesGo fun _ => lnSeek).trkGo trkDown

/-- R336, R340: TRK_RX0 reached TRAIN: TRAINING at its rate; LIMIT starts at 0. -/
def State.trkToTraining (s : State) : State :=
  let rate := s.laneNat (.trunk 8) oRateActive
  let s := s.updTrk fun t => { t with limit := 0, units := 0, credit := false, waitSince := none, stalled := false }
  let s := (s.setObj Key.trkRateActive rate).txRate rate
  (s.txLanesGo fun i => if s.trk.accepted.contains i then lnActive else lnDetect).trkGo trkTraining

/-- R340: has TRK_RX0 lost signal or alignment by its change from a state? -/
def State.rx0Lost (s : State) (was : Nat) : Bool :=
  let now := s.laneState (.trunk 8)
  (now = lnSeek && was ≠ lnSeek) || (now = lnAlign && lnAlign < was) || (lnAlign < now && !(s.lane (.trunk 8)).aligned)

/-- R340: what a change of TRK_RX0's state does to the trunk. -/
def State.trkFollow (s : State) (was : Nat) : State :=
  let now := s.laneState (.trunk 8)
  if s.trkState = trkDown then
    if s.flag Key.trkEnable && now = lnTrain && was ≠ lnTrain then s.trkToTraining else s
  else if s.rx0Lost was then s.trkToDown false
  else s

/-- R340: since when lanes 0 to 2L - 1 are accepted. -/
def State.noteWiden (s : State) : State :=
  let wide := 2 ≤ s.trkL && 2 * s.trkL ≤ s.part.txLanes && 2 * s.trkL ≤ s.acceptedL
  s.updTrk fun t => { t with widenSince := if wide then some (t.widenSince.getD s.cycles) else none }

/-- R339: in TRAINING and RESIZING a new L takes effect after a run of 8 idle groups, which is still to be sent. -/
def State.noteL (s : State) : State :=
  let change := s.trkState = trkResizing || (s.trkState = trkTraining && s.acceptedL ≠ s.trkL)
  s.updTrk fun t => { t with groups := if change then some 0 else none }

/-- R340: the trunk is RESIZING, and a run of 8 idle groups is to be sent. -/
def State.trkResize (s : State) : State := (s.trkGo trkResizing).noteL

/-- R339 to R341: lanes were withdrawn: a packet in transmission on one in use is cut, and the trunk resizes or goes DOWN. -/
def State.lanesWithdrawn (s : State) (lanes : List Nat) : State :=
  let used := lanes.any fun i => i < s.trkL
  let s := (if used then s.cutFlight else s).noteWiden
  if s.trkState = trkDown then s
  else if s.acceptedL = 0 && (0 < s.trkL || s.trkState ≠ trkTraining) then s.trkToDown true
  else if used && s.trkState = trkUp then s.trkResize
  else s.noteL

/-- R339: lanes leave the accepted set. -/
def State.withdrawLanes (s : State) (p : Nat → Bool) : State :=
  let gone := s.trk.accepted.filter p
  if gone.isEmpty then s
  else (s.updTrk fun t => { t with accepted := t.accepted.filter fun i => !p i }).lanesWithdrawn gone

/-- R148: what a tap command makes of a tap: the wanted value and the result code (0 applied, 1 at range limit, 3 hold). -/
def tapStep (cmd v lo hi : Nat) : Nat × Nat :=
  if cmd = 1 then (if v < hi then (v + 1, 0) else (v, 1))
  else if cmd = 2 then (if lo < v then (v - 1, 0) else (v, 1))
  else (v, 3)

/-- The presets of R147. -/
def presetTaps (k : Nat) : Taps := ([⟨0, 40, 0⟩, ⟨0, 34, 6⟩, ⟨2, 30, 8⟩, ⟨4, 26, 10⟩] : List Taps).getD k ⟨0, 34, 6⟩

/-- R148: the taps and result byte that a TAP_REQUEST gives, none where it is refused. -/
def tapAnswer (t : Taps) (command preset : Nat) : Option (Taps × Nat) :=
  let cmds := (command % 4, command / 4 % 4, command / 16 % 4)
  let hold := fun (c : Nat) => c = 0 || c = 3
  let allHold := hold cmds.1 && hold cmds.2.1 && hold cmds.2.2
  if preset ≠ 0xFF then (if preset < 4 && allHold then some (presetTaps preset, 0) else none)
  else
    let a := tapStep cmds.1 t.pre 0 8
    let b := tapStep cmds.2.1 t.main 16 40
    let c := tapStep cmds.2.2 t.post 0 16
    let u : Taps := ⟨a.1, b.1, c.1⟩
    if u.legal then some (u, a.2 + 4 * b.2 + 16 * c.2)
    else
      let r := fun (x : Nat × Nat) => if x.2 = 0 then 2 else x.2
      some (t, r a + 4 * r b + 16 * r c)

/-- R145: answer the partner on a transmit lane, and remember the request as the last one acted on. -/
def State.answerPartner (s : State) (type tag lane answer : Nat) (p : Bytes) : State :=
  (s.updTrk fun t => { t with answered := some (type, tag, lane, answer, p) }).sendMessage (.trunk lane) answer tag p

/-- R152: a transmit lane's state follows its training. -/
def State.txLaneGo (s : State) (i st : Nat) : State := if s.trkState = trkDown then s else s.laneGo (.trunk i) st

/-- R148, R339: act on a TAP_REQUEST for transmit lane i. -/
def tapAct (i tag command preset : Nat) (s : State) : State :=
  let l : Lane := .trunk i
  match tapAnswer (Taps.ofNat (s.laneNat l oTaps)) command preset with
  | none => ((s.answerPartner 1 tag i 0xFF [1]).txLaneGo i lnTrain).withdrawLanes (· = i)
  | some (t, r) =>
    let s := s.setLane l oTaps (t.pre * 65536 + t.main * 256 + t.post)
    let s := s.answerPartner 1 tag i 0x81 [byteOf r, byteOf t.pre, byteOf t.main, byteOf t.post, byteOf i]
    if preset = 0xFF && r = 0x3F then
      let s := s.updTrk fun t => { t with accepted := if t.accepted.contains i then t.accepted else t.accepted ++ [i] }
      (s.txLaneGo i lnActive).noteWiden.noteL
    else (s.txLaneGo i lnTrain).withdrawLanes (· = i)

/-- R145: a request of the partner: one repeated is answered again, a TYPE that the device does not support, or a lane that is not
present, is refused on TRK_TX0. -/
def partnerRequest (type tag : Nat) (p : Bytes) (s : State) : State :=
  match s.trk.answered with
  | some (t, g, lane, answer, b) =>
    if t = type ∧ g = tag then s.sendMessage (.trunk lane) answer tag b else act s
  | none => act s
where
  /-- Act on a new request. -/
  act (s : State) : State :=
    if type = 1 ∧ p.length = 3 ∧ beAt p 2 1 < s.part.txLanes then tapAct (beAt p 2 1) tag (beAt p 0 1) (beAt p 1 1) s
    else s.answerPartner type tag 0 0xFF [byteOf type]

/-- Characters received on TRK_RX0, and what a change of that lane does to the trunk (R340). -/
def onRx0 (f : State → State) (s : State) : State := (f s).trkFollow (s.laneState (.trunk 8))

/-- TAP_REQUEST (R145, R148, R151, R339): a request from the trunk partner, on TRK_RX0. -/
def tapRequest (x : Line) (s : State) : State :=
  onRx0 (fun s => s.takeMessage (.trunk 8) x fun t tag p s => if t < 128 ∧ t ≠ 8 then partnerRequest t tag p s else s) s

def execTapRequest (line : Line) (s : State) : Res := onUnit (s.part.has .trunkLane 8) (tapRequest line s)

/-- R339: LINK_RESET withdraws every lane. -/
def linkReset (s : State) : State :=
  ((List.range s.part.txLanes).foldl (fun s i => s.txLaneGo i lnDetect) s).withdrawLanes fun _ => true

/-- LINK_RESET (R339): from the trunk partner, on TRK_RX0. -/
def execLinkReset (line : Line) (s : State) : Res :=
  onUnit (s.part.has .trunkLane 8) (onRx0 (fun s => s.onMessage (.trunk 8) line 8 fun _ _ s => linkReset s) s)

/-- TRK_TRAINING_DECISION (R340). -/
def trkTrainingDecision (s : State) : State :=
  let all := (List.range s.part.txLanes).all fun i => s.trk.accepted.contains i
  s.whenever (s.trkState = trkTraining && s.trk.lowering.isNone && s.trk.groups.isNone && (all || secCycles 1 ≤ s.since s.trk.entered)) fun s =>
    let rate := s.nat Key.trkRateActive
    if 2 ≤ s.trkL && s.laneUp (.trunk 8) then (if s.trk.credit then s.noteWiden.trkGo trkUp else s)
    else if s.nat Key.trkMinRate < rate then
      (s.laneRequest (.trunk 8) 7 [byteOf (rate - 1)]).updTrk fun t => { t with lowering := some (rate - 1) }
    else s.trkToDown true

def execTrkTrainingDecision (s : State) : Res := .next (trkTrainingDecision s)

/-- R340: RATE_ACK for the lower rate: every lane restarts at DETECT. -/
def State.trkLowered (s : State) (c : Nat) : State :=
  let restart := fun (s : State) (i : Nat) =>
    ((s.setLane (.trunk i) oRateActive c).updLane (.trunk i) fun x => { x with rated := true, req := none }).laneGo (.trunk i) lnDetect
  let s := ((s.setObj Key.trkRateActive c).trkSetL 0).updTrk fun t => { t with accepted := [], groups := none, training := [] }
  let s := (s.txRate c).txLanesGo fun _ => lnDetect
  let s := restart s 8
  let s := if s.laneState (.trunk 9) = lnSeek then s else restart s 9
  s.trkGo trkTraining

/-- TRK_WIDEN_HOLD (R340). -/
def trkWidenHold (s : State) : State :=
  match s.trk.widenSince with
  | some t => s.whenever (s.trkState = trkUp && msCycles (s.nat Key.trkWidenHold) ≤ s.since t) fun s => s.trkResize
  | none => s

def execTrkWidenHold (s : State) : Res := .next (trkWidenHold s)

/-- TRK_LANE_COUNT_CHANGE (R339, R340): a run of 8 idle groups has ended, and the new L takes effect. -/
def trkLaneCountChange (s : State) : State :=
  s.whenever (s.trk.groups == some 8) fun s =>
    let s := ((s.trkSetL s.acceptedL).updTrk fun t => { t with groups := none }).noteWiden
    if s.trkState = trkResizing then s.trkGo trkUp else s

def execTrkLaneCountChange (s : State) : Res := .next (trkLaneCountChange s)

/-! Reception (R333 to R335, R338). -/

/-- R335: the columns that lines of the return lanes give, none where they cannot be deskewed. -/
def columnsOf (lines : List Line) : Option (List (List Rx)) :=
  (deskew (lines.map fun x => rxAll x.positive x.codes)).map fun l => unstripe ((lines.map (·.codes.length)).foldl max 0) l

/-- R335: does TRK_RX1 carry its K28.5 in lane 0's column of the first idle group? -/
def besideRx0 (lines : List Line) : Bool :=
  match columnsOf lines with
  | some (c :: _) => c.length = 2 && c.all (·.isK k285)
  | _ => false

/-- RETURN_WIDTH_DETECTED (R335): an idle group on TRK_RX0 that has its K28.5 on TRK_RX1 as well, or not. -/
def returnWidthDetected (lines : List Line) (s : State) : State :=
  s.whenever ((s.lane (.trunk 8)).aligned && lines.any fun x => (rxAll x.positive x.codes).any (·.isK k285)) fun s =>
    s.setObj Key.trkReturnLanes (if besideRx0 lines then 2 else 1 : Nat)

def execReturnWidthDetected (lines : List Line) (s : State) : Res :=
  onUnit (s.part.has .trunkLane 8) (returnWidthDetected lines s)

/-- R335: a K28.5 of TRK_RX1 outside its group's column counts as a violation there (R134). -/
def State.countSkew (s : State) (lines : List Line) : State :=
  match columnsOf lines with
  | none => s.bump (laneKey oCodeErrors (.trunk 9))
  | some cols =>
    let n := offColumn 1 cols
    if n = 0 then s
    else
      let r := (s.lane (.trunk 9)).recent ++ List.replicate n true
      (s.addTo (laneKey oCodeErrors (.trunk 9)) 32 n).updLane (.trunk 9) fun x => { x with
        recent := r.drop (r.length - 63), slip := x.slip || slips r.length r }

/-- R338: the TYPEs that the partner sends and the device knows (log 14). -/
def knownType (t : Nat) : Bool := t = 0x11 || t = 0x12 || t = 0x13

/-- R324, R325, R338: TYPE and payload of the packet in columns received: `error` with its TYPE, or 0xFF, where it is errored. -/
def packetIn (cols : List (List Rx)) : Except Nat (Nat × Bytes) :=
  let l := packetOf (cols.length + 1) cols
  let b := l.map Rx.byte
  let kind := ((b.head?.bind id).map BitVec.toNat).getD 0xFF
  if l.any (·.bad) || !b.all Option.isSome then .error kind
  else
    let b := b.filterMap id
    let n := 4 + beAt b 2 2
    if crcHolds n b && knownType kind then .ok (kind, slice b 4 (beAt b 2 2)) else .error kind

/-- R338: a packet is counted and discarded. -/
def State.trunkErrored (s : State) (kind : Nat) : State :=
  (s.bump Key.trkRxErrored).raiseLimited 0x7104 1 0 "MX.TRK" [byteOf kind]

/-- Take a packet from the partner, on the return lanes in use. -/
def State.takePacket (s : State) (lines : List Line) (f : Nat → Bytes → State → State) : State :=
  match columnsOf lines with
  | none => s.trunkErrored 0xFF
  | some cols => match packetIn cols with
    | .error k => s.trunkErrored k
    | .ok (t, p) => f t p (s.startSeen (.trunk 8))

/-- R335, R338, R340: what the partner's characters on the return lanes do, with the packet in them. -/
def State.onTrunk (s : State) (lines : List Line) (f : Nat → Bytes → State → State) : State :=
  s.whenever (s.laneUp (.trunk 8)) fun s =>
    onRx0 (fun s => match lines with
      | [a] => s.onLine (.trunk 8) a fun s => s.takePacket [a] f
      | [a, b] =>
        if s.nat Key.trkReturnLanes = 2 then
          s.onLine (.trunk 8) a fun s => s.onLine (.trunk 9) b fun s => (s.countSkew [a, b]).takePacket [a, b] f
        else s.onLine (.trunk 8) a fun s => s.takePacket [a] f
      | _ => s) s

/-- Take a packet of one TYPE, counted; another is no such event. -/
def State.onTrunkType (s : State) (lines : List Line) (type : Nat) (f : Bytes → State → State) : State :=
  s.onTrunk lines fun t p s => if t = type then f p (s.addTo Key.trkRxPackets 64 1) else s

/-- TRK_ENABLE is written (R340). -/
def trkEnableWrite (value : Nat) (s : State) : State :=
  let was := s.flag Key.trkEnable
  let s := s.setObj Key.trkEnable value
  if value = 0 then s.trkToDown true
  else if was then s
  else (s.attemptsResume (.trunk 8)).attemptsResume (.trunk 9)

/-! Credit (R336). -/

def creditCost (chars : Nat) : Nat := ceilDiv chars 64

/-- R336: does LIMIT allow a packet of this cost? -/
def State.creditFor (s : State) (cost : Nat) : Bool := atOrAfter32 s.trk.limit (s.trk.units + cost)

/-- R336: a credit packet; one with a lower LIMIT than the last is ignored. -/
def State.takeCredit (s : State) (limit buffer : Nat) : State :=
  s.whenever (s.trkState ≠ trkDown && atOrAfter32 limit s.trk.limit) fun s =>
    (s.setObj Key.trkPartnerBuffer buffer).updTrk fun t => { t with credit := true, limit := limit }

/-- CREDIT_PACKET (R325, R336). -/
def creditPacket (lines : List Line) (s : State) : State :=
  s.onTrunkType lines 0x13 fun p s => s.takeCredit (beAt p 0 4) (beAt p 4 4)

def execCreditPacket (lines : List Line) (s : State) : Res := onUnit (s.part.has .trunkLane 8) (creditPacket lines s)

/-- TRK_CREDIT_TIMEOUT (R336): once per wait. -/
def trkCreditTimeout (s : State) : State :=
  match s.trk.waitSince with
  | none => s
  | some t =>
    s.whenever (!s.trk.stalled && usCycles (s.nat Key.trkCreditTimeout) ≤ s.since t) fun s =>
      ((s.bump Key.trkCreditStalls).updTrk fun t => { t with stalled := true }).raise 0x7103 1 "MX.TRK"
        (leBytes 4 s.trk.limit ++ leBytes 4 s.trk.units)

def execTrkCreditTimeout (s : State) : Res := .next (trkCreditTimeout s)

/-! Beacons (R101 to R103). -/

/-- TIME_BEACON_SEND (R101, R337): at each whole millisecond; one still waiting is replaced. -/
def timeBeaconSend (s : State) : State :=
  let ms := s.now / msUnits
  s.whenever (s.tb.beaconMs ≠ some ms) fun s => s.withTb fun b => { b with beaconMs := some ms, beaconQueued := true }

def execTimeBeaconSend (s : State) : Res := .next (timeBeaconSend s)

/-- R324: a transport packet with its short header. -/
def shortPacket (type : Nat) (payload : Bytes) : Bytes := withCrc ([byteOf type, 0] ++ beBytes 2 payload.length ++ payload)

/-- R101: the beacon leaves lane 0 now. -/
def State.sendBeacon (s : State) : State :=
  let t1 := s.instant
  let q := s.tb.beaconNext
  let e := match s.tb.beaconLast with
    | some (b, a) => beBytes 4 b ++ beBytes 8 (t1.t - s.inEpoch a).toNat
    | none => beBytes 4 0xFFFFFFFF ++ beBytes 8 0
  let payload := beBytes 2 t1.epoch ++ beBytes 12 (toTime96 s.now) ++ [byteOf s.tbState, 0] ++ beBytes 4 q ++ e
  (s.withTb fun b => { b with
    beaconQueued := false, beaconNext := (q + 1) % 2 ^ 32, beaconsSent := (q, t1) :: b.beaconsSent }).sendPacket
      ((shortPacket 0x11 payload).map Chr.d)

/-- R102, R103: a beacon from the partner. `t1`: its transmit time, units of 2^-16 ns. -/
def State.takeBeacon (s : State) (t1 bseq echoSeq turn : Nat) : State :=
    let t4 := s.instant
    let s := s.withTb fun b => { b with beaconLast := some (bseq, t4), beaconAt := s.cycles }
    match s.tb.beaconsSent.find? fun e => e.1 = echoSeq with
    | none => s.setFlag Key.tbBeaconValid false
    | some (_, own) =>
      let delay := rshift (t4.t - s.inEpoch own - turn) 1 + tenthsToUnits (s.obj Key.tbBeaconTrim)
      let offset := t4.t - (t1 + delay)
      let s := (s.setFlag Key.tbBeaconValid true).setObj Key.tbBeaconDelay delay
      if s.tbSource = 3 then s.measure offset (msCycles 1) else s

/-- TIME_BEACON_RECEIVE (R101 to R103): the 32 bytes of a beacon. Its epoch and TB_STATE decide nothing. -/
def timeBeaconReceive (lines : List Line) (s : State) : State :=
  s.onTrunkType lines 0x11 fun p s =>
    s.takeBeacon (ofTime96 (beAt p 2 12)) (beAt p 16 4) (beAt p 20 4) (beAt p 24 8)

def execTimeBeaconReceive (lines : List Line) (s : State) : Res :=
  onUnit (s.part.has .trunkLane 8) (timeBeaconReceive lines s)

/-! Packet boundaries (R337). -/

/-- R337: has the tunnel stayed within TRK_TUNNEL_RATE over the last 1 ms, this frame included? -/
def State.tunnelMay (s : State) (b : Bytes) : Bool :=
  let recent := s.trk.tunnelSent.filter fun e => s.since e.1 < msCycles 1
  (recent.map (·.2)).foldl (· + ·) 0 + 8 * b.length ≤ s.nat Key.trkTunnelRate

/-- R336: a packet of these characters leaves where LIMIT allows it, `taken` from its queue; else it waits for credit, and the trunk
sends idle. -/
def State.startPacket (s : State) (chars : List Chr) (taken : State → State) : State :=
  let cost := creditCost chars.length
  if s.creditFor cost then
    let s := (taken s).updTrk fun t => { t with waitSince := none, stalled := false, units := (t.units + cost) % 2 ^ 32 }
    (s.addTo Key.trkPacketsSent 64 1).sendPacket chars
  else (s.updTrk fun t => { t with waitSince := some (t.waitSince.getD s.cycles) }).sendIdleGroup

/-- R337: the next media packet of the output queue, or idle. -/
def State.sendMedia (s : State) : State :=
  match s.mrg.trunk with
  | [] => (s.updTrk fun t => { t with waitSince := none, stalled := false }).sendIdleGroup
  | p :: r => s.startPacket p.chars fun s => { s with mrg := { s.mrg with trunk := r } }

/-- R337: a management tunnel packet leaves. -/
def State.sendTunnel (s : State) (b : Bytes) (r : List Bytes) : State :=
  s.startPacket ((shortPacket 0x12 b).map Chr.d) fun s => s.updTrk fun t => { t with
    tunnel := r, tunnelSent := (s.cycles, 8 * b.length) :: t.tunnelSent.filter fun e => s.since e.1 < msCycles 1 }

/-- R337: what the trunk sends while it is UP, after the training messages. -/
def State.sendNext (s : State) : State :=
  if s.tb.beaconQueued then s.sendBeacon.addTo Key.trkPacketsSent 64 1
  else match s.trk.tunnel with
    | [] => s.sendMedia
    | b :: r => if s.tunnelMay b then s.sendTunnel b r else s.sendMedia

/-- R339: the run of 8 idle groups. -/
def State.sendRun (s : State) : State :=
  ((List.range 8).foldl (fun s _ => s.sendIdleGroup) s).updTrk fun t => { t with groups := some 8 }

/-- TRK_PACKET_BOUNDARY (R337, R339): the instant at which an idle group has ended. -/
def trkPacketBoundary (s : State) : State :=
  let s := s.updTrk fun t => { t with inFlight := none }
  s.whenever (s.trkState ≠ trkDown) fun s =>
    match s.trk.training with
    | (i, m) :: r => (s.updTrk fun t => { t with training := r }).sendTraining i m
    | [] =>
      if s.trk.groups == some 0 then s.sendRun
      else
        let s := trkLaneCountChange s
        s.whenever (s.trkState = trkUp && 2 ≤ s.trkL) State.sendNext

def execTrkPacketBoundary (s : State) : Res := .next (trkPacketBoundary s)

/-- R337: a frame, with its FCS, from the tunnel. -/
def State.takeTunnel (s : State) (frame : Bytes) : State :=
    if !s.part.hasNx then s.bump Key.trkTunnelDiscards
    else
      let lost := fun (s : State) => (s.bump Key.trkTunnelDiscards).raise 0x7105 1 "MX.TRK" [1]
      if !s.nxUp 5 then lost s
      else if beAt frame 0 6 = s.nat Key.dapMgmtMac then s.send (.toEm 5 frame)
      else
        let b := frame.take (frame.length - 4)
        let tagged := b.take 12 ++ beBytes 2 0x8100 ++ beBytes 2 (s.atReset Key.dapMgmtVlan) ++ b.drop 12
        let r := s.nxForward 5 (if beAt b 12 2 = 0x8100 then b else tagged)
        if r.2 then r.1 else lost r.1

/-- TUNNEL_PACKET_RECEIVE (R325, R337). -/
def tunnelPacketReceive (lines : List Line) (s : State) : State :=
  s.onTrunkType lines 0x12 fun p s => s.takeTunnel p

def execTunnelPacketReceive (lines : List Line) (s : State) : Res :=
  onUnit (s.part.has .trunkLane 8) (tunnelPacketReceive lines s)

/-- TRK_PACKET_ERRORED (R338): a packet that is errored; another is no such event. -/
def trkPacketErrored (lines : List Line) (s : State) : State := s.onTrunk lines fun _ _ s => s

def execTrkPacketErrored (lines : List Line) (s : State) : Res := onUnit (s.part.has .trunkLane 8) (trkPacketErrored lines s)

end Sys2Proof.Machine
end

