-- ==== Sys2Proof/Machine/Bells.lean ====
section
/-! DEFINITION. Chapter 04: the timetable, arming, bell units, the actions of firings, BELL pins, camera triggers, commits
launched by time, and what a re-epoch does to them (R108 to R130, R515); with it the command REEPOCH (R87). -/
namespace Sys2Proof.Machine

/-! Entries (R108 to R111). -/

/-- R108: a timetable entry. -/
structure TtEntry where
  epoch : Nat
  start : Nat
  period : Nat
  repeat_ : Nat
  action : Nat
  flags : Nat
  target : Nat
  arg : Nat
  width : Nat
  trim : Int
  deriving DecidableEq, Repr

def ttBytes (table : Bytes) (n : Nat) : Bytes := slice table (48 * n) 48

def ttEntry (table : Bytes) (n : Nat) : TtEntry :=
  let b := ttBytes table n
  ⟨leAt b 0 2, leAt b 2 12, leAt b 14 8, leAt b 22 4, leAt b 26 1, leAt b 27 1, leAt b 28 2, leAt b 30 4, leAt b 34 4,
    toSigned 8 (leAt b 38 1)⟩

def State.ttEntry (s : State) (n : Nat) : TtEntry := Sys2Proof.Machine.ttEntry (s.dom Key.ttTable) n

def TtEntry.enabled (e : TtEntry) : Bool := e.flags.testBit 0
def TtEntry.midpoint (e : TtEntry) : Bool := e.flags.testBit 1
def TtEntry.cancels (e : TtEntry) : Bool := e.flags.testBit 2

/-- R109: number of grid points, none without end. -/
def TtEntry.points (e : TtEntry) : Option Nat :=
  if e.period = 0 then some 1 else if e.repeat_ = 0 then none else some e.repeat_

/-- R109: is k below the number of points? -/
def TtEntry.hasPoint (e : TtEntry) (k : Nat) : Bool :=
  match e.points with
  | some n => k < n
  | none => true

/-- R109: time of grid point k. -/
def TtEntry.pointAt (e : TtEntry) (k : Nat) : Int := (ofTime96 e.start : Nat) + (k * e.period : Nat)

/-- R110: is the unit a commit of the scope may name (R61)? -/
def Part.hasTarget (p : Part) (scope unit : Nat) : Bool :=
  if scope = 0x40 then p.has .port unit else if scope = 0x50 then p.has .pipe unit
  else if scope = 0x60 then p.has .stream unit else false

/-- R110, R373: are TARGET and ARG within the ranges of the action? -/
def TtEntry.targetValid (p : Part) (e : TtEntry) : Bool :=
  match e.action with
  | 0 => true
  | 1 => e.target < 16 && e.arg = 0
  | 2 => e.target < p.ports && e.arg = 0
  | 3 => p.hasTarget e.arg e.target
  | 4 => p.has .dmaChannel e.target && !ownedByDevice (e.target % 64) && e.arg = 0
  | 5 => p.has .pipe e.target && e.arg = 0
  | 6 => e.target < 1024
  | 7 => e.target = 0
  | _ => false

/-- R108, R111: is every field of an entry within its range? -/
def ttValid (p : Part) (table : Bytes) (n : Nat) : Bool :=
  let e := Sys2Proof.Machine.ttEntry table n
  let pulse := e.action = 1
  time96Valid e.start && (e.period = 0 || (65536000 ≤ e.period && e.period ≤ 5662310400000000000)) &&
    (!e.midpoint || e.action = 2) && e.targetValid p &&
    (if pulse then 8 ≤ e.width && e.width ≤ 1000000000 else e.width = 0 && e.trim = 0) &&
    (!pulse || e.period = 0 || nsUnits e.width < e.period)

/-- R111: the lowest changed, enabled entry that is outside its range. -/
def State.ttRefused (s : State) (new : Bytes) : Option Nat :=
  let old := s.dom Key.ttTable
  (List.range 4096).find? fun n =>
    ttBytes new n != ttBytes old n && (Sys2Proof.Machine.ttEntry new n).enabled && !ttValid s.part new n

/-! Exposure prediction and leads (R120, R121, R270). -/

/-- R270: the exposure time of BELL_MIDPOINT_EXPOSURE where the model gives none, ns. -/
def State.setExposure (s : State) (port x : Nat) : Nat :=
  let t := s.nat (Key.expSetTime port)
  let m := s.dom (Key.expMap port)
  if m.isEmpty then (if x = 0 then t else divHalf (t * 256) (s.mergeRatio port x))
  else
    let c0 := divHalf (t * 1000) (mapUnit m)
    countTime (mapUnit m) (if x = 0 then c0 else divHalf (c0 * 256) (s.mergeRatio port x))

/-- R270: the exposure predicted for the frame that a trigger starts, ns. -/
def State.predictExposure (s : State) (port : Nat) : Nat :=
  let x := s.nat (Key.bellMidpointExposure port)
  let n := (s.nat (Key.capNextFrame port) + (s.port port).triggers.length) % 2 ^ 32
  match s.modelGen port n with
  | some g => g.times.getD x (s.setExposure port x)
  | none => s.setExposure port x

/-- R120: BELL_CAM_DELAY in units of 2^-16 ns. -/
def State.camDelay (s : State) (port : Nat) : Int := tenthsToUnits (s.obj (Key.bellCamDelay port))

/-- R120: the lead of an entry's action instant before its grid point. -/
def State.leadOf (s : State) (e : TtEntry) : Int :=
  if e.action ≠ 2 then 0
  else if e.midpoint then
    s.camDelay e.target + tenthsToUnits (s.live (Key.capTriggerLatency e.target)) +
      rshift (s.predictExposure e.target * 65536 : Nat) 1
  else s.camDelay e.target

def tenMicro : Int := (usUnits 10 : Nat)

/-- BELL_TRIGGER_MAX_LEAD. -/
def State.maxLead (s : State) : Int := (usUnits (s.nat Key.bellTriggerMaxLead) : Nat)

/-! Arming (R113, R114). -/

def State.run (s : State) (n : Nat) : Option Run := mapGet n s.bells.runs
def State.setRun (s : State) (n : Nat) (r : Run) : State := { s with bells := { s.bells with runs := mapSet n r s.bells.runs } }
def State.dropRun (s : State) (n : Nat) : State := { s with bells := { s.bells with runs := mapDel n s.bells.runs } }
def State.updRun (s : State) (n : Nat) (f : Run → Run) : State :=
  match s.run n with
  | some r => s.setRun n (f r)
  | none => s

def runArmed : Nat := 1
def runLoaded : Nat := 2
def runDone : Nat := 3
def runStale : Nat := 4
def runCancelled : Nat := 5

/-- R113: the first grid point from `from_` on whose action instant lies at least 10 µs ahead. A midpoint trigger whose sampling
instant is still to come has its action instant after it (R121). -/
def State.firstPoint (s : State) (e : TtEntry) (from_ : Nat) : Nat :=
  let near : Int := (s.now : Int) + tenMicro + s.leadOf e
  let bound := if e.midpoint then min near ((s.now : Int) + s.maxLead + 1) else near
  if e.period = 0 then (if e.pointAt 0 < bound then max from_ 1 else from_)
  else max from_ ((bound - e.pointAt 0 + (e.period : Int) - 1) / (e.period : Int)).toNat

/-- R109: the first point from k on that was not skipped already; the first argument bounds the points that were. -/
def passOver : Nat → List Nat → Nat → Nat
  | 0, _, k => k
  | n + 1, l, k => if l.contains k then passOver n l (k + 1) else k

def Run.pass (r : Run) (k : Nat) : Nat := passOver r.passed.length r.passed k

/-- R109: points from one up to another that were not counted as skipped yet. -/
def Run.unskipped (r : Run) (from_ k : Nat) : Nat := (k - from_) - (r.passed.filter fun x => from_ ≤ x && x < k).length

/-- R113: arm an entry on its grid in the present epoch, from a grid point on, keeping its counters. -/
def State.armHere (s : State) (n from_ : Nat) (r : Run) : State :=
  let e := s.ttEntry n
  let k := r.pass (s.firstPoint e from_)
  let r := { r with grid := s.epoch, armed := s.instant }
  if e.hasPoint k then s.setRun n { r with state := runArmed, next := k, skipped := satAdd 32 r.skipped (r.unskipped from_ k) }
  else
    let k := e.points.getD k
    (s.setRun n { r with state := runStale, next := k, skipped := satAdd 32 r.skipped (r.unskipped from_ k) }).raise 0x2401 1
      "AX.TT" (leBytes 2 n ++ leBytes 4 (r.unskipped from_ k))

def freshRun (epoch : Nat) : Run := ⟨runArmed, epoch, ⟨epoch, 0⟩, 0, 0, 0, [], [], 0⟩

/-- R125: cancel an entry. -/
def State.cancelRun (s : State) (n old : Nat) (r : Run) : State :=
  (s.setRun n { r with state := runCancelled }).raise 0x2402 1 "AX.TT" (leBytes 2 n ++ leBytes 2 old)

/-- R112 to R114: arm an entry afresh. -/
def State.arm (s : State) (n : Nat) : State :=
  let e := s.ttEntry n
  if !e.enabled || e.action = 0 then s.dropRun n
  else if s.epoch < e.epoch then s.setRun n (freshRun e.epoch)
  else if e.epoch < s.epoch && e.cancels then s.cancelRun n e.epoch (freshRun s.epoch)
  else s.armHere n 0 (freshRun s.epoch)

/-- The entries that are enabled and not inert. -/
def State.ttActive (s : State) : List Nat :=
  (List.range 4096).filter fun n => (s.ttEntry n).enabled && (s.ttEntry n).action ≠ 0

/-- R127: after a boot every enabled entry is armed afresh. -/
def State.armAll (s : State) : State := s.ttActive.foldl State.arm { s with bells := {} }

/-! Bell units (R115). -/

def State.unitsOf (s : State) (n : Nat) : List BellUnit := s.bells.units.filter (·.entry = n)

/-- The run's state follows its units and its next point. -/
def State.settleRun (s : State) (n : Nat) : State :=
  s.updRun n fun r =>
    if r.state ≠ runArmed ∧ r.state ≠ runLoaded then r
    else if !(s.unitsOf n).isEmpty then { r with state := runLoaded }
    else if (s.ttEntry n).hasPoint r.next then { r with state := runArmed, passed := [] }
    else { r with state := runDone, passed := [] }

def State.freeUnit (s : State) (u : BellUnit) : State := { s with bells := { s.bells with units := s.bells.units.erase u } }

/-- R112: withdraw an entry from its units, its markers from the release queue. -/
def State.withdrawUnits (s : State) (n : Nat) (e : TtEntry) : State :=
  (s.unitsOf n).foldl (fun s u =>
    let s := s.freeUnit u
    if e.action = 6 then s.withdrawMarker e.target n u.act else s) s

/-- R111, R112: TT_TABLE is written. -/
def State.ttWrite (s : State) (new : Bytes) : State :=
  let old := s.dom Key.ttTable
  let changed := (List.range 4096).filter fun n => ttBytes new n != ttBytes old n
  let s := changed.foldl (fun s n => s.withdrawUnits n (Sys2Proof.Machine.ttEntry old n)) s
  changed.foldl State.arm (s.setDom Key.ttTable new)

/-- A firing that may be loaded: load deadline, action instant, entry, and its place in a unit. -/
structure Firing where
  deadline : Int
  act : Int
  unit : BellUnit
  deriving DecidableEq, Repr

/-- R121: sampling instant of a grid point. -/
def State.samplingAt (s : State) (point : Int) (armed : Instant) : Int := max (point - s.maxLead) (s.inEpoch armed)

/-- R115: the next firing of a run. -/
def State.nextFiring (s : State) (n : Nat) (r : Run) : Option Firing :=
  let e := s.ttEntry n
  if r.grid ≠ s.epoch ∨ (r.state ≠ runArmed ∧ r.state ≠ runLoaded) ∨ !e.hasPoint r.next then none
  else
    let p := e.pointAt r.next
    let act := p - s.leadOf e
    let deadline := if e.midpoint then s.samplingAt p r.armed else act - tenMicro
    some ⟨deadline, act, ⟨n, r.next, ⟨s.epoch, p⟩, ⟨s.epoch, deadline⟩, ⟨s.epoch, act⟩, !e.midpoint, none⟩⟩

/-- R268: the send of a port's waiting change, for the first write slot at least 10 µs after it began to wait. -/
def State.nextSend (s : State) (port : Nat) : Option Firing :=
  match s.waitsSince port, s.writeSlot port with
  | some since, some slot =>
    let t := s.inEpoch slot
    let waited : Int := ((s.since since * 65536 / 3 : Nat) : Int)
    if t ≤ s.now ∨ t - s.now + waited < tenMicro ∨ (s.exp port).starved = some slot ∨ !(s.unitsOf (sendEntry port)).isEmpty
    then none
    else some ⟨t - tenMicro, t, ⟨sendEntry port, 0, slot, slot.plus (-tenMicro), slot, true, none⟩⟩
  | _, _ => none

/-- R115: the load order. -/
def Firing.before (a b : Firing) : Bool :=
  a.deadline < b.deadline || (a.deadline = b.deadline &&
    (a.act < b.act || (a.act = b.act && a.unit.entry < b.unit.entry)))

/-- R115: the firing first in the load order. -/
def State.firstFiring (s : State) : Option Firing :=
  let l := s.bells.runs.filterMap (fun r => s.nextFiring r.1 r.2) ++ (List.range s.part.ports).filterMap s.nextSend
  match l with
  | [] => none
  | f :: r => some (r.foldl (fun a b => if b.before a then b else a) f)

/-- R121: the exposure is read at the sampling instant, and the launch instant follows. -/
def State.sampleUnit (s : State) (u : BellUnit) : State :=
  let e := s.ttEntry u.entry
  let sampling := match s.run u.entry with
    | some r => s.samplingAt (s.inEpoch u.point) r.armed
    | none => s.now
  if u.sampled || (s.now : Int) < sampling then s
  else
    let lead := s.leadOf e
    let act := s.inEpoch u.point - lead
    let late := act < sampling + tenMicro
    let v := { u with
      sampled := true, act := ⟨s.epoch, if late then sampling + tenMicro else act⟩,
      clipped := if late then some lead.toNat else none }
    let s := { s with bells := { s.bells with units := s.bells.units.map fun x => if x = u then v else x } }
    if late then (s.bump (Key.bellCamSkipped e.target)).raise 0x2405 1 "AX.TT" (leBytes 2 u.entry ++ leBytes 8 lead.toNat)
    else s

/-- R121: the midpoint triggers whose sampling instant has come. -/
def State.sampleDue (s : State) : State := (s.bells.units.filter (!·.sampled)).foldl State.sampleUnit s

/-- R115: the first cycle at which the time reaches an instant of the present epoch lies before this one. -/
def State.missed (s : State) (t : Int) : Bool := t * (2 ^ 32 : Nat) + s.obj Key.tbIncrement ≤ (s.time : Int)

/-- BELL_LOAD, R114, R115: load the firing first in the load order, no earlier than 1 ms before its deadline and no later than at it. -/
def bellLoad (s : State) : State :=
  match s.firstFiring with
  | none => s
  | some f =>
    if 256 ≤ s.bells.units.length ∨ (s.now : Int) < f.deadline - (usUnits 1000 : Nat) ∨ s.missed f.deadline then s
    else
      let n := f.unit.entry
      let e := s.ttEntry n
      let s := { s with bells := { s.bells with units := s.bells.units ++ [f.unit] } }
      if 4096 ≤ n then s
      else
        let s := (s.updRun n fun r => { r with next := r.pass (r.next + 1) }).settleRun n
        let s := if e.action = 6 then s.queueMarker e.target e.arg n f.unit.act else s
        s.sampleUnit f.unit

def execBellLoad (s : State) : Res := .next (bellLoad s)

/-- A skipped camera trigger is counted (R129). -/
def State.countSkip (s : State) (e : TtEntry) : State := if e.action = 2 then s.bump (Key.bellCamSkipped e.target) else s

/-- BELL_STARVED, R115: the firing first in the load order is not loaded by its deadline. -/
def bellStarved (s : State) : State :=
  match s.firstFiring with
  | none => s
  | some f =>
    if (s.now : Int) < f.deadline ∨ (s.bells.units.length < 256 ∧ !s.missed f.deadline) then s
    else
      let n := f.unit.entry
      let s := s.bump Key.bellStarvedCount
      if 4096 ≤ n then
        (s.updExp (n - 4096) fun x => { x with starved := some f.unit.act }).raise 0x2403 2 "AX.TT"
          (leBytes 2 0xFFFF ++ leBytes 4 0)
      else
        let s := (s.updRun n fun r => { r with
          next := r.pass (r.next + 1), skipped := satAdd 32 r.skipped 1, passed := r.next :: r.passed }).settleRun n
        (s.countSkip (s.ttEntry n)).raise 0x2403 2 "AX.TT" (leBytes 2 n ++ leBytes 4 f.unit.k)

def execBellStarved (s : State) : Res := .next (bellStarved s)

/-! Firing (R116 to R118, R122, R515). -/

/-- R515: the power domains of a firing's target. -/
def State.firingDomains (s : State) (e : TtEntry) : List Nat :=
  match e.action with
  | 2 => [laneDomain (.camera e.target)]
  | 3 =>
    if e.arg = 0x40 then [laneDomain (.camera e.target)]
    else if e.arg = 0x50 then [pipeDomain e.target]
    else s.streamDomains e.target
  | 4 => let g := e.target / 64
    if g < 8 then [6 * g + 5] else if g = 10 then [57] else [54]
  | 5 => [pipeDomain e.target]
  | 6 => [54]
  | _ => []

/-- R117: the reason for which a firing is skipped at its action instant, 0 = none. -/
def State.skipReason (s : State) (e : TtEntry) : Nat :=
  if (s.firingDomains e).any fun d => !s.domainOn d then 1
  else if e.action = 2 ∧ !s.laneUp (.camera e.target) then 2
  else if e.action = 4 ∧ s.dmaCountsRunning (e.target / 64) (e.target % 64) then 3
  else if e.action = 3 ∧ (s.commitAt e.arg e.target).isSome then 4
  else 0

/-- R118: delay-line setting of a pin. -/
def State.pinTaps (s : State) (pin : Nat) (trim : Int) : Nat :=
  clipN (128 + toSigned 8 (leAt (s.dom Key.calTrims) (12 + pin) 1) + trim) 255

/-- R118: order of inactive edges: cycles of 1000/3 ps and taps of 8 ps. -/
def Pulse.edge (p : Pulse) : Nat := 1000 * p.ends + 24 * p.taps

/-- R468: does procedure 5 drive the pin? -/
def State.calPin (s : State) (pin : Nat) : Bool :=
  match s.cal.running with
  | some (5, t, _) => t = pin
  | _ => false

/-- R116, R118, R468: pulse a pin. -/
def State.pulsePin (s : State) (pin width : Nat) (trim : Int) : State :=
  let mode := s.nat (Key.bellPinMode pin)
  let p : Pulse := ⟨s.cycles + nsCycles width, s.pinTaps pin trim⟩
  if mode = 0 || s.calPin pin then s
  else match mapGet pin s.bells.pulses with
    | some q => { s with bells := { s.bells with pulses := mapSet pin (if q.edge < p.edge then p else q) s.bells.pulses } }
    | none =>
      ({ s with bells := { s.bells with pulses := mapSet pin p s.bells.pulses } }).send (.bellPin pin (mode = 1) p.taps)

/-- R119, R177: launch a camera trigger at an instant. -/
def State.fireTrigger (s : State) (port : Nat) (act : Instant) : State :=
  let s := (s.launchTrigger port act).updPort port fun x => { x with lastTrigger := some s.cycles }
  s.noteTrigger port (act.plus (s.camDelay port))

/-- R128: the timetable's event, which may ask for a wake. -/
def State.fireEvent (s : State) (n arg : Nat) : State :=
  let s := s.raise 0x2407 0 "AX.TT" (leBytes 2 n ++ leBytes 4 arg)
  if arg.testBit 31 && (s.nat Key.pwrWakeMask).testBit 2 && (s.nat Key.pwrState ≠ 0 || s.pwr.entry.isSome) then { s with pwr := { s.pwr with wake := some 2 } } else s

/-- R110: carry out an action. -/
def State.fireAction (s : State) (n : Nat) (e : TtEntry) (act : Instant) : State :=
  match e.action with
  | 1 => s.pulsePin e.target e.width e.trim
  | 2 => s.fireTrigger e.target act
  | 3 => s.launchCommit e.arg e.target act
  | 4 => s.fireStart (e.target / 64) (e.target % 64)
  | 5 => s.snapshot e.target act
  | 7 => s.fireEvent n e.arg
  | _ => s

/-- R116: a second trigger of the same port within one cycle is skipped. -/
def State.doubled (s : State) (e : TtEntry) : Bool := e.action = 2 && (s.port e.target).lastTrigger = some s.cycles

/-- R116, R117: a firing of an entry at its action instant. -/
def State.fire (s : State) (u : BellUnit) : State :=
  let n := u.entry
  let e := s.ttEntry n
  let s := (s.freeUnit u).updRun n fun r => { r with after := max r.after (u.k + 1) }
  let reason := s.skipReason e
  let s :=
    if reason = 0 ∧ !s.doubled e then
      (s.updRun n fun r => { r with fired := satAdd 32 r.fired 1, raised := [] }).fireAction n e u.act
    else
      let told := reason = 0 || (s.run n).any fun r => r.raised.contains reason
      let s := s.updRun n fun r => { r with
        skipped := satAdd 32 r.skipped 1, raised := if told then r.raised else reason :: r.raised }
      let s := s.countSkip e
      let s := if e.action = 6 then s.withdrawMarker e.target n u.act else s
      if told then s else s.raise 0x2404 1 "AX.TT" (leBytes 2 n ++ [byteOf reason] ++ leBytes 2 e.target)
  s.settleRun n

/-- R115, R116: the load order of two loaded firings. -/
def BellUnit.before (a b : BellUnit) : Bool :=
  a.deadline.before b.deadline || (a.deadline = b.deadline &&
    (a.act.before b.act || (a.act = b.act && a.entry < b.entry)))

/-- R116: the loaded timetable firings whose action instant has come. -/
def State.dueUnits (s : State) : List BellUnit := s.bells.units.filter fun u => u.entry < 4096 && u.sampled && s.reached u.act

/-- BELL_FIRE, R116: the first in load order of the loaded firings whose action instant has come. -/
def bellFire (s : State) : State :=
  let s := s.sampleDue
  match s.dueUnits with
  | [] => s
  | u :: r => s.fire (r.foldl (fun a b => if b.before a then b else a) u)

def execBellFire (s : State) : Res := .next (bellFire s)

/-- BELL_PULSE_END, R118. -/
def bellPulseEnd (pin : Nat) (s : State) : State :=
  match mapGet pin s.bells.pulses with
  | none => s
  | some p =>
    if s.cycles < p.ends then s
    else
      let mode := s.nat (Key.bellPinMode pin)
      let s := { s with bells := { s.bells with pulses := mapDel pin s.bells.pulses } }
      if mode = 0 then s else s.send (.bellPin pin (mode = 2) p.taps)

def execBellPulseEnd (pin : Nat) (s : State) : Res := onUnit (pin < 16) (bellPulseEnd pin s)

/-! Time-launched commits (R123, R124, R126). -/

/-- R123, R124: a KIND 2 commit becomes pending in all of its targets. -/
def State.fireCommit (s : State) (c : Commit) : State :=
  let d := { c with waiting := false, timed := true, held := s.sup.dip }
  let s := { s with commits := { s.commits with pending := s.commits.pending.map fun x => if x = c then d else x } }
  if s.sup.dip then (c.targets.map (·.unit)).foldl (fun s u => s.deferAt c.scope u) s else s

/-- COMMIT_UNIT_FIRE, R123: the waiting commit whose T has come. -/
def commitUnitFire (s : State) : State :=
  match s.waitingCommits.filter fun c => s.reached c.at_ with
  | [] => s
  | c :: r => s.fireCommit (r.foldl (fun a b => if b.at_.before a.at_ then b else a) c)

def execCommitUnitFire (s : State) : Res := .next (commitUnitFire s)

/-! What a cycle does before it ends (log 1): no firing is loaded, and none acts, late (R114 to R116, R123). -/

/-- R115: the firings whose deadline falls in this cycle are loaded, or starve where no unit is free. The first argument bounds them. -/
def loadDue : Nat → State → State
  | 0, s => s
  | n + 1, s =>
    match s.firstFiring with
    | none => s
    | some f =>
      if (s.now : Int) < f.deadline then s
      else loadDue n (if s.bells.units.length < 256 && !s.missed f.deadline then bellLoad s else bellStarved s)

/-- R116, R123, R268: what this cycle still has to load, to fire and to send. -/
def State.endCycle (s : State) : State :=
  let s := loadDue (4096 + 48) s
  let s := s.waitingCommits.foldl (fun s _ => commitUnitFire s) s
  let s := s.bells.units.foldl (fun s _ => bellFire s) s
  (List.range s.part.ports).foldl (fun s port => (expWriteSlot port s).dropOwed port) s

/-- Log 1: one time base cycle passes. -/
def State.beat (s : State) : State := s.endCycle.transmitCycle.tick.sampleDue

/-! Across a re-epoch (R125, R126). -/

/-- R125: what becomes of an entry's run. -/
def State.rephase (s : State) (old n : Nat) (r : Run) : State :=
  let e := s.ttEntry n
  if r.grid = s.epoch ∧ r.state = runArmed then s.armHere n 0 r
  else if r.grid ≠ old ∨ (r.state ≠ runArmed ∧ r.state ≠ runLoaded) then s
  else
    let next := r.pass (max r.after (((s.unitsOf n).map (·.k)).foldl min r.next))
    let s := s.withdrawUnits n e
    if !e.hasPoint next then s.settleRun n
    else if e.cancels then s.cancelRun n old { r with next := next }
    else s.armHere n next r

/-- R126: what becomes of a KIND 2 commit that waits for an instant of the ended epoch. -/
def State.rephaseCommit (s : State) (old : Nat) (ts : Int) (c : Commit) : State :=
  if c.at_.epoch ≠ old ∨ c.at_.t < ts then s
  else
    let d := { c with at_ := ⟨s.epoch, max c.at_.t s.now⟩ }
    let late := c.at_.t < s.now
    let s := { s with commits := { s.commits with pending := s.commits.pending.map fun x => if x = c then d else x } }
    if late then (s.fireCommit d).raise 0x2406 1 "AX.TT" (leBytes 2 0xFFFF ++ leBytes 2 c.ticket) else s

/-- REEPOCH, R87, R125, R126. -/
def reepoch (s : State) : State :=
  match s.tb.scheduled with
  | none => s
  | some r =>
    if (s.now : Int) < r.ts then s
    else
      let old := s.epoch
      let s := s.reepochTime r
      let s := s.waitingCommits.foldl (fun s c => s.rephaseCommit old r.ts c) s
      s.bells.runs.foldl (fun s x => s.rephase old x.1 x.2) s

def execReepoch (s : State) : Res := .next (reepoch s)

/-! Query objects (R129). -/

/-- TT_QUERY_STATE. -/
def State.ttState (s : State) (n : Nat) : Nat := ((s.run n).map (·.state)).getD 0

/-- The next grid point: of the firings loaded and the next to load. -/
def State.ttNext (s : State) (n : Nat) : Option Instant :=
  match s.run n with
  | none => none
  | some r =>
    let e := s.ttEntry n
    let k := ((s.unitsOf n).map (·.k)).foldl min r.next
    if e.hasPoint k && (r.state = runArmed || r.state = runLoaded) then some ⟨r.grid, e.pointAt k⟩ else none

/-- TT_ARMED_COUNT. -/
def State.ttArmed (s : State) : Nat := (s.bells.runs.filter fun r => r.2.state = runArmed || r.2.state = runLoaded).length

end Sys2Proof.Machine
end

