-- ==== Sys2Proof/Machine/Pins.lean ====
section
/-! DEFINITION. Chapter 19: the ball map (R489 to R497), the CAN FD bit timing (R506) and the power that a part may draw (R503). -/
namespace Sys2Proof.Machine

/-- R489: the row letters. -/
def rowLetters : List String := ["A", "B", "C", "D", "E", "F", "G", "H", "J", "K", "L", "M", "N", "P", "T", "U", "V", "W", "Y"]

/-- R489: name of the row of an index from 1 to 54. -/
def rowName (r : Nat) : String :=
  let l := fun (i : Nat) => rowLetters.getD i ""
  if r ≤ 19 then l (r - 1) else if r ≤ 38 then "A" ++ l (r - 20) else "B" ++ l (r - 39)

/-- R491: the pair slot of a row of the bands and corners, and whether it is the pair's P ball. -/
def slotOf (r : Nat) : Option (Nat × Bool) :=
  match r with
  | 1 => some (0, true) | 2 => some (0, false) | 4 => some (1, true) | 5 => some (1, false) | 7 => some (2, true) | 8 => some (2, false)
  | 54 => some (0, true) | 53 => some (0, false) | 51 => some (1, true) | 50 => some (1, false) | 48 => some (2, true)
  | 47 => some (2, false)
  | _ => none

/-- The ball of a pair, VSS where the slot holds none. -/
def pairBall (name : Nat → String) (r : Nat) : String :=
  match slotOf r with
  | some (k, p) => if name k = "" then "VSS" else name k ++ (if p then "P" else "N")
  | none => "VSS"

/-- R492: a ball of the camera bands. -/
def cameraBall (r c : Nat) : String :=
  if c % 2 = 0 then "VSS"
  else
    let n := (c - 5) / 2 + (if r ≤ 8 then 0 else 24)
    pairBall (fun k => "CAM" ++ natText n ++ (["_RX", "_BC", "_LB"].getD k "")) r

/-- R493: the pairs of a corner's column, by slot. -/
def cornerPairs (r c : Nat) : List String :=
  let top := r ≤ 8
  match c with
  | 1 => if top then ["TRK_TX0", "TRK_TX1", "TRK_TX2"] else ["ETH0_TX", "ETH0_RX", "ETH1_TX"]
  | 3 => if top then ["TRK_TX3", "TRK_TX4", "TRK_TX5"] else ["ETH1_RX", "REFCLK0", "REFCLK1"]
  | 54 => if top then ["TRK_TX6", "TRK_TX7", "TRK_RX0"] else ["ETH2_TX", "ETH2_RX", "ETH3_TX"]
  | 52 => if top then ["TRK_RX1"] else ["ETH3_RX", "REFCLK2", "REFCLK3"]
  | _ => []

/-- R494: the signals of a subchannel, in order. -/
def subchannelSignals : List String :=
  ["DQ0", "DQ1", "DQ2", "DQ3", "DQ4", "DQ5", "DQ6", "DQ7", "DMI0", "RDQS0_T", "RDQS0_C", "WCK0_T", "WCK0_C"] ++
  ["DQ8", "DQ9", "DQ10", "DQ11", "DQ12", "DQ13", "DQ14", "DQ15", "DMI1", "RDQS1_T", "RDQS1_C", "WCK1_T", "WCK1_C"] ++
  ["CK_T", "CK_C", "CA0", "CA1", "CA2", "CA3", "CA4", "CA5", "CA6", "CS"]

/-- R494, R495: a ball of a memory channel's block: row offset, and place counted from the outer column. -/
def memoryBall (m o p : Nat) : String :=
  let name := fun (x : String) => "MEM" ++ natText m ++ "_" ++ x
  if o < 16 then
    let q := o % 4
    name ((["A", "B", "C", "D"].getD (o / 4) "") ++ "_" ++ subchannelSignals.getD (9 * q + (if q % 2 = 0 then p else 8 - p)) "")
  else if o = 16 ∧ p = 0 then name "RESET_N"
  else if o = 16 ∧ p = 1 then name "ZQ"
  else if (9 * (o - 16) + p) % 2 = 0 then "VSS" else "VDDQ_DDR"

/-- R496: a ball of row J. -/
def controlJ (c : Nat) : String :=
  if 10 ≤ c ∧ c ≤ 25 then "BELL" ++ natText (c - 10)
  else match c with
    | 26 => "CAL_CLK" | 27 => "CAL_PPS" | 29 => "CAL_VREF" | 31 => "TB_OSC" | 33 => "SYSCLK" | 35 => "CAN_TX" | 36 => "CAN_RX"
    | 37 => "PORST_N" | 38 => "WAKE" | 39 => "NOTIFY_N" | 40 => "FAULT_N" | 41 => "BOOT_SEL0" | 42 => "BOOT_SEL1"
    | 43 => "VDD_IO33" | 44 => "VDD_IO18"
    | _ => "VSS"

/-- R496: a ball of row K. -/
def controlK (c : Nat) : String :=
  if 10 ≤ c ∧ c ≤ 16 then "NODE_ID" ++ natText (c - 10)
  else if 21 ≤ c ∧ c ≤ 28 then "XSPI_DQ" ++ natText (c - 21)
  else match c with
    | 18 => "XSPI_CLK" | 20 => "XSPI_DQS" | 29 => "XSPI_CS_N" | 30 => "XSPI_RESET_N" | 32 => "TCK" | 33 => "TMS" | 34 => "TDI"
    | 35 => "TDO" | 36 => "TRST_N" | 37 => "AVS_CLK" | 38 => "AVS_MDATA" | 39 => "AVS_SDATA" | 40 => "VDD_IO18"
    | 41 => "VDD_IO18" | 42 => "VDD_IO33" | 43 => "VDD_IO33"
    | _ => "VSS"

/-- R497: a supply ball outside the control rows and memory blocks. -/
def supplyBall (r c : Nat) : String :=
  if c = 10 ∨ c = 45 then (if r % 2 = 1 then "VDDQ_DDR" else "VSS")
  else if c = 11 ∨ c = 44 then (if r % 2 = 1 then "VDD2H_DDR" else "VSS")
  else if r = 11 ∨ r = 46 then (if c % 2 = 0 then "VDDA_LANE" else "VSS")
  else if r = 12 ∨ r = 45 then (if c % 2 = 0 then "VDDH_LANE" else "VSS")
  else if (r + c) % 2 = 0 then "VSS"
  else if r ≤ 16 ∧ c ≤ 19 then "VDD_AON"
  else if 41 ≤ r then "VDD_SRAM"
  else "VDD_CORE"

/-- R490: what the ball at a row index and column, each from 1 to 54, carries. -/
def ball (r c : Nat) : String :=
  if r ≤ 8 ∨ 47 ≤ r then
    if c ≤ 3 ∨ 52 ≤ c then pairBall (fun k => (cornerPairs r c).getD k "") r else cameraBall r c
  else if c ≤ 9 then memoryBall ((r - 9) / 19) ((r - 9) % 19) (c - 1)
  else if 46 ≤ c then memoryBall (2 + (r - 9) / 19) ((r - 9) % 19) (54 - c)
  else if r = 9 then controlJ c
  else if r = 10 then controlK c
  else supplyBall r c

/-! The CAN FD controller (R506). -/

/-- R506: time quanta of 12.5 ns in a bit. -/
def canQuanta (rate : Nat) : Nat := 80000000 / rate

/-- R506: the quantum of the sample point, at 80% of a nominal bit or 70% of a data-phase bit. -/
def canSample (rate : Nat) (dataPhase : Bool) : Nat := canQuanta rate * (if dataPhase then 70 else 80) / 100

/-- R506: the synchronisation jump width, which is phase segment 2. -/
def canJump (rate : Nat) (dataPhase : Bool) : Nat := canQuanta rate - canSample rate dataPhase

/-- R506: does the controller compensate the transmitter's delay? -/
def canCompensates (rate : Nat) : Bool := 1000000 < rate

/-! Power (R503). -/

/-- R503: a part's maximum, W. -/
def maxWatts (p : Part) : Nat :=
  match p with
  | .p48 => 72
  | .p24 => 40
  | .p12 => 22

/-- R503: the limit that PWR_LIMIT sets on the part, W. -/
def State.powerLimit (s : State) : Nat := min (s.nat Key.pwrLimit) (maxWatts s.part)

end Sys2Proof.Machine
end

