-- ==== Sys2Proof/Machine/Flash.lean ====
section
/-! DEFINITION. The xSPI NOR (R418): images (R419, R421), the persistent store's set (R68 to R70), the trim record (R462 to R465),
and the strings that a boot measures (R423). -/
namespace Sys2Proof.Machine

/-! Images (R418, R419). -/

/-- Size of a loader copy and of a firmware image. -/
def loaderSize : Nat := 1048576
def imageSize : Nat := 12582912

def imageBody (b : Bytes) : Bytes := slice b 16 (leAt b 8 4)

/-- R419: is an image valid? -/
def imageValid (magic size : Nat) (b : Bytes) : Bool :=
  let n := leAt b 8 4
  16 ≤ b.length && leAt b 0 4 = magic && 1 ≤ n && n ≤ size - 16 && 16 + n ≤ b.length && crc32 (slice b 16 n) = leAt b 12 4

/-- Image A (0) or B (1). -/
def Flash.image (f : Flash) (k : Nat) : Bytes := if k = 0 then f.imageA else f.imageB
def Flash.setImage (f : Flash) (k : Nat) (b : Bytes) : Flash := if k = 0 then { f with imageA := b } else { f with imageB := b }

/-- R419, R60: an image whose transfer did not end does not run. -/
def Flash.imageOk (f : Flash) (k : Nat) : Bool := imageValid firmwareMagic imageSize (f.image k) && !f.marred.contains k

/-- R420: the loader copy that the boot ROM runs, none where neither is valid. -/
def Flash.loader (f : Flash) : Option Nat :=
  if imageValid loaderMagic loaderSize f.loader0 then some 0
  else if imageValid loaderMagic loaderSize f.loader1 then some 1 else none

def Flash.bank (f : Flash) (k : Nat) : Option LiveSet := if k = 0 then f.bank0 else f.bank1
def Flash.setBank (f : Flash) (k : Nat) (b : Option LiveSet) : Flash := if k = 0 then { f with bank0 := b } else { f with bank1 := b }

/-! Entries of the dictionary on a part. -/

/-- Key of instance i of a row. -/
def Obj.keyOf (o : Obj) (i : Nat) : Nat :=
  match o.inst with
  | .one => o.idx * 256 + o.sub
  | .txts => (o.idx + i) * 256 + o.sub
  | .dmaEngine => (o.idx + 0x40 * i) * 256 + o.sub
  | .dmaChannel => (o.idx + 0x40 * (i / 64)) * 256 + 1 + i % 64
  | _ => (o.idx + i / 255) * 256 + o.sub + i % 255

/-- Instances of a row that the part has, as row and instance. -/
def Part.instances (p : Part) (o : Obj) : List (Obj × Nat) :=
  ((List.range o.inst.count).filter (p.has o.inst)).map fun i => (o, i)

/-- The rows of a DMA engine's block (R22). -/
def inDma (o : Obj) : Bool := o.inst = .dmaChannel || o.inst = .dmaEngine

/-- Instances of a row of engine e's block. -/
def Part.engineInstances (p : Part) (e : Nat) (o : Obj) : List (Obj × Nat) :=
  if !p.dmaPresent e then []
  else if o.inst = .dmaChannel then (List.range 64).map fun c => (o, 64 * e + c) else [(o, e)]

/-- Every entry present on the part, in ascending index and subindex. -/
def Part.entries (p : Part) : List (Obj × Nat) :=
  (objects.filter fun o => !inDma o && o.idx < 0x7800).flatMap p.instances ++
    (List.range 11).flatMap (fun e => (objects.filter inDma).flatMap (p.engineInstances e)) ++
    (objects.filter fun o => !inDma o && 0x7800 ≤ o.idx).flatMap p.instances

/-! The persistent store (R68). -/

/-- The access type of an entry that the store holds, none of any other. -/
def storedAccess (key : Nat) : Option Access :=
  if isLiveIndex (key / 256) then none
  else match findObj (key / 256) (key % 256) with
    | some (o, _) => if o.stored then some o.acc else none
    | none => none

def isStoredRw (key : Nat) : Bool := storedAccess key == some .rw
def isStoredRws (key : Nat) : Bool := storedAccess key == some .rws

/-- A live copy of a stored RWS entry. -/
def isStoredLive (key : Nat) : Bool := isLiveIndex (key / 256) && isStoredRws (key - 0x80000)

/-- R68: what a save captures: RW entries and the live values of RWS entries, under the shadow's key. -/
def State.storedSet (s : State) : LiveSet :=
  ⟨(mapKeep isStoredLive s.dict).foldl (fun m e => mapSet (e.1 - 0x80000) e.2 m) (mapKeep isStoredRw s.dict),
   (mapKeep isStoredLive s.doms).foldl (fun m e => mapSet (e.1 - 0x80000) e.2 m) (mapKeep isStoredRw s.doms)⟩

/-- R70: RW entries of a set are written at once, RWS values into the shadow sets. -/
def State.loadSet (s : State) (l : LiveSet) : State :=
  let p := fun k => isStoredRw k || isStoredRws k
  { s with
    dict := l.nums.foldl (fun m e => mapSet e.1 e.2 m) (mapKeep (fun k => !p k) s.dict),
    doms := l.doms.foldl (fun m e => mapSet e.1 e.2 m) (mapKeep (fun k => !p k) s.doms) }

/-- R210: every live copy becomes equal to its shadow (at a boot). -/
def State.liveFromShadow (s : State) : State := s.makeLive fun k => (setOf k).isSome

/-! The trim record (R462, R463). -/

/-- R463: is a record of 164 bytes within the ranges? -/
def trimFields (r : Bytes) : Bool :=
  let osc := toSigned 64 (leAt r 4 8)
  leAt r 0 2 = 1 && leAt r 2 2 = 0 && leAt r 158 2 = 0 && osc.natAbs ≤ 200000000000 &&
    ((List.range 48).all fun i => leAt r (44 + i) 1 ≤ 63 && leAt r (92 + i) 1 ≤ 127) &&
    (List.range 9).all fun k => (toSigned 16 (leAt r (140 + 2 * k) 2)).natAbs ≤ 50

def trimCrcOk (r : Bytes) : Bool := r.length = 164 && crc32 (r.take 160) = leAt r 160 4

def trimValid (r : Bytes) : Bool := trimCrcOk r && trimFields r

/-- A record of 160 bytes with its CRC. -/
def sealTrims (r : Bytes) : Bytes := r.take 160 ++ leBytes 4 (crc32 (r.take 160))

/-- R465: the record that a boot loads and CAL_SOURCE. -/
def State.bootTrims (s : State) : Bytes × Nat :=
  if trimValid s.flash.trim0 then (s.flash.trim0, 1)
  else if trimValid s.flash.trim1 then (s.flash.trim1, 1)
  else (factoryTrims s.part.ports, 0)

/-! What a boot measures (R423). -/

/-- R13: an entry's value as the store and the slots hold it. -/
def State.storedValue (s : State) (o : Obj) (key : Nat) : Bytes :=
  if o.ty = .domain then s.dom key else (o.ty.encode (s.obj key)).reverse

/-- Index, subindex, length and value of an entry; `key` is where the value is read. -/
def State.measuredEntry (s : State) (o : Obj) (shadow key : Nat) : Bytes :=
  let v := s.storedValue o key
  leBytes 2 (shadow / 256) ++ [byteOf (shadow % 256)] ++ leBytes 4 v.length ++ v

/-- Entries of slot 4. -/
def inSlot4 (key : Nat) : Bool := key = Key.warpKernel || (Key.warpMesh 0 ≤ key && key ≤ Key.warpMesh 63)

/-- Slot 2: the store's entries as rebuilt. -/
def State.slot2 (s : State) : Bytes :=
  s.part.entries.flatMap fun e =>
    let k := e.1.keyOf e.2
    if !e.1.stored || inSlot4 k then []
    else if e.1.acc = .rw then s.measuredEntry e.1 k k
    else if e.1.acc = .rws then s.measuredEntry e.1 k (liveKey k) else []

def lengthed (b : Bytes) : Bytes := leBytes 4 b.length ++ b

/-- Slot 3: the plan, the keys, then the other RWP entries but ROLE_SECRET. -/
def State.slot3 (s : State) : Bytes :=
  lengthed (s.dom Key.accessPlan) ++ ((List.range 4).flatMap fun r => lengthed (s.dom (Key.rolePubkey r))) ++
    s.part.entries.flatMap fun e =>
      let k := e.1.keyOf e.2
      if e.1.acc = .rwp && e.1.idx / 256 ≠ 0x14 then s.measuredEntry e.1 k k else []

/-- Slot 4: the live meshes, then the live kernel. -/
def State.slot4 (s : State) : Bytes :=
  ((List.range 64).flatMap fun v => lengthed (s.dom (liveKey (Key.warpMesh v)))) ++ lengthed (s.dom (liveKey Key.warpKernel))

/-- R423: a slot extended with a digest. -/
def extendSlot (slot digest : Bytes) : Bytes := sha384 (slot ++ digest)

def State.slot (s : State) (n : Nat) : Bytes := s.prot.slots.getD n (List.replicate 48 0)

def State.setSlot (s : State) (n : Nat) (b : Bytes) : State :=
  { s with prot := { s.prot with slots := s.prot.slots.set n b } }

/-- R423: measure a string into a slot. -/
def State.measureInto (s : State) (n : Nat) (m : Bytes) : State := s.setSlot n (extendSlot (s.slot n) (sha384 m))

end Sys2Proof.Machine
end

