-- ==== Sys2Proof/Machine/LaneRows.lean ====
section
/-! DEFINITION. The meanings of the lane rows of chapter 05: each lane function with what the lane's change of state does to the
unit behind it: frames of a camera port (R191), the trunk (R340), a bridge port (R345). -/
namespace Sys2Proof.Machine

/-- What a change of a lane's state, from `was`, does beyond the lane. -/
def State.laneFollow (s : State) (l : Lane) (was : Nat) : State :=
  let now := s.laneState l
  match l with
  | .camera i =>
    let wasUp := was = lnActive || was = lnDegraded
    if wasUp && !s.laneUp l then s.portLeft i
    else if now = lnSeek && was ≠ lnSeek then s.changeLost i
    else s
  | .trunk i => if i = 8 then s.trkFollow was else s
  | .eth n => if was = lnActive && now ≠ lnActive then s.nxPortDown n else s

/-- A lane function and what follows from it. -/
def onLane (l : Lane) (f : State → State) (s : State) : State := (f s).laneFollow l (s.laneState l)

/-- A row of a receiving Cendo lane: another lane has no such event. -/
def cendoRow (l : Lane) (f : State → State) (s : State) : Res :=
  onUnit (lanePresent s.part l && isCendo l) (onLane l f s)

/-- A row of any receiving lane. -/
def laneRow (l : Lane) (f : State → State) (s : State) : Res :=
  onUnit (lanePresent s.part l && receives l) (onLane l f s)

def execSeekAttempt (lane : Lane) (s : State) : Res := cendoRow lane (seekAttempt lane) s
def execTransitionsDetected (lane : Lane) (density : Nat) (s : State) : Res := cendoRow lane (transitionsDetected lane density) s
def execAttemptTimeout (lane : Lane) (s : State) : Res := cendoRow lane (attemptTimeout lane) s
def execClockRecoveryLock (lane : Lane) (s : State) : Res := cendoRow lane (clockRecoveryLock lane) s
def execDetectTimeout (lane : Lane) (s : State) : Res := cendoRow lane (detectTimeout lane) s
def execSymbolAlignment (lane : Lane) (commas : List Nat) (s : State) : Res := cendoRow lane (symbolAlignment lane commas) s
def execAlignTimeout (lane : Lane) (s : State) : Res := cendoRow lane (alignTimeout lane) s
def execAlignmentLost (lane : Lane) (line : Line) (s : State) : Res := cendoRow lane (alignmentLost lane line) s
def execLossOfSignal (lane : Lane) (s : State) : Res := laneRow lane (lossOfSignal lane) s

/-- MESSAGE_RESPONSE_TIMEOUT (R145, R514), with the failure of a SENSOR_WRITE (R269). -/
def messageResponseTimeout (l : Lane) (tag : Nat) (s : State) : State :=
  let s := onLane l (messageTimeout l tag) s
  match l with
  | .camera i =>
    match s.sentChange i tag with
    | some c => if (s.lane l).sensor.any (·.tag = tag) then s else s.changeFailed i c 3
    | none => s
  | .trunk i =>
    if i = 8 && (s.lane l).req.isNone then s.updTrk fun t => { t with lowering := none } else s
  | .eth _ => s

def execMessageResponseTimeout (lane : Lane) (tag : Nat) (s : State) : Res :=
  onUnit (lanePresent s.part lane && isCendo lane) (messageResponseTimeout lane tag s)

/-- A row of a message received on a lane. -/
def messageRow (l : Lane) (x : Line) (type : Nat) (f : Nat → Bytes → State → State) (s : State) : Res :=
  cendoRow l (fun s => s.onMessage l x type f) s

def execTapStatus (lane : Lane) (line : Line) (s : State) : Res := messageRow lane line 0x81 (tapStatus lane) s

def execIdentity (lane : Lane) (line : Line) (s : State) : Res := messageRow lane line 0x86 (identity lane) s

/-- RATE_ACK (R153), and of the trunk's own lower rate (R340). -/
def rateAckRow (l : Lane) (tag : Nat) (s : State) : State :=
  match l, s.trk.lowering with
  | .trunk 8, some c =>
    if s.answers l 7 tag then ((s.clearReq l).updTrk fun t => { t with lowering := none }).trkLowered c
    else rateAck l tag s
  | _, _ => rateAck l tag s

def execRateAck (lane : Lane) (line : Line) (s : State) : Res := messageRow lane line 0x87 (fun tag _ s => rateAckRow lane tag s) s

def execWriteAck (port : Nat) (line : Line) (s : State) : Res :=
  messageRow (.camera port) line 0x82 (fun tag p s => writeAck port tag (beAt p 0 1) s) s
def execReadData (port : Nat) (line : Line) (s : State) : Res :=
  messageRow (.camera port) line 0x83 (fun tag _ s => readData port tag s) s

def execLoopAck (lane : Lane) (line : Line) (s : State) : Res := messageRow lane line 0x84 (fun tag _ s => loopAck lane tag s) s
def execPrbsAck (lane : Lane) (line : Line) (s : State) : Res := messageRow lane line 0x85 (fun tag _ s => prbsAck lane tag s) s

/-- REFUSED (R145), and of a SENSOR_WRITE (R269). -/
def refusedRow (l : Lane) (tag kind : Nat) (s : State) : State :=
  let gone := match l with
    | .camera i => if kind = 2 && s.sensorAnswers i 2 tag then some i else none
    | _ => none
  let s := refusedAnswer l tag kind s
  match gone with
  | some i => s.changeRefused i tag
  | none => s

def execRefused (lane : Lane) (line : Line) (s : State) : Res :=
  messageRow lane line 0xFF (fun tag p s => refusedRow lane tag (beAt p 0 1) s) s

def execTrainingEvaluation (lane : Lane) (h v : Nat) (s : State) : Res := cendoRow lane (trainingEvaluation lane h v) s
def execTrainingBudgetExpiry (lane : Lane) (s : State) : Res := cendoRow lane (trainingBudgetExpiry lane) s
def execVerifyEnd (lane : Lane) (errors h v : Nat) (s : State) : Res := cendoRow lane (verifyEnd lane errors h v) s
def execFomEvaluation (lane : Lane) (h v density : Nat) (s : State) : Res := laneRow lane (fomEvaluation lane h v density) s
def execRetrainDeferralTimeout (lane : Lane) (s : State) : Res := cendoRow lane (retrainDeferralTimeout lane) s
def execLaneDegradedRetry (lane : Lane) (s : State) : Res := cendoRow lane (laneDegradedRetry lane) s
def execPrbsLock (lane : Lane) (bits : List Bool) (s : State) : Res := laneRow lane (prbsLock lane bits) s
def execPrbsLockLost (lane : Lane) (bits errors : Nat) (window : List Bool) (s : State) : Res :=
  laneRow lane (prbsLockLost lane bits errors window) s
def execLaneIdleFreeze (lane : Lane) (s : State) : Res := laneRow lane (laneIdleFreeze lane) s

/-- A row of a packet received on a camera port. -/
def packetRow (port : Nat) (f : State → State) (s : State) : Res := onUnit (port < s.part.ports) (onLane (.camera port) f s)

def execFsArrival (port : Nat) (line : Line) (s : State) : Res := packetRow port (fsArrival port line) s
def execLinePacket (port : Nat) (line : Line) (s : State) : Res := packetRow port (linePacket port line) s
def execEmbeddedPacket (port : Nat) (line : Line) (s : State) : Res := packetRow port (embeddedPacket port line) s

/-- FE_PACKET (R156, R187). -/
def execFePacket (port : Nat) (line : Line) (s : State) : Res := packetRow port (fePacket port line) s

/-! Requests on a lane. -/

/-- LANE_COMMAND (R157, R174): 1 = retrain, 2 = port reset. -/
def laneCommand (l : Lane) (value : Nat) : Effect := fun s =>
  if value = 1 then laneRetrain l s
  else
    let s := match l with
      | .camera i => s.portReset i
      | _ => s
    .ok (onLane l (fun s => s.laneReset l) s)

/-- LANE_ENABLE is written (R153, R155). -/
def laneEnableWrite (l : Lane) (value : Nat) : Effect := fun s => .ok (onLane l (laneEnable l value) s)

/-- LANE_TEST_MODE is written (R163). -/
def laneTestModeWrite (l : Lane) (value : Nat) : Effect := fun s => do
  let was := s.laneState l
  let t ← laneTestMode l value s
  return t.laneFollow l was

end Sys2Proof.Machine
end

