-- ==== Sys2Proof/Machine/Domains.lean ====
section
/-! DEFINITION. Power domains (R438 to R440): what switching one off or on does to the units in it. -/
namespace Sys2Proof.Machine

/-- R438: the domains that a domain depends on. -/
def domainNeeds (d : Nat) : List Nat :=
  if d < 48 then (if d % 6 = 5 then [59, 60, 61, 62] else [d / 6 * 6 + 5])
  else if d < 54 ∨ d = 58 then [54]
  else if d = 54 then [59, 60, 61, 62]
  else if d = 56 then [55]
  else if d = 57 then [55, 59, 60, 61, 62]
  else []

/-- R439: the domains that a write to one sets. -/
def domainSet (d : Nat) : List Nat := if 59 ≤ d ∧ d ≤ 62 then [59, 60, 61, 62] else [d]

/-- PATH of a domain's events: its cluster (R460). -/
def pathDomain (d : Nat) : String :=
  if d < 48 then pathCluster (d / 6)
  else if d < 55 ∨ d = 58 then "MX"
  else if d < 58 then "NX"
  else if d < 63 then "DX.M" ++ natText (d - 59)
  else "CX"

/-- Is a domain on, or on its way on? -/
def State.domainRising (s : State) (d : Nat) : Bool :=
  s.nat (Key.pwrDomainState d) = 2 || (s.nat (Key.pwrDomainState d) = 1 && mapGet d s.pwr.switching == some 1)

/-- R438, R439: is a domain enabled, and all that it depends on? -/
def State.domainWanted (s : State) (d : Nat) : Bool :=
  let on := fun k => s.flag (Key.pwrDomainEnable k)
  on d && (domainNeeds d).all fun e => on e && (domainNeeds e).all on

/-- The domains of the part. -/
def Part.domains (p : Part) : List Nat := (List.range 64).filter p.domainPresent

/-! Frames that lose their pipeline. -/

/-- R37, R191, R440: close a frame as a pipeline restart does; what still arrives of it has no frame open (R187). -/
def State.restartFrame (s : State) (f : Frame) : State :=
  let s := s.updFrame f.fid fun x => { x with recovered := true }
  match s.frameOf f.fid with
  | some f => s.cutFrame f 5
  | none => s

/-- Frames of a pipeline that a test picks. -/
def State.framesOfPipe (s : State) (p : Nat) (q : Frame → Bool) : List Frame :=
  s.frames.filter fun f => f.pipe = some p && !f.closed && q f

/-- R251: a pipeline is cleared: frames in progress close, the zone histories go. -/
def State.clearPipe (s : State) (p : Nat) : State :=
  let s := (s.framesOfPipe p (·.handed)).foldl State.restartFrame s
  [2 * p, 2 * p + 1].foldl (fun s c => if (mapGet c s.inputs).isSome then s.updInput c fun x => { x with history := none } else s) s

/-- R440: a pipeline goes off: every frame accepted for it closes, an injection and a restart that waits end. -/
def State.pipeOff (s : State) (p : Nat) : State :=
  let s := ((s.endInjection p 3).updPipe p fun x => { x with restart := false }).clearPipe p
  (s.framesOfPipe p fun _ => true).foldl State.restartFrame s

/-! Domains off and on. -/

/-- The camera ports of a PHY group's domain. -/
def groupPorts (d : Nat) : List Nat := (List.range 3).map fun i => 6 * (d / 6) + 3 * (d % 6) + i

/-- R440, R445: the units of a domain lose their power. -/
def State.domainOff (s : State) (d : Nat) : State :=
  if d < 48 then
    if d % 6 < 2 then
      (groupPorts d).foldl (fun s i => onLane (.camera i) (fun s => (s.keepTraining (.camera i)).holdLane (.camera i) 2) s) s
    else if d % 6 < 5 then s.pipeOff (3 * (d / 6) + (d % 6 - 2))
    else s
  else if d < 52 then ((List.range 16).map (16 * (d - 48) + ·)).foldl State.dropTile s
  else if d = 55 then [0, 1, 2, 3, 5].foldl State.nxPortDown s
  else if d = 56 then (List.range 4).foldl (fun s n => (s.toSeek (.eth n)).nxPortDown n) s
  else if d = 58 then ((s.keepTraining (.trunk 8)).keepTraining (.trunk 9)).trkToDown true
  else if 59 ≤ d ∧ d ≤ 62 then s.setFlag Key.memDramReady false
  else s

/-- R440: the units of a domain have power again: attempts resume with a backoff of 10 ms. -/
def State.domainOn_ (s : State) (d : Nat) : State :=
  if d < 48 then
    if d % 6 < 2 then (groupPorts d).foldl (fun s i => s.freeLane (.camera i) 2) s
    else if d % 6 = 5 then s.hubMoves (d / 6) else s
  else if d = 56 then (List.range 4).foldl (fun s n => s.attemptsResume (.eth n)) s
  else if d = 58 then (s.attemptsResume (.trunk 8)).attemptsResume (.trunk 9)
  else if d = 59 then s.setFlag Key.memDramReady (s.nat Key.memDramRateActive ≠ 0)
  else s

/-- A domain that is on goes to a state in which it is off (0, or 4 = quarantined). -/
def State.dropDomain (s : State) (off d : Nat) : State :=
  let was := s.nat (Key.pwrDomainState d)
  let s := { s with pwr := { s.pwr with switching := mapDel d s.pwr.switching } }
  let s := if was = 3 then s else s.setObj (Key.pwrDomainState d) off
  if was = 2 ∨ was = 1 then s.domainOff d else s

/-- A domain that is off is on at once (boot, wake, quarantine lifted). -/
def State.liftDomain (s : State) (d : Nat) : State :=
  let was := s.nat (Key.pwrDomainState d)
  if was = 3 ∨ was = 2 then s else (s.setObj (Key.pwrDomainState d) 2).domainOn_ d

/-- R439: a domain that is off begins to switch on. -/
def State.startDomain (s : State) (d : Nat) : State :=
  { s.setObj (Key.pwrDomainState d) 1 with pwr := { s.pwr with switching := mapSet d 1 s.pwr.switching } }

/-- R445, R448: the enabled domains are on. A quarantined hub's stay as they are (R458). -/
def State.domainsUp (s : State) : State :=
  (s.part.domains.filter fun d => s.domainWanted d && s.nat (Key.pwrDomainState d) = 0).foldl State.liftDomain s

/-- R439: PWR_DOMAIN_ENABLE is written. In Standby and Parked it is only stored. -/
def pwrDomainWrite (d value : Nat) : Effect := fun s =>
  let all := domainSet d
  let store := fun (s : State) => all.foldl (fun s k => s.setObj (Key.pwrDomainEnable k) value) s
  let st := s.nat (Key.pwrDomainState d)
  let hub := 6 * (d / 6)
  if s.nat Key.pwrState ≠ 0 then .ok (store s)
  else if value = 1 then
    if (domainNeeds d).any fun k => !s.domainRising k then .error abState
    else if d < 48 && d % 6 = 5 && st = 4 then
      let six := (List.range 6).map (hub + ·)
      let s := six.foldl (fun s k => s.setObj (Key.pwrDomainState k) 0) (store s)
      let s := { s with rcv := { s.rcv with hubTimes := mapDel (d / 6) s.rcv.hubTimes } }
      .ok ((six.filter s.domainWanted).foldl State.startDomain s)
    else if st < 2 && !s.domainRising d then
      .ok (all.foldl State.startDomain (store s))
    else .ok (store s)
  else
    let above := s.part.domains.filter fun k => !all.contains k && (domainNeeds k).any all.contains
    if above.any s.domainRising then .error abState
    else if s.domainRising d then
      let s := all.foldl (fun s k => s.dropDomain 1 k) (store s)
      .ok { s with pwr := { s.pwr with switching := all.foldl (fun m k => mapSet k 0 m) s.pwr.switching } }
    else .ok (store s)

/-- DOMAIN_SWITCH_DONE, R439. -/
def domainSwitchDone (d : Nat) (s : State) : State :=
  match mapGet d s.pwr.switching with
  | none => s
  | some v =>
    let s := { s with pwr := { s.pwr with switching := mapDel d s.pwr.switching } }
    let s := s.setObj (Key.pwrDomainState d) (2 * v)
    let s := if v = 1 then s.domainOn_ d else s
    s.raise 0x1202 0 (pathDomain d) [byteOf d, byteOf (2 * v)]

def execDomainSwitchDone (domain : Nat) (s : State) : Res := onUnit (s.part.domainPresent domain) (domainSwitchDone domain s)

end Sys2Proof.Machine
end

