-- ==== Sys2Proof/Machine/Resets.lean ====
section
/-! DEFINITION. Resets and the boot (R403, R418 to R422, R447 to R449, R83): what each reset keeps, the boot chain, DRAM training,
and the resets of clusters. -/
namespace Sys2Proof.Machine

/-! What survives (R449). -/

/-- R449: ETH_TX_PRESET, which a boot does not take from the store. -/
def keptPreset (k : Nat) : Bool := Key.ethTxPreset 0 ≤ k && k ≤ Key.ethTxPreset 3

/-- Entries that every reset keeps: those of the protection store, the trial (R421), the boot counter, the store's own. -/
def keptAlways (k : Nat) : Bool :=
  [Key.accessPlan, Key.protSeq, Key.protSealed, Key.fwActive, Key.fwRunning, Key.fwState, Key.fwTrialTime, Key.bootCount,
    Key.storeSaveCount, Key.storeBank].contains k ||
  keptPreset k || (Key.rolePubkey 0 ≤ k && k ≤ Key.rolePubkey 3) || (Key.pipeMaskLock 0 ≤ k && k ≤ Key.pipeMaskLock 47)

/-- Entries that a device reset keeps as well: AX's time base, its counters since power-on, recovery counters, what the
supply monitor, the regulator and the junction sensors report (R83, R449, R459, R511). -/
def keptByDevice (k : Nat) : Bool :=
  keptAlways k ||
  [Key.tbEpoch, Key.tbState, Key.tbOffset, Key.tbFreqEstimate, Key.tbIncrement, Key.tbOscLost, Key.dapTagFailures, Key.pwrTj,
    Key.pwrTjPeak, Key.pwrAvsPoint, Key.pwrAvsFailures, Key.smTarget 0, Key.calTrims, Key.calSource].contains k ||
  [0x2001, 0x2002, 0x8020, 0xA011, 0xA012, 0xA013].contains (k / 256)

/-- R69: a save that a reset ends leaves the bank not in use cut short. -/
def State.cutSave (s : State) : Flash := { s.flash with torn := s.flash.torn || s.store.snapshot.isSome }

/-- R466: a reset during a save of the trims leaves the copies at one of its stages (log 28). -/
def State.cutCal (s : State) : State :=
  match s.cal.saving with
  | none => s
  | some t =>
    let (n, s) := s.draw
    let f := s.flash
    let k := Config.cutTrims n % 5
    { s with flash :=
        if k = 0 then f
        else if k = 1 then (if trimValid f.trim1 then { f with trim0 := [] } else f)
        else if k = 2 then { f with trim0 := t }
        else if k = 3 then { f with trim0 := t, trim1 := [] }
        else { f with trim0 := t, trim1 := t } }

/-- What the boot must remember of the time before a reset. -/
def State.heldBoot (s : State) (kind : Nat) : Boot := { held := some kind, trial := s.boot.trial, barked := s.boot.barked }

/-- R447, R449: the device is held in a power-on (0) or supply (1) reset. -/
def State.holdAll (s : State) (kind : Nat) : State :=
  { State.reset with
    pending := s.pending, part := s.part, strapNode := s.strapNode, strapBoot := s.strapBoot, out := s.out, free := s.free,
    dict := mapKeep keptAlways s.dict, doms := mapKeep keptAlways s.doms, flash := s.cutSave,
    prot := { secrets := s.prot.secrets }, boot := s.heldBoot kind, sup := { low := s.sup.low || kind = 1 } }

/-- R83, R447, R449: the device is held in a device reset of kinds 2 to 5; AX keeps the time base, the event log, the recovery
counters and a dip in progress. -/
def State.holdDevice (s : State) (kind : Nat) : State :=
  let b := s.closeSpan.tb
  { State.reset with
    pending := s.pending, part := s.part, strapNode := s.strapNode, strapBoot := s.strapBoot, out := s.out, free := s.free,
    cycles := s.cycles, time := s.time,
    dict := mapKeep keptByDevice s.dict, doms := mapKeep keptByDevice s.doms, flash := s.cutSave,
    prot := { secrets := s.prot.secrets }, boot := s.heldBoot kind, sup := s.sup,
    ev := { seq := s.ev.seq, log := s.ev.log },
    tb := { rate := b.rate, spans := b.spans, holdSince := b.holdSince, lastMeas := s.cycles, advised := b.advised, beaconNext := b.beaconNext },
    pwr := { hot := s.pwr.hot, critical := s.pwr.critical },
    rcv := { crossings := s.rcv.crossings }, jtag := s.jtag }

/-- R174, R191: a device reset resets every port, so frames in progress are truncated, which the event log keeps. -/
def State.truncateAll (s : State) : State :=
  ((List.range s.part.ports).flatMap s.portFrames).foldl (fun s f => s.cutFrame f 4) s

/-- R447: a device reset; a reset of wider scope in progress is not overridden. -/
def State.deviceReset (s : State) (kind : Nat) : State :=
  match s.boot.held with
  | some _ => s
  | none => s.truncateAll.cutCal.holdDevice kind

/-- POWER_ON_RESET, R447. -/
def powerOnReset (s : State) : State := s.cutCal.holdAll 0

def execPowerOnReset (s : State) : Res := .next (powerOnReset s)

/-- SUPPLY_RESET, R453, R500: in a power-on reset the rails hold the device as well, and the start stays one after power-on. -/
def supplyReset (s : State) : State :=
  if s.boot.held = some 0 then { s with sup := { s.sup with low := true } } else s.cutCal.holdAll 1

def execSupplyReset (rail : Nat) (s : State) : Res := onUnit (rail < 9) (supplyReset s)

/-- SUPPLY_RESET_RELEASE, R453: the rails no longer hold the device; its straps are sampled and it boots at RESET_RELEASE. -/
def supplyResetRelease (s : State) : State := { s with sup := { s.sup with low := false } }

def execSupplyResetRelease (s : State) : Res := .next (supplyResetRelease s)

/-! The boot chain (R420 to R423). -/

/-- R420, R421: the image that the loader chooses, and the image of a trial that it reverts. -/
def State.chooseImage (s : State) (sel : Nat) : Nat × Option Nat :=
  let active := s.nat Key.fwActive
  match s.nat Key.fwState, s.boot.trial with
  | 1, some t => (t, none)
  | 2, some t => (active, some t)
  | _, _ => (if sel = 1 then 0 else if sel = 2 then 1 else active, none)

/-- R421: an image runs, on trial or not. -/
def State.runImage (s : State) (k : Nat) : State :=
  let trying := s.nat Key.fwState = 1 && s.boot.trial == some k
  let s := (s.setObj Key.fwRunning k).setObj Key.fwState (if trying then 2 else 0)
  let s := s.setObj Key.firmwareVersion (leAt (s.flash.image k) 4 4)
  { s with boot := { s.boot with trial := if trying then some k else none } }

/-- Entries whose written value takes effect at the next device reset (R72, R406). -/
def latchedKeys : List Nat :=
  [Key.dapNodeId, Key.dapCanNominalRate, Key.dapCanDataRate, Key.dapUdpPort, Key.dapMgmtVlan, Key.dapIpv4Address,
    Key.dapIpv4Prefix, Key.dapIpv6Enable, Key.dapMgmtMac, Key.memDramRate, Key.memDramEcc, Key.memHostSize]

/-- R70, R210, R363, R406: values are rebuilt from the bank in force; live sets equal the shadow sets, of generation 0, and mask
locks are in force as the protection store holds them. -/
def State.rebuild (s : State) : State :=
  let s := match s.flash.bank (s.nat Key.storeBank) with
    | some l => (s.loadSet { l with nums := mapKeep (fun k => !keptPreset k) l.nums ++ mapKeep keptPreset s.dict }).liveFromShadow
    | none => s
  let s := (List.range 48).foldl (fun s i => s.setObj (liveKey (Key.pipeMaskLock i)) (s.obj (Key.pipeMaskLock i))) s
  { s with
    boot := { s.boot with latched := latchedKeys.map fun k => (k, s.obj k), debug := leAt (s.dom Key.accessPlan) 50 1 },
    net := { s.net with pool := s.nat Key.nxFlowPool },
    wide := [(wideBoot, s.liveSet wideEntry)] }

/-- R69: a save found cut short. -/
def State.findTorn (s : State) : State :=
  if s.flash.torn then
    (s.setObj Key.storeStatus 3).raise 0x1302 2 "CX" [byteOf (1 - s.nat Key.storeBank)]
  else s

/-- R465: the trims are loaded, and take effect. -/
def State.loadTrims (s : State) : State :=
  let t := s.bootTrims
  let s := ((s.setDom Key.calTrims t.1).setObj Key.calSource t.2).tbApply
  if t.2 = 0 && !(s.flash.trim0.isEmpty && s.flash.trim1.isEmpty) then s.raise 0x8104 2 "AX.TB" [] else s

/-- R485: an out-of-service boot tests the SRAMs of CX and AX: free results (log 28). -/
def State.bootBist (s : State) : State :=
  [10, 11].foldl (fun s m =>
    let (n, s) := s.draw
    let fails : Nat := Config.bistFails n m % 2 ^ 32
    let s := (s.setObj (Key.testBistResult m) (if fails = 0 then 2 else 3)).setObj (Key.testBistFails m) (fails : Nat)
    if fails = 0 then s else s.setObj (Key.testBistFirstAddr m) (Config.bistFirst n m % 2 ^ 64 : Nat)) s

/-- R83: the time base at the end of a device reset, whatever then boots; entering HOLDOVER freezes f as R104 states. -/
def State.bootTime (s : State) : State :=
  let old := s.tbState
  let new := if s.epoch = 0 then tbFree else tbHoldover
  let s := if new = tbHoldover && old ≠ tbHoldover then s.freezeMean else s
  let s := s.takeLimits.setObj Key.tbState new
  let s := (s.withTb fun b => { b with lastMeas := s.cycles, lastRateWrite := s.cycles, syncSent := s.cycles,
                                       holdSince := if old = tbHoldover then b.holdSince else s.cycles }).tbApply
  if old = new then s else s.raise 0x2001 0 "AX.TB" [byteOf old, byteOf new]

/-- R438: after a boot every domain of the part is off, those of absent units absent. -/
def State.bootDomains (s : State) : State :=
  (List.range 64).foldl (fun s d => s.setObj (Key.pwrDomainState d) (if s.part.domainPresent d then 0 else 3)) s

/-- R49, R73: DAP answers. -/
def State.answerDap (s : State) : State :=
  let on := s.nodeId ≠ 0
  let s := { s with dap := { s.dap with answering := true, canEnabled := on } }
  if on then s else s.raise 0x1004 1 "CX" []

/-- R83: what the end of a reset of this kind does to the time base: a device reset has kept it. -/
def State.endReset (s : State) (kind : Nat) : State := if 2 ≤ kind then s.bootTime else s.takeLimits

/-- R420 step 3: both images are invalid: the loader answers DAP on CAN FD only. -/
def State.loaderOnly (s : State) (kind : Nat) : State :=
  let s := (s.rebuild.loadTrims.setObj Key.fwState 0).bootDomains
  (({ s with boot := { s.boot with mode := 1, trial := none } }).endReset kind).answerDap

/-- R420, R422, R423, R448: the firmware of image k boots. `kind` is the reset's, `sel` BOOT_SEL. -/
def State.bootFirmware (s : State) (kind sel k : Nat) : State :=
  let s := s.runImage k
  let s := (s.measureInto 1 (imageBody (s.flash.image k))).rebuild.loadTrims
  let s := s.measureInto 3 s.slot3
  let s := s.measureInto 2 s.slot2
  let s := (s.measureInto 4 s.slot4).findTorn.bootDomains
  let s := { s with boot := { s.boot with outOfService := sel = 3, beat := (s.cycles, s.fwTimeout) } }
  let s := if sel = 3 then s.bootBist else s
  let s := s.endReset kind
  let s := s.armAll.answerDap
  let s := s.raise 0x1501 0 "CX" (leBytes 4 (s.nat Key.bootCount) ++ [byteOf kind])
  let s := if kind = 3 then s.raiseAt 0xA004 3 4 "CX" (leBytes 4 s.boot.barked) else s
  { s with dram := { training := true, fresh := true, failed := false } }

/-- R420, steps 2 and 3. -/
def State.bootImage (s : State) (kind sel : Nat) : State :=
  let c := s.chooseImage sel
  let s := match c.2 with
    | some t => s.raise 0x1413 2 "CX" [byteOf t]
    | none => s
  if s.flash.imageOk c.1 then s.bootFirmware kind sel c.1
  else
    let s := s.raise 0x1414 2 "CX" [byteOf c.1]
    if s.flash.imageOk (1 - c.1) then s.bootFirmware kind sel (1 - c.1) else s.loaderOnly kind

/-- R507: the xSPI NOR is read in 1S-1S-1S, its SFDP table first, and then in 8D-8D-8D if the table offers it. -/
def State.startXspi (s : State) : State :=
  let s := s.send (.xspi .serial)
  if Config.norOctal then ({ s with xspi := some .octal }).send (.xspi .octal) else { s with xspi := some .serial }

/-- RESET_RELEASE, R420, R448: the boot ROM runs. -/
def resetRelease (node sel : Nat) (s : State) : State :=
  match s.boot.held with
  | none => s
  | some kind =>
    if s.sup.low then s
    else
      let s := { s with strapNode := node % 128, strapBoot := sel % 4,
                        boot := { s.boot with held := none, release := s.cycles } }
      let s := s.startXspi
      let s := (s.bump Key.bootCount).setObj Key.bootReason kind
      match s.flash.loader with
      | none => { s with boot := { s.boot with mode := 2 } }.endReset kind
      | some c =>
        let s := { s with boot := { s.boot with loader := c } }
        (s.measureInto 0 (imageBody (if c = 0 then s.flash.loader0 else s.flash.loader1))).bootImage kind (sel % 4)

def execResetRelease (nodeId bootSel : Nat) (s : State) : Res := .next (resetRelease nodeId bootSel s)

/-! DRAM training (R403, R409, R486). -/

/-- R403: the next lower rate. -/
def lowerRate (r : Nat) : Nat := if r = 8533 then 7500 else if r = 7500 then 6400 else 0

/-- R402, R403: training of channels of `density` GiB with these failing channels, from rate `r`: the rate that all channels
pass, 0 if none. Event 0x7C04 names the lower rate. -/
def State.trainAt (s : State) (r : Nat) : List Nat → State × Nat
  | [] => (s, r)
  | c :: l =>
    if lowerRate r = 0 then (s.raise 0x7C05 2 (pathMemory (12 + c % 4)) [byteOf (c % 4)], 0)
    else (s.raise 0x7C04 1 (pathMemory (12 + c % 4)) (leBytes 2 (lowerRate r) ++ [byteOf (c % 4)])).trainAt (lowerRate r) l

/-- R406, R409: what a successful training makes of the DRAM; the host region is fixed at a reset. -/
def State.dramTrained (s : State) (density rate : Nat) : State :=
  let usable := usableBytes density (s.atReset Key.memDramEcc ≠ 0)
  let s := ((s.setObj Key.memDramRateActive rate).setObj Key.memDramDensity density).setObj Key.memDramUsable usable
  let s := if s.dram.fresh then
      let want := s.nat Key.memHostSize
      let host := s.hostRegion usable
      let s := s.setObj Key.memHostSizeActive host
      if host = want then s else s.raise 0x7C06 1 (pathMemory 12) (leBytes 4 want ++ leBytes 4 host)
    else s
  { s with dram := {} }

/-! Resets of clusters (R447, R449, R391, R395, R210). -/

/-- R210: a reset discards the commits of targets; their shadow sets become copies of the live sets. -/
def State.discardTargets (s : State) (scope : Nat) (units : List Nat) : State :=
  let s := units.foldl (fun s u => s.discardAt scope u 2) s
  s.makeShadow fun k => match setOf k with
    | some (c, some u) => c = scope && units.contains u
    | some (c, none) => c = scope && scope = 0x60
    | none => false

def State.resetKeys (s : State) (l : List Nat) : State := l.foldl State.resetObj s

/-- The lanes of a cluster lose their training results, and are held in SEEK until the reset is over (bit 3). -/
def State.resetLane (s : State) (l : Lane) : State :=
  (onLane l (fun s => (s.laneReset l).holdLane l 3) s).dropTraining l

/-- A FIFO range is emptied (R395). -/
def State.resetFifos (s : State) (lo hi : Nat) : State := ((List.range (hi + 1 - lo)).map (lo + ·)).foldl State.fifoReset s

/-- R402 to R416: the SRAM content of memory m is lost, its counters restart. -/
def State.resetSram (s : State) (m : Nat) : State :=
  let b := (sramSpan m).1
  let e := b + (sramSpan m).2
  ({ s with mem := Memory.clear b e s.mem, poison := s.poison.filter fun w => !(b ≤ w && w < e) }).resetKeys
    [Key.memCorrected m, Key.memUncorrected m]

/-- R447: a hub. -/
def State.resetHub (s : State) (h : Nat) : State :=
  let ports := (List.range 6).map (6 * h + ·)
  let pipes := (List.range 3).map (3 * h + ·)
  let touch := fun (f : Frame) => if ports.contains f.port && !f.synthetic && !f.closed then { f with recovered := true } else f
  let s := { s with frames := s.frames.map touch }
  let s := (s.discardTargets 0x40 ports).discardTargets 0x50 pipes
  let s := ports.foldl (fun s i => (s.portReset i).resetLane (.camera i)) s
  let s := pipes.foldl State.pipeOff s
  let s := { s with
    inputs := mapKeep (fun i => i / 6 ≠ h) s.inputs,
    pipes := s.pipes.map fun (x : Nat × PipeSt) => if x.1 / 3 = h then (x.1, { lag := x.2.lag }) else x,
    statJobs := s.statJobs.filter fun j => j.inst / 6 ≠ h }
  let s := ((s.engineReset h).resetFifos (62 * h) (62 * h + 61)).resetSram h
  ((List.range 6).map (6 * h + ·)).foldl (fun s i =>
    (s.resetKeys [Key.pipeFrames i, Key.pipeDpcCount i, Key.pipeCropSkipped i, Key.pipeLtmHistoryFrame i,
      Key.statRseq i]).setDom (Key.statRecord i) []) s

/-- R37, R447: MX: frames in progress end by recovery; the release and output queues are kept. -/
def State.resetMx (s : State) : State :=
  let views := (List.range 64).map (960 + ·)
  let streams := (List.range (40 * s.part.pipes)) ++ views
  let shut := fun (o : OutFrame) => if o.ended then o else { o with closed := true, recovered := true }
  let s := { s with mrg := { s.mrg with cores := [], moved := [], frames := s.mrg.frames.map shut } }
  let s := [Lane.trunk 8, Lane.trunk 9].foldl State.resetLane (s.trkToDown true)
  let s := (List.range 8).foldl (fun s i => s.dropTraining (.trunk i)) s
  let s := (s.discardTargets 0x60 streams).engineReset 8
  let s := ((s.engineReset 9).resetFifos 512 635).resetSram 8
  let s := views.foldl (fun s v => s.resetKeys [Key.warpFrames (v - 960), Key.warpTilesLate (v - 960),
    Key.warpFramesIncomplete (v - 960)]) s
  let s := (List.range (16 * s.part.warps)).foldl (fun s c => s.resetObj (Key.warpCoreTiles c)) s
  let s := (List.range s.part.warps).foldl (fun s e => s.resetKeys [Key.warpReissued e, Key.codecSlices e]) s
  let s := streams.foldl (fun s st => s.resetKeys [Key.mrgFrames st, Key.mrgTilesAbsent st]) s
  s.resetKeys [Key.warpCacheHits, Key.warpCacheMisses, Key.mrgOutPeak 0, Key.mrgOutPeak 1, Key.mrgQueuePeak,
    Key.mrgLateDiscards, Key.mrgQueueRefused, Key.trkPacketsSent, Key.trkRxPackets, Key.trkRxErrored, Key.trkPacketsCut,
    Key.trkResizes, Key.trkCreditStalls, Key.trkTunnelDiscards]

/-- R362, R363, R447: NX. -/
def State.resetNx (s : State) : State :=
  let s := [0, 1, 2, 3, 5].foldl State.nxPortDown s
  let s := (List.range 4).foldl (fun s n => s.resetLane (.eth n)) s
  let s := { s with net := { s.net with addrs := [], flows := [], pool := s.nat Key.nxFlowPool, evOffset := 0 } }
  let s := ((s.engineReset 10).resetFifos 496 511).resetSram 9
  let s := (List.range 6).foldl (fun s n => s.resetKeys [Key.nxRxFrames n, Key.nxTxFrames n, Key.nxDrops n]) s
  let s := (List.range 4).foldl (fun s n => s.resetKeys [Key.nxGateTooBig n, Key.nxPreemptFragments n]) s
  s.resetKeys [Key.nxLearnMiss, Key.nxFlowCacheHits, Key.nxFlowCacheMisses]

/-- R447: a cluster reset begins: 0 to 7 = hub, 8 = MX, 9 = NX. `cause`: 1 = by the hub watchdog, 0 = commanded. -/
def State.clusterReset (s : State) (c cause : Nat) : State :=
  let s := s.bump (Key.rstClusterCount c)
  let s := { s with rcv := { s.rcv with clusters := mapSet c cause s.rcv.clusters } }
  if c < 8 then s.resetHub c else if c = 8 then s.resetMx else s.resetNx

/-- The lanes of a cluster. -/
def clusterLanes (c : Nat) : List Lane :=
  if c < 8 then (List.range 6).map fun i => .camera (6 * c + i)
  else if c = 8 then [.trunk 8, .trunk 9] else (List.range 4).map .eth

/-- CLUSTER_RESET_COMPLETE, R447: the cluster runs again, its lanes in SEEK. -/
def clusterResetComplete (c : Nat) (s : State) : State :=
  s.whenever (mapGet c s.rcv.clusters).isSome fun s =>
    let s := { s with rcv := { s.rcv with clusters := mapDel c s.rcv.clusters } }
    (clusterLanes c).foldl (fun s l => s.freeLane l 3) (if c < 8 then s.hubMoves c else s)

def execClusterResetComplete (cluster : Nat) (s : State) : Res :=
  onUnit (s.part.has .cluster cluster) (clusterResetComplete cluster s)

end Sys2Proof.Machine
end

