-- ==== Sys2Proof/Machine/Power.lean ====
section
/-! DEFINITION. Power states, island clocks, the core voltage and the junction temperature (R27, R441 to R446, R501, R509), and
the end of DRAM training (R403). -/
namespace Sys2Proof.Machine

/-! Waking (R445). -/

def State.withPwr (s : State) (f : PowerSt → PowerSt) : State := { s with pwr := f s.pwr }

/-- R509: after a wake the junction is looked at again. -/
def State.stillCritical (s : State) : Bool := s.pwr.critical && 1200 ≤ s.obj Key.pwrTj

/-- R443, step 1: entry to a state begins. A later command during entry changes where it leads. -/
def State.beginEntry (s : State) (target limit : Nat) : State :=
  s.withPwr fun p => { p with
    stopFs := true, waiting := none,
    entry := match p.entry with
      | some e => some { e with target := target, limit := min e.limit limit }
      | none => some { target := target, stage := 1, since := s.cycles, limit := limit } }

/-- R509: critical junction: Standby is entered with a drain limit of 10 ms. -/
def State.enterCritical (s : State) : State :=
  ((s.raise 0x8005 2 "AX.SM" (leBytes 2 (ofSigned 16 (s.obj Key.pwrTj)))).withPwr fun p => { p with critical := true }).beginEntry 1 10

/-- R439: domains that were disabled in Standby go off at the return to Run. -/
def State.domainsDown (s : State) : State :=
  (s.part.domains.filter fun d => s.nat (Key.pwrDomainState d) = 2 && !s.domainWanted d).foldl (fun s d => s.dropDomain 0 d) s

/-- R445, steps 3 and 4: the enabled domains are on, and the device is in Run. -/
def State.finishWake (s : State) : State :=
  let old := s.nat Key.pwrState
  let s := s.setObj Key.pwrState 0
  let s := (s.withPwr fun p => { p with stopFs := false, wake := none, waking := none }).domainsDown.domainsUp
  let s := s.raise 0x1201 0 "CX" [byteOf old, 0, byteOf (s.nat Key.pwrLastWake)]
  if s.stillCritical then s.enterCritical else s.withPwr fun p => { p with critical := false }

/-- R445: a wake by a source (PWR_LAST_WAKE's code) from Standby or Parked; during entry it waits for the entry's end. -/
def State.wakeUp (s : State) (code : Nat) : State :=
  if s.pwr.entry.isSome then s.withPwr fun p => { p with wake := some (code - 2) }
  else if s.nat Key.pwrState = 0 ∨ s.pwr.waking.isSome then s
  else
    let s := s.setObj Key.pwrLastWake code
    let s := { s with dap := { s.dap with answering := true } }
    if s.nat Key.memDramRateActive = 0 then
      ({ s with dram := { s.dram with training := true, failed := false } }).withPwr fun p => { p with waking := some code }
    else s.finishWake

/-- WAKE, R445: the pin. -/
def wake (s : State) : State :=
  s.whenever (s.boot.held.isNone && s.boot.mode = 0 && (s.nat Key.pwrWakeMask).testBit 1) fun s => s.wakeUp 3

def execWake (s : State) : Res := .next (wake s)

/-! Entry to Standby and Parked (R443). -/

/-- Close the sessions a test picks; their transfers are abandoned. -/
def State.closeSessions (s : State) (p : Session → Bool) : State :=
  let gone := (s.dap.sessions.filter p).map (·.sid)
  let s := { s with
    dap := { s.dap with
      sessions := s.dap.sessions.filter fun x => !p x,
      transfers := s.dap.transfers.filter fun t => !gone.contains t.sid },
    prot := { s.prot with rollcalls := s.prot.rollcalls.filter fun r => !gone.contains r.sid } }
  let paid := fun (q : QueuedEvent) => { q with owed := q.owed.filter fun i => !gone.contains i }
  ({ s with ev := { s.ev with queue := s.ev.queue.map paid } }).pruneEvents

/-- R405: the DRAM's content is lost, and it is untrained. -/
def State.loseDram (s : State) : State :=
  ({ s with mem := s.mem.filter fun c => c.1 < dramBase, poison := s.poison.filter fun w => w < dramBase }).setObj
    Key.memDramRateActive 0

/-- R449: the training results of every lane are lost in Parked. -/
def State.loseTraining (s : State) : State :=
  let l := (List.range s.part.ports).map Lane.camera ++ (List.range 10).map Lane.trunk ++ (List.range 4).map Lane.eth
  l.foldl State.dropTraining s

/-- R443, steps 4 and 5. -/
def State.finishEntry (s : State) (target : Nat) : State :=
  let old := s.nat Key.pwrState
  let keep := s.nat Key.pwrStandbyKeep
  let off := s.part.domains.filter fun d => !(target = 1 && keep.testBit d && (d = 55 || d = 56)) && s.nat (Key.pwrDomainState d) ≠ 4
  let s := off.foldl (fun s d => s.dropDomain 0 d) s
  let s := s.withPwr fun p => { p with entry := none, waiting := none, stopFs := true }
  let s := if target = 2 then
      let s := if s.nat Key.memLowpowerDram = 1 then s.loseDram else s
      let s := (s.closeSessions fun _ => true).loseTraining
      ({ s with dap := { s.dap with answering := false, partials := [] }, ev := { s.ev with queue := [] } }).noteLost
    else if s.udpPowered then s else s.closeSessions fun x => !isCan x.src
  (s.setObj Key.pwrState target).raise 0x1201 0 "CX" [byteOf old, byteOf target, byteOf (s.nat Key.pwrLastWake)]

/-- R315: would an entry be emitted absent, wholly or in part? -/
def State.entryAbsent (s : State) (e : Entry) : Bool :=
  2 ≤ e.row && e.row < rowEnd &&
    (match s.outOf e.oid with
    | none => false
    | some o =>
      let row := e.row - 2
      let cols := if o.isCoded then [0] else if o.isView then [e.col] else List.range o.cols
      cols.any fun c =>
        match absentReason o e (if o.isCoded then mapGet row o.slices else mapGet (tileKey row c) o.tiles) (o.unmade row) with
        | .inl _ => true
        | .inr _ => false)

/-- The entry waits for the output queues (R443, step 3). -/
def State.drainOutputs (s : State) : State :=
  s.withPwr fun p => { p with entry := p.entry.map fun e => { e with stage := 2, since := s.cycles } }

/-- PWR_DRAIN_LIMIT, R443: the merge emits every remaining entry at once. -/
def pwrDrainLimit (s : State) : State :=
  match s.pwr.entry with
  | none => s
  | some e =>
    s.whenever (e.stage = 1 && msCycles e.limit ≤ s.since e.since && !s.mrg.entries.isEmpty) fun s =>
      let n := (s.mrg.entries.filter s.entryAbsent).length
      let s := (emitWhile (fun _ _ => true) s.mrg.entries.length s).prune
      (s.raise 0x1204 1 "CX" (leBytes 4 n)).drainOutputs

def execPwrDrainLimit (s : State) : Res := .next (pwrDrainLimit s)

/-- OUTPUT_DRAIN_TIMEOUT, R443. -/
def outputDrainTimeout (s : State) : State :=
  match s.pwr.entry with
  | none => s
  | some e => s.whenever (e.stage = 2 && msCycles 10 ≤ s.since e.since) fun s => s.finishEntry e.target

def execOutputDrainTimeout (s : State) : Res := .next (outputDrainTimeout s)

/-- R444: does an action of level 3 or 4, or a switching domain, hold a command? -/
def State.powerBusy (s : State) : Bool := !s.rcv.clusters.isEmpty || !s.pwr.switching.isEmpty

/-- R443, R445: PWR_COMMAND acts. -/
def State.powerCommand (s : State) (c : Nat) : State :=
  if c = 3 then s.wakeUp 1
  else if s.nat Key.pwrState = 0 then s.beginEntry c (s.nat Key.pwrDrainLimit)
  else if c = 2 then s.finishEntry 2 else s

/-- R443 to R445: what the present instant lets entry and wake do (log 1). -/
def State.powerProgress (s : State) : State :=
  match s.pwr.entry with
  | some e =>
    if e.stage = 1 then (if s.mrg.entries.isEmpty then s.drainOutputs else s)
    else if s.mrg.trunk.isEmpty && s.mrg.video.isEmpty then s.finishEntry e.target else s
  | none =>
    match s.pwr.waiting, s.pwr.wake with
    | some c, _ => if s.powerBusy then s else (s.withPwr fun p => { p with waiting := none }).powerCommand c
    | none, some b => (s.withPwr fun p => { p with wake := none }).wakeUp (b + 2)
    | none, none => s

/-! PWR_COMMAND (R443, R444). -/

/-- The refusals of a write of PWR_COMMAND. -/
def pwrCommandCheck (c : Nat) : Effect := fun s =>
  let st := s.nat Key.pwrState
  if s.nat Key.fwState = 2 || s.boot.outOfService || (c = 3 && st = 0) || (c = 1 && st = 2) then .error abState
  else if s.store.snapshot.isSome then .error abBusy
  else .ok s

/-- What a write of PWR_COMMAND does after its response; it waits for an action of level 3 or 4, and for domains that switch. -/
def pwrCommandAct (c : Nat) (s : State) : State :=
  if s.powerBusy && s.pwr.entry.isNone then s.withPwr fun p => { p with waiting := some c } else s.powerCommand c

/-! DRAM training ends (R403, R445, R448, R486). -/

/-- DRAM_TRAINING_COMPLETE, R403: channels failed in this order, each at the next lower rate. -/
def dramTrainingComplete (density : Nat) (failures : List Nat) (s : State) : State :=
  s.whenever (s.dram.training && s.boot.held.isNone && [4, 8, 12, 16].contains density) fun s =>
    let r := s.trainAt (s.atReset Key.memDramRate) failures
    let booting := s.pwr.waking.isNone
    if r.2 = 0 then
      let s := { r.1 with dram := { s.dram with training := false, failed := true } }
      let s := (s.setObj Key.memDramRateActive 0).setFlag Key.memDramReady false
      (s.withPwr fun p => { p with waking := none, entry := none }).finishEntry 1
    else
      let s := r.1.dramTrained density r.2
      if booting then
        if s.nat Key.pwrState = 0 then
          let s := s.domainsUp
          s.setFlag Key.memDramReady (s.domainOn 59)
        else s
      else s.finishWake

def execDramTrainingComplete (density : Nat) (failures : List Nat) (s : State) : Res :=
  .next (dramTrainingComplete density failures s)

/-! Island clocks (R24, R27, R441). -/

/-- R24: ceilings of the SYSCLK islands by the table's row, Hz. -/
def islandCeiling (kind : Nat) : Nat :=
  match kind with
  | 2 => 1500000000 | 3 => 2000000000 | 4 => 3000000000 | 5 => 2000000000 | 6 => 1500000000 | 7 => 1600000000
  | 8 => 1066000000 | 9 => 1200000000
  | _ => 0

/-- Is the island one whose clock the firmware changes, and present? -/
def Part.islandPresent (p : Part) (kind inst : Nat) : Bool :=
  match kind with
  | 2 => inst < p.pipes | 3 => inst < p.hubs | 4 => inst < p.warps | 5 => inst = 0 | 6 => inst < p.warps
  | 7 => p.hasNx && inst = 0 | 8 => inst < 4 | 9 => inst = 0
  | _ => false

/-- R182: a pipeline's required rate, clocks per second rounded up, with what is injected into it. -/
def State.pipeFloor (s : State) (p : Nat) : Nat :=
  let ports := ((List.range 6).map (6 * (p / 3) + ·)).filter fun i => s.livePipe i = some p
  let inj := match (s.pipe p).inj with
    | some i => [((leAt i.desc 8 2 * leAt i.desc 13 1 + 64) * 1000000000, max 1 (leAt i.desc 16 4))]
    | none => []
  let r := fracSum (ports.map (State.portRate s.liveNat) ++ inj)
  ceilDiv r.1 r.2

/-- R182, R304, R331: the rate below which the firmware never sets an island's clock. -/
def State.islandFloor (s : State) (kind inst : Nat) : Nat :=
  let floor := match kind with
    | 2 => s.pipeFloor inst
    | 4 => let rate := s.warpRate s.liveNum s.wideOf inst
      if rate.1 = 0 then 0 else if s.unfenced inst = 0 then islandCeiling 4 else ceilDiv (8 * rate.1) (rate.2 * s.unfenced inst)
    | 6 => ceilDiv (s.engineRate inst) 2
    | _ => 0
  min floor (islandCeiling kind)

/-- PWR_THROTTLED, R441, R509: clocks are lowered to hold the limit, or for temperature. -/
def State.throttled (s : State) : Bool :=
  s.pwr.hot || (s.pwr.clocks.any (fun c => c.2 < islandCeiling (c.1 / 64)) &&
    1000 * s.powerLimit ≤ s.nat Key.pwrEstimate)

/-! The core voltage (R501). -/

/-- AVS_WRITE, R501: a set-point write of 650 to 850 mV in steps of 5 mV ends, acknowledged or not after 3 attempts. -/
def avsWrite (mv : Nat) (ok : Bool) (s : State) : State :=
  s.whenever (s.boot.held.isNone && 650 ≤ mv && mv ≤ 850 && mv % 5 = 0) fun s =>
    let s := s.send (.avs mv)
    if ok then (s.setObj Key.pwrAvsPoint mv).setObj (Key.smTarget 0) mv
    else (((s.send (.avs mv)).send (.avs mv)).bump Key.pwrAvsFailures).raise 0x8003 2 "AX.SM" (leBytes 2 mv ++ leBytes 2 (s.nat Key.pwrAvsPoint))

def execAvsWrite (millivolt : Nat) (acknowledged : Bool) (s : State) : Res := .next (avsWrite millivolt acknowledged s)

/-! The junction temperature (R509). -/

/-- R509, R511: the sensors read a temperature, 0.1 °C. -/
def State.noteTj (s : State) (t : Int) : State :=
  let s := (s.setObj Key.pwrTj t).setObj Key.pwrTjPeak (max (s.obj Key.pwrTjPeak) t)
  let th := s.obj Key.pwrTjThrottle
  if th ≤ t && !s.pwr.hot then
    (s.withPwr fun p => { p with hot := true }).raise 0x8004 1 "AX.SM" (leBytes 2 (ofSigned 16 t))
  else if t ≤ th - 20 then s.withPwr fun p => { p with hot := false }
  else s

/-- TJ_THROTTLE, R509. -/
def tjThrottle (t : Int) (s : State) : State :=
  s.whenever (s.boot.held.isNone && s.obj Key.pwrTjThrottle ≤ t && t ≤ 1500) fun s => s.noteTj t

def execTjThrottle (temperature : Int) (s : State) : Res := .next (tjThrottle temperature s)

/-- TJ_THROTTLE_RELEASE, R509. -/
def tjThrottleRelease (t : Int) (s : State) : State :=
  s.whenever (s.boot.held.isNone && -400 ≤ t && t ≤ s.obj Key.pwrTjThrottle - 20) fun s => s.noteTj t

def execTjThrottleRelease (temperature : Int) (s : State) : Res := .next (tjThrottleRelease temperature s)

/-- TJ_CRITICAL, R509. -/
def tjCritical (t : Int) (s : State) : State :=
  s.whenever (s.boot.held.isNone && s.boot.mode = 0 && 1300 ≤ t && t ≤ 1500) fun s =>
    let s := s.noteTj t
    if s.nat Key.pwrState = 0 && !(s.pwr.critical && s.pwr.entry.isSome) then s.enterCritical
    else s.withPwr fun p => { p with critical := true }

def execTjCritical (temperature : Int) (s : State) : Res := .next (tjCritical temperature s)

end Sys2Proof.Machine
end

