-- ==== Sys2Proof/Machine/Protect.lean ====
section
/-! DEFINITION. Chapter 15: the access plan, measurements of the host, roll calls, tandem changes, sealing, and the firmware update
(R421, R424 to R436). -/
namespace Sys2Proof.Machine

/-! The access plan (R428, R429). -/

def State.mayRead (s : State) (role group : Nat) : Bool := (s.planByte (4 + 2 * group)).testBit role
def State.mayWrite (s : State) (role group : Nat) : Bool := (s.planByte (5 + 2 * group)).testBit role

/-- R428: is a plan acceptable? -/
def planValid (b : Bytes) : Bool :=
  leAt b 0 2 = 1 && leAt b 2 2 = 0 && ((b.drop 53).all (· = 0)) && ((List.range 42).all fun i => leAt b (4 + i) 1 < 16) &&
    ((List.range 4).all fun r => leAt b (46 + r) 1 < 16) && leAt b 50 1 ≤ 2 && leAt b 51 1 < 16 && leAt b 52 1 < 16

/-- R429: the sessions that the plan in force no longer admits. -/
def State.unadmitted (s : State) (x : Session) : Bool := !s.admitsRole x.role x.src

/-! Measurements and roll calls (R424 to R427). -/

/-- MEAS_EXTEND's content, R424. -/
def measExtendWrite (b : Bytes) : Effect := fun s =>
  let n := leAt b 0 1
  if n < 5 ∨ 15 < n then .error abRange else .ok (s.setSlot n (extendSlot (s.slot n) (b.drop 1)))

/-- R427, R432: the hash of the identity key. -/
def idHash : Bytes := sha384 identityPublicKey

/-- R425: a session's roll call. -/
def State.rollcall (s : State) (sid : Nat) : Option RollCall := s.prot.rollcalls.find? (·.sid = sid)

/-- ROLLCALL_NONCE's content, R425. -/
def rollcallNonceWrite (sid : Nat) (b : Bytes) : Effect := fun s =>
  let rest := s.prot.rollcalls.filter (·.sid ≠ sid)
  .ok { s with prot := { s.prot with rollcalls := rest ++ [⟨sid, b, none⟩] } }

/-- R426: BOOTFLAGS. -/
def State.bootFlags (s : State) : Nat :=
  s.nat Key.fwRunning + 2 * boolNat (s.nat Key.fwState = 2) + 4 * (s.boot.debug % 4) + 16 * boolNat s.boot.outOfService

/-- R426: bytes 0 to 883 of a report. -/
def State.reportBody (s : State) (nonce : Bytes) : Bytes :=
  leBytes 2 1 ++ leBytes 2 (s.nat Key.devicePartCode) ++ leBytes 2 (s.nat Key.siliconRevision) ++
    [byteOf (s.nat Key.bootReason), byteOf s.bootFlags] ++ leBytes 4 (s.nat Key.firmwareVersion) ++
    leBytes 4 (s.nat Key.bootCount) ++ leBytes 4 (s.nat Key.protSeq) ++ leBytes 2 (min s.prot.saves 65535) ++ leBytes 2 s.epoch ++
    leBytes 12 (toTime96 s.now) ++ padTo 32 nonce ++ ((List.range 16).flatMap fun n => padTo 48 (s.slot n)) ++ idHash

/-- R426: the report, signed with a free per-signature secret (log 12). -/
def State.makeReport (s : State) (nonce : Bytes) : Bytes × State :=
  let b := s.reportBody nonce
  let (n, s) := s.draw
  (b ++ ecdsaSign Config.identityKey (Config.ecdsaNonce n) (sha384 b), s)

/-- ROLLCALL_SIGNED, R425, R426. -/
def rollcallSigned (sid : Nat) (s : State) : State :=
  match s.rollcall sid with
  | none => s
  | some r =>
    if r.report.isSome then s
    else
      let p := s.makeReport r.nonce
      let put := fun (x : RollCall) => if x.sid = sid then { x with report := some p.1 } else x
      let s := p.2
      ({ s with prot := { s.prot with rollcalls := s.prot.rollcalls.map put } }).raise 0x1502 0 "CX" (leBytes 2 sid)

def execRollcallSigned (session : Nat) (s : State) : Res := .next (rollcallSigned session s)

/-! Values of RWP entries (R430, R431, R434). -/

/-- R434: the secret that 129 bytes wrap for a role, none where the key is no point. -/
def unwrapSecret (role : Nat) (b : Bytes) : Option Bytes :=
  match decodePoint (b.take 97) with
  | none => none
  | some _ =>
    let k := sha384 (ascii "TBZ-WRAP" ++ ecdhX Config.agreementKey (b.take 97) ++ [byteOf role])
    some (List.zipWith (· ^^^ ·) (slice b 97 32) (k.take 32))

/-- The RWP entry at an index and subindex, with its instance. -/
def State.rwpEntry (s : State) (index sub : Nat) : Option (Obj × Nat) :=
  match findObj index sub with
  | some (o, i) => if o.acc = .rwp && s.part.has o.inst i then some (o, i) else none
  | none => none

/-- Is a length right for an RWP entry? -/
def rwpLength (o : Obj) (i n : Nat) : Bool :=
  if o.idx = 0x1400 then n = 64
  else if o.idx = 0x1401 then n = 129
  else if o.idx = 0x1402 then n = 0 || (n = 97 && i ≠ 0)
  else n = o.ty.size

/-- Is a value of the right length within its range? -/
def rwpRange (o : Obj) (i : Nat) (b : Bytes) : Bool :=
  if o.idx = 0x1400 then planValid b
  else if o.idx = 0x1401 then
    (match unwrapSecret i b with
    | some k => !k.all (· = 0)
    | none => false)
  else if o.idx = 0x1402 then true
  else leNat b ≤ 1

/-- An RWP entry takes a value, stored least significant byte first. -/
def State.applyRwp (s : State) (o : Obj) (i : Nat) (b : Bytes) : State :=
  if o.idx = 0x1401 then { s with prot := { s.prot with secrets := s.prot.secrets.set i ((unwrapSecret i b).getD []) } }
  else if o.ty = .domain then s.setDom (o.keyOf i) b
  else s.setObj (o.keyOf i) (leNat b)

/-- R430: does the all-zero secret of a role count as enrolled? -/
def State.secret (s : State) (role : Nat) : Bytes := s.prot.secrets.getD role (List.replicate 32 0)
def State.enrolled (s : State) (role : Nat) : Bool :=
  !(s.secret role).all (· = 0) || (role = 3 && !s.flag Key.protSealed)

/-- R430: an unsealed write by role `role`; sealed devices and other roles need a tandem change. -/
def rwpWrite (role : Nat) (o : Obj) (i : Nat) (b : Bytes) : Effect := fun s => do
  firstCheck [(s.flag Key.protSealed || role ≠ 3, abTandem), (!rwpLength o i b.length, abLength), (!rwpRange o i b, abRange)]
  .ok (s.applyRwp o i b)

/-- R430: what an unsealed write of ROLE_SECRET or ACCESS_PLAN does after its response, for the writing session. -/
def State.afterRwp (s : State) (o : Obj) (i sid : Nat) : State :=
  if o.idx = 0x1401 then s.closeSessions fun x => x.open_ && x.role = i && x.sid ≠ sid
  else if o.idx = 0x1400 then
    s.closeSessions fun x => x.open_ && (if x.sid = sid then !s.admitsRole 3 x.src else s.unadmitted x)
  else s

/-! Sealing (R430). -/

/-- ENROL_SEAL. -/
def enrolSealWrite : Effect := fun s =>
  let keys := ([1, 2, 3].filter fun r => !(s.dom (Key.rolePubkey r)).isEmpty).length
  if s.flag Key.protSealed || (s.secret 3).all (· = 0) || keys < 2 then .error abState
  else
    let s := (s.setFlag Key.protSealed true).setSlot 3 (extendSlot (s.slot 3) (sha384 (s.dom Key.accessPlan)))
    .ok (s.raise 0x1406 1 "CX" [])

/-! Tandem changes (R431 to R434). -/

/-- An entry of a proposal: index, subindex, value. -/
structure Change1 where
  index : Nat
  sub : Nat
  value : Bytes
  deriving DecidableEq, Repr

/-- R431: n entries of a proposal, and whether the bytes hold exactly them; the first argument is n. -/
def proposalEntries : Nat → Bytes → List Change1 × Bool
  | 0, b => ([], b.isEmpty)
  | n + 1, b =>
    if b.length < 8 then ([], false)
    else
      let len := leAt b 4 4
      let r := proposalEntries n (b.drop (8 + len))
      (⟨leAt b 0 2, leAt b 2 1, slice b 8 len⟩ :: r.1, r.2 && 8 + len ≤ b.length)

def parseProposal (b : Bytes) : List Change1 × Bool :=
  if b.length < 2 then ([], false) else proposalEntries (leAt b 0 2) (b.drop 2)

/-- Is some entry named twice? -/
def namedTwice : List Change1 → Bool
  | [] => false
  | c :: r => r.any (fun d => d.index = c.index && d.sub = c.sub) || namedTwice r

/-- TANDEM_PROPOSAL's content, R431. -/
def tandemProposalWrite (b : Bytes) : Effect := fun s => do
  let p := parseProposal b
  let row := fun (c : Change1) => s.rwpEntry c.index c.sub
  let test := fun (f : Obj → Nat → Bytes → Bool) (c : Change1) => match row c with
    | some (o, i) => f o i c.value
    | none => true
  firstCheck [(!s.flag Key.protSealed, abState), (s.prot.proposal.isSome, abBusy),
    (p.1.any (fun c => (row c).isNone) || namedTwice p.1, abRange),
    (!p.2 || !p.1.all (test fun o i v => rwpLength o i v.length), abLength), (!p.1.all (test rwpRange), abRange)]
  let s := { s with prot := { s.prot with proposal := some ⟨b, s.cycles, [], 0, false⟩ } }
  .ok (s.raise 0x1401 0 "CX" (leBytes 2 p.1.length))

/-- R432: the change digest. -/
def State.changeDigest (s : State) (b : Bytes) : Bytes :=
  sha384 (ascii "TBZ-TANDEM" ++ idHash ++ leBytes 4 (s.nat Key.protSeq) ++ b)

/-- R433: a proposal is discarded: 1 = window expired, 2 = withdrawn, 3 = three invalid signatures. -/
def State.dropProposal (s : State) (reason : Nat) : State :=
  ({ s with prot := { s.prot with proposal := none } }).raise 0x1404 1 "CX" [byteOf reason]

/-- R434: the change is applied. -/
def State.applyTandem (s : State) (p : Proposal) : State :=
  let d := s.changeDigest p.bytes
  let s := (parseProposal p.bytes).1.foldl (fun s c => match s.rwpEntry c.index c.sub with
    | some (o, i) => s.applyRwp o i c.value
    | none => s) s
  let s := { s with prot := { s.prot with proposal := none } }
  let s := (s.bump Key.protSeq).setSlot 3 (extendSlot (s.slot 3) d)
  s.raise 0x1403 1 "CX" (leBytes 4 (s.nat Key.protSeq) ++ p.signed.map byteOf)

/-- R429, R434: the sessions that an applied change closes, as told by the secrets before it. -/
def State.closeChanged (s : State) (before : List Bytes) : State :=
  s.closeSessions fun x => x.open_ && (s.unadmitted x || s.secret x.role != before.getD x.role (List.replicate 32 0))

/-- R434: apply and close; during a dip the application waits. -/
def State.carryTandem (s : State) (p : Proposal) : State :=
  if s.sup.dip then { s with prot := { s.prot with proposal := some { p with deferred := true } } } else s.applyTandem p

/-- TANDEM_SIGN's content, R433: the code it is refused with, 0 = accepted; a refusal may count toward the third. -/
def tandemSignWrite (b : Bytes) (s : State) : State × Nat :=
  let role := leAt b 0 1
  match s.prot.proposal with
  | none => (s, abState)
  | some p =>
    let key := s.dom (Key.rolePubkey role)
    if p.deferred then (s, abState)
    else if role < 1 ∨ 3 < role ∨ key.isEmpty then (s, abRange)
    else if p.signed.contains role then (s, abTandem)
    else if !ecdsaVerify key (s.changeDigest p.bytes) (beAt b 1 48) (beAt b 49 48) then
      let s := { s with prot := { s.prot with proposal := some { p with bad := p.bad + 1 } } }
      let s := s.raise 0x1405 2 "CX" [byteOf role]
      (if 2 ≤ p.bad then s.dropProposal 3 else s, abPlan)
    else
      let q := { p with signed := p.signed ++ [role] }
      if p.signed.isEmpty then
        (({ s with prot := { s.prot with proposal := some q } }).raise 0x1402 0 "CX" [byteOf role], 0)
      else (s.carryTandem q, 0)

/-- TANDEM_COMMAND 1, R433. -/
def tandemDiscard : Effect := fun s => .ok (if s.prot.proposal.isSome then s.dropProposal 2 else s)

/-- TANDEM_WINDOW_EXPIRY, R433. -/
def tandemWindowExpiry (s : State) : State :=
  match s.prot.proposal with
  | none => s
  | some p => if p.deferred ∨ s.since p.opened < secCycles 600 then s else s.dropProposal 1

def execTandemWindowExpiry (s : State) : Res := .next (tandemWindowExpiry s)

/-- TANDEM_STATE, TANDEM_REMAINING, TANDEM_SIGNED_ROLES, R436. -/
def State.tandemState (s : State) : Nat :=
  match s.prot.proposal with
  | none => 0
  | some p => if p.deferred then 3 else if p.signed.isEmpty then 1 else 2

def State.tandemRemaining (s : State) : Nat :=
  match s.prot.proposal with
  | none => 0
  | some p => 600 - s.since p.opened / secCycles 1

def State.tandemRoles (s : State) : Nat :=
  match s.prot.proposal with
  | none => 0
  | some p => (p.signed.map fun r => 2 ^ r).foldl (· + ·) 0

/-! Firmware update (R421). -/

/-- R421: the image that FW_IMAGE writes. -/
def State.spareImage (s : State) : Nat := 1 - s.nat Key.fwRunning

/-- FW_COMMAND 1. -/
def fwActivateWrite : Effect := fun s =>
  let k := s.spareImage
  if s.nat Key.fwState ≠ 0 || !s.flash.imageOk k then .error abState
  else .ok (({ s with boot := { s.boot with trial := some k } }.setObj Key.fwState 1).raise 0x1411 0 "CX" [byteOf k])

/-- FW_COMMAND 2. -/
def fwConfirmWrite : Effect := fun s =>
  if s.nat Key.fwState ≠ 2 then .error abState
  else
    let k := s.nat Key.fwRunning
    .ok ((({ s with boot := { s.boot with trial := none } }.setObj Key.fwState 0).setObj Key.fwActive k).raise 0x1412 0 "CX"
      [byteOf k])

/-- FW_TRIAL_TIMEOUT, R421. -/
def fwTrialTimeout (s : State) : State :=
  s.whenever (s.nat Key.fwState = 2 && s.boot.held.isNone && secCycles (s.nat Key.fwTrialTime) ≤ s.since s.boot.release) fun s =>
    s.deviceReset 5

def execFwTrialTimeout (s : State) : Res := .next (fwTrialTimeout s)

end Sys2Proof.Machine
end

