-- ==== Sys2Proof/Machine/Cal.lean ====
section
/-! DEFINITION. Chapter 17: the trim record in force, saves of it, and the calibration procedures (R461 to R473). -/
namespace Sys2Proof.Machine

/-! The record in force (R462 to R466). -/

/-- R464: a record comes into force. The frequency estimate gives up what the OSC trim gains; the other trims are read where they
take effect. -/
def State.setTrims (s : State) (r : Bytes) (source : Nat) : State :=
  let old := s.oscTrim
  let s := s.closeSpan
  let s := (s.setDom Key.calTrims r).setObj Key.calSource source
  (s.setObj Key.tbFreqEstimate (s.tbFreq - (s.oscTrim - old))).tbApply

/-- CAL_TRIMS's content, R463. -/
def calTrimsContent (b : Bytes) : Effect := fun s => do
  firstCheck [(!trimCrcOk b, abLength), (!trimFields b, abRange), (s.cal.running.isSome, abBusy)]
  .ok (s.setTrims b 2)

/-- CAL_SAVE_COMPLETE, R466: both copies hold the record that CAL_COMMAND 6 found. A dip defers it (R452). -/
def calSaveComplete (s : State) : State :=
  match s.cal.saving with
  | none => s
  | some t =>
    s.whenever (!s.sup.dip && s.boot.held.isNone) fun s =>
      let s := { s with cal := { s.cal with saving := none }, flash := { s.flash with trim0 := t, trim1 := t } }
      let s := s.bump Key.calSaveCount
      if s.dom Key.calTrims = t then s.setObj Key.calSource 1 else s

def execCalSaveComplete (s : State) : Res := .next (calSaveComplete s)

/-! Procedures (R467 to R469). -/

/-- R467: the condition of a procedure's row, but for references and loops that only the procedure itself can see. -/
def State.calCondition (s : State) (c target : Nat) : Bool :=
  match c with
  | 2 => s.boot.outOfService
  | 3 => target < s.part.ports && (s.feeds target).isNone
  | 4 => s.part.hasNx && target < 4 && s.laneState (.eth target) = lnActive && !s.flag (Key.ptpPortEnable target)
  | 5 => target < 16 && (s.nat (Key.bellPinMode target) = 1 || s.nat (Key.bellPinMode target) = 2) &&
      (target = 0 || s.cal.d0.isSome)
  | _ => true

/-- R473: PATH of a procedure's events. -/
def pathCal (c : Nat) : String := if c = 2 then "AX.SM" else "AX.TB"

/-- The procedure in progress ends. -/
def State.calOver (s : State) (c target status reason : Nat) : State :=
  let s := { s with cal := { s.cal with running := none } }
  let s := (s.setObj Key.calStatus status).setObj Key.calResult reason
  if c = 3 then s.freeLane (.camera target) 1 else s

/-- R469: the procedure in progress, if any, fails. -/
def State.calFail (s : State) (reason : Nat) : State :=
  match s.cal.running with
  | none => s
  | some (c, t, _) =>
    (s.calOver c t 3 reason).raise 0x8102 1 (pathCal c) [byteOf c, byteOf t, byteOf reason]

/-- R467, R469: a condition that no longer holds ends the procedure in progress: 5 = the looped link, 4 = any other. -/
def State.calWatch (s : State) : State :=
  match s.cal.running with
  | none => s
  | some (c, t, _) =>
    if c = 4 && s.laneState (.eth t) ≠ lnActive then s.calFail 5
    else if !s.domainOn 63 || !s.calCondition c t then s.calFail 4
    else s

/-- CAL_COMMAND 1 to 5, R467. -/
def calStart (c : Nat) : Effect := fun s => do
  let t := s.nat Key.calTarget
  let loading := s.dap.transfers.any fun x => x.index = 0x8100 && x.sub = 1 && x.mode ≠ 0 && !x.abandoned
  firstCheck [(!s.domainOn 63 || !s.calCondition c t, abState),
    (s.cal.running.isSome || s.cal.saving.isSome || loading, abBusy)]
  let s := { s with cal := { s.cal with running := some (c, t, s.cycles) } }
  let s := (s.setObj Key.calStatus 1).setObj Key.calResult 0
  .ok (if c = 3 then onLane (.camera t) (fun s => s.holdLane (.camera t) 1) s else s)

/-- CAL_COMMAND 6, R466. -/
def calSaveWrite : Effect := fun s =>
  if s.cal.saving.isSome then .error abBusy
  else .ok { s with cal := { s.cal with saving := some (s.dom Key.calTrims) } }

/-- CAL_COMMAND 7, R466. -/
def calRevertWrite : Effect := fun s => .ok (s.setTrims (factoryTrims s.part.ports) 0)

/-- CAL_COMMAND 8, R467, R469. -/
def calAbortWrite : Effect := fun s => .ok (s.calFail 3)

/-- CAL_COMMAND. -/
def calCommandWrite (c : Nat) : Effect :=
  if c < 6 then calStart c else if c = 6 then calSaveWrite else if c = 7 then calRevertWrite else calAbortWrite

/-- R467: cycles that a procedure takes. -/
def State.calDuration (s : State) (c : Nat) : Nat :=
  match c with
  | 1 => secCycles (s.nat Key.calOscGate) + msCycles 10
  | 2 => msCycles 20
  | 3 => msCycles 50
  | 4 => msCycles 100
  | _ => msCycles 30

/-- A result: the raw measurement, and the fields it writes as offset, bytes and value; none where one is out of range. -/
structure CalOutcome where
  raw : Int
  fields : Option (List (Nat × Nat × Nat))
  deriving DecidableEq, Repr

/-- Keep fields only where they are in range. -/
def inRange (ok : Bool) (l : List (Nat × Nat × Nat)) : Option (List (Nat × Nat × Nat)) := if ok then some l else none

/-- R467: the OSC trim for N cycles over a gate of g seconds. -/
def oscResult (g n : Nat) : CalOutcome :=
  let n0 : Int := (3000000000 * g : Nat)
  if n = 0 then ⟨-n0, none⟩
  else
    let osc := (2 * (10 ^ 15 : Nat) * (n0 - n) + n) / (2 * n)
    ⟨n - n0, inRange (osc.natAbs ≤ 200000000000) [(4, 8, ofSigned 64 osc)]⟩

/-- R467: the offsets of the nine rails; the raw code is free (log 27). -/
def smResult (raw : Int) (l : List Int) : CalOutcome :=
  let nine := l.length = 9 && l.all fun x => x.natAbs ≤ 50
  ⟨raw, inRange nine ((l.zip (List.range 9)).map fun x => (140 + 2 * x.2, 2, ofSigned 16 x.1))⟩

/-- R467: a camera receiver; the raw code is free (log 27). -/
def cameraResult (raw : Int) (port phase slicer : Nat) : CalOutcome :=
  ⟨raw, inRange (phase ≤ 63 && slicer ≤ 127) [(44 + port, 1, phase), (92 + port, 1, slicer)]⟩

/-- R467: the latencies of an Ethernet port: m is the measurement in 0.1 ns, split as the factory values a and b are; a share
between two steps goes a free way (log 27). -/
def ethResult (port a b : Nat) (m : Int) (way : Nat) : CalOutcome :=
  let n := m.toNat
  let rx := if a + b = 0 then way % (n + 1)
    else if n * a % (a + b) = 0 then n * a / (a + b) else n * a / (a + b) + way % 2
  ⟨100 * m, inRange (decide (0 ≤ m) && rx ≤ 65535 && n - rx ≤ 65535) [(28 + 2 * port, 2, rx), (36 + 2 * port, 2, n - rx)]⟩

/-- R467: BELL[n] from the delays of pins 0 and n in ps. -/
def bellResult (pin : Nat) (c0 d0 d : Int) : CalOutcome :=
  if pin = 0 then ⟨d, some []⟩
  else
    let c := c0 + (2 * (d0 - d) + 8) / 16
    ⟨d, inRange (decide (-128 ≤ c) && decide (c ≤ 127)) [(12 + pin, 1, ofSigned 8 c)]⟩

/-- What a measurement yields for the procedure in progress; none where it belongs to another. -/
def State.calOutcome (s : State) (c target : Nat) (m : CalMeasurement) : Option (CalOutcome × State) :=
  let d := s.draw
  match c, m with
  | 1, .oscCycles n => some (oscResult (s.nat Key.calOscGate) n, s)
  | 2, .supply l => some (smResult (Config.calCode d.1) l, d.2)
  | 3, .camera p z => some (cameraResult (Config.calCode d.1) target p z, d.2)
  | 4, .ethLatency sum =>
    let f := factoryTrims s.part.ports
    some (ethResult target (leAt f (28 + 2 * target) 2) (leAt f (36 + 2 * target) 2)
      ((sum : Int) - s.nat Key.calEthLoopDelay) (Config.calRounding d.1), d.2)
  | 5, .bellDelay ps =>
    some (bellResult target (toSigned 8 (leAt (s.dom Key.calTrims) 12 1)) (s.cal.d0.getD 0) ps, s)
  | _, _ => none

/-- R468: the 256 pulses of procedure 5. -/
def State.calPulses (s : State) (pin : Nat) : State :=
  let high := s.nat (Key.bellPinMode pin) = 1
  let taps : Int := s.pinTaps pin 0
  (List.range 256).foldl (fun s _ => (s.send (.bellPin pin high taps)).send (.bellPin pin (!high) taps)) s

/-- R462, R467: the fields go into the record in one step, under a new CRC. -/
def State.writeTrims (s : State) (l : List (Nat × Nat × Nat)) : State :=
  let old := s.dom Key.calTrims
  let new := sealTrims (l.foldl (fun r f => overlay r f.1 (leBytes f.2.1 f.2.2)) old)
  if new = old then s else s.setTrims new 2

/-- R467: the procedure in progress completes, or its result is out of range. -/
def State.calEnd (s : State) (c target : Nat) (r : CalOutcome) : State :=
  let s := s.setObj Key.calMeasured r.raw
  match r.fields with
  | none => s.calFail 2
  | some l =>
    let s := if c = 5 && target = 0 then { s with cal := { s.cal with d0 := some r.raw } } else s
    let s := (s.writeTrims l).calOver c target 2 0
    s.raise 0x8101 0 (pathCal c) ([byteOf c, byteOf target] ++ leBytes 8 (ofSigned 64 r.raw))

/-- CAL_PROCEDURE_COMPLETE, R467, R469: the measurement of the procedure in progress; an absent reference shows after 10 ms. -/
def calProcedureComplete (m : CalMeasurement) (s : State) : State :=
  match s.cal.running with
  | none => s
  | some (c, t, start) =>
    match m with
    | .referenceAbsent =>
      s.whenever ((c = 1 || c = 2 || c = 5) && msCycles 10 ≤ s.since start) fun s => s.calFail 1
    | .linkLost => s.whenever (c = 4) fun s => s.calFail 5
    | m =>
      match s.calOutcome c t m with
      | none => s
      | some (r, s') =>
        s.whenever (s.calDuration c ≤ s.since start) fun _ =>
          (if c = 5 then s'.calPulses t else s').calEnd c t r

def execCalProcedureComplete (m : CalMeasurement) (s : State) : Res := .next (calProcedureComplete m s)

end Sys2Proof.Machine
end

