-- ==== Sys2Proof/Machine/Test.lean ====
section
/-! DEFINITION. Chapter 18: pipeline fences, injected frames, golden comparators, SRAM tests and DRAM retraining (R475 to R488). -/
namespace Sys2Proof.Machine

/-! Fences (R475). -/

/-- The ports whose shadow set may become live through a commit that is pending or waiting. -/
def State.shadowCounts (s : State) (port : Nat) : Bool := (s.commitAt 0x40 port).isSome

/-- R475: does a port feed a pipeline, or would a commit on its way make it? -/
def State.pipeNamed (s : State) (p : Nat) : Bool :=
  ((List.range 6).map (6 * (p / 3) + ·)).any fun i =>
    s.livePipe i = some p || (s.shadowCounts i && pipeOf i (s.obj (Key.capPipe i)) = some p)

/-- TEST_PIPE_FENCE, R475. -/
def testPipeFenceWrite (p v : Nat) : Effect := fun s =>
  let old := s.nat (Key.testPipeFence p)
  if (v = 1 && s.pipeNamed p) || (v = 0 && (s.pipe p).inj.isSome) then .error abState
  else if v = old then .ok s
  else .ok ((s.setObj (Key.testPipeFence p) v).raise 0x9004 0 (pathPipe p) [byteOf v])

/-! Injected frames (R477 to R480). -/

/-- R478, checks 3, 5 and 6: the fields of a descriptor. -/
def injectFields (d : Bytes) : Bool :=
  let w := leAt d 8 2
  let h := leAt d 10 2
  let lp := leAt d 16 4
  let iv := leAt d 40 4
  d.length = 48 && 16 ≤ w && w ≤ 8192 && w % 2 = 0 && 8 ≤ h && h ≤ 6144 && h % 2 = 0 &&
    [8, 10, 12, 14, 16, 20].contains (leAt d 12 1) && 1 ≤ leAt d 13 1 && leAt d 13 1 ≤ 3 && leAt d 14 2 = 0 &&
    500 ≤ lp && lp ≤ 1000000 && time96Valid (leAt d 22 12) && 1000 ≤ iv && iv ≤ 10000000 && leAt d 44 4 = 0

/-- R477: bytes of the buffer. -/
def injectBytes (d : Bytes) : Nat := leAt d 10 2 * leAt d 13 1 * ceilDiv (leAt d 8 2 * leAt d 12 1) 8

/-- TEST_INJECT_COMMAND 1, R478. The next frame of input 0 is then FRAME (R205). -/
def injectStartWrite (p : Nat) : Effect := fun s => do
  let d := s.dom (Key.testInjectDesc p)
  let lo := leAt d 0 8
  let clocks := (leAt d 8 2 * leAt d 13 1 + 64) * 1000000000
  firstCheck [
    (!s.flag (Key.testPipeFence p) || !s.domainOn (pipeDomain p) || !s.domainOn 63 || !s.flag Key.memDramReady, abState),
    ((s.pipe p).inj.isSome, abBusy),
    (!injectFields d, abRange),
    (lo < dramBase || dramBase + s.hostBytes < lo + injectBytes d, abRange),
    (1500000000 * leAt d 16 4 < clocks, abRange),
    (leAt d 40 4 * 1000 < leAt d 10 2 * leAt d 16 4, abRange),
    (leAt d 20 2 ≠ s.epoch || ofTime96 (leAt d 22 12) < s.now + usUnits 10, abRange)]
  let count := leAt d 38 2
  let i : Inject := ⟨d, 0, if count = 0 then none else some count, false⟩
  let s := s.updInput (2 * p) fun x => { x with lastHanded := some ((leAt d 34 4 + (2 ^ 32 - 1)) % 2 ^ 32) }
  .ok (((s.updPipe p fun x => { x with inj := some i }).setObj (Key.testInjectState p) 1).setObj (Key.testInjectFrames p) 0)

/-- TEST_INJECT_COMMAND 2, R480. -/
def injectStopWrite (p : Nat) : Effect := fun s =>
  match (s.pipe p).inj with
  | none => .ok s
  | some i => .ok ((s.updPipe p fun x => { x with inj := some { i with stopping := true } }).injectSettle p)

/-- R479: capture time of frame k. -/
def Inject.capture (i : Inject) : Instant :=
  ⟨leAt i.desc 20 2, (ofTime96 (leAt i.desc 22 12) + i.next * usUnits (leAt i.desc 40 4) : Nat)⟩

/-- R479: the injected frame k. -/
def State.injectFrame (s : State) (p : Nat) (i : Inject) : Frame :=
  let d := i.desc
  { fid := s.nextFid, port := 0xFFFF, num := (leAt d 34 4 + i.next) % 2 ^ 32, sframe := 0, stamp := i.capture, arrived := s.cycles,
    capture := i.capture, source := 3, nexp := leAt d 13 1, format := leAt d 12 1, width := leAt d 8 2, height := leAt d 10 2,
    linePeriod := leAt d 16 4, framePeriod := leAt d 40 4, fsDelay := 0, pipe := some p, input := 0, capGen := 0, sensorGen := 0,
    pipeGen := 0, cflags := 0, card := if s.sup.dip then 2 ^ cardDip else 0, sflags := 0, repaired := 0, link := 0, reason := 0,
    dropped := false, recovered := false, slots := [], nextLine := [], good := [], embedded := 0, echo := none, echoLate := false,
    handed := false, taken := [], closed := false, synthetic := true }

/-- INJECT_FRAME_START, R479, R480: the capture time of the next frame has come. -/
def injectFrameStart (p : Nat) (s : State) : State :=
  match (s.pipe p).inj with
  | none => s
  | some i =>
    s.whenever (!i.stopping && i.left ≠ some 0 && s.reached i.capture) fun s =>
      let f := s.injectFrame p i
      let s := { s with frames := s.frames ++ [f], nextFid := s.nextFid + 1 }.noteStamp p 0 f.num f.stamp
      let s := s.updPipe p fun x => { x with inj := some { i with next := i.next + 1, left := i.left.map (· - 1) } }
      ((s.setObj (Key.testInjectState p) 2).bump (Key.testInjectFrames p)).settleViews

def execInjectFrameStart (pipe : Nat) (s : State) : Res := onUnit (s.part.has .pipe pipe) (injectFrameStart pipe s)

/-! Golden comparators (R481, R482). -/

/-- TEST_GOLDEN_SPEC: its comparator is armed. -/
def testGoldenSpecWrite (k v : Nat) : Effect := fun s =>
  .ok (((s.setObj (Key.testGoldenSpec k) v).setObj (Key.testGoldenResult k) 1).setObj (Key.testGoldenSeen k) 0)

/-! SRAM tests (R483 to R485). -/

/-- Is the test of a memory running? -/
def State.bistOn (s : State) (m : Nat) : Bool := s.nat (Key.testBistResult m) = 1

/-- R483: is a hub quiesced? -/
def State.quiesced (s : State) (h : Nat) : Bool :=
  ((List.range 6).all fun i => s.laneNat (.camera (6 * h + i)) oEnable = 0) && (s.engineChannels h).isEmpty &&
    (List.range 3).all fun k => (s.pipe (3 * h + k)).inj.isNone

/-- TEST_BIST_COMMAND, R484, R485. The boot ROM alone tests CX and AX. -/
def testBistWrite (m : Nat) : Effect := fun s => do
  let ready := if m < 8 then s.quiesced m && s.domainOn (6 * m + 5) else m < 10 && s.boot.outOfService
  firstCheck [(!ready, abState), (s.bistOn m, abBusy)]
  .ok (((s.setObj (Key.testBistResult m) 1).setObj (Key.testBistFails m) 0).setObj (Key.testBistFirstAddr m) 0)

/-- R484: a test ends with a result; its cluster is reset. -/
def State.bistEnd (s : State) (m result fails first : Nat) : State :=
  let s := ((s.setObj (Key.testBistResult m) result).setObj (Key.testBistFails m) fails).setObj (Key.testBistFirstAddr m) first
  (s.clusterReset m 0).raise 0x9003 0 (pathCluster m) ([byteOf m, byteOf result] ++ leBytes 4 fails)

/-- BIST_COMPLETE, R484: `first` is the address of the first failing word, of the memory tested. -/
def bistComplete (m fails first : Nat) (s : State) : State :=
  s.whenever (s.bistOn m) fun s =>
    if fails = 0 then s.bistEnd m 2 0 0 else s.bistEnd m 3 (fails % 2 ^ 32) (first % 2 ^ 64)

def execBistComplete (memory fails first : Nat) (s : State) : Res :=
  onUnit (s.part.has .cluster memory) (bistComplete memory fails first s)

/-! DRAM retraining (R486). -/

/-- TEST_DRAM_RETRAIN. -/
def testDramRetrainWrite : Effect := fun s =>
  if !s.boot.outOfService then .error abState
  else .ok { s.setFlag Key.memDramReady false with dram := { s.dram with training := true } }

end Sys2Proof.Machine
end

