-- ==== Sys2Proof/Machine/Recovery.lean ====
section
/-! DEFINITION. The recovery ladder (R26, R33 to R37, R455 to R458, R516) and the memory scrub (R412 to R414). -/
namespace Sys2Proof.Machine

/-! What the watchdogs share (R35, R456). -/

/-- Does the device run its firmware? -/
def State.running (s : State) : Bool := s.boot.held.isNone && s.boot.mode = 0

/-- R35: is a reset of a cluster in progress? -/
def State.resetting (s : State) (c : Nat) : Bool := (mapGet c s.rcv.clusters).isSome

/-- R456: is a level in report-only mode? -/
def State.reportOnly (s : State) (level : Nat) : Bool := (s.nat Key.rcvPolicy).testBit (level - 1)

/-- R456: an expiry in report-only mode. -/
def State.report (s : State) (level : Nat) (path : String) : State := s.raise 0xA006 1 path [byteOf level]

/-! Level 1: crossings (R26, R455). -/

/-- The units that may own crossings (log 8). -/
inductive Owner where
  | engine (e : Nat)
  | core (c : Nat)
  | pipe (p : Nat)
  | port (i : Nat)
  | codec (n : Nat)
  deriving DecidableEq, Repr

def Part.owners (p : Part) : List Owner :=
  ((List.range 11).filter p.dmaPresent).map .engine ++ (List.range (16 * p.warps)).map .core ++
    (List.range p.pipes).map .pipe ++ (List.range p.ports).map .port ++ (List.range p.warps).map .codec

def Owner.path : Owner → String
  | .engine e => pathDma e
  | .core c => pathCore c
  | .pipe p => pathPipe p
  | .port i => pathPort i
  | .codec n => "MX.X" ++ natText n

/-- The cluster of an owner, as RST_CLUSTER numbers it. -/
def Owner.cluster : Owner → Nat
  | .engine e => if e < 8 then e else if e = 10 then 9 else 8
  | .core _ | .codec _ => 8
  | .pipe p => p / 3
  | .port i => i / 6

/-- Place of a crossing's owner among the part's. -/
def Part.ownerAt (p : Part) (n : Nat) : Nat := Config.crossingOwner n % p.owners.length

def Part.owner (p : Part) (n : Nat) : Owner := p.owners.getD (p.ownerAt n) (.pipe 0)

/-- R35: does an action in progress hold a unit's crossing watchdogs? -/
def State.ownerHeld (s : State) (o : Owner) : Bool :=
  !s.running || s.resetting o.cluster ||
    (match o with
    | .pipe p => (s.pipe p).restart
    | _ => false)

/-- R395: the FIFOs that a unit fills end their item, those that it empties are flushed. -/
def State.unitFifos (s : State) (k : Nat) : State :=
  let n := s.part.owners.length
  ((List.range 636).filter s.part.fifoPresent).foldl (fun s f =>
    let s := if Config.fifoProducer f % n = k then s.updFifo f FifoSt.producerRestart else s
    if Config.fifoConsumer f % n = k then s.updFifo f FifoSt.flush else s) s

/-- R390, R303: what a unit's restart does beside its FIFOs. -/
def State.unitRestart (s : State) : Owner → State
  | .engine e => s.engineRestart e
  | .core c => s.coreRestart c
  | .pipe _ | .port _ | .codec _ => s

/-- Change a crossing. -/
def State.updCrossing (s : State) (n : Nat) (f : CrossSt → CrossSt) : State :=
  { s with crossings := mapSet n (f (s.crossing n)) s.crossings }

/-- CROSSING_WATCHDOG, R26, R455 to R457. -/
def crossingWatchdog (n : Nat) (s : State) : State :=
  let k := s.part.ownerAt n
  let o := s.part.owner n
  match (s.crossing n).request with
  | none => s
  | some (w, t, limit) =>
    s.whenever (limit ≤ s.since t && !s.ownerHeld o) fun s =>
      if s.reportOnly 1 then
        (s.updCrossing n fun x => { x with
          request := some (w, s.cycles, usCycles (s.nat Key.rcvCrossingTimeout)) }).report 1 o.path
      else
        let s := { s with rcv := { s.rcv with crossings := mapSet k (satAdd 32 (mapGetD k 0 s.rcv.crossings) 1) s.rcv.crossings } }
        let s := (s.raiseAt 0xA001 3 1 o.path (leBytes 2 n)).updCrossing n fun x => { x with request := none }
        (s.unitFifos k).unitRestart o

def execCrossingWatchdog (crossing : Nat) (s : State) : Res :=
  onUnit (crossing < s.part.crossings) (crossingWatchdog crossing s)

/-! A change of an island's clock (R24, R27). -/

/-- The island of a unit that owns crossings, by its row of R24's table and its instance; a port's receiver runs on the lane's clock. -/
def Owner.island : Owner → Option (Nat × Nat)
  | .engine e => some (if e < 8 then (3, e) else if e = 10 then (7, 0) else (5, 0))
  | .core c => some (4, c / 16)
  | .pipe p => some (2, p)
  | .port _ => none
  | .codec n => some (6, n)

/-- R438: the domain that powers an island; the control island is always on. -/
def islandDomain (kind inst : Nat) : Option Nat :=
  match kind with
  | 2 => some (pipeDomain inst) | 3 => some (6 * inst + 5) | 4 => some (48 + inst) | 5 => some 54 | 6 => some (52 + inst / 2)
  | 7 => some 55 | 8 => some (59 + inst)
  | _ => none

/-- R27: does every crossing of an island stand between two handshakes? A crossing is its owner's island's (log 50). -/
def State.betweenHandshakes (s : State) (kind inst : Nat) : Bool :=
  (List.range s.part.crossings).all fun n =>
    (s.part.owner n).island != some (kind, inst) || (s.crossing n).request.isNone

/-- R501: is a clock no higher than the island's present one, or within what the confirmed set point of VDD_CORE supports (log 49)? -/
def State.clockSupported (s : State) (kind inst hertz : Nat) : Bool :=
  hertz ≤ mapGetD (kind * 64 + inst) (islandCeiling kind) s.pwr.clocks || hertz ≤ Config.clockLimit (s.nat Key.pwrAvsPoint) kind

/-- ISLAND_CLOCK_CHANGE, R27, R28, R441, R501: while the island runs, between handshakes, within the ceiling and the required rate; the
estimate that follows is free (log 15). -/
def islandClockChange (kind inst hertz : Nat) (s : State) : State :=
  s.whenever (s.running && (islandDomain kind inst).all s.domainOn && s.betweenHandshakes kind inst &&
      hertz ≤ islandCeiling kind && s.islandFloor kind inst ≤ hertz && s.clockSupported kind inst hertz) fun s =>
    let (n, s) := s.draw
    let s := s.setObj Key.pwrEstimate (Config.powerEstimate n % 2 ^ 32 : Nat)
    s.withPwr fun p => { p with clocks := mapSet (kind * 64 + inst) hertz p.clocks }

def execIslandClockChange (kind inst hertz : Nat) (s : State) : Res :=
  onUnit (s.part.islandPresent kind inst) (islandClockChange kind inst hertz s)

/-- RCV_CROSSING_DIRECTORY and RCV_CROSSING_COUNTS, R459. -/
def crossingDirectory (p : Part) : Bytes :=
  (List.range p.crossings).flatMap fun n => padTo 16 (ascii ((p.owner n).path ++ ".X" ++ natText n))

def State.crossingCounts (s : State) : Bytes :=
  (List.range s.part.crossings).flatMap fun n => leBytes 4 (mapGetD (s.part.ownerAt n) 0 s.rcv.crossings)

/-! Level 2: pipelines (R455, R457, R516). -/

/-- Frames of a pipeline that are not closed: those in progress first. -/
def State.pipeWork (s : State) (p : Nat) : List Frame :=
  s.framesOfPipe p (·.handed) ++ s.framesOfPipe p (!·.handed)

/-- PIPE_WATCHDOG, R34, R455 to R457: a stage whose input has waited for the level's timeout. `stage`: 0 to 15, or 0xFF. -/
def pipeWatchdog (p stage : Nat) (s : State) : State :=
  match s.pipeWork p with
  | [] => s
  | f :: _ =>
    s.whenever ((stage < 16 || stage = 0xFF) && s.running && s.domainOn (pipeDomain p) && !s.resetting (p / 3) && !(s.pipe p).restart &&
        (s.pipe p).watch.any s.expired) fun s =>
      if s.reportOnly 2 then
        (s.updPipe p fun x => { x with watch := some (s.cycles, s.pipeTimeout f.framePeriod) }).report 2 (pathPipe p)
      else
        let s := (s.bump (Key.rcvPipeCount p)).updPipe p fun x => { x with restart := true, watch := none }
        s.raiseAt 0xA002 3 2 (pathPipe p) (leBytes 4 f.num ++ [byteOf stage])

def execPipeWatchdog (pipe stage : Nat) (s : State) : Res :=
  onUnit (s.part.has .pipe pipe) (pipeWatchdog pipe stage s)

/-- R516: the accepted frame at which a restart acts: the oldest FS of those not begun. -/
def State.restartFs (s : State) (p : Nat) : Option Frame :=
  match s.framesOfPipe p fun f => !f.handed && s.pipeTakes p f with
  | [] => none
  | f :: r => some (r.foldl (fun a b => if s.leq a.stamp b.stamp then a else b) f)

/-- PIPELINE_RESTART, R37, R251, R516. -/
def pipelineRestart (p : Nat) (s : State) : State :=
  match s.restartFs p with
  | none => s
  | some f =>
    s.whenever ((s.pipe p).restart && s.running) fun s =>
      ((s.clearPipe p).updPipe p fun x => { x with restart := false }).handOver f

def execPipelineRestart (pipe : Nat) (s : State) : Res := onUnit (s.part.has .pipe pipe) (pipelineRestart pipe s)

/-! Level 3: hubs (R455, R458). -/

/-- R458: the hub's watchdog resets of the last 60 s, with the one of now. -/
def State.hubResets (s : State) (h : Nat) : List Nat :=
  s.cycles :: (mapGetD h [] s.rcv.hubTimes).filter fun t => s.since t ≤ secCycles 60

/-- R458: a hub is quarantined. -/
def State.quarantine (s : State) (h : Nat) : State :=
  (((List.range 6).map (6 * h + ·)).foldl (fun s d => s.dropDomain 4 d) s).raise 0xA005 2 (pathCluster h) [byteOf h]

/-- R33, R455: has the hub's fabric (cause 1), or a RUNNING channel of its engine (cause 2), made no progress for the level's timeout? A
channel that the device owns is timed with the fabric that carries it (log 50). -/
def State.hubStuck (s : State) (h cause ch : Nat) : Bool :=
  let fabric := (mapGet h s.rcv.hubWatch).any s.expired
  if cause = 1 then fabric
  else if cause = 2 && ch < 56 then fabric
  else cause = 2 && ch < 64 && s.chState h ch = dmaRunning && s.expired ((s.xfer h ch).ready, (s.xfer h ch).limit)

/-- R456: the timing of level 3 starts anew from an expiry. -/
def State.hubRetime (s : State) (h cause ch : Nat) : State :=
  if cause = 2 && 56 ≤ ch then s.updXfer h ch fun x => { x with ready := s.cycles, limit := s.hubTimeout } else s.hubMoves h

/-- HUB_WATCHDOG, R34, R455 to R458, R484. `cause`: 1 = fabric, 2 = a RUNNING DMA channel. -/
def hubWatchdog (h cause ch : Nat) (s : State) : State :=
  s.whenever (s.running && s.hubStuck h cause ch && s.domainOn (6 * h + 5) && !s.resetting h && !s.bistOn h) fun s =>
    if s.reportOnly 3 then (s.hubRetime h cause ch).report 3 (pathCluster h)
    else
      let s := s.bump (Key.rcvHubCount h)
      let s := s.raiseAt 0xA003 3 3 (pathCluster h) ([byteOf h, byteOf cause] ++ leBytes 2 ch)
      let l := s.hubResets h
      let limit := s.nat Key.rcvHubLimit
      let s := { s with rcv := { s.rcv with hubTimes := mapSet h l s.rcv.hubTimes } }
      let s := s.clusterReset h 1
      if limit ≠ 0 && limit ≤ l.length then s.quarantine h else s

def execHubWatchdog (hub cause channel : Nat) (s : State) : Res :=
  onUnit (hub < s.part.hubs) (hubWatchdog hub cause channel s)

/-! Level 4: the firmware (R455, R457). -/

/-- FW_WATCHDOG: no heartbeat for the level's timeout: BOOT_REASON 3; event 0xA004 follows at the next boot. -/
def fwWatchdog (s : State) : State :=
  s.whenever (s.running && s.expired s.boot.beat) fun s =>
    let s := s.bump Key.rcvFwCount
    let s := { s with boot := { s.boot with barked := s.nat Key.bootCount } }
    s.deviceReset 3

def execFwWatchdog (s : State) : Res := .next (fwWatchdog s)

/-- RCV_CLEAR, R457. -/
def rcvClearWrite : Effect := fun s =>
  let s := (List.range 24).foldl (fun s p => s.resetObj (Key.rcvPipeCount p)) s
  let s := (List.range 8).foldl (fun s h => s.resetObj (Key.rcvHubCount h)) s
  .ok { s.resetObj Key.rcvFwCount with rcv := { s.rcv with crossings := [] } }

/-- FAULT_N is driven low, R454. -/
def State.faultLow (s : State) : Bool :=
  s.boot.held = some 1 || (s.boot.held.isNone && s.boot.mode ≠ 0) || (s.dram.failed && !s.flag Key.memDramReady) ||
    (List.range 48).any fun d => s.nat (Key.pwrDomainState d) = 4

/-! The scrub (R412 to R414). -/

/-- Does an address lie in memory m? AX's have none. -/
def State.inMemory (s : State) (m addr : Nat) : Bool := m = 11 || s.memoryAt addr = some m

/-- R412: cycles of a pass. -/
def State.scrubPeriod (s : State) (m : Nat) : Nat :=
  if m < 12 then msCycles (s.nat Key.memScrubPeriod) else secCycles (s.nat Key.memDramScrubPeriod)

/-- One word that a scrub read with an error. -/
def State.scrubFinding (s : State) (m : Nat) (x : ScrubFinding) : State :=
  match x with
  | .corrected a => if s.inMemory m a then s.noteCorrected m a else s
  | .uncorrected a =>
    if !s.inMemory m a || s.boot.held.isSome then s
    else
      let s := (s.noteUncorrected m a).poisonAt m a
      if m = 10 then s.deviceReset 4 else s

/-- SCRUB_PASS, R412: a pass ends with what it found, and the next begins. -/
def scrubPass (m : Nat) (l : List ScrubFinding) (s : State) : State :=
  let able := m < 12 || (s.hasEcc m && s.flag Key.memDramReady)
  s.whenever (s.running && able && s.scrubPeriod m ≤ s.since (mapGetD m s.boot.release s.mems.scrubbed)) fun s =>
    let s := { s with mems := { s.mems with scrubbed := mapSet m s.cycles s.mems.scrubbed } }
    l.foldl (fun s x => s.scrubFinding m x) s

def execScrubPass (memory : Nat) (findings : List ScrubFinding) (s : State) : Res :=
  onUnit (s.part.memoryPresent memory) (scrubPass memory findings s)

end Sys2Proof.Machine
end

