-- ==== Sys2Proof/Machine/Supply.lean ====
section
/-! DEFINITION. Supply dips (R450 to R452), and what the block does while no command waits (log 1). -/
namespace Sys2Proof.Machine

/-- R450: is AX.SM awake? -/
def State.monitored (s : State) : Bool :=
  match s.boot.held with
  | some k => 2 ≤ k
  | none => true

/-- R321, R452: the frames whose interval a dip overlaps are flagged. -/
def State.flagDip (s : State) : State :=
  let touch := fun (f : Frame) => if f.closed then f else { f with card := f.card ||| 2 ^ cardDip }
  let mark := fun (o : OutFrame) => if o.ended then o else { o with card := o.card ||| 2 ^ cardDip }
  { s with frames := s.frames.map touch, mrg := { s.mrg with frames := s.mrg.frames.map mark } }

/-- R69, R452: a save in progress pauses. -/
def State.pauseSave (s : State) : State :=
  if s.store.snapshot.isSome then (s.setObj Key.storeStatus 2).raise 0x1303 1 "CX" [] else s

/-- R484: a dip spoils the SRAM tests that run. -/
def State.spoilBist (s : State) : State :=
  ((List.range 10).filter s.bistOn).foldl (fun s m => s.bistEnd m 4 0 0) s

/-- SUPPLY_DIP_BEGIN, R451, R452: the first crossing counts, 2 µs after the rail crossed; `mv` is the voltage at the count. -/
def supplyDipBegin (rail mv : Nat) (s : State) : State :=
  s.whenever (s.monitored && !s.sup.dip) fun s =>
    let start := s.instant.plus (-(usUnits 2 : Nat))
    let s := { s with sup := { s.sup with dip := true, start := start, since := s.cycles } }
    let s := (s.setFlag Key.smDipActive true).bump Key.smDipCount
    let s := (s.setObj Key.smLastDipEpoch start.epoch).setObj Key.smLastDipStart (toTime96 start.t.toNat : Nat)
    let s := s.raise 0x8001 1 "AX.SM" (byteOf rail :: leBytes 2 mv)
    (s.flagDip.pauseSave.calFail 4).spoilBist

def execSupplyDipBegin (rail millivolt : Nat) (s : State) : Res := onUnit (rail < 9) (supplyDipBegin rail millivolt s)

/-- R124: commits whose instant fell within the dip become pending. -/
def State.freeCommits (s : State) : State :=
  { s with commits := { s.commits with pending := s.commits.pending.map fun c => { c with held := false } } }

/-- R434: a tandem change that waited is applied. -/
def State.lateTandem (s : State) : State :=
  match s.prot.proposal with
  | some p => if p.deferred then (s.applyTandem p).closeChanged s.prot.secrets else s
  | none => s

/-- R412, R452: every SRAM starts a new pass. -/
def State.freshScrubs (s : State) : State :=
  let srams := (List.range 12).filter s.part.memoryPresent
  { s with mems := { s.mems with scrubbed := srams.foldl (fun m k => mapSet k s.cycles m) s.mems.scrubbed } }

/-- R452: ten evaluations on every port that is up. -/
def State.dipEvaluations (s : State) : State :=
  (((List.range s.part.ports).map Lane.camera).filter s.laneUp).foldl (fun s l =>
    s.updLane l fun x => { x with dipEvals := 10, dipLow := 0 }) s

/-- SUPPLY_DIP_END, R451, R452: `rail` and `mv` are the deepest relative minimum. -/
def supplyDipEnd (rail mv : Nat) (s : State) : State :=
  s.whenever (s.monitored && s.sup.dip) fun s =>
    let us := s.since s.sup.since / usCycles 1 + 2
    let s := { s with sup := { s.sup with dip := false } }
    let s := ((s.setFlag Key.smDipActive false).setObj Key.smLastDipRail rail).setObj Key.smLastDipMin mv
    let s := s.setObj Key.smLastDipDuration us
    let s := s.raise 0x8002 1 "AX.SM" (byteOf rail :: leBytes 2 mv ++ leBytes 4 us)
    let s := if s.store.snapshot.isSome then s.setObj Key.storeStatus 1 else s
    s.freeCommits.lateTandem.freshScrubs.dipEvaluations

def execSupplyDipEnd (rail millivolt : Nat) (s : State) : Res := onUnit (rail < 9) (supplyDipEnd rail millivolt s)

/-- R455: the firmware gives its heartbeat, at instants of its own (log 50), and level 2 times what waits. -/
def State.watch (s : State) : State :=
  { s.watchPipes with boot := { s.boot with beat := if Config.heartbeat s.cycles then (s.cycles, s.fwTimeout) else s.boot.beat } }

/-- Log 1: one time base cycle passes; a power-on or supply reset holds the time base still. -/
def State.idle (s : State) : State :=
  match s.boot.held with
  | some k => if k < 2 then { s with cycles := s.cycles + 1 } else s.tick
  | none => s.ageOut.watch.beat.powerProgress.calWatch

end Sys2Proof.Machine
end

