-- ==== Sys2Proof/Machine/Access.lean ====
section
/-! DEFINITION. Chapter 02: how an index and subindex name an entry (R38 to R44), what a session may do with it (R71, R429), and what
reading it gives (R41, R42), with the entries that report the state of a unit as it stands. -/
namespace Sys2Proof.Machine

/-! Naming an entry. -/

/-- What an index and subindex name: the count at subindex 0 (R39), or an instance of a row, and whether its live copy. -/
inductive Named where
  | count (n : Nat)
  | entry (o : Obj) (i : Nat) (live : Bool)
  deriving DecidableEq, Repr

/-- Does a row have an entry at an index? -/
def Obj.atIndex (o : Obj) (index : Nat) : Bool :=
  match o.inst with
  | .txts | .dmaEngine | .dmaChannel => (normIndex index).1 = o.idx
  | .one | .cluster => index = o.idx
  | k => o.idx ≤ index && index ≤ o.idx + (k.count - 1) / 255

/-- R39, R4: the instances of a row that stand at an index and are present, by subindex. -/
def Part.subsAt (p : Part) (o : Obj) (index : Nat) : List Nat :=
  (List.range 256).filter fun sub => match o.instanceAt index sub with
    | some i => p.has o.inst i
    | none => false

/-- R39: subindex 0: the number of instances of an array at the index, the highest subindex of a record, none of a variable. -/
def Part.countAt (p : Part) (rows : List Obj) (index : Nat) : Option Nat :=
  let subs := rows.flatMap fun o => p.subsAt o index
  if rows.any (·.isArray) then some subs.length
  else if 1 < subs.length then some (subs.foldl max 0)
  else none

/-- R71, conditions 1 and 2: what an index and subindex name on a part. -/
def Part.locate (p : Part) (index sub : Nat) : Except Nat Named :=
  let live := isLiveIndex index
  let base := shadowIndex index
  let rows := objects.filter fun o => o.atIndex base && (!live || o.acc = .rws)
  if (groupOf index).isNone || p.indexAbsent index || rows.isEmpty then .error abNoObject
  else if sub = 0 then
    match p.countAt rows base with
    | some n => .ok (.count n)
    | none => .error abNoSub
  else
    match findIn base sub rows with
    | some (o, i) => if p.has o.inst i then .ok (.entry o i live) else .error abNoSub
    | none => .error abNoSub

/-- The key under which the state holds an entry. -/
def entryKey (o : Obj) (i : Nat) (live : Bool) : Nat := if live then liveKey (o.keyOf i) else o.keyOf i

/-! Which part of the dictionary a boot offers, and permissions (R71, R420, R429). -/

/-- R420: the loader of a boot without a valid image offers groups 0, 4 and 5 only. -/
def State.offered (s : State) (index : Nat) : Bool :=
  s.boot.mode = 0 || [some 0, some 4, some 5].contains (groupOf index)

/-- R429: FW_IMAGE and FW_COMMAND need FW_UPDATE as well. -/
def updatesFirmware (o : Obj) : Bool := o.idx = 0x1420 && (o.sub = 1 || o.sub = 5)

/-- R425, R429: may a role write the entry? -/
def State.mayWriteEntry (s : State) (role index : Nat) (o : Obj) : Bool :=
  s.mayWrite role ((groupOf index).getD 0) && (!updatesFirmware o || (s.planByte 51).testBit role) &&
    (o.idx ≠ 0x1504 || o.sub ≠ 1 || (s.planByte 52).testBit role)

/-- R429: may a role read at an index? -/
def State.mayReadIndex (s : State) (role index : Nat) : Bool := s.mayRead role ((groupOf index).getD 0)

/-- R242: a locked input refuses a WRITE or BLOCK_END to its masks (a BLOCK_OPEN or BLOCK_DATA is not refused). -/
def State.maskLocked (s : State) (o : Obj) (i : Nat) : Bool :=
  (o.idx = 0x5010 || o.idx = 0x5011) && s.flag (liveKey (Key.pipeMaskLock i))

/-- R71, conditions 1 to 6 of a read: the entry, whether it is its live copy; the count of subindex 0 is read alike. -/
def State.toRead (s : State) (role index sub : Nat) : Except Nat Named := do
  let e ← s.part.locate index sub
  refuseIf (!s.mayReadIndex role index) abPlan
  match e with
  | .count n => .ok (.count n)
  | .entry o i live => do
    refuseIf (o.acc = .wo || (o.idx = 0x1401)) abWriteOnly
    .ok (.entry o i live)

/-- R71, conditions 1 to 6 of a write: the row and the instance. -/
def State.toWrite (s : State) (role index sub : Nat) : Except Nat (Obj × Nat) := do
  match (← s.part.locate index sub) with
  | .count _ => do
    refuseIf (!s.mayWrite role ((groupOf index).getD 0)) abPlan
    .error abReadOnly
  | .entry o i live => do
    refuseIf (!s.mayWriteEntry role index o) abPlan
    refuseIf (live || o.acc = .ro) abReadOnly
    refuseIf (o.acc = .rwp && (s.flag Key.protSealed || role ≠ 3)) abTandem
    .ok (o, i)

/-! Numbers that report a unit's state as it stands. -/

/-- Entries of this chapter and of chapters 07, 15 and 16. -/
def State.deviceValue (s : State) (k : Nat) : Option Int :=
  if k = Key.dapSessionsOpen then some s.dap.sessions.length
  else if k = Key.commitPendingCount then some s.commitCount
  else if k = Key.evtQueueFill then some s.ev.queue.length
  else if k = Key.evtLogTotal then some s.ev.seq
  else if k = Key.pwrThrottled then some (boolNat s.throttled)
  else if k = Key.tandemState then some s.tandemState
  else if k = Key.tandemRemaining then some s.tandemRemaining
  else if k = Key.tandemSignedRoles then some s.tandemRoles
  else if k = Key.memDeviceNeed then some (s.deviceNeed s.liveNum)
  else if k = Key.memDeviceAvailable then some s.deviceAvailable
  else none

/-- R106: beacons with echoes are arriving: the last one had one, and came within TB_SOURCE_TIMEOUT beacon intervals over a trunk that
is still received (the limit is a DESIGN CHOICE, log 41). -/
def State.beaconsArrive (s : State) : Bool :=
  s.flag Key.tbBeaconValid && s.laneUp (.trunk 8) && s.since s.tb.beaconAt < msCycles (s.nat Key.tbSourceTimeout)

/-- Entries of chapters 03 and 04, R100, R129. -/
def State.timeValue (s : State) (o : Obj) (i k : Nat) : Option Int :=
  let head := (mapGetD i [] s.tb.txts).head?
  let n := s.nat Key.ttQueryEntry
  if k = Key.tbNow then some (toTime96 s.now)
  else if k = Key.tbBeaconValid then some (boolNat s.beaconsArrive)
  else if k = Key.tbHoldoverTime then some s.holdoverSeconds
  else if o.idx = 0x2021 then some (s.ptpState i)
  else if o.idx = 0x2040 then
    match o.sub with
    | 1 => some (mapGetD i [] s.tb.txts).length
    | 2 => some ((head.map (·.ident)).getD 0)
    | 3 => some ((head.map (·.at_.epoch)).getD 0)
    | 4 => some ((head.map fun h => toTime96 h.at_.t.toNat).getD 0)
    | 5 => some ((head.map fun h => time32 h.at_.t.toNat).getD 0)
    | _ => none
  else if k = Key.ttArmedCount then some s.ttArmed
  else if k = Key.ttQueryState then some (s.ttState n)
  else if k = Key.ttQueryNextEpoch then some (((s.ttNext n).map (·.epoch)).getD 0)
  else if k = Key.ttQueryNextTime then some (((s.ttNext n).map fun x => toTime96 x.t.toNat).getD 0)
  else if k = Key.ttQueryFired then some (((s.run n).map (·.fired)).getD 0)
  else if k = Key.ttQuerySkipped then some (((s.run n).map (·.skipped)).getD 0)
  else if k = Key.bellUnitsLoaded then some s.bells.units.length
  else if k = Key.bellCommitsPending then some s.waitingCommits.length
  else none

/-- Entries of chapters 06 to 11. -/
def State.imageValue (s : State) (o : Obj) (i : Nat) : Option Int :=
  match o.idx with
  | 0x4701 => some (s.ingressFill i)
  | 0x4710 => some (s.pipeLoad i)
  | 0x4723 => some (s.pendingForm 0x40 i)
  | 0x5701 => some (s.nat (if s.isShared i then Key.pipeGenLiveB i else Key.pipeGenLive i))
  | 0x5705 => some (s.pendingForm 0x50 i)
  | 0x6718 => some (s.pendingForm 0x60 i)
  | 0x6741 => some (s.coreState i)
  | 0x6744 => some (s.meshUsed i)
  | 0x6745 => (let r := s.warpRate s.liveNum s.wideOf i; some (r.1 / (1000 * r.2) : Nat))
  | 0x6762 => some (s.outFill i)
  | 0x6790 => if o.sub = 1 then some s.queueFill else none
  | 0x67A1 => some (s.engineRate i / 1000 : Nat)
  | 0x7044 => some (s.expWaiting i)
  | _ => none

/-- Entries of chapters 12 and 13. -/
def State.netValue (s : State) (o : Obj) (i : Nat) : Option Int :=
  let f := s.flow (s.nat Key.nxFlowQuery)
  match o.idx, o.sub with
  | 0x7405, 2 => some s.addrUsed
  | 0x7418, _ => some (s.gateState i)
  | 0x7432, 4 => some (s.net.flows.filter fun x => !x.2.frames.isEmpty).length
  | 0x7433, 2 => some (lengthSum f.frames)
  | 0x7433, 3 => some f.deficit
  | 0x7433, 4 => some f.sent
  | 0x7433, 5 => some f.drops
  | 0x7B00, _ => some (s.fifoFill i)
  | 0x7B0C, _ => some (s.wmStatus i)
  | _, _ => none

/-- R166: a transmit lane of the trunk has no receiver, a receive lane no generator: what does not apply reads as 0. -/
def laneApplies (o : Obj) (i : Nat) : Bool :=
  if o.inst ≠ .trunkLane then true
  else
    let off := o.idx - 0x3100
    if i < 8 then !([oMinRate, oFom, oRxEq, oPartner, oCommand, oTestMode, oPrbsBits, oPrbsErrors, oCodeErrors,
      oAlignLoss, oLosCount, oTrainCount, oMsgErrors, oPartnerErrors].contains off)
    else off ≠ oInject

/-- The lane that an instance of a LANE row is (R166). -/
def laneAt (o : Obj) (i : Nat) : Lane :=
  if o.idx < 0x3100 then .camera i else if o.idx < 0x3200 then .trunk i else .eth i

/-- R160: bits that a locked checker has counted are in its counter as well. -/
def State.laneValue (s : State) (o : Obj) (i k : Nat) : Option Int :=
  if o.idx < 0x3000 ∨ 0x3280 ≤ o.idx ∨ o.idx % 256 ≠ oPrbsBits then none
  else some (satAdd 64 (s.nat k) (s.lockedBits (laneAt o i)) : Nat)

/-- The number an entry reads as. -/
def State.value (s : State) (o : Obj) (i : Nat) (live : Bool) : Int :=
  let k := entryKey o i live
  if live then s.obj k
  else if !laneApplies o i then 0
  else (((((s.deviceValue k).or (s.timeValue o i k)).or (s.imageValue o i)).or (s.netValue o i)).or (s.laneValue o i k)).getD (s.obj k)

/-- A read of a voltage (log 15), or of the errors that a locked checker has counted so far (log 14), draws a free value; any other read
changes nothing. -/
def State.readNumber (s : State) (o : Obj) (i : Nat) (live : Bool) : Int × State :=
  if o.idx = 0x8012 then
    let d := s.draw
    ((Config.railVoltage d.1 % 65536 : Nat), d.2)
  else if 0x3000 ≤ o.idx && o.idx < 0x3280 && o.idx % 256 = oPrbsErrors && !live && (s.lane (laneAt o i)).locked.isSome then
    let d := s.draw
    (satAdd 64 (s.nat (o.keyOf i)) (min (s.lockedBits (laneAt o i)) (Config.prbsErrors d.1)), d.2)
  else (s.value o i live, s)

/-! DOMAIN contents. -/

/-- R63, R64: EVENT_LOG, oldest record first. -/
def State.eventLog (s : State) : Bytes := s.ev.log.reverse.flatMap EventRec.le

/-- The content of a DOMAIN entry; ROLLCALL_REPORT is the reading session's (R425). -/
def State.content (s : State) (sid : Nat) (o : Obj) (i : Nat) (live : Bool) : Bytes :=
  let k := entryKey o i live
  if live then s.dom k
  else if k = Key.eventLog then s.eventLog
  else if k = Key.tandemProposal then (s.prot.proposal.map (·.bytes)).getD []
  else if k = Key.tandemDigest then (s.prot.proposal.map fun p => s.changeDigest p.bytes).getD []
  else if k = Key.fwImage then s.flash.image s.spareImage
  else if o.idx = 0x1500 then s.slot i
  else if k = Key.idPubkey then identityPublicKey
  else if k = Key.idKexPubkey then agreementPublicKey
  else if k = Key.rollcallReport then ((s.rollcall sid).bind (·.report)).getD []
  else if o.idx = 0x7831 then s.ringData i
  else if k = Key.fifoDirectory then fifoDirectory s.part
  else if k = Key.memErrLog then s.errLog
  else if k = Key.calFactory then factoryTrims s.part.ports
  else if k = Key.rcvCrossingDirectory then crossingDirectory s.part
  else if k = Key.rcvCrossingCounts then s.crossingCounts
  else s.dom k

/-- R60: is a write transfer into FW_IMAGE open? -/
def State.imageWriting (s : State) : Bool :=
  s.dap.transfers.any fun t => t.index = 0x1420 && t.sub = 1 && t.mode ≠ 0 && !t.abandoned

/-- R425, R60: reads that are refused as busy: a report before it is ready, FW_IMAGE while it is written. -/
def State.readBusy (s : State) (sid : Nat) (o : Obj) (i : Nat) : Bool :=
  let k := o.keyOf i
  (k = Key.rollcallReport && match s.rollcall sid with
    | some r => r.report.isNone
    | none => false) ||
  (k = Key.fwImage && s.imageWriting)

end Sys2Proof.Machine
end

