-- ==== Sys2Proof/Machine/Write.lean ====
section
/-! DEFINITION. What a write of an entry does (R43): the checks of R71 from the seventh on with those of each object's chapter, and
the effect on the unit. -/
namespace Sys2Proof.Machine

/-- The outcome of a request that may change state although refused: the state, and the abort code, 0 = accepted. -/
abbrev Verdict := State × Nat

/-- An effect as a verdict: a refusal leaves the state unchanged (R71). -/
def verdict (e : Effect) (s : State) : Verdict :=
  match e s with
  | .ok t => (t, 0)
  | .error c => (s, c)

/-- An effect that is never refused. -/
def always (f : State → State) : Effect := fun s => .ok (f s)

/-! Lanes (R161, R166). -/

/-- R484: the hub of a camera lane is under its memory test. -/
def State.laneBist (s : State) : Lane → Bool
  | .camera i => s.bistOn (i / 6)
  | _ => false

/-- Objects of a lane. -/
def laneWrite (o : Obj) (i v : Nat) : Effect := fun s => do
  let l := laneAt o i
  let off := o.idx % 256
  refuseIf (!laneApplies o i || (off = oRate && isEth l) || (off = oEnable && v = 1 && s.laneBist l)) abState
  if off = oEnable then laneEnableWrite l v s
  else if off = oCommand then laneCommand l v s
  else if off = oTestMode then laneTestModeWrite l v s
  else .ok (s.setLane l off v)

/-! DMA engines and FIFOs. -/

/-- DMA_CH_COMMAND (R377, R379, R484). -/
def dmaCommand (e ch v : Nat) : Effect := fun s => do
  refuseIf (v = 1 && e < 8 && s.bistOn e) abState
  if v = 1 then dmaStart e ch s else if v = 2 then dmaPause e ch s else if v = 3 then dmaResume e ch s else dmaAbort e ch s

/-- Descriptor objects of a channel (R373, R398). -/
def descriptorWrite (o : Obj) (i v : Nat) : Effect := fun s => do
  refuseIf (s.descriptorLocked (i / 64) (i % 64)) abState
  .ok (s.setObj (o.keyOf i) v)

/-! The network complex. -/

/-- R355: an admin object of a port's gate list. -/
def nxAdminWrite (o : Obj) (i v : Nat) : Effect := fun s => do
  refuseIf (s.nxPort i).change.isSome abPending
  .ok (s.setObj (o.keyOf i) v)

/-- R358: objects of frame preemption. -/
def nxPreemptWrite (o : Obj) (i v : Nat) : Effect := fun s => do
  refuseIf (o.idx = 0x7420 && v ≠ 0 && s.ethRate i = 1) abState
  .ok ((s.setObj (o.keyOf i) v).preemptSettle i)

/-- PTP_PORT_ENABLE (R91): a port that is disabled hears nothing, one that is enabled starts anew. -/
def ptpPortWrite (n v : Nat) (s : State) : State :=
  if s.nat (Key.ptpPortEnable n) = v then s
  else
    ((s.setObj (Key.ptpPortEnable n) v).setObj (Key.ptpPortState n) v).withTb fun b => { b with ports := mapDel n b.ports }

/-! Cluster resets. -/

/-- RST_CLUSTER: absent clusters are out of range (R459). -/
def clusterCheck (c : Nat) : Effect := fun s => do
  refuseIf (!s.part.has .cluster c) abRange
  .ok s

/-! The effect of a number. -/

/-- Entries of group 6. -/
def timeWrite (o : Obj) (i : Nat) (v : Int) : Option Effect :=
  let n := v.toNat
  match o.idx, o.sub with
  | 0x2000, 4 => some (always (tbSourceWrite n))
  | 0x2000, 5 => some (tbRateAdjWrite v)
  | 0x2000, 9 => some (if n = 1 then tbActionSlew else tbActionReepoch)
  | 0x2010, 1 => some (always (ptpInstanceWrite 1 n))
  | 0x2010, 2 => some (always (ptpInstanceWrite 2 n))
  | 0x2010, 3 => some (always (ptpInstanceWrite 3 n))
  | 0x2020, _ => some (always (ptpPortWrite i n))
  | 0x2030, 6 => some (always ptpAsymClear)
  | 0x2040, 6 => some (txtsPopWrite i n)
  | _, _ => none

/-- Entries of groups 9 to 13. -/
def imageWrite (o : Obj) (i v : Nat) : Option Effect :=
  match o.idx with
  | 0x6740 => some (always (warpFenceWrite i v))
  | 0x6743 => some (warpPartitionWrite i v)
  | 0x67A0 => some (always (codecFenceWrite i v))
  | 0x7003 => some fun s => do
      refuseIf (v ≤ s.nat (Key.statAwbDark i)) abRange
      .ok (s.setObj (Key.statAwbSat i) v)
  | 0x7004 => some fun s => do
      refuseIf (s.nat (Key.statAwbSat i) ≤ v) abRange
      .ok (s.setObj (Key.statAwbDark i) v)
  | 0x7026 => some (expApply i v)
  | 0x7028 => some (expAeMode i v)
  | 0x7100 => if o.sub = 1 then some (always (trkEnableWrite v)) else none
  | _ => none

/-- Entries of groups 14 to 16. -/
def moveWrite (o : Obj) (i v : Nat) : Option Effect :=
  match o.idx with
  | 0x7410 => some (nxAdminWrite o i v)
  | 0x7412 => some (nxAdminWrite o i v)
  | 0x7413 => some (nxAdminWrite o i v)
  | 0x7414 => some (nxAdminWrite o i v)
  | 0x7415 => some (nxAdminWrite o i v)
  | 0x7416 => some (gateConfigChange i)
  | 0x7420 => some (nxPreemptWrite o i v)
  | 0x7421 => some (nxPreemptWrite o i v)
  | 0x7807 => some (dmaCommand (i / 64) (i % 64) v)
  | 0x7830 => if o.sub = 2 then some (dmaEngineCommand i) else none
  | 0x7831 =>
    if o.sub = 1 ∨ o.sub = 2 then some (dmaRingConfig i o.sub v) else if o.sub = 4 then some (dmaRingRead i v) else none
  | 0x7B08 => some (fifoMarkWrite i v)
  | 0x7B10 => some (fifoWmAck i v)
  | 0x7B14 => some (fifoCommandWrite i v)
  | k => if 0x7800 ≤ k ∧ k ≤ 0x7806 then some (descriptorWrite o i v) else none

/-- SM_WARN_LEVEL and SM_RESET_LEVEL, R459. -/
def smWrite (o : Obj) (i : Nat) (v : Int) : Effect := fun s => do
  let warn := if o.idx = 0x8010 then v else s.obj (Key.smWarnLevel i)
  let low := if o.idx = 0x8011 then v else s.obj (Key.smResetLevel i)
  refuseIf (warn ≤ low) abRange
  .ok (s.setObj (o.keyOf i) v)

/-- Entries of groups 17 to 20. -/
def serviceWrite (o : Obj) (i : Nat) (v : Int) : Option Effect :=
  let n := v.toNat
  match o.idx with
  | 0x8000 => some (pwrDomainWrite i n)
  | 0x8010 => some (smWrite o i v)
  | 0x8011 => some (smWrite o i v)
  | 0x8101 => if o.sub = 1 then some (calCommandWrite n) else some fun s => do
      refuseIf s.cal.running.isSome abBusy
      .ok (s.setObj (o.keyOf i) v)
  | 0x9000 => some (testPipeFenceWrite i n)
  | 0x9002 => some (if n = 1 then injectStartWrite i else injectStopWrite i)
  | 0x9010 => some (testGoldenSpecWrite i n)
  | 0x9020 => some (testBistWrite i)
  | 0x9030 => some testDramRetrainWrite
  | 0xA000 => if o.sub = 7 then some rcvClearWrite else none
  | _ => none

/-- An entry that holds a number takes it. A shadowed entry takes it into its shadow set (R41, R202). -/
def plainWrite (o : Obj) (i : Nat) (v : Int) : Effect := fun s => do
  refuseIf (o.acc = .rws && s.shadowLocked (o.keyOf i)) abPending
  .ok (s.setObj (o.keyOf i) v)

/-- The effect of a value within its range on the units: groups 6 to 20. -/
def unitEffect (o : Obj) (i : Nat) (v : Int) : Effect :=
  if 0x3000 ≤ o.idx ∧ o.idx < 0x3280 ∧ o.inst ≠ .one then laneWrite o i v.toNat
  else
    (((timeWrite o i v).or (imageWrite o i v.toNat)).or
      ((moveWrite o i v.toNat).or (serviceWrite o i v))).getD (plainWrite o i v)

/-! The persistent store (R69, R70). -/

/-- R70: an RW entry that holds a number takes a loaded value, with the effect its write has; where the unit's state forbids the
write the value is stored all the same (log 48). -/
def State.loadNumber (s : State) (k : Nat) (v : Int) : State :=
  if s.obj k = v then s
  else match findObj (k / 256) (k % 256) with
    | some (o, i) =>
      (match unitEffect o i v s with
      | .ok t => t
      | .error _ => s.setObj k v)
    | none => s

/-- R349: static entries occupy ways of the address table: dynamic entries of their addresses leave it, and of a set that
would hold more than eight those refreshed longest ago. -/
def State.fitAddrs (s : State) : State :=
  let st := s.statics
  let dyn := s.net.addrs.filter fun (a : NxAddr) => !st.any fun e => e.1 = a.vid && e.2.1 = a.mac
  let stays := fun (a : NxAddr) =>
    let h := nxSet a.vid a.mac
    let newer := dyn.filter fun (x : NxAddr) => nxSet x.vid x.mac = h && a.fresh < x.fresh
    let held := st.filter fun e => nxSet e.1 e.2.1 = h
    newer.length + held.length < 8
  { s with net := { s.net with addrs := dyn.filter stays } }

/-- An RW entry that holds a DOMAIN takes a content, with the effect its write has. -/
def State.takeContent (s : State) (k : Nat) (b : Bytes) : State :=
  if s.dom k = b then s
  else if k = Key.ttTable then s.ttWrite b
  else
    let s := s.setDom k b
    if k / 256 = 0x7404 then s.fitAddrs
    else if k / 256 = 0x7022 then s.checkIdle (k % 256 - 1)
    else s

/-- R70: a set is loaded: RWS values into the shadow sets, then RW entries, in ascending index and subindex. -/
def State.loadStored (s : State) (l : LiveSet) : State :=
  let nums := ((mapKeep isStoredRw s.dict).map fun e => (e.1, (mapGet e.1 l.nums).getD (defaultNum s.part e.1))) ++
    l.nums.filter fun e => isStoredRw e.1
  let doms := ((mapKeep isStoredRw s.doms).map fun e => (e.1, (mapGet e.1 l.doms).getD (defaultDom e.1))) ++
    l.doms.filter fun e => isStoredRw e.1
  let shadow := fun (e : Nat × Int) => isStoredRws e.1
  let shadowDom := fun (e : Nat × Bytes) => isStoredRws e.1
  let s := { s with
    dict := (l.nums.filter shadow).foldl (fun m e => mapSet e.1 e.2 m) (mapKeep (fun k => !isStoredRws k) s.dict),
    doms := (l.doms.filter shadowDom).foldl (fun m e => mapSet e.1 e.2 m) (mapKeep (fun k => !isStoredRws k) s.doms) }
  let s := nums.foldl (fun s e => s.loadNumber e.1 e.2) s
  doms.foldl (fun s e => s.takeContent e.1 e.2) s

/-- STORE_COMMAND. -/
def storeCommand (c : Nat) : Effect := fun s => do
  refuseIf ((c = 2 || c = 3) && !s.commits.pending.isEmpty) abPending
  refuseIf s.store.snapshot.isSome abBusy
  if c = 1 then
    let s := { s with store := { snapshot := some s.storedSet } }
    .ok (if s.sup.dip then s.pauseSave else s.setObj Key.storeStatus 1)
  else if c = 2 then .ok (s.loadStored ((s.flash.bank (s.nat Key.storeBank)).getD {}))
  else if c = 3 then .ok (s.loadStored {})
  else .ok { s with flash := { s.flash with bank0 := none, bank1 := none, torn := false } }

/-- STORE_SAVE_COMPLETE, R67, R69: the inactive bank verifies, or the save has failed: the bank in force stays, and the one that was
written verifies at no boot. -/
def storeSaveComplete (verified : Bool) (s : State) : State :=
  match s.store.snapshot with
  | none => s
  | some l =>
    s.whenever (s.boot.held.isNone && !s.sup.dip) fun s =>
      let k := 1 - s.nat Key.storeBank
      if !verified then
        (({ s with flash := { s.flash.setBank k none with torn := true }, store := { snapshot := none } }).setObj
          Key.storeStatus 3).raise 0x1302 2 "CX" [byteOf k]
      else
      let s := { s with
        flash := { s.flash.setBank k (some l) with torn := false }, store := { snapshot := none },
        prot := { s.prot with saves := s.prot.saves + 1 } }
      let s := ((s.setObj Key.storeBank k).bump Key.storeSaveCount).setObj Key.storeStatus 0
      s.raise 0x1301 0 "CX" (leBytes 4 (s.nat Key.storeSaveCount))

def execStoreSaveComplete (verified : Bool) (s : State) : Res := .next (storeSaveComplete verified s)

/-! Writes of numbers. -/

/-- Entries of groups 0 to 5. -/
def controlWrite (o : Obj) (v : Nat) : Option Effect :=
  match o.idx, o.sub with
  | 0x1200, 2 => some (pwrCommandCheck v)
  | 0x1201, 1 => some (always id)
  | 0x1201, 2 => some (clusterCheck v)
  | 0x1300, 1 => some (storeCommand v)
  | 0x1400, 4 => some enrolSealWrite
  | 0x1410, 7 => some tandemDiscard
  | 0x1420, 5 => some (if v = 1 then fwActivateWrite else fwConfirmWrite)
  | _, _ => none

/-- The effect of a value within its range. -/
def numberEffect (o : Obj) (i : Nat) (v : Int) : Effect := (controlWrite o v.toNat).getD (unitEffect o i v)

/-- R71, conditions 7 and 8, then the effect: a value of an entry as a WRITE carries it. RWP values are stored least
significant byte first (R13, R430). -/
def writeNumber (role : Nat) (o : Obj) (i : Nat) (b : Bytes) : Effect := fun s => do
  refuseIf (o.ty = .domain || b.length ≠ o.ty.size) abLength
  let v := o.clean (o.ty.decode b)
  refuseIf (!o.ty.legal v || !o.rng.holds s.part v (fifoDepth i)) abRange
  if o.acc = .rwp then rwpWrite role o i b.reverse s else numberEffect o i v s

/-! DOMAIN contents. -/

/-- R17: the range of a length, with what the object's rule adds (R224, R354). -/
def lengthOk (p : Part) (o : Obj) (n : Nat) : Bool :=
  o.rng.holds p n 0 && (o.idx ≠ 0x5101 || n % 4 = 0) && (o.idx ≠ 0x7411 || n % 8 = 0)

/-- The largest length of a DOMAIN entry (R58). -/
def Rng.most : Rng → Nat
  | .span _ hi | .zeroOr _ hi | .mult _ hi _ => hi.toNat
  | .oneOf l => (l.foldl max 0).toNat
  | _ => 0

/-- A table of k-byte records satisfies a test. -/
def allRecords (k : Nat) (b : Bytes) (p : Bytes → Bool) : Bool :=
  (List.range (b.length / k)).all fun n => p (slice b (k * n) k)

/-- R221: the knees of PIPE_DECOMPAND. -/
def kneesOk (b : Bytes) : Bool :=
  let x := fun n => leAt b (12 * n) 4
  b.isEmpty || (x 0 = 0 && ((List.range 15).all fun n => x n < x (n + 1)) &&
    allRecords 12 b fun r => leAt r 0 4 ≤ 1048575 && leAt r 4 4 ≤ 16777215 && leAt r 8 4 ≤ 16777215)

/-- R224: the entries of PIPE_DEFECT_LIST. -/
def defectsOk (b : Bytes) : Bool :=
  let l := leTable 4 (b.length / 4) b
  (l.all fun d => field d 30 26 = 0 && field d 25 13 ≤ 6143) && ((l.zip (l.drop 1)).all fun x => x.1 < x.2)

/-- R239: a polygon of PIPE_MASKS. -/
def polygonOk (r : Bytes) : Bool :=
  let n := leAt r 0 1
  n = 0 || (3 ≤ n && n ≤ 8 && leAt r 1 1 ≤ 1 && 3 ≤ leAt r 2 1 && leAt r 2 1 ≤ 6 && leAt r 3 1 = 0 &&
    (List.range n).all fun v => leAt r (4 + 4 * v) 2 ≤ 8191 && leAt r (6 + 4 * v) 2 ≤ 6143)

/-- R247, R296: every phase of a kernel sums to 1,024. -/
def kernelOk (b : Bytes) : Bool :=
  allRecords 8 b fun r => ((leTable 2 4 r).map (toSigned 16)).foldl (· + ·) 0 = 1024

/-- R265: EXP_MAP. -/
def expMapOk (b : Bytes) : Bool := b.isEmpty || (leAt b 18 4 ≠ 0 && leAt b 24 2 ≠ 0)

/-- R271: EXP_ECHO_MAP. -/
def echoMapOk (b : Bytes) : Bool :=
  b.isEmpty || (leAt b 0 1 ≤ 15 && [4, 8, 12].all fun k => leAt b k 1 ≤ 4)

/-- R349: at most eight static entries in a set, none for port 4. -/
def staticOk (b : Bytes) : Bool :=
  let l := (staticEntries b).map fun e => nxSet e.1 e.2.1
  (l.all fun h => (l.filter (· = h)).length ≤ 8) &&
    allRecords 16 b fun r => !(leAt r 8 1).testBit 4

/-- R354: the entries of a gate list. -/
def gatesOk (b : Bytes) : Bool :=
  allRecords 8 b fun r => leAt r 1 1 = 0 && 1 ≤ leAt r 4 4 && leAt r 4 4 ≤ 1000000000

/-- R17, R71 condition 8: is the content of a DOMAIN entry within the ranges its rule gives? -/
def contentOk (o : Obj) (b : Bytes) : Bool :=
  match o.idx with
  | 0x5001 => kneesOk b
  | 0x5002 => (leTable 4 12 b).all (· ≤ 8388607)
  | 0x500F => (List.range 3).all fun k => -1048576 ≤ toSigned 32 (leAt b (18 + 4 * k) 4) && toSigned 32 (leAt b (18 + 4 * k) 4) ≤ 1048575
  | 0x5010 => allRecords 36 b polygonOk
  | 0x5101 => defectsOk b
  | 0x510B => kernelOk b
  | 0x6011 => kernelOk b
  | 0x7022 => expMapOk b
  | 0x7023 => echoMapOk b
  | 0x7404 => o.sub = 1 || staticOk b
  | 0x7411 => gatesOk b
  | 0x7432 => b.all (· ≠ 0)
  | _ => true

/-- TT_TABLE (R111, R112). -/
def ttTableContent (b : Bytes) (s : State) : Verdict :=
  match s.ttRefused b with
  | some n => (s.setObj Key.ttLastRefusedEntry n, abRange)
  | none => (s.ttWrite b, 0)

/-- The effect of a DOMAIN content of a legal length: states and chapters that forbid it, then the content. -/
def contentEffect (sid role : Nat) (o : Obj) (i : Nat) (b : Bytes) : Effect := fun s => do
  refuseIf (!contentOk o b) abRange
  match o.idx, o.sub with
  | 0x1400, 1 => rwpWrite role o i b s
  | 0x1401, _ => rwpWrite role o i b s
  | 0x1402, _ => rwpWrite role o i b s
  | 0x1410, 1 => tandemProposalWrite b s
  | 0x1501, 1 => measExtendWrite b s
  | 0x1504, 1 => rollcallNonceWrite sid b s
  | 0x7404, 1 => do
    refuseIf (leAt b 0 2 ≠ 0 || leAt b 8190 2 ≠ 0) abState
    .ok (s.setDom (o.keyOf i) b)
  | 0x7404, 2 => .ok (s.setDom (o.keyOf i) b).fitAddrs
  | 0x7411, _ => do
    refuseIf (s.nxPort i).change.isSome abPending
    .ok (s.setDom (o.keyOf i) b)
  | 0x7022, _ => .ok ((s.setDom (o.keyOf i) b).checkIdle i)
  | 0x8100, 1 => calTrimsContent b s
  | _, _ => do
    refuseIf (o.acc = .rws && s.shadowLocked (o.keyOf i)) abPending
    .ok (s.setDom (o.keyOf i) b)

/-- R16, R59, R71: a DOMAIN entry takes a content at a BLOCK_END, its reserved bits ignored. -/
def writeContent (sid role : Nat) (o : Obj) (i : Nat) (content : Bytes) (s : State) : Verdict :=
  let b := o.cleanContent content
  if !lengthOk s.part o b.length then (s, abLength)
  else if o.idx = 0x1410 ∧ o.sub = 3 then tandemSignWrite b s
  else if o.idx = 0x2400 then ttTableContent b s
  else verdict (contentEffect sid role o i b) s

end Sys2Proof.Machine
end

