-- ==== Sys2Proof/Machine/CommitReq.lean ====
section
/-! DEFINITION. COMMIT and WITHDRAW requests (R61, R62, R200 to R209), with the checks of scope that R181, R201, R245, R305, R331,
R411 and R475 put at the place of check 5. -/
namespace Sys2Proof.Machine

/-- R429: the group whose WRITE a scope needs. -/
def scopeGroup (scope : Nat) : Option Nat :=
  if scope = 0x40 then some 9 else if scope = 0x50 then some 10 else if scope = 0x60 then some 11 else none

/-- The fields of a COMMIT's payload (R61). -/
structure CommitFields where
  scope : Nat
  kind : Nat
  count : Nat
  frame : Nat
  epoch : Nat
  time : Nat
  units : List Nat
  deriving DecidableEq, Repr

def commitFields (b : Bytes) : CommitFields where
  scope := beAt b 0 1
  kind := beAt b 1 1
  count := beAt b 2 1
  frame := beAt b 4 4
  epoch := beAt b 8 2
  time := beAt b 10 12
  units := (List.range (beAt b 2 1)).map fun k => beAt b (22 + 2 * k) 2

/-- R200, check 1. -/
def commitLength (b : Bytes) : Bool := 22 ≤ b.length && b.length = 22 + 2 * beAt b 2 1

/-- Is a number in a list twice? -/
def twice : List Nat → Bool
  | [] => false
  | x :: r => r.contains x || twice r

/-- R200, check 2. -/
def CommitFields.legal (c : CommitFields) (p : Part) : Bool :=
  (scopeGroup c.scope).isSome && c.kind ≤ 2 && 1 ≤ c.count && c.count ≤ 64 && !twice c.units && c.units.all (p.hasTarget c.scope)

/-! Check 3 (R205). -/

/-- R205: the number of the next frame that an input of a pipeline hands over, none where no port feeds it and it took no frame. -/
def State.nextHanded (s : State) (pipe input : Nat) : Option Nat :=
  match (s.input (2 * pipe + input)).lastHanded with
  | some n => some ((n + 1) % 2 ^ 32)
  | none => match s.waitingFrame pipe input with
    | some f => some f.num
    | none => ((s.feeders pipe)[input]?).map fun port => s.nat (Key.capNextFrame port)

/-- R195, R283, R309: the pipeline and input whose frames number a stream's generations. -/
def State.refInput (s : State) (stream : Nat) : Nat × Nat :=
  let st := if 960 ≤ stream then
      slotStream ((s.wideOf stream).num s.part (Key.warpSource (ctrlRefSlot (s.liveNat (Key.warpViewCtrl (stream - 960)))))).toNat
    else stream
  (st / 40, st % 40 / 20)

/-- R205: n of a target. -/
def State.nextFrame (s : State) (scope unit : Nat) : Option Nat :=
  if scope = 0x40 then some (s.nat (Key.capNextFrame unit))
  else if scope = 0x50 then s.nextHanded unit 0
  else s.nextHanded (s.refInput unit).1 (s.refInput unit).2

/-- R205: has a target passed frame N? -/
def State.passed (s : State) (scope unit frame : Nat) : Bool :=
  match s.nextFrame scope unit with
  | some n => !atOrAfter32 frame n
  | none => false

/-! Check 4 (R123). -/

/-- R200: is an instant a valid one that lies at least 10 µs ahead? -/
def State.farEnough (s : State) (epoch time : Nat) : Bool :=
  time96Valid time &&
    match s.due ⟨epoch, (ofTime96 time : Nat)⟩ with
    | .past => false
    | .at_ t => ((s.now + usUnits 10 : Nat) : Int) ≤ t
    | .later => true

/-! Check 5. -/

/-- R181, R201, R475: scope 0x40. -/
def State.captureRefused (s : State) (units : List Nat) : Bool :=
  let named := fun i => units.contains i || (s.commitAt 0x40 i).isSome
  (List.range 8).any fun h => (units.any fun i => i / 6 = h) &&
    (!s.mappingOk named h || units.any fun i => i / 6 = h && match pipeOf i (s.obj (Key.capPipe i)) with
      | some p => s.flag (Key.testPipeFence p)
      | none => false)

/-- R244, R245: is a cropper of pipeline p refused? -/
def State.cropRefused (s : State) (p j : Nat) : Bool :=
  let c := s.nat (Key.pipeCropCtrl (20 * p + j))
  let src := s.nat (Key.pipeCropSrc (20 * p + j))
  let out := s.nat (Key.pipeCropOut (20 * p + j))
  let x := field src 63 48
  let y := field src 47 32
  let w := field src 31 16
  let h := field src 15 0
  let ow := field out 31 16
  let oh := field out 15 0
  let format := field c 7 5
  let ir := fun k => let cfa := s.nat (Key.pipeCfa (2 * p + k)); cfa = 6 || cfa = 7
  let ranges := field c 14 12 < 3 || 6 < field c 14 12 || field c 11 8 < 4 || 8 < field c 11 8 || 5 < format
  let source := c.testBit 4 && (format ≠ 4 || (List.range 2).any fun k => c.testBit k && !ir k)
  let odd := [x, y, w, h, ow, oh].any fun v => v % 2 = 1
  let small := (1 ≤ w && w ≤ 15) || (w ≠ 0 && h < 8) || (w = 0 && (x ≠ 0 || y ≠ 0 || h ≠ 0))
  let scale := fun a b => a ≠ 0 && b ≠ 0 && (a < b || b < ceilDiv a 16)
  ranges || (format = 5 && j ≠ 0) || source || odd || small || scale w ow || scale h oh || 8192 < ow

/-- R245: scope 0x50. -/
def State.pipesRefused (s : State) (units : List Nat) : Bool := units.any fun p => (List.range 20).any (s.cropRefused p)

/-- R331: scope 0x60, coded streams. The named streams count with their shadow sets, every other one with its live set. -/
def State.codecRefused (s : State) (units : List Nat) : Bool :=
  let num := fun (k : Nat) => match setOf k with
    | some (0x60, some u) => if units.contains u then s.obj k else s.live k
    | _ => s.live k
  let wide := fun st => if units.contains st then s.pick wideEntry else s.wideOf st
  let on := fun st => (num (Key.codecCtrl st)).toNat.testBit 15
  let format := fun st =>
    if 960 ≤ st then ctrlFormat (num (Key.warpViewCtrl (st - 960))).toNat
    else field (num (Key.pipeCropCtrl (20 * (st / 40) + st % 20))).toNat 7 5
  let tileH := fun st =>
    if 960 ≤ st then ctrlTileH (num (Key.warpViewCtrl (st - 960))).toNat
    else field (num (Key.pipeCropCtrl (20 * (st / 40) + st % 20))).toNat 14 12
  let big := fun st =>
    let wh := s.streamSize num st
    262144 < sliceBytes wh.1 (min wh.2 (2 ^ tileH st)) (num (Key.codecBpp st)).toNat
  let bad := fun st => (format st ≠ 0 || s.part.warps ≤ codecEngineOf (num (Key.codecCtrl st)).toNat || big st)
  let engine := fun st => if units.contains st then codecEngineOf (num (Key.codecCtrl st)).toNat else s.engineOf st
  let coded := ((List.range (40 * s.part.pipes)) ++ (List.range 64).map (960 + ·)).filter on
  let rate := fun e => ((coded.filter fun st => engine st = e).map fun st => s.streamRate num (wide st) st).foldl (· + ·) 0
  coded.any bad || (List.range s.part.warps).any fun e => 3000000000 < rate e

/-- R411: the need with the shadow sets of the targets. -/
def State.needRefused (s : State) (scope : Nat) (units : List Nat) : Bool :=
  let num := fun (k : Nat) => match setOf k with
    | some (sc, some u) => if sc = scope && units.contains u then s.obj k else s.live k
    | some (sc, none) => if sc = scope then s.obj k else s.live k
    | none => s.live k
  s.deviceAvailable < s.deviceNeed num

/-- R200, check 5. -/
def State.scopeRefused (s : State) (scope : Nat) (units : List Nat) : Bool :=
  (if scope = 0x40 then s.captureRefused units
  else if scope = 0x50 then s.pipesRefused units
  else ((units.filter (960 ≤ ·)).map (· - 960)).any (s.viewRefused units) || s.codecRefused units) ||
    s.needRefused scope units

/-! Acceptance. -/

/-- R61: the ticket after t. -/
def nextTicketOf (t : Nat) : Nat := if 65535 ≤ t then 1 else t + 1

/-- R205: frames of input 0 that were accepted before the commit: input 1 learns the stamp of frame N. -/
def State.learnStamps (s : State) (units : List Nat) : State :=
  units.foldl (fun s p =>
    match s.frames.find? fun f => f.pipe = some p && s.inputFor p f = 0 && !f.closed &&
      (s.commitAt 0x50 p).any fun c => c.kind = 1 && c.frame = f.num with
    | some f => s.updTarget 0x50 p fun t => { t with stamp := some (t.stamp.getD f.stamp) }
    | none => s) s

/-- A COMMIT is accepted. -/
def State.acceptCommit (s : State) (c : CommitFields) : State :=
  let k : Commit := {
    ticket := s.commits.nextTicket, scope := c.scope, kind := c.kind, frame := c.frame,
    at_ := ⟨c.epoch, (ofTime96 c.time : Nat)⟩, waiting := c.kind = 2, timed := false, held := false, noted := false,
    lastGen := 0, lastFrame := 0, lastUnit := 0, targets := c.units.map fun u => ⟨u, none, none, false, none⟩, settled := [],
    units := c.units }
  let s := s.setObj Key.commitLastTicket (k.ticket : Nat)
  let s := { s with commits := { s.commits with pending := s.commits.pending ++ [k], nextTicket := nextTicketOf k.ticket } }
  if c.kind = 1 ∧ c.scope = 0x50 then s.learnStamps c.units else s

/-- R200, R429: the checks of a COMMIT in order, each with its abort code. -/
def State.commitChecks (s : State) (role : Nat) (b : Bytes) : List (Bool × Nat) :=
  let c := commitFields b
  [(match scopeGroup c.scope with
      | some g => !s.mayWrite role g
      | none => false, abPlan),
    (!commitLength b, abLength), (!c.legal s.part, abRange),
    (c.kind = 1 && c.units.any fun u => s.passed c.scope u c.frame, abRange),
    (c.kind = 2 && !s.farEnough c.epoch c.time, abRange),
    (s.scopeRefused c.scope c.units, abState),
    (c.units.any fun u => (s.commitAt c.scope u).isSome, abPending),
    (c.kind = 2 && 64 ≤ s.waitingCommits.length, abBusy),
    (!s.flag Key.memDramReady || s.boot.outOfService, abState)]

/-- COMMIT: the refusal code or the ticket. -/
def commitRequest (role : Nat) (b : Bytes) (s : State) : Except Nat (State × Bytes) := do
  firstCheck (s.commitChecks role b)
  .ok (s.acceptCommit (commitFields b), beBytes 2 s.commits.nextTicket)

/-! WITHDRAW (R62, R209). -/

/-- The bytes of a WITHDRAW's response. -/
def withdrawBytes (ticket : Nat) (l : List (Nat × Nat × Nat)) : Bytes :=
  beBytes 2 ticket ++ [byteOf l.length] ++ l.flatMap fun x => beBytes 2 x.1 ++ [byteOf x.2.1, 0] ++ beBytes 4 x.2.2

/-- WITHDRAW, R209, R429: the access plan first, then the length (R71). -/
def withdrawRequest (role : Nat) (p : Bytes) (s : State) : Except Nat (State × Bytes) :=
  let ticket := if p.length = 2 then beAt p 0 2 else 0
  let may := fun scope => match scopeGroup scope with
    | some g => s.mayWrite role g
    | none => false
  match s.commits.pending.find? fun c => c.ticket = ticket && ticket ≠ 0 with
  | some c =>
    if !may c.scope then .error abPlan
    else
      let pending := s.commits.pending.filter (· != c)
      .ok ({ s with commits := ({ s.commits with pending := pending }).remember c c.outcomes }, withdrawBytes ticket c.outcomes)
  | none => match s.commits.remembered.find? (·.1 = ticket) with
    | some (_, scope, l) => if may scope then .ok (s, withdrawBytes ticket l) else .error abPlan
    | none => .error (if !([9, 10, 11].any (s.mayWrite role)) then abPlan else if p.length = 2 then abRange else abLength)

end Sys2Proof.Machine
end

