-- ==== Sys2Proof/Machine/Request.lean ====
section
/-! DEFINITION. DAP requests (R45 to R66): which the device hears, sessions and their sequence, the services, block transfers, events,
and what a request does after its response. -/
namespace Sys2Proof.Machine

/-! What the device hears (R47 to R51, R73). -/

/-- R49 to R51, R73: does the device take messages from a source? -/
def State.hearsHost (s : State) (src : Source) : Bool :=
  s.boot.held.isNone && s.dap.answering && s.boot.mode ≤ 1 && s.transportOpen src &&
    match src with
    | .can h => s.dap.canEnabled && 1 ≤ h && h ≤ 255
    | .udp4 _ _ => s.part.hasNx && s.boot.mode = 0 && s.udpPowered && s.atReset Key.dapIpv4Address ≠ 0
    | .udp6 _ _ => s.part.hasNx && s.boot.mode = 0 && s.udpPowered && s.atReset Key.dapIpv6Enable ≠ 0

/-- R51, R445: in Parked a CAN FD frame addressed to the node wakes the device, where the mask admits it; it is not answered. -/
def State.canWake (s : State) : State :=
  if s.boot.held.isNone && s.boot.mode = 0 && s.dap.canEnabled && s.nat Key.pwrState = 2 && (s.nat Key.pwrWakeMask).testBit 0 then s.wakeUp 2 else s

/-- What a message does that the device does not take: it is discarded, but may wake a parked device. -/
def State.unheard (s : State) : Source → State
  | .can h => if 1 ≤ h ∧ h ≤ 255 then s.canWake else s
  | _ => s

/-! Answers. -/

/-- What a request does once its response was sent (R52, R56, R65, R430, R434, R443, R447). -/
inductive After where
  | nothing
  | opened
  | closed
  | deliver (l : List EventRec)
  | power (c : Nat)
  | device
  | cluster (c : Nat)
  | plan (o : Obj) (i : Nat)
  | tandem (before : List Bytes)

/-- The outcome of a request: the state, the abort code (0 = accepted), the entry that an ABORT names, the response's payload after
the echoed SEQ, and what follows the response. -/
structure Answer where
  st : State
  code : Nat
  index : Nat
  sub : Nat
  body : Bytes
  after : After

def accepted (s : State) (body : Bytes) : Answer := ⟨s, 0, 0, 0, body, .nothing⟩
def refusedWith (s : State) (code : Nat) : Answer := ⟨s, code, 0, 0, [], .nothing⟩
def refusedAt (s : State) (index sub code : Nat) : Answer := ⟨s, code, index, sub, [], .nothing⟩

/-- A service that refuses by a code or answers with a state and bytes. -/
def Answer.ofExcept (s : State) : Except Nat (State × Bytes) → Answer
  | .ok (t, b) => accepted t b
  | .error c => refusedWith s c

/-! READ and WRITE (R42, R43, R46). -/

/-- R420: an entry outside the groups that a loader's boot offers is refused after the checks of length and range. -/
def State.gate (s : State) (index : Nat) (code : Nat) : Nat :=
  if code = abLength || code = abRange then code else if s.offered index then code else abState

/-- The payload of READ, WRITE and their responses begins with the entry. -/
def entryBytes (index sub : Nat) : Bytes := beBytes 2 index ++ [byteOf sub, 0]

/-- R421: FW_IMAGE is closed while a trial is pending or runs. -/
def State.imageClosed (s : State) (o : Obj) : Bool := o.idx = 0x1420 && o.sub = 1 && s.nat Key.fwState ≠ 0

/-- The value of an entry as a READ returns it, or a refusal. -/
def State.readEntry (s : State) (sid index : Nat) : Named → Except Nat (State × Bytes)
  | .count n => do
    refuseIf (!s.offered index) abState
    .ok (s, [byteOf n])
  | .entry o i live => do
    refuseIf (!s.offered index || s.imageClosed o) abState
    if o.ty = .domain then do
      refuseIf (s.readBusy sid o i) abBusy
      .ok (s, beBytes 4 (s.content sid o i live).length)
    else
      let r := s.readNumber o i live
      .ok (r.2, o.ty.encode r.1)

/-- READ. -/
def readRequest (x : Session) (p : Bytes) (s : State) : Answer :=
  let index := beAt p 0 2
  let sub := beAt p 2 1
  let r : Except Nat (State × Bytes) := do
    refuseIf (p.length < 3) abLength
    let e ← s.toRead x.role index sub
    refuseIf (p.length ≠ 4) abLength
    s.readEntry x.sid index e
  match r with
  | .ok (t, v) => accepted t (entryBytes index sub ++ v)
  | .error c => refusedAt s index sub c

/-- What a written value does after the response. -/
def afterWrite (o : Obj) (i v : Nat) : After :=
  if o.idx = 0x1200 ∧ o.sub = 2 then .power v
  else if o.idx = 0x1201 ∧ o.sub = 1 then .device
  else if o.idx = 0x1201 ∧ o.sub = 2 then .cluster v
  else if o.acc = .rwp then .plan o i
  else .nothing

/-- WRITE. -/
def writeRequest (x : Session) (p : Bytes) (s : State) : Answer :=
  let index := beAt p 0 2
  let sub := beAt p 2 1
  if p.length < 3 then refusedWith s abLength
  else match s.toWrite x.role index sub with
    | .error c => refusedAt s index sub c
    | .ok (o, i) =>
      if p.length < 4 then refusedAt s index sub (s.gate index abLength)
      else if s.maskLocked o i then refusedAt s index sub abTandem
      else match writeNumber x.role o i (p.drop 4) s with
      | .error c => refusedAt s index sub (s.gate index c)
      | .ok t =>
        if !s.offered index then refusedAt s index sub abState
        else { accepted t (entryBytes index sub) with after := afterWrite o i (beNat (p.drop 4)) }

/-! Block transfers (R58 to R60). -/

def Transfer.writing (t : Transfer) : Bool := t.mode ≠ 0 && !t.abandoned

/-- Does a transfer go to FW_IMAGE? -/
def Transfer.image (t : Transfer) : Bool := t.index = 0x1420 && t.sub = 1

/-- R60: may another write transfer open? -/
def State.transfersBusy (s : State) (index sub total : Nat) : Bool :=
  let w := s.dap.transfers.filter (·.writing)
  let staged := (w.filter fun t => !t.image).map (·.total)
  let more := if index = 0x1420 ∧ sub = 1 then 0 else total
  (w.any fun t => t.index = index && t.sub = sub) || 2 ≤ w.length || 2097152 < staged.foldl (· + ·) more

/-- The lowest handle that no transfer has. -/
def State.freeHandle (s : State) : Option Nat :=
  ((List.range 255).map (· + 1)).find? fun h => !s.dap.transfers.any (·.handle = h)

def State.setTransfers (s : State) (l : List Transfer) : State := { s with dap := { s.dap with transfers := l } }

def State.updTransfer (s : State) (handle : Nat) (f : Transfer → Transfer) : State :=
  s.setTransfers (s.dap.transfers.map fun t => if t.handle = handle then f t else t)

def State.dropTransfer (s : State) (handle : Nat) : State := s.setTransfers (s.dap.transfers.filter (·.handle ≠ handle))

/-- R71, R429: conditions 1 to 6 of a block transfer: the row, the instance, whether the live copy. -/
def State.toMove (s : State) (role index sub mode : Nat) : Except Nat (Option (Obj × Nat × Bool)) :=
  if mode = 0 then
    match s.toRead role index sub with
    | .ok (.entry o i live) => .ok (some (o, i, live))
    | .ok (.count _) => .ok none
    | .error c => .error c
  else
    match s.toWrite role index sub with
    | .ok (o, i) => .ok (some (o, i, false))
    | .error c => .error c

/-- R60: the flash region of the image that does not run holds no valid image from here on; write-replace starts it empty. -/
def State.startImage (s : State) (mode : Nat) : State :=
  let k := s.spareImage
  let f := { s.flash with marred := if s.flash.marred.contains k then s.flash.marred else k :: s.flash.marred }
  { s with flash := if mode = 1 then f.setImage k [] else f }

/-- BLOCK_OPEN. -/
def blockOpenRequest (x : Session) (p : Bytes) (s : State) : Answer :=
  let index := beAt p 0 2
  let sub := beAt p 2 1
  let mode := beAt p 3 1
  let total := beAt p 4 4
  let r : Except Nat (State × Bytes) := do
    refuseIf (p.length < 4) abLength
    match (← s.toMove x.role index sub mode) with
    | none => .error abLength
    | some (o, i, live) => do
      refuseIf (o.ty ≠ .domain || p.length ≠ 8) abLength
      refuseIf (2 < mode || (mode ≠ 0 && o.rng.most < total)) abRange
      refuseIf (!s.offered index || s.imageClosed o) abState
      refuseIf ((mode = 0 && s.readBusy x.sid o i) || (mode ≠ 0 && s.transfersBusy index sub total)) abBusy
      match s.freeHandle with
      | none => .error abBusy
      | some h =>
        let c := s.content x.sid o i live
        let t : Transfer := {
          sid := x.sid, handle := h, index := index, sub := sub, mode := mode, total := total,
          base := if mode = 0 then c else [], writes := [], lastData := s.cycles, abandoned := false }
        let s := s.setTransfers (s.dap.transfers ++ [t])
        .ok (if mode ≠ 0 && t.image then s.startImage mode else s, [byteOf h, 0] ++ beBytes 4 c.length)
  match r with
  | .ok (t, b) => accepted t b
  | .error c => refusedAt s index sub c

/-- R60: the next message of an abandoned transfer is refused, and ends it. -/
def State.lateTransfer (s : State) (t : Transfer) : Answer := refusedAt (s.dropTransfer t.handle) t.index t.sub abTimeout

/-- BLOCK_DATA. A handle that no open transfer of the session has, and a count outside 1 to 1,024, are refused with 0x0006 (DESIGN
CHOICE, log 32). -/
def blockDataRequest (x : Session) (p : Bytes) (s : State) : Answer :=
  let off := beAt p 2 4
  let count := beAt p 6 2
  let data := p.drop 8
  if p.isEmpty then refusedWith s abLength
  else match s.dap.transfers.find? fun t => t.handle = beAt p 0 1 && t.sid = x.sid with
    | none => refusedWith s (if p.length < 8 then abLength else abRange)
    | some t =>
      match s.toMove x.role t.index t.sub t.mode with
      | .error c => refusedAt s t.index t.sub c
      | .ok _ =>
        let wrong := if t.mode = 0 then p.length ≠ 8 else p.length < 8 || data.length ≠ count
        if wrong then refusedAt s t.index t.sub abLength
        else if count < 1 || 1024 < count || (t.mode ≠ 0 && t.total < off + count) then refusedAt s t.index t.sub abRange
        else if t.mode = 0 && t.image && s.imageWriting then refusedAt s t.index t.sub abBusy
        else if t.abandoned then s.lateTransfer t
        else
          let s := s.updTransfer t.handle fun t => { t with lastData := s.cycles }
          let head := [byteOf t.handle, 0] ++ beBytes 4 off
          if t.mode = 0 then accepted s (head ++ slice t.base off count)
          else if t.image then
            let k := s.spareImage
            accepted { s with flash := s.flash.setImage k (overlay (s.flash.image k) off data) } head
          else accepted (s.updTransfer t.handle fun t => { t with writes := t.writes ++ [(off, data)] }) head

/-- R58, R59: the content that a write transfer leaves, of `final` bytes, from what the entry holds. -/
def Transfer.result (t : Transfer) (now : Bytes) (final : Nat) : Bytes :=
  padTo final ((t.writes.foldl (fun b w => overlay b w.1 w.2) (if t.mode = 2 then padTo final now else [])))

/-- R60: a BLOCK_END whose CRC-32 matches makes the written region the image. -/
def State.endImage (s : State) (b : Bytes) : State :=
  let k := s.spareImage
  { s with flash := { s.flash.setImage k b with marred := s.flash.marred.filter (· ≠ k) } }

/-- BLOCK_END. -/
def blockEndRequest (x : Session) (p : Bytes) (s : State) : Answer :=
  let final := beAt p 2 4
  let crc := beAt p 6 4
  let done := [byteOf (beAt p 0 1), 0]
  if p.isEmpty then refusedWith s abLength
  else match s.dap.transfers.find? fun t => t.handle = beAt p 0 1 && t.sid = x.sid with
    | none => refusedWith s (if p.length ≠ 10 then abLength else abRange)
    | some t =>
      match s.toMove x.role t.index t.sub t.mode with
      | .error c => refusedAt s t.index t.sub c
      | .ok none => refusedAt s t.index t.sub abLength
      | .ok (some (o, i, live)) =>
        if p.length ≠ 10 then refusedAt s t.index t.sub abLength
        else if t.mode ≠ 0 ∧ s.maskLocked o i then refusedAt s t.index t.sub abTandem else
        let now := s.content x.sid o i live
        let whole := if t.image then padTo final now else t.result now final
        if t.mode = 0 then (if t.abandoned then s.lateTransfer t else accepted (s.dropTransfer t.handle) done)
        else if !t.abandoned && (t.total < final || crc32 whole ≠ crc) then refusedAt s t.index t.sub abLength
        else if t.abandoned then s.lateTransfer t
        else if t.image then
          (if !lengthOk s.part o final then refusedAt s t.index t.sub abLength
          else accepted ((s.endImage whole).dropTransfer t.handle) done)
        else
          let before := s.prot.secrets
          let v := writeContent x.sid x.role o i whole s
          if v.2 ≠ 0 then refusedAt v.1 t.index t.sub v.2
          else
            let after := if o.idx = 0x1410 ∧ o.sub = 3 then After.tandem before
              else if o.acc = .rwp then After.plan o i else After.nothing
            { accepted (v.1.dropTransfer t.handle) done with after := after }

/-! Events (R65). -/

/-- R65: the queued records that a session owes an acknowledgement. -/
def State.unacked (s : State) (x : Session) : List EventRec :=
  (s.ev.queue.filter fun q => q.owed.contains x.sid || (x.admits q.record.cls && x.acked < q.record.evseq)).map (·.record)

/-- SUBSCRIBE: records that the new mask admits and the old one did not are delivered (R50, R65). -/
def subscribeRequest (x : Session) (p : Bytes) (s : State) : Answer :=
  if !s.mayRead x.role 1 then refusedWith s abPlan
  else if p.length ≠ 1 then refusedWith s abLength
  else
    let y := { x with mask := beAt p 0 1, subscribed := true, evtDst := x.src }
    let new := s.ev.queue.filter fun q => y.admits q.record.cls && !x.admits q.record.cls && x.acked < q.record.evseq
    let s := s.updSession x.sid fun z => { z with mask := y.mask, subscribed := true, evtDst := y.evtDst }
    { accepted s [] with after := .deliver (new.map (·.record)) }

/-- EVENT_ACK. -/
def eventAckRequest (x : Session) (p : Bytes) (s : State) : Answer :=
  if !s.mayRead x.role 1 then refusedWith s abPlan
  else if p.length ≠ 4 then refusedWith s abLength
  else
    let n := beAt p 0 4
    let pay := fun (q : QueuedEvent) =>
      if q.record.evseq ≤ n then
        { q with owed := q.owed.filter (· ≠ x.sid), orphan := q.orphan && !x.admits q.record.cls }
      else q
    let s := s.updSession x.sid fun z => { z with acked := max z.acked n }
    accepted (({ s with ev := { s.ev with queue := s.ev.queue.map pay } }).pruneEvents) []

/-! Services (R46). -/

/-- A service whose payload is empty. -/
def plainService (p : Bytes) (a : After) (s : State) : Answer :=
  if p.isEmpty then { accepted s [] with after := a } else refusedWith s abLength

/-- A session's request is carried out. -/
def serve (x : Session) (service : Nat) (p : Bytes) (s : State) : Answer :=
  match service with
  | 0x03 => plainService p (if x.open_ then .nothing else .opened) s
  | 0x04 => plainService p .closed s
  | 0x05 => plainService p .nothing s
  | 0x10 => readRequest x p s
  | 0x11 => writeRequest x p s
  | 0x12 => blockOpenRequest x p s
  | 0x13 => blockDataRequest x p s
  | 0x14 => blockEndRequest x p s
  | 0x20 => Answer.ofExcept s (commitRequest x.role p s)
  | 0x21 => Answer.ofExcept s (withdrawRequest x.role p s)
  | 0x30 => subscribeRequest x p s
  | 0x31 => eventAckRequest x p s
  | _ => refusedWith s abLength

/-! Responses (R46, R54). -/

/-- Send a response, and keep it for a retransmitted request. -/
def State.respond (s : State) (sid service : Nat) (payload : Bytes) : State :=
  match s.session sid with
  | none => s
  | some x =>
    let body := dapBody service sid x.devSeq payload
    let msg := body ++ dapTag x.key body
    (s.updSession sid fun y => { y with devSeq := y.devSeq + 1, cached := msg }).transmit x.src 2 msg

/-- R46: the payload of an ABORT. -/
def abortPayload (seq service index sub code : Nat) : Bytes :=
  beBytes 4 seq ++ [byteOf service, 0] ++ beBytes 2 index ++ [byteOf sub, 0] ++ beBytes 2 code

/-- The response of an answer. -/
def Answer.reply (a : Answer) (sid service seq : Nat) : State :=
  if a.code = 0 then a.st.respond sid (service + 0x80) (beBytes 4 seq ++ a.body)
  else a.st.respond sid 0xFF (abortPayload seq service a.index a.sub a.code)

/-- R52: the session is open once its CONFIRM was answered. -/
def State.openedSession (s : State) (x : Session) : State :=
  (s.updSession x.sid fun y => { y with open_ := true }).raise 0x1001 0 "CX" (leBytes 2 x.sid ++ [byteOf x.role])

/-- What follows the response. -/
def After.run (x : Session) (s : State) : After → State
  | .nothing => s
  | .opened => s.openedSession x
  | .closed => s.closeSessions fun y => y.sid = x.sid
  | .deliver l => sendEvents 256 x.sid l s
  | .power c => pwrCommandAct c s
  | .device => (s.raise 0x1205 1 "CX" (leBytes 2 x.sid)).deviceReset 2
  | .cluster c => s.clusterReset c 0
  | .plan o i => s.afterRwp o i x.sid
  | .tandem before => s.closeChanged before

/-- R54, R56: a session takes a request under its sequence number. -/
def State.touched (s : State) (x : Session) (seq : Nat) : State :=
  s.updSession x.sid fun y => { y with lastSeq := seq, lastMsg := s.cycles }

/-- R54, step 4: act on a request, answer it, and do what follows. -/
def State.act (s : State) (x : Session) (service seq : Nat) (p : Bytes) : State :=
  let s := s.touched x seq
  let a := serve x service p s
  a.after.run x (a.reply x.sid service seq)

/-- R54, step 1: a tag is wrong. -/
def State.tagFailure (s : State) (x : Session) : State :=
  let s := (s.bump Key.dapTagFailures).updSession x.sid fun y => { y with tagFails := y.tagFails + 1 }
  if x.tagFails < 15 then s
  else (s.closeSessions fun y => y.sid = x.sid).raise 0x1002 1 "CX" (leBytes 2 x.sid)

/-- A half-open session takes its CONFIRM only (R52). -/
def Session.takes (x : Session) (service seq : Nat) (p : Bytes) : Bool :=
  x.open_ || (service = 3 && seq = 1 && p.isEmpty)

/-- R51, R54: a tagged request arrives. -/
def State.request (s : State) (src : Source) (service sid seq : Nat) (p tag : Bytes) : State :=
  if !s.hearsHost src then s.unheard src
  else if 1382 < p.length || 2 ^ 32 ≤ seq then s
  else match s.session sid with
    | none => s
    | some x =>
      if x.src ≠ src then s
      else if dapTag x.key (dapBody service sid seq p) ≠ tag then s.tagFailure x
      else if seq = x.lastSeq && !x.cached.isEmpty then
        (s.updSession sid fun y => { y with lastMsg := s.cycles }).transmit src 2 x.cached
      else if seq ≤ x.lastSeq || !x.takes service seq p then s
      else s.act x service seq p

/-! What the host of a session sends. -/

/-- R45, R54: a request of a session under a sequence number, tagged as it must be. -/
def Session.req (x : Session) (service seq : Nat) (p : Bytes) : Req :=
  ⟨x.src, x.sid, seq, dapTag x.key (dapBody service x.sid seq p)⟩

/-- R51, R54: is x an open session that the device hears, and does `seq` come after its last request? -/
def State.awaits (s : State) (x : Session) (seq : Nat) : Bool :=
  s.hearsHost x.src && s.session x.sid = some x && x.open_ && x.lastSeq < seq && seq < 2 ^ 32

/-- R71, conditions 1 to 6, R420: may the session write instance i of a row, where the boot offers it? -/
def State.mayWriteRow (s : State) (x : Session) (o : Obj) (i : Nat) : Bool :=
  (match s.toWrite x.role (o.keyOf i / 256) (o.keyOf i % 256) with
    | .ok r => r = (o, i)
    | .error _ => false) && s.offered (o.keyOf i / 256)

/-! OPEN (R52, R53). -/

/-- R53: OPENs of the transport within the last second. -/
def State.recentOpens (s : State) (src : Source) : Nat :=
  (s.dap.opens.filter fun o => o.1 = transportBit src && s.since o.2 < secCycles 1).length

/-- The number of the next session: in turn from 1, none that is in use. -/
def State.freeSid (s : State) : Nat :=
  (((List.range 9).map fun k => (s.dap.nextSid + k - 1) % 65535 + 1).find? fun n => (s.session n).isNone).getD 1

/-- R53: the code an OPEN is refused with, 0 = none. -/
def State.openCode (s : State) (src : Source) (p : Bytes) : Nat :=
  let role := beAt p 0 1
  if p.length ≠ 18 then abLength
  else if 3 < role || !s.enrolled role || !s.admitsRole role src then abPlan
  else if 8 ≤ s.dap.sessions.length then abBusy
  else 0

/-- R52: the text that proof and key are formed from. -/
def openText (label : String) (nh nd : Bytes) (sid : Nat) : Bytes := ascii label ++ nh ++ nd ++ beBytes 2 sid

/-- R52, step 2: a half-open session, and OPEN_ACK. -/
def State.halfOpen (s : State) (src : Source) (seq : Nat) (p : Bytes) : State :=
  let role := beAt p 0 1
  let nh := slice p 2 16
  let (n, s) := s.draw
  let nd := (List.range 16).map (Config.nonceByte n)
  let sid := s.freeSid
  let x : Session := {
    sid := sid, role := role, src := src, key := hmacSha256 (s.secret role) (openText "TBZ-DAP-KEY" nh nd sid),
    open_ := false, lastSeq := 0, devSeq := 1, cached := [], mask := 0, subscribed := false, evtDst := src, acked := 0,
    tagFails := 0, lastMsg := s.cycles, opened := s.cycles }
  let proof := (hmacSha256 (s.secret role) (openText "TBZ-DAP-DEV" nh nd sid)).take 16
  let s := { s with dap := { s.dap with sessions := s.dap.sessions ++ [x], nextSid := sid % 65535 + 1 } }
  s.transmit src 2 (dapBody 0x81 sid 0 (beBytes 4 seq ++ beBytes 2 sid ++ nd ++ proof))

/-- OPEN arrives. -/
def State.openRequest (s : State) (src : Source) (seq : Nat) (p : Bytes) : State :=
  if !s.hearsHost src then s.unheard src
  else if 1382 < p.length then s
  else
    let n := s.recentOpens src
    let s := { s with dap := { s.dap with opens :=
      (s.dap.opens.filter fun (o : Nat × Nat) => s.since o.2 < secCycles 1) ++ [(transportBit src, s.cycles)] } }
    let code := s.openCode src p
    if 4 ≤ n then s.bump Key.dapOpenRefused
    else if code ≠ 0 then
      (s.bump Key.dapOpenRefused).transmit src 2 (dapBody 0xFF 0 0 (abortPayload seq 1 0 0 code))
    else s.halfOpen src seq p

/-! Messages on the transports (R45, R47, R48, R50). -/

/-- A DAP message (R45). -/
structure Message where
  service : Nat
  session : Nat
  seq : Nat
  payload : Bytes
  tag : Bytes
  deriving DecidableEq, Repr

/-- R45: the message that bytes hold; on UDP they are exactly it, on CAN FD padding may follow (R48). -/
def parseMessage (exact : Bool) (b : Bytes) : Option Message :=
  let n := beAt b 8 2
  let service := beAt b 1 1
  let whole := 10 + n + (if service = 1 then 0 else 16)
  if b.length < 10 || beAt b 0 1 ≠ 1 || 1382 < n || b.length < whole || (exact && b.length ≠ whole) then none
  else some ⟨service, beAt b 2 2, beAt b 4 4, slice b 10 n, slice b (10 + n) (whole - 10 - n)⟩

/-- A whole message arrives from a source. -/
def State.receive (s : State) (src : Source) (exact : Bool) (b : Bytes) : State :=
  match parseMessage exact b with
  | none => s
  | some m =>
    if m.service = 1 then (if m.session = 0 then s.openRequest src m.seq m.payload else s)
    else s.request src m.service m.session m.seq m.payload m.tag

def State.setPartials (s : State) (l : List CanPartial) : State := { s with dap := { s.dap with partials := l } }

/-- R48: a frame of host h with its segment header. -/
def State.segment (s : State) (h : Nat) (data : Bytes) : State :=
  let hdr := beAt data 0 1
  let others := s.dap.partials.filter (·.host ≠ h)
  let sofar : Option Bytes :=
    if hdr.testBit 7 then (if hdr % 64 = 0 then some [] else none)
    else match s.dap.partials.find? (·.host = h) with
      | some q => if q.next = hdr % 64 && s.since q.last < msCycles 10 then some q.bytes else none
      | none => none
  match sofar with
  | none => s.setPartials others
  | some b =>
    let b := b ++ data.drop 1
    if hdr.testBit 6 then (s.setPartials others).receive (.can h) false b
    else s.setPartials (others ++ [⟨h, b, (hdr + 1) % 64, s.cycles⟩])

/-- CAN_FD_FRAME, R47, R48, R51. -/
def canFdFrame (ident : Nat) (data : Bytes) (s : State) : State :=
  let h := field ident 15 8
  if ident / 2 ^ 16 ≠ 0x100 || h = 0 || ident % 256 ≠ s.nodeId || data.isEmpty || 64 < data.length ||
      canLength data.length ≠ data.length then s
  else if s.hearsHost (.can h) then s.segment h data
  else s.canWake

/-- CAN_FD_SEGMENT_TIMEOUT, R48. -/
def canFdSegmentTimeout (host : Nat) (s : State) : State :=
  s.setPartials (s.dap.partials.filter fun q => !(q.host = host && msCycles 10 ≤ s.since q.last))

/-- R50: does NX.EM answer on the management VLAN? -/
def State.emAnswers (s : State) : Bool :=
  s.boot.held.isNone && s.boot.mode = 0 && s.dap.answering && s.part.hasNx && s.udpPowered

/-- ARP_REQUEST, R50. -/
def arpRequest (target senderMac senderAddr : Nat) (s : State) : State :=
  s.whenever (s.emAnswers && target ≠ 0 && target = s.atReset Key.dapIpv4Address) fun s =>
    s.send (.address (s.nat Key.dapMgmtMac) senderMac senderAddr)

/-- R50: the IPv6 link-local address of a MAC address (RFC 4291, modified EUI-64). -/
def linkLocal (mac : Nat) : Nat :=
  0xFE80 * 2 ^ 112 + (mac / 2 ^ 24 ^^^ 0x020000) * 2 ^ 40 + 0xFFFE * 2 ^ 24 + mac % 2 ^ 24

/-- R50: the address at which the device listens on the transport of a source. -/
def State.ownAddress (s : State) : Source → Option Nat
  | .can _ => none
  | .udp4 _ _ => some (s.atReset Key.dapIpv4Address)
  | .udp6 _ _ => some (linkLocal (s.nat Key.dapMgmtMac))

/-- UDP_DATAGRAM, R45, R50: a datagram for the device's address and port on the management VLAN. -/
def udpDatagram (src : Source) (dst vlan port : Nat) (msg : Bytes) (s : State) : State :=
  if s.ownAddress src ≠ some dst || vlan ≠ s.atReset Key.dapMgmtVlan || port ≠ s.atReset Key.dapUdpPort || 1408 < msg.length then s
  else s.receive src true msg

/-- NEIGHBOUR_SOLICITATION, R50. -/
def neighbourSolicitation (target senderMac senderAddr : Nat) (s : State) : State :=
  s.whenever (s.emAnswers && s.atReset Key.dapIpv6Enable ≠ 0 && target = linkLocal (s.nat Key.dapMgmtMac)) fun s =>
    s.send (.address (s.nat Key.dapMgmtMac) senderMac senderAddr)

/-! Time limits (R53, R56, R60, R65). -/

/-- BLOCK_TRANSFER_ABANDON, R60. -/
def blockTransferAbandon (session handle : Nat) (s : State) : State :=
  s.setTransfers (s.dap.transfers.map fun t =>
    if t.sid = session && t.handle = handle && secCycles 5 ≤ s.since t.lastData then { t with abandoned := true, writes := [] }
    else t)

/-- HALF_OPEN_TIMEOUT, R53. -/
def halfOpenTimeout (session : Nat) (s : State) : State :=
  s.closeSessions fun x => x.sid = session && !x.open_ && secCycles 1 ≤ s.since x.opened

/-- SESSION_IDLE_TIMEOUT, R56. -/
def sessionIdleTimeout (session : Nat) (s : State) : State :=
  match s.session session with
  | none => s
  | some x =>
    s.whenever (x.open_ && secCycles (s.nat Key.dapSessionIdleTimeout) ≤ s.since x.lastMsg) fun s =>
      (s.closeSessions fun y => y.sid = session).raise 0x1003 0 "CX" (leBytes 2 session)

/-- EVT_RESEND_INTERVAL, R65. -/
def evtResendInterval (s : State) : State :=
  s.whenever (msCycles (s.nat Key.evtResendInterval) ≤ s.since s.ev.resent) fun s =>
    let s := { s with ev := { s.ev with resent := s.cycles } }
    s.dap.sessions.foldl (fun s x => sendEvents 256 x.sid (s.unacked x) s) s

end Sys2Proof.Machine
end

