-- ==== Sys2Proof/Machine/RequestRows.lean ====
section
/-! DEFINITION. The commands that are DAP requests and messages, one meaning each: a request is a message of its session (R45, R46),
and a request with a row of its own is the WRITE or the BLOCK_END of its entry. -/
namespace Sys2Proof.Machine

/-- A tagged request of a session arrives. -/
def State.asks (s : State) (r : Req) (service : Nat) (payload : Bytes) : Res :=
  .next (s.request r.src service r.session r.seq payload r.tag)

/-- The row of the object lists whose first entry is at an index and subindex. -/
def rowAt (idx sub : Nat) : Obj :=
  (objects.find? fun o => o.idx = idx && o.sub = sub).getD ⟨idx, sub, .one, .u8, .ro, .val 0, .any, 0, false⟩

/-- The payload of a WRITE of a number to instance i of a row. -/
def writePayload (o : Obj) (i : Nat) (v : Int) : Bytes :=
  entryBytes (o.keyOf i / 256) (o.keyOf i % 256) ++ o.ty.encode v

/-- A WRITE of a number; `present`: is the unit one of the largest part's (R4, R5)? -/
def State.writes (s : State) (r : Req) (present : Bool) (o : Obj) (i : Nat) (v : Int) : Res :=
  onUnit present (s.request r.src 0x11 r.session r.seq (writePayload o i v) r.tag)

/-- R166: the row of a LANE object for a lane, and the lane's instance number. -/
def laneEntryRow (off : Nat) : Lane → Obj
  | .camera _ => rowAt (0x3000 + off) 1
  | .trunk _ => rowAt (0x3100 + off) 1
  | .eth _ => rowAt (0x3200 + off) 1

def laneNumber : Lane → Nat
  | .camera i | .trunk i | .eth i => i

/-- The payload of a BLOCK_END. -/
def endPayload (handle length crc : Nat) : Bytes := [byteOf handle, 0] ++ beBytes 4 length ++ beBytes 4 crc

/-- A BLOCK_END of a transfer into one of these entries; with no such transfer the command has not come about (log 2). -/
def State.ends (s : State) (r : Req) (handle length crc : Nat) (entry : Nat → Bool) : Res :=
  .next (s.whenever (s.dap.transfers.any fun t =>
      t.sid = r.session && t.handle = handle && t.mode ≠ 0 && entry (t.index * 256 + t.sub)) fun s =>
    s.request r.src 0x14 r.session r.seq (endPayload handle length crc) r.tag)

/-- Is a lane one of the largest part's? -/
def laneKnown : Lane → Bool
  | .camera i => i < 48
  | .trunk i => i < 10
  | .eth i => i < 4

/-- CAN_FD_FRAME, R48. -/
def execCanFdFrame (ident : Nat) (data : Bytes) (s : State) : Res :=
  .next (canFdFrame ident data s)

/-- CAN_FD_SEGMENT_TIMEOUT, R48. -/
def execCanFdSegmentTimeout (host : Nat) (s : State) : Res :=
  .next (canFdSegmentTimeout host s)

/-- UDP_DATAGRAM, R50. -/
def execUdpDatagram (src : Source) (dst vlan port : Nat) (msg : Bytes) (s : State) : Res :=
  .next (udpDatagram src dst vlan port msg s)

/-- ARP_REQUEST, R50. -/
def execArpRequest (target senderMac senderAddr : Nat) (s : State) : Res :=
  .next (arpRequest target senderMac senderAddr s)

/-- NEIGHBOUR_SOLICITATION, R50. -/
def execNeighbourSolicitation (target senderMac senderAddr : Nat) (s : State) : Res :=
  .next (neighbourSolicitation target senderMac senderAddr s)

/-- OPEN, R52, R53. -/
def execOpenSession (src : Source) (role : Nat) (nonce : Bytes) (s : State) : Res :=
  .next (s.openRequest src 0 ([byteOf role, 0] ++ nonce))

/-- CONFIRM, R52. -/
def execConfirm (r : Req) (s : State) : Res :=
  s.asks r 0x03 []

/-- CLOSE, R56. -/
def execClose (r : Req) (s : State) : Res :=
  s.asks r 0x04 []

/-- KEEPALIVE, R56. -/
def execKeepalive (r : Req) (s : State) : Res :=
  s.asks r 0x05 []

/-- READ, R46. -/
def execRead (r : Req) (index sub : Nat) (s : State) : Res :=
  s.asks r 0x10 (entryBytes index sub)

/-- WRITE, R43. -/
def execWrite (r : Req) (index sub : Nat) (value : Bytes) (s : State) : Res :=
  s.asks r 0x11 (entryBytes index sub ++ value)

/-- BLOCK_OPEN, R58. -/
def execBlockOpen (r : Req) (index sub mode total : Nat) (s : State) : Res :=
  s.asks r 0x12 (beBytes 2 index ++ [byteOf sub, byteOf mode] ++ beBytes 4 total)

/-- BLOCK_DATA, R58. -/
def execBlockData (r : Req) (handle offset count : Nat) (data : Bytes) (s : State) : Res :=
  s.asks r 0x13 ([byteOf handle, 0] ++ beBytes 4 offset ++ beBytes 2 count ++ data)

/-- BLOCK_END, R59. -/
def execBlockEnd (r : Req) (handle length crc : Nat) (s : State) : Res :=
  s.asks r 0x14 (endPayload handle length crc)

/-- BLOCK_TRANSFER_ABANDON, R60. -/
def execBlockTransferAbandon (session handle : Nat) (s : State) : Res :=
  .next (blockTransferAbandon session handle s)

/-- HALF_OPEN_TIMEOUT, R53. -/
def execHalfOpenTimeout (session : Nat) (s : State) : Res :=
  .next (halfOpenTimeout session s)

/-- SESSION_IDLE_TIMEOUT, R56. -/
def execSessionIdleTimeout (session : Nat) (s : State) : Res :=
  .next (sessionIdleTimeout session s)

/-- COMMIT, R200. -/
def execCommit (r : Req) (payload : Bytes) (s : State) : Res :=
  s.asks r 0x20 payload

/-- WITHDRAW, R209. -/
def execWithdraw (r : Req) (ticket : Nat) (s : State) : Res :=
  s.asks r 0x21 (beBytes 2 ticket)

/-- SUBSCRIBE, R65. -/
def execSubscribe (r : Req) (mask : Nat) (s : State) : Res :=
  s.asks r 0x30 [byteOf mask]

/-- EVENT_ACK, R65. -/
def execEventAck (r : Req) (evseq : Nat) (s : State) : Res :=
  s.asks r 0x31 (beBytes 4 evseq)

/-- EVT_RESEND_INTERVAL, R65. -/
def execEvtResendInterval  (s : State) : Res :=
  .next (evtResendInterval s)

/-- STORE_SAVE, R69. -/
def execStoreSave (r : Req) (s : State) : Res :=
  s.writes r true (rowAt 0x1300 1) 0 1

/-- STORE_LOAD, R70. -/
def execStoreLoad (r : Req) (s : State) : Res :=
  s.writes r true (rowAt 0x1300 1) 0 2

/-- STORE_DEFAULTS, R70. -/
def execStoreDefaults (r : Req) (s : State) : Res :=
  s.writes r true (rowAt 0x1300 1) 0 3

/-- STORE_ERASE, R70. -/
def execStoreErase (r : Req) (s : State) : Res :=
  s.writes r true (rowAt 0x1300 1) 0 4

/-- TB_SOURCE_WRITE, R81. -/
def execTbSourceWrite (r : Req) (value : Nat) (s : State) : Res :=
  s.writes r true (rowAt 0x2000 4) 0 value

/-- TB_DISCONTINUITY_ACTION_SLEW, R85. -/
def execTbDiscontinuityActionSlew (r : Req) (s : State) : Res :=
  s.writes r true (rowAt 0x2000 9) 0 1

/-- TB_DISCONTINUITY_ACTION_REEPOCH, R85. -/
def execTbDiscontinuityActionReepoch (r : Req) (s : State) : Res :=
  s.writes r true (rowAt 0x2000 9) 0 2

/-- TB_RATE_ADJ_WRITE, R94. -/
def execTbRateAdjWrite (r : Req) (value : Int) (s : State) : Res :=
  s.writes r true (rowAt 0x2000 5) 0 value

/-- PTP_INSTANCE_RESTART, R106: sub is 1 = PTP_PROFILE, 2 = PTP_TRANSPORT, 3 = PTP_DOMAIN. -/
def execPtpInstanceRestart (r : Req) (sub value : Nat) (s : State) : Res :=
  s.writes r (1 ≤ sub && sub ≤ 3) (rowAt 0x2010 sub) 0 value

/-- PTP_ASYM_FLAG_CLEAR, R97. -/
def execPtpAsymFlagClear (r : Req) (s : State) : Res :=
  s.writes r true (rowAt 0x2030 6) 0 0

/-- TXTS_POP, R100. -/
def execTxtsPop (r : Req) (port ident : Nat) (s : State) : Res :=
  s.writes r (port < 4) (rowAt 0x2040 6) port ident

/-- TT_TABLE_WRITE, R111. -/
def execTtTableWrite (r : Req) (handle length crc : Nat) (s : State) : Res :=
  s.ends r handle length crc fun k => k = Key.ttTable

/-- LANE_COMMAND_RETRAIN, R157. -/
def execLaneCommandRetrain (r : Req) (lane : Lane) (s : State) : Res :=
  s.writes r (laneKnown lane) (laneEntryRow oCommand lane) (laneNumber lane) 1

/-- LANE_COMMAND_PORT_RESET, R157. -/
def execLaneCommandPortReset (r : Req) (lane : Lane) (s : State) : Res :=
  s.writes r (laneKnown lane) (laneEntryRow oCommand lane) (laneNumber lane) 2

/-- LANE_ENABLE_WRITE, R153. -/
def execLaneEnableWrite (r : Req) (lane : Lane) (value : Nat) (s : State) : Res :=
  s.writes r (laneKnown lane) (laneEntryRow oEnable lane) (laneNumber lane) value

/-- LANE_TEST_MODE_WRITE, R163. -/
def execLaneTestModeWrite (r : Req) (lane : Lane) (value : Nat) (s : State) : Res :=
  s.writes r (laneKnown lane) (laneEntryRow oTestMode lane) (laneNumber lane) value

/-- EXP_APPLY_CHANGE, R274. -/
def execExpApplyChange (r : Req) (port : Nat) (s : State) : Res :=
  s.writes r (port < 48) (rowAt 0x7026 1) port 1

/-- EXP_APPLY_RAW, R274. -/
def execExpApplyRaw (r : Req) (port : Nat) (s : State) : Res :=
  s.writes r (port < 48) (rowAt 0x7026 1) port 2

/-- WARP_CORE_FENCE, R302. -/
def execWarpCoreFence (r : Req) (core value : Nat) (s : State) : Res :=
  s.writes r (core < 64) (rowAt 0x6740 1) core value

/-- WARP_PARTITION_WRITE, R292. -/
def execWarpPartitionWrite (r : Req) (engine value : Nat) (s : State) : Res :=
  s.writes r (engine < 4) (rowAt 0x6743 1) engine value

/-- CODEC_ENGINE_FENCE, R332. -/
def execCodecEngineFence (r : Req) (engine value : Nat) (s : State) : Res :=
  s.writes r (engine < 4) (rowAt 0x67A0 1) engine value

/-- TRK_ENABLE_WRITE, R340. -/
def execTrkEnableWrite (r : Req) (value : Nat) (s : State) : Res :=
  s.writes r true (rowAt 0x7100 1) 0 value

/-- NX_GATE_CONFIG_CHANGE, R355. -/
def execNxGateConfigChange (r : Req) (port : Nat) (s : State) : Res :=
  s.writes r (port < 4) (rowAt 0x7416 1) port 1

/-- DMA_START, R377. -/
def execDmaStart (r : Req) (engine channel : Nat) (s : State) : Res :=
  s.writes r (engine < 11 && channel < 64) (rowAt 0x7807 1) (64 * engine + channel) 1

/-- DMA_PAUSE, R387. -/
def execDmaPause (r : Req) (engine channel : Nat) (s : State) : Res :=
  s.writes r (engine < 11 && channel < 64) (rowAt 0x7807 1) (64 * engine + channel) 2

/-- DMA_RESUME, R387. -/
def execDmaResume (r : Req) (engine channel : Nat) (s : State) : Res :=
  s.writes r (engine < 11 && channel < 64) (rowAt 0x7807 1) (64 * engine + channel) 3

/-- DMA_ABORT, R379. -/
def execDmaAbort (r : Req) (engine channel : Nat) (s : State) : Res :=
  s.writes r (engine < 11 && channel < 64) (rowAt 0x7807 1) (64 * engine + channel) 4

/-- DMA_ENGINE_COMMAND, R389. -/
def execDmaEngineCommand (r : Req) (engine : Nat) (s : State) : Res :=
  s.writes r (engine < 11) (rowAt 0x7830 2) engine 1

/-- DMA_RING_READ_WRITE, R385. -/
def execDmaRingReadWrite (r : Req) (engine value : Nat) (s : State) : Res :=
  s.writes r (engine < 11) (rowAt 0x7831 4) engine value

/-- DMA_RING_CONFIG_WRITE, R385: sub is 1 = DMA_RING_BASE, 2 = DMA_RING_SIZE. -/
def execDmaRingConfigWrite (r : Req) (engine sub value : Nat) (s : State) : Res :=
  s.writes r (engine < 11 && 1 ≤ sub && sub ≤ 2) (rowAt 0x7831 sub) engine value

/-- FIFO_DROP_REMAINDER, R394. -/
def execFifoDropRemainder (r : Req) (fifo : Nat) (s : State) : Res :=
  s.writes r (fifo < 636) (rowAt 0x7B14 1) fifo 1

/-- FIFO_FLUSH, R394. -/
def execFifoFlush (r : Req) (fifo : Nat) (s : State) : Res :=
  s.writes r (fifo < 636) (rowAt 0x7B14 1) fifo 2

/-- FIFO_WM_ACK, R397. -/
def execFifoWmAck (r : Req) (fifo value : Nat) (s : State) : Res :=
  s.writes r (fifo < 636) (rowAt 0x7B10 1) fifo value

/-- FW_ACTIVATE, R421. -/
def execFwActivate (r : Req) (s : State) : Res :=
  s.writes r true (rowAt 0x1420 5) 0 1

/-- FW_CONFIRM, R421. -/
def execFwConfirm (r : Req) (s : State) : Res :=
  s.writes r true (rowAt 0x1420 5) 0 2

/-- MEAS_EXTEND, R424. -/
def execMeasExtend (r : Req) (handle length crc : Nat) (s : State) : Res :=
  s.ends r handle length crc fun k => k = Key.measExtend

/-- ROLLCALL_NONCE, R425. -/
def execRollcallNonce (r : Req) (handle length crc : Nat) (s : State) : Res :=
  s.ends r handle length crc fun k => k = Key.rollcallNonce

/-- TANDEM_PROPOSAL, R431. -/
def execTandemProposal (r : Req) (handle length crc : Nat) (s : State) : Res :=
  s.ends r handle length crc fun k => k = Key.tandemProposal

/-- TANDEM_SIGN, R433. -/
def execTandemSign (r : Req) (handle length crc : Nat) (s : State) : Res :=
  s.ends r handle length crc fun k => k = Key.tandemSign

/-- TANDEM_COMMAND, R433. -/
def execTandemCommand (r : Req) (s : State) : Res :=
  s.writes r true (rowAt 0x1410 7) 0 1

/-- ENROL_SEAL, R430. -/
def execEnrolSeal (r : Req) (s : State) : Res :=
  s.writes r true (rowAt 0x1400 4) 0 1

/-- ROLE_SECRET_WRITE, R434. -/
def execRoleSecretWrite (r : Req) (handle length crc : Nat) (s : State) : Res :=
  s.ends r handle length crc fun k => Key.roleSecret 0 ≤ k && k ≤ Key.roleSecret 3

/-- ACCESS_PLAN_WRITE, R429. -/
def execAccessPlanWrite (r : Req) (handle length crc : Nat) (s : State) : Res :=
  s.ends r handle length crc fun k => k = Key.accessPlan

/-- PWR_COMMAND_STANDBY, R443. -/
def execPwrCommandStandby (r : Req) (s : State) : Res :=
  s.writes r true (rowAt 0x1200 2) 0 1

/-- PWR_COMMAND_PARKED, R443. -/
def execPwrCommandParked (r : Req) (s : State) : Res :=
  s.writes r true (rowAt 0x1200 2) 0 2

/-- PWR_COMMAND_RUN, R445. -/
def execPwrCommandRun (r : Req) (s : State) : Res :=
  s.writes r true (rowAt 0x1200 2) 0 3

/-- PWR_DOMAIN_ENABLE_WRITE, R439. -/
def execPwrDomainEnableWrite (r : Req) (domain value : Nat) (s : State) : Res :=
  s.writes r (domain < 64) (rowAt 0x8000 1) domain value

/-- RST_DEVICE, R447. -/
def execRstDevice (r : Req) (s : State) : Res :=
  s.writes r true (rowAt 0x1201 1) 0 1

/-- RST_CLUSTER, R447. -/
def execRstCluster (r : Req) (cluster : Nat) (s : State) : Res :=
  s.writes r true (rowAt 0x1201 2) 0 cluster

/-- RCV_CLEAR, R457. -/
def execRcvClear (r : Req) (s : State) : Res :=
  s.writes r true (rowAt 0xA000 7) 0 1

/-- CAL_TRIMS_WRITE, R463. -/
def execCalTrimsWrite (r : Req) (handle length crc : Nat) (s : State) : Res :=
  s.ends r handle length crc fun k => k = Key.calTrims

/-- CAL_OSC_PROCEDURE, R467. -/
def execCalOscProcedure (r : Req) (s : State) : Res :=
  s.writes r true (rowAt 0x8101 1) 0 1

/-- CAL_SUPPLY_PROCEDURE, R467. -/
def execCalSupplyProcedure (r : Req) (s : State) : Res :=
  s.writes r true (rowAt 0x8101 1) 0 2

/-- CAL_CAMERA_PROCEDURE, R467. -/
def execCalCameraProcedure (r : Req) (s : State) : Res :=
  s.writes r true (rowAt 0x8101 1) 0 3

/-- CAL_ETH_PROCEDURE, R467. -/
def execCalEthProcedure (r : Req) (s : State) : Res :=
  s.writes r true (rowAt 0x8101 1) 0 4

/-- CAL_BELL_PROCEDURE, R467. -/
def execCalBellProcedure (r : Req) (s : State) : Res :=
  s.writes r true (rowAt 0x8101 1) 0 5

/-- CAL_SAVE, R466. -/
def execCalSave (r : Req) (s : State) : Res :=
  s.writes r true (rowAt 0x8101 1) 0 6

/-- CAL_REVERT, R466. -/
def execCalRevert (r : Req) (s : State) : Res :=
  s.writes r true (rowAt 0x8101 1) 0 7

/-- CAL_ABORT, R469. -/
def execCalAbort (r : Req) (s : State) : Res :=
  s.writes r true (rowAt 0x8101 1) 0 8

/-- TEST_PIPE_FENCE, R475. -/
def execTestPipeFence (r : Req) (pipe value : Nat) (s : State) : Res :=
  s.writes r (pipe < 24) (rowAt 0x9000 1) pipe value

/-- TEST_INJECT_START, R478. -/
def execTestInjectStart (r : Req) (pipe : Nat) (s : State) : Res :=
  s.writes r (pipe < 24) (rowAt 0x9002 1) pipe 1

/-- TEST_INJECT_STOP, R480. -/
def execTestInjectStop (r : Req) (pipe : Nat) (s : State) : Res :=
  s.writes r (pipe < 24) (rowAt 0x9002 1) pipe 2

/-- TEST_GOLDEN_SPEC, R482. -/
def execTestGoldenSpec (r : Req) (comparator value : Nat) (s : State) : Res :=
  s.writes r (comparator < 16) (rowAt 0x9010 1) comparator value

/-- TEST_BIST_COMMAND, R484. -/
def execTestBistCommand (r : Req) (memory : Nat) (s : State) : Res :=
  s.writes r (memory < 12) (rowAt 0x9020 1) memory 1

/-- TEST_DRAM_RETRAIN, R486. -/
def execTestDramRetrain (r : Req) (s : State) : Res :=
  s.writes r true (rowAt 0x9030 1) 0 1

end Sys2Proof.Machine
end

