-- ==== Sys2Proof/Machine/Dispatch.lean ====
section
/-! DEFINITION. The effect of each command: one arm per constructor, each one call of its meaning. -/
namespace Sys2Proof.Machine

def exec (i : Instr) (s : State) : Host.Outcome State Fault Refusal :=
  match i with
  | .canFdFrame ident data => Sys2Proof.Machine.execCanFdFrame ident data s
  | .canFdSegmentTimeout host => Sys2Proof.Machine.execCanFdSegmentTimeout host s
  | .udpDatagram src dst vlan port msg => Sys2Proof.Machine.execUdpDatagram src dst vlan port msg s
  | .arpRequest target senderMac senderAddr => Sys2Proof.Machine.execArpRequest target senderMac senderAddr s
  | .neighbourSolicitation target senderMac senderAddr => Sys2Proof.Machine.execNeighbourSolicitation target senderMac senderAddr s
  | .openSession src role nonce => Sys2Proof.Machine.execOpenSession src role nonce s
  | .confirm r => Sys2Proof.Machine.execConfirm r s
  | .close r => Sys2Proof.Machine.execClose r s
  | .keepalive r => Sys2Proof.Machine.execKeepalive r s
  | .read r index sub => Sys2Proof.Machine.execRead r index sub s
  | .write r index sub value => Sys2Proof.Machine.execWrite r index sub value s
  | .blockOpen r index sub mode total => Sys2Proof.Machine.execBlockOpen r index sub mode total s
  | .blockData r handle offset count data => Sys2Proof.Machine.execBlockData r handle offset count data s
  | .blockEnd r handle length crc => Sys2Proof.Machine.execBlockEnd r handle length crc s
  | .blockTransferAbandon session handle => Sys2Proof.Machine.execBlockTransferAbandon session handle s
  | .halfOpenTimeout session => Sys2Proof.Machine.execHalfOpenTimeout session s
  | .sessionIdleTimeout session => Sys2Proof.Machine.execSessionIdleTimeout session s
  | .commit r payload => Sys2Proof.Machine.execCommit r payload s
  | .withdraw r ticket => Sys2Proof.Machine.execWithdraw r ticket s
  | .subscribe r mask => Sys2Proof.Machine.execSubscribe r mask s
  | .eventAck r evseq => Sys2Proof.Machine.execEventAck r evseq s
  | .evtResendInterval => Sys2Proof.Machine.execEvtResendInterval s
  | .storeSave r => Sys2Proof.Machine.execStoreSave r s
  | .storeSaveComplete verified => Sys2Proof.Machine.execStoreSaveComplete verified s
  | .storeLoad r => Sys2Proof.Machine.execStoreLoad r s
  | .storeDefaults r => Sys2Proof.Machine.execStoreDefaults r s
  | .storeErase r => Sys2Proof.Machine.execStoreErase r s
  | .ptpMessage port h m => Sys2Proof.Machine.execPtpMessage port h m s
  | .ptpSyncTransmit => Sys2Proof.Machine.execPtpSyncTransmit s
  | .sourceTimeout => Sys2Proof.Machine.execSourceTimeout s
  | .pathHoldEnd => Sys2Proof.Machine.execPathHoldEnd s
  | .slewEnd => Sys2Proof.Machine.execSlewEnd s
  | .reepoch => Sys2Proof.Machine.execReepoch s
  | .tbSourceWrite r value => Sys2Proof.Machine.execTbSourceWrite r value s
  | .tbDiscontinuityActionSlew r => Sys2Proof.Machine.execTbDiscontinuityActionSlew r s
  | .tbDiscontinuityActionReepoch r => Sys2Proof.Machine.execTbDiscontinuityActionReepoch r s
  | .tbRateAdjWrite r value => Sys2Proof.Machine.execTbRateAdjWrite r value s
  | .tbExtWatchdog => Sys2Proof.Machine.execTbExtWatchdog s
  | .tbOscLost => Sys2Proof.Machine.execTbOscLost s
  | .tbOscRestored => Sys2Proof.Machine.execTbOscRestored s
  | .tbHoldoverAlarm => Sys2Proof.Machine.execTbHoldoverAlarm s
  | .ptpInstanceRestart r sub value => Sys2Proof.Machine.execPtpInstanceRestart r sub value s
  | .ptpAsymFlagClear r => Sys2Proof.Machine.execPtpAsymFlagClear r s
  | .txtsPop r port ident => Sys2Proof.Machine.execTxtsPop r port ident s
  | .timeBeaconSend => Sys2Proof.Machine.execTimeBeaconSend s
  | .timeBeaconReceive lines => Sys2Proof.Machine.execTimeBeaconReceive lines s
  | .oscRecalAdvice => Sys2Proof.Machine.execOscRecalAdvice s
  | .ttTableWrite r handle length crc => Sys2Proof.Machine.execTtTableWrite r handle length crc s
  | .bellLoad => Sys2Proof.Machine.execBellLoad s
  | .bellStarved => Sys2Proof.Machine.execBellStarved s
  | .bellFire => Sys2Proof.Machine.execBellFire s
  | .bellPulseEnd pin => Sys2Proof.Machine.execBellPulseEnd pin s
  | .commitUnitFire => Sys2Proof.Machine.execCommitUnitFire s
  | .seekAttempt lane => Sys2Proof.Machine.execSeekAttempt lane s
  | .transitionsDetected lane density => Sys2Proof.Machine.execTransitionsDetected lane density s
  | .attemptTimeout lane => Sys2Proof.Machine.execAttemptTimeout lane s
  | .clockRecoveryLock lane => Sys2Proof.Machine.execClockRecoveryLock lane s
  | .detectTimeout lane => Sys2Proof.Machine.execDetectTimeout lane s
  | .symbolAlignment lane commas => Sys2Proof.Machine.execSymbolAlignment lane commas s
  | .alignTimeout lane => Sys2Proof.Machine.execAlignTimeout lane s
  | .alignmentLost lane line => Sys2Proof.Machine.execAlignmentLost lane line s
  | .lossOfSignal lane => Sys2Proof.Machine.execLossOfSignal lane s
  | .messageResponseTimeout lane tag => Sys2Proof.Machine.execMessageResponseTimeout lane tag s
  | .tapRequest line => Sys2Proof.Machine.execTapRequest line s
  | .tapStatus lane line => Sys2Proof.Machine.execTapStatus lane line s
  | .identity lane line => Sys2Proof.Machine.execIdentity lane line s
  | .rateAck lane line => Sys2Proof.Machine.execRateAck lane line s
  | .writeAck port line => Sys2Proof.Machine.execWriteAck port line s
  | .readData port line => Sys2Proof.Machine.execReadData port line s
  | .loopAck lane line => Sys2Proof.Machine.execLoopAck lane line s
  | .prbsAck lane line => Sys2Proof.Machine.execPrbsAck lane line s
  | .refused lane line => Sys2Proof.Machine.execRefused lane line s
  | .linkReset line => Sys2Proof.Machine.execLinkReset line s
  | .trainingEvaluation lane h v => Sys2Proof.Machine.execTrainingEvaluation lane h v s
  | .trainingBudgetExpiry lane => Sys2Proof.Machine.execTrainingBudgetExpiry lane s
  | .verifyEnd lane errors h v => Sys2Proof.Machine.execVerifyEnd lane errors h v s
  | .fomEvaluation lane h v density => Sys2Proof.Machine.execFomEvaluation lane h v density s
  | .retrainDeferralTimeout lane => Sys2Proof.Machine.execRetrainDeferralTimeout lane s
  | .laneDegradedRetry lane => Sys2Proof.Machine.execLaneDegradedRetry lane s
  | .laneCommandRetrain r lane => Sys2Proof.Machine.execLaneCommandRetrain r lane s
  | .laneCommandPortReset r lane => Sys2Proof.Machine.execLaneCommandPortReset r lane s
  | .laneEnableWrite r lane value => Sys2Proof.Machine.execLaneEnableWrite r lane value s
  | .laneTestModeWrite r lane value => Sys2Proof.Machine.execLaneTestModeWrite r lane value s
  | .prbsLock lane bits => Sys2Proof.Machine.execPrbsLock lane bits s
  | .prbsLockLost lane bits errors window => Sys2Proof.Machine.execPrbsLockLost lane bits errors window s
  | .laneIdleFreeze lane => Sys2Proof.Machine.execLaneIdleFreeze lane s
  | .ethLaneStateChange port active => Sys2Proof.Machine.execEthLaneStateChange port active s
  | .fsArrival port line => Sys2Proof.Machine.execFsArrival port line s
  | .linePacket port line => Sys2Proof.Machine.execLinePacket port line s
  | .embeddedPacket port line => Sys2Proof.Machine.execEmbeddedPacket port line s
  | .fePacket port line => Sys2Proof.Machine.execFePacket port line s
  | .feWatchdog port => Sys2Proof.Machine.execFeWatchdog port s
  | .cadenceMiss port => Sys2Proof.Machine.execCadenceMiss port s
  | .lineCreditGain port => Sys2Proof.Machine.execLineCreditGain port s
  | .fsAccepted pipe input => Sys2Proof.Machine.execFsAccepted pipe input s
  | .lineGroupTake pipe => Sys2Proof.Machine.execLineGroupTake pipe s
  | .statRecordComplete pipe input => Sys2Proof.Machine.execStatRecordComplete pipe input s
  | .expWriteSlot port => Sys2Proof.Machine.execExpWriteSlot port s
  | .expApplyChange r port => Sys2Proof.Machine.execExpApplyChange r port s
  | .expApplyRaw r port => Sys2Proof.Machine.execExpApplyRaw r port s
  | .warpMatchDeadline view => Sys2Proof.Machine.execWarpMatchDeadline view s
  | .warpTileIssue engine => Sys2Proof.Machine.execWarpTileIssue engine s
  | .warpTileComplete core => Sys2Proof.Machine.execWarpTileComplete core s
  | .warpCoreFence r core value => Sys2Proof.Machine.execWarpCoreFence r core value s
  | .warpPartitionWrite r engine value => Sys2Proof.Machine.execWarpPartitionWrite r engine value s
  | .mergeRelease => Sys2Proof.Machine.execMergeRelease s
  | .codecSliceComplete engine => Sys2Proof.Machine.execCodecSliceComplete engine s
  | .codecEngineFence r engine value => Sys2Proof.Machine.execCodecEngineFence r engine value s
  | .trkPacketBoundary => Sys2Proof.Machine.execTrkPacketBoundary s
  | .creditPacket lines => Sys2Proof.Machine.execCreditPacket lines s
  | .trkCreditTimeout => Sys2Proof.Machine.execTrkCreditTimeout s
  | .tunnelPacketReceive lines => Sys2Proof.Machine.execTunnelPacketReceive lines s
  | .trkPacketErrored lines => Sys2Proof.Machine.execTrkPacketErrored lines s
  | .trkEnableWrite r value => Sys2Proof.Machine.execTrkEnableWrite r value s
  | .trkTrainingDecision => Sys2Proof.Machine.execTrkTrainingDecision s
  | .trkWidenHold => Sys2Proof.Machine.execTrkWidenHold s
  | .trkLaneCountChange => Sys2Proof.Machine.execTrkLaneCountChange s
  | .ethFrameReceive port frame => Sys2Proof.Machine.execEthFrameReceive port frame s
  | .addressAging vid mac => Sys2Proof.Machine.execAddressAging vid mac s
  | .ethEgressSelect port => Sys2Proof.Machine.execEthEgressSelect port s
  | .evFrameAccept => Sys2Proof.Machine.execEvFrameAccept s
  | .nxGateConfigChange r port => Sys2Proof.Machine.execNxGateConfigChange r port s
  | .gateChangeInstant port => Sys2Proof.Machine.execGateChangeInstant port s
  | .gateIntervalEnd port => Sys2Proof.Machine.execGateIntervalEnd port s
  | .preemptVerify port success => Sys2Proof.Machine.execPreemptVerify port success s
  | .ptpRelayDatagram src data => Sys2Proof.Machine.execPtpRelayDatagram src data s
  | .dmaStart r engine channel => Sys2Proof.Machine.execDmaStart r engine channel s
  | .dmaPause r engine channel => Sys2Proof.Machine.execDmaPause r engine channel s
  | .dmaResume r engine channel => Sys2Proof.Machine.execDmaResume r engine channel s
  | .dmaAbort r engine channel => Sys2Proof.Machine.execDmaAbort r engine channel s
  | .dmaBurstGrant engine => Sys2Proof.Machine.execDmaBurstGrant engine s
  | .dmaWriteAck engine channel => Sys2Proof.Machine.execDmaWriteAck engine channel s
  | .dmaDrained engine channel => Sys2Proof.Machine.execDmaDrained engine channel s
  | .dmaLanded engine channel => Sys2Proof.Machine.execDmaLanded engine channel s
  | .dmaBusError engine addr => Sys2Proof.Machine.execDmaBusError engine addr s
  | .dmaHoldoffEnd engine => Sys2Proof.Machine.execDmaHoldoffEnd engine s
  | .dmaEngineCommand r engine => Sys2Proof.Machine.execDmaEngineCommand r engine s
  | .dmaRingReadWrite r engine value => Sys2Proof.Machine.execDmaRingReadWrite r engine value s
  | .dmaRingConfigWrite r engine sub value => Sys2Proof.Machine.execDmaRingConfigWrite r engine sub value s
  | .fifoWordTransfer fifo m => Sys2Proof.Machine.execFifoWordTransfer fifo m s
  | .fifoDropRemainder r fifo => Sys2Proof.Machine.execFifoDropRemainder r fifo s
  | .fifoFlush r fifo => Sys2Proof.Machine.execFifoFlush r fifo s
  | .fifoWmAck r fifo value => Sys2Proof.Machine.execFifoWmAck r fifo value s
  | .crossingWordTransfer crossing m => Sys2Proof.Machine.execCrossingWordTransfer crossing m s
  | .crossingWatchdog crossing => Sys2Proof.Machine.execCrossingWatchdog crossing s
  | .scrubPass memory findings => Sys2Proof.Machine.execScrubPass memory findings s
  | .powerOnReset => Sys2Proof.Machine.execPowerOnReset s
  | .resetRelease nodeId bootSel => Sys2Proof.Machine.execResetRelease nodeId bootSel s
  | .dramTrainingComplete density failures => Sys2Proof.Machine.execDramTrainingComplete density failures s
  | .fwActivate r => Sys2Proof.Machine.execFwActivate r s
  | .fwConfirm r => Sys2Proof.Machine.execFwConfirm r s
  | .fwTrialTimeout => Sys2Proof.Machine.execFwTrialTimeout s
  | .measExtend r handle length crc => Sys2Proof.Machine.execMeasExtend r handle length crc s
  | .rollcallNonce r handle length crc => Sys2Proof.Machine.execRollcallNonce r handle length crc s
  | .rollcallSigned session => Sys2Proof.Machine.execRollcallSigned session s
  | .tandemProposal r handle length crc => Sys2Proof.Machine.execTandemProposal r handle length crc s
  | .tandemSign r handle length crc => Sys2Proof.Machine.execTandemSign r handle length crc s
  | .tandemCommand r => Sys2Proof.Machine.execTandemCommand r s
  | .tandemWindowExpiry => Sys2Proof.Machine.execTandemWindowExpiry s
  | .enrolSeal r => Sys2Proof.Machine.execEnrolSeal r s
  | .roleSecretWrite r handle length crc => Sys2Proof.Machine.execRoleSecretWrite r handle length crc s
  | .accessPlanWrite r handle length crc => Sys2Proof.Machine.execAccessPlanWrite r handle length crc s
  | .pwrCommandStandby r => Sys2Proof.Machine.execPwrCommandStandby r s
  | .pwrCommandParked r => Sys2Proof.Machine.execPwrCommandParked r s
  | .pwrCommandRun r => Sys2Proof.Machine.execPwrCommandRun r s
  | .pwrDrainLimit => Sys2Proof.Machine.execPwrDrainLimit s
  | .outputDrainTimeout => Sys2Proof.Machine.execOutputDrainTimeout s
  | .wake => Sys2Proof.Machine.execWake s
  | .pwrDomainEnableWrite r domain value => Sys2Proof.Machine.execPwrDomainEnableWrite r domain value s
  | .domainSwitchDone domain => Sys2Proof.Machine.execDomainSwitchDone domain s
  | .rstDevice r => Sys2Proof.Machine.execRstDevice r s
  | .rstCluster r cluster => Sys2Proof.Machine.execRstCluster r cluster s
  | .supplyDipBegin rail millivolt => Sys2Proof.Machine.execSupplyDipBegin rail millivolt s
  | .supplyDipEnd rail millivolt => Sys2Proof.Machine.execSupplyDipEnd rail millivolt s
  | .supplyReset rail => Sys2Proof.Machine.execSupplyReset rail s
  | .supplyResetRelease => Sys2Proof.Machine.execSupplyResetRelease s
  | .pipeWatchdog pipe stage => Sys2Proof.Machine.execPipeWatchdog pipe stage s
  | .pipelineRestart pipe => Sys2Proof.Machine.execPipelineRestart pipe s
  | .hubWatchdog hub cause channel => Sys2Proof.Machine.execHubWatchdog hub cause channel s
  | .fwWatchdog => Sys2Proof.Machine.execFwWatchdog s
  | .rcvClear r => Sys2Proof.Machine.execRcvClear r s
  | .islandClockChange kind inst hertz => Sys2Proof.Machine.execIslandClockChange kind inst hertz s
  | .avsWrite millivolt acknowledged => Sys2Proof.Machine.execAvsWrite millivolt acknowledged s
  | .tjThrottle temperature => Sys2Proof.Machine.execTjThrottle temperature s
  | .tjCritical temperature => Sys2Proof.Machine.execTjCritical temperature s
  | .calTrimsWrite r handle length crc => Sys2Proof.Machine.execCalTrimsWrite r handle length crc s
  | .calOscProcedure r => Sys2Proof.Machine.execCalOscProcedure r s
  | .calSupplyProcedure r => Sys2Proof.Machine.execCalSupplyProcedure r s
  | .calCameraProcedure r => Sys2Proof.Machine.execCalCameraProcedure r s
  | .calEthProcedure r => Sys2Proof.Machine.execCalEthProcedure r s
  | .calBellProcedure r => Sys2Proof.Machine.execCalBellProcedure r s
  | .calSave r => Sys2Proof.Machine.execCalSave r s
  | .calRevert r => Sys2Proof.Machine.execCalRevert r s
  | .calAbort r => Sys2Proof.Machine.execCalAbort r s
  | .calProcedureComplete m => Sys2Proof.Machine.execCalProcedureComplete m s
  | .testPipeFence r pipe value => Sys2Proof.Machine.execTestPipeFence r pipe value s
  | .testInjectStart r pipe => Sys2Proof.Machine.execTestInjectStart r pipe s
  | .testInjectStop r pipe => Sys2Proof.Machine.execTestInjectStop r pipe s
  | .injectFrameStart pipe => Sys2Proof.Machine.execInjectFrameStart pipe s
  | .testGoldenSpec r comparator value => Sys2Proof.Machine.execTestGoldenSpec r comparator value s
  | .testBistCommand r memory => Sys2Proof.Machine.execTestBistCommand r memory s
  | .bistComplete memory fails first => Sys2Proof.Machine.execBistComplete memory fails first s
  | .testDramRetrain r => Sys2Proof.Machine.execTestDramRetrain r s
  | .tjThrottleRelease temperature => Sys2Proof.Machine.execTjThrottleRelease temperature s
  | .calSaveComplete => Sys2Proof.Machine.execCalSaveComplete s
  | .clusterResetComplete cluster => Sys2Proof.Machine.execClusterResetComplete cluster s
  | .returnWidthDetected lines => Sys2Proof.Machine.execReturnWidthDetected lines s

end Sys2Proof.Machine
end

