-- ==== Sys2Proof/Machine/Jtag.lean ====
section
/-! DEFINITION. The JTAG port (R435, R508): the TAP's states, the instructions that DEBUG makes available, and boundary scan of the
lanes. The table of commands has no row for it: its operations stand for the edges of TCK and a pulse on TRST_N (log 57). -/
namespace Sys2Proof.Machine

/-- IEEE 1149.1: the state after a rising edge of TCK with this level of TMS. -/
def TapState.next : TapState → Bool → TapState
  | .testLogicReset, true => .testLogicReset
  | .testLogicReset, false => .runTestIdle
  | .runTestIdle, true => .selectDr
  | .runTestIdle, false => .runTestIdle
  | .selectDr, true => .selectIr
  | .selectDr, false => .captureDr
  | .captureDr, true => .exit1Dr
  | .captureDr, false => .shiftDr
  | .shiftDr, true => .exit1Dr
  | .shiftDr, false => .shiftDr
  | .exit1Dr, true => .updateDr
  | .exit1Dr, false => .pauseDr
  | .pauseDr, true => .exit2Dr
  | .pauseDr, false => .pauseDr
  | .exit2Dr, true => .updateDr
  | .exit2Dr, false => .shiftDr
  | .updateDr, true => .selectDr
  | .updateDr, false => .runTestIdle
  | .selectIr, true => .testLogicReset
  | .selectIr, false => .captureIr
  | .captureIr, true => .exit1Ir
  | .captureIr, false => .shiftIr
  | .shiftIr, true => .exit1Ir
  | .shiftIr, false => .shiftIr
  | .exit1Ir, true => .updateIr
  | .exit1Ir, false => .pauseIr
  | .pauseIr, true => .exit2Ir
  | .pauseIr, false => .pauseIr
  | .exit2Ir, true => .updateIr
  | .exit2Ir, false => .shiftIr
  | .updateIr, true => .selectDr
  | .updateIr, false => .runTestIdle

/-- R435: is an instruction available under the debug state in force? -/
def State.tapAllows (s : State) (i : TapInstr) : Bool :=
  match i with
  | .idcode => true
  | .bypass => true
  | .debug => s.boot.debug = 2
  | .sample => 1 ≤ s.boot.debug && s.boot.outOfService
  | .extest => 1 ≤ s.boot.debug && s.boot.outOfService
  | .extestPulse => 1 ≤ s.boot.debug && s.boot.outOfService
  | .extestTrain => 1 ≤ s.boot.debug && s.boot.outOfService

/-- R435: the instruction that acts: one that is not available acts as BYPASS. -/
def State.tapInstr (s : State) : TapInstr := if s.jtag.instr = .idcode then .idcode else if s.tapAllows s.jtag.instr then s.jtag.instr else .bypass

/-- Instruction of a code; every other code is BYPASS, which all ones are in IEEE 1149.1. -/
def tapDecode (code : List Bool) : TapInstr :=
  if code.all id then .bypass
  else match Config.tapCode code % 7 with
    | 0 => .idcode
    | 1 => .sample
    | 2 => .extest
    | 3 => .extestPulse
    | 4 => .extestTrain
    | 5 => .debug
    | _ => .bypass

/-- Does the boundary register stand between TDI and TDO? -/
def TapInstr.scans : TapInstr → Bool
  | .sample => true
  | .extest => true
  | .extestPulse => true
  | .extestTrain => true
  | .idcode => false
  | .bypass => false
  | .debug => false

/-- Does the boundary register drive the lanes? -/
def TapInstr.drives : TapInstr → Bool
  | .extest => true
  | .extestPulse => true
  | .extestTrain => true
  | .sample => false
  | .idcode => false
  | .bypass => false
  | .debug => false

/-- What Capture-DR loads: the identification code, whose bit 0 is 1, a 0 for BYPASS, or what the boundary cells see. -/
def State.tapCapture (s : State) : List Bool × State :=
  let i := s.tapInstr
  if i = .idcode then (true :: (List.range 31).map Config.idcodeBit, s)
  else if i.scans then
    let (n, s) := s.draw
    ((List.range (Config.scanLength)).map (Config.scanLevel n), s)
  else if i = .debug then
    let (n, s) := s.draw
    ((List.range (Config.debugLength + 1)).map (Config.debugBit n), s)
  else ([false], s)

/-- The levels that the boundary register drives: steady in EXTEST; in Run-Test/Idle one inverted pulse in EXTEST_PULSE, and a level
that changes with each TCK in EXTEST_TRAIN (IEEE 1149.6). -/
def Tap.levels (t : Tap) (i : TapInstr) : List Bool :=
  let idle := t.state = .runTestIdle
  let flip := (i = .extestPulse && idle) || (i = .extestTrain && idle && t.odd)
  t.latch.map (xor flip)

/-- R508: the level that boundary scan puts on a camera, trunk or Ethernet lane, none where it drives none. -/
def State.scanDrives (s : State) (l : Lane) : Option Bool :=
  if s.tapInstr.drives then (s.jtag.levels s.tapInstr)[Config.scanCell (laneId l) % max 1 Config.scanLength]? else none

/-- What a rising edge of TCK does in a state, before the state changes. -/
def State.tapEdge (s : State) (tdi : Bool) : State :=
  let t := s.jtag
  match t.state with
  | .captureDr =>
    let (l, s) := s.tapCapture
    { s with jtag := { t with shift := l } }
  | .shiftDr => { s with jtag := { t with shift := t.shift.drop 1 ++ [tdi] } }
  | .captureIr => { s with jtag := { t with shift := true :: false :: List.replicate Config.tapIrExtra false } }
  | .shiftIr => { s with jtag := { t with shift := t.shift.drop 1 ++ [tdi] } }
  | _ => s

/-- What the falling edge of TCK does in the state reached: updates, and TDO, which drives only while a register is shifted. -/
def State.tapFall (s : State) : State :=
  let t := s.jtag
  match t.state with
  | .testLogicReset => { s with jtag := {} }
  | .updateIr => { s with jtag := { t with instr := tapDecode t.shift } }
  | .updateDr => if s.tapInstr.scans then { s with jtag := { t with latch := t.shift } } else s
  | .shiftDr => s.send (.tdo (t.shift.headD false))
  | .shiftIr => s.send (.tdo (t.shift.headD false))
  | _ => s

/-- One cycle of TCK with these levels of TMS and TDI (R508). -/
def tapClock (tms tdi : Bool) (s : State) : State :=
  let s := s.tapEdge tdi
  let old := s.jtag.state
  let t := { s.jtag with state := old.next tms }
  let t := { t with odd := t.state = .runTestIdle && old = .runTestIdle && !t.odd }
  let s := ({ s with jtag := t }).tapFall
  if s.tapInstr.drives then s.send (.scan s.tapInstr (s.jtag.levels s.tapInstr)) else s

/-- A low pulse on TRST_N resets the TAP (R508). -/
def tapReset (s : State) : State := { s with jtag := {} }

end Sys2Proof.Machine
end

