-- ==== Sys2Proof/Safety.lean ====
section
/-! DEFINITION. What counts as a safe run: the queue is worked through without a stop. And the few words that the statements are
written in. -/
namespace Sys2Proof.Machine

/-- A step goes on: it answers a next state. -/
def goesOn (s : State) : Bool :=
  match step s with
  | .next _ => true
  | _ => false

/-- `n` steps go on. -/
def safeFor : Nat → State → Bool
  | 0, _ => true
  | n + 1, s =>
    match step s with
    | .next t => safeFor n t
    | _ => false

/-! The words of the statements. -/

/-- A camera port or a receiving trunk lane of the part: the lanes that the port states of R152 concern. -/
def State.cendoHere (s : State) (l : Lane) : Bool := lanePresent s.part l && isCendo l

/-- A receiving lane of the part. -/
def State.laneHere (s : State) (l : Lane) : Bool := lanePresent s.part l && receives l

/-- R54: the response to a session's request: the service with 0x80 added, the echoed SEQ, then its own bytes. -/
def State.reply (t : State) (x : Session) (k seq : Nat) (b : Bytes) : State := t.respond x.sid (k + 0x80) (beBytes 4 seq ++ b)

/-- R43, R71: session x may WRITE instance i of a row under `seq`: the device hears it, and conditions 1 to 6 refuse nothing. -/
def State.writable (s : State) (x : Session) (seq : Nat) (o : Obj) (i : Nat) : Bool := s.awaits x seq && s.mayWriteRow x o i

/-- R43: the WRITE of a number by a session. -/
def Session.writeReq (x : Session) (seq : Nat) (o : Obj) (i : Nat) (v : Int) : Req := x.req 0x11 seq (writePayload o i v)

/-- R46: the response to that WRITE. -/
def State.written (t : State) (x : Session) (seq : Nat) (o : Obj) (i : Nat) : State :=
  t.reply x 0x11 seq (entryBytes (o.keyOf i / 256) (o.keyOf i % 256))

/-- R59: the BLOCK_END of a write-replace transfer of a session, with the length and the CRC-32 of what it wrote. -/
def Session.endReq (x : Session) (seq : Nat) (w : Transfer) : Req :=
  x.req 0x14 seq (endPayload w.handle w.total (crc32 (w.result [] w.total)))

/-- R58, R59, R71: session x may end under `seq` its write-replace transfer w into instance i of a row. -/
def State.endable (s : State) (x : Session) (seq : Nat) (w : Transfer) (o : Obj) (i : Nat) : Bool :=
  s.awaits x seq && w.handle < 256 && w.total < 2 ^ 32 && w.mode = 1 && !w.abandoned && w.index * 256 + w.sub = o.keyOf i &&
    ((s.dap.transfers.find? fun t => t.handle = w.handle && t.sid = x.sid) == some w) && w.sid = x.sid &&
    (match s.toWrite x.role w.index w.sub with
      | .ok r => r = (o, i)
      | .error _ => false) && lengthOk s.part o (w.result [] w.total).length

/-- R46, R59: the transfer is over, and its BLOCK_END is answered. -/
def State.ended (t : State) (x : Session) (seq : Nat) (w : Transfer) : State :=
  (t.dropTransfer w.handle).reply x 0x14 seq [byteOf w.handle, 0]

/-- R46: the answer to a BLOCK_END that is refused. -/
def State.endRefused (t : State) (x : Session) (seq : Nat) (w : Transfer) (code : Nat) : State :=
  t.respond x.sid 0xFF (abortPayload seq 0x14 w.index w.sub code)

/-- R133: what a receiver gets of characters that a partner sends from a running disparity on. -/
def lineOf (positive : Bool) (l : List Chr) : Line := ⟨positive, (encode positive l).1⟩

/-- R143, R151: the line of a message on a lane. -/
def messageLine (l : Lane) (positive : Bool) (type tag : Nat) (p : Bytes) : Line :=
  lineOf positive (messageChars (messageStart l) type tag p)

/-- R138: the line of a packet that begins and ends with a symbol, and that of one that only begins with one. -/
def packetLine (positive : Bool) (start stop : Byte) (body : Bytes) : Line :=
  lineOf positive (Chr.k start :: (crcChars body ++ [Chr.k stop]))
def framePacketLine (positive : Bool) (start : Byte) (body : Bytes) : Line := lineOf positive (Chr.k start :: crcChars body)

/-- R324, R334: the line of a packet of the partner on TRK_RX0 alone, after an idle group with this data. -/
def trunkLine (positive : Bool) (idle : List Byte) (type : Nat) (p : Bytes) : Line :=
  lineOf positive (Chr.k k285 :: (idle ++ shortPacket type p).map Chr.d)

/-- R134: an aligned receiver to which a line brings no eight violations within 64 characters. -/
def State.steady (s : State) (l : Lane) (x : Line) : Bool := (s.lane l).aligned && !((s.hear l x).lane l).slip

/-- R134, R158: what the receiver of a lane notes of a line that carries a message or packet. -/
def State.heard (s : State) (l : Lane) (x : Line) : State := (s.hear l x).startSeen l

/-- An entry that holds a number and whose write has no effect but its value. -/
def plainRow (o : Obj) (i : Nat) (v : Int) : Bool :=
  o.ty ≠ .domain && o.acc ≠ .rwp && (controlWrite o v.toNat).isNone && !(0x3000 ≤ o.idx && o.idx < 0x3280 && o.inst ≠ .one) &&
    (timeWrite o i v).isNone && (imageWrite o i v.toNat).isNone && (moveWrite o i v.toNat).isNone && (serviceWrite o i v).isNone

/-- R513: does everything that the host must find hold: for these camera ports, these routed streams, and the values of slots 0 to 4
recorded for the car? -/
def State.reproducible (s : State) (ports streams : List Nat) (recorded : List Bytes) : Bool :=
  s.nat Key.tbState = tbLocked && 1 ≤ s.epoch &&
    (ports.all fun p => s.laneState (.camera p) = lnActive || s.laneState (.camera p) = lnDegraded) &&
    s.nat Key.trkState = 2 && s.nat Key.trkLanes = 8 && s.flag Key.memDramEcc && s.flag Key.memDramReady &&
    s.commitCount = 0 && (streams.all fun i => s.nat (Key.mrgLastCard i) % 256 = 0) &&
    (List.range 5).map s.slot = recorded

/-! The words of the laws of the whole machine. -/

/-- The state that a list of commands leads to, none where one of them stops. -/
def runCommands : List Instr → State → Option State
  | [], s => some s
  | c :: r, s =>
    match exec c s with
    | .next t => runCommands r t
    | _ => none

/-- R46: the tagged request that a command is: its header, the service and the payload. -/
def asking : Instr → Option (Req × Nat × Bytes)
  | .confirm r => some (r, 0x03, [])
  | .close r => some (r, 0x04, [])
  | .keepalive r => some (r, 0x05, [])
  | .read r index sub => some (r, 0x10, entryBytes index sub)
  | .write r index sub value => some (r, 0x11, entryBytes index sub ++ value)
  | .blockOpen r index sub mode total => some (r, 0x12, beBytes 2 index ++ [byteOf sub, byteOf mode] ++ beBytes 4 total)
  | .blockData r handle offset count data =>
    some (r, 0x13, [byteOf handle, 0] ++ beBytes 4 offset ++ beBytes 2 count ++ data)
  | .blockEnd r handle length crc => some (r, 0x14, endPayload handle length crc)
  | .commit r payload => some (r, 0x20, payload)
  | .withdraw r ticket => some (r, 0x21, beBytes 2 ticket)
  | .subscribe r mask => some (r, 0x30, [byteOf mask])
  | .eventAck r evseq => some (r, 0x31, beBytes 4 evseq)
  | _ => none

/-- R46: the answer to a request that is refused for an entry. -/
def State.abort (t : State) (x : Session) (k seq index sub code : Nat) : State :=
  t.respond x.sid 0xFF (abortPayload seq k index sub code)

/-- R53: an OPEN has arrived: it counts among those of its transport's last second. -/
def State.countOpen (s : State) (src : Source) : State :=
  { s with dap := { s.dap with opens :=
    (s.dap.opens.filter fun (o : Nat × Nat) => s.since o.2 < secCycles 1) ++ [(transportBit src, s.cycles)] } }

/-- Commands that can store to device memory or clear part of it: what arrives on a transport and the requests of a session, the
acknowledgement and the end of DMA transfers, and what ends in a reset or a loss of supply. -/
def reachesMemory : Instr → Bool
  | .canFdFrame .. | .udpDatagram .. | .confirm .. | .close .. | .keepalive .. | .read .. | .write .. | .blockOpen ..
  | .blockData .. | .blockEnd .. | .commit .. | .withdraw .. | .subscribe .. | .eventAck .. | .storeSave ..
  | .storeLoad .. | .storeDefaults .. | .storeErase .. | .tbSourceWrite .. | .tbDiscontinuityActionSlew ..
  | .tbDiscontinuityActionReepoch .. | .tbRateAdjWrite .. | .ptpInstanceRestart .. | .ptpAsymFlagClear ..
  | .txtsPop .. | .ttTableWrite .. | .laneCommandRetrain .. | .laneCommandPortReset .. | .laneEnableWrite ..
  | .laneTestModeWrite .. | .expApplyChange .. | .expApplyRaw .. | .warpCoreFence .. | .warpPartitionWrite ..
  | .codecEngineFence .. | .trkEnableWrite .. | .nxGateConfigChange .. | .dmaStart .. | .dmaPause .. | .dmaResume ..
  | .dmaAbort .. | .dmaBurstGrant .. | .dmaWriteAck .. | .dmaLanded .. | .dmaHoldoffEnd .. | .dmaEngineCommand .. | .dmaRingReadWrite ..
  | .dmaRingConfigWrite .. | .fifoWordTransfer .. | .fifoDropRemainder .. | .fifoFlush .. | .fifoWmAck .. | .crossingWatchdog ..
  | .scrubPass .. | .powerOnReset | .dramTrainingComplete .. | .fwActivate .. | .fwConfirm .. | .fwTrialTimeout
  | .measExtend .. | .rollcallNonce .. | .tandemProposal .. | .tandemSign .. | .tandemCommand .. | .enrolSeal ..
  | .roleSecretWrite .. | .accessPlanWrite .. | .pwrCommandStandby .. | .pwrCommandParked .. | .pwrCommandRun ..
  | .outputDrainTimeout | .pwrDomainEnableWrite .. | .rstDevice .. | .rstCluster .. | .supplyDipBegin ..
  | .supplyReset .. | .hubWatchdog .. | .fwWatchdog | .rcvClear .. | .calTrimsWrite .. | .calOscProcedure ..
  | .calSupplyProcedure .. | .calCameraProcedure .. | .calEthProcedure .. | .calBellProcedure .. | .calSave ..
  | .calRevert .. | .calAbort .. | .testPipeFence .. | .testInjectStart .. | .testInjectStop .. | .testGoldenSpec ..
  | .testBistCommand .. | .bistComplete .. | .testDramRetrain .. => true
  | _ => false

end Sys2Proof.Machine
end

