-- ==== Sys2Proof/WellFormed.lean ====
section
/-! DEFINITION. Which commands are well-formed: those that name only units that the part has (R4, R21). A request names its entry by
the instance its row can hold at all: the device answers for an instance that the part lacks (R71). -/
namespace Sys2Proof.Machine

/-- The units that a command names are there. -/
def wellFormed (p : Part) : Instr → Bool
  | .ptpMessage port _ _ | .ethLaneStateChange port _ | .gateChangeInstant port | .gateIntervalEnd port
  | .preemptVerify port _ => p.hasNx && port < 4
  | .ptpSyncTransmit | .addressAging _ _ | .evFrameAccept | .ptpRelayDatagram _ _ => p.hasNx
  | .ptpInstanceRestart _ sub _ => 1 ≤ sub && sub ≤ 3
  | .txtsPop _ port _ | .nxGateConfigChange _ port => port < 4
  | .bellPulseEnd pin => pin < 16
  | .seekAttempt lane | .transitionsDetected lane _ | .attemptTimeout lane | .clockRecoveryLock lane | .detectTimeout lane
  | .symbolAlignment lane _ | .alignTimeout lane | .alignmentLost lane _ | .messageResponseTimeout lane _
  | .tapStatus lane _ | .identity lane _ | .rateAck lane _ | .loopAck lane _
  | .prbsAck lane _ | .refused lane _ | .trainingEvaluation lane _ _ | .trainingBudgetExpiry lane
  | .verifyEnd lane _ _ _ | .retrainDeferralTimeout lane | .laneDegradedRetry lane =>
    lanePresent p lane && isCendo lane
  | .lossOfSignal lane | .fomEvaluation lane _ _ _ | .prbsLock lane _ | .prbsLockLost lane _ _ _ | .laneIdleFreeze lane =>
    lanePresent p lane && receives lane
  | .writeAck port _ | .readData port _ | .fsArrival port _ | .linePacket port _ | .embeddedPacket port _ | .fePacket port _
  | .feWatchdog port | .cadenceMiss port | .lineCreditGain port
  | .expWriteSlot port => port < p.ports
  | .laneCommandRetrain _ lane | .laneCommandPortReset _ lane | .laneEnableWrite _ lane _ | .laneTestModeWrite _ lane _ =>
    laneKnown lane
  | .fsAccepted pipe input | .statRecordComplete pipe input => p.has .pipe pipe && input < 2
  | .lineGroupTake pipe | .pipeWatchdog pipe _ | .pipelineRestart pipe | .injectFrameStart pipe => p.has .pipe pipe
  | .expApplyChange _ port | .expApplyRaw _ port => port < 48
  | .warpMatchDeadline view => view < 64
  | .warpTileIssue engine => p.has .warpEngine engine
  | .warpTileComplete core => p.has .core core
  | .warpCoreFence _ core _ => core < 64
  | .warpPartitionWrite _ engine _ | .codecEngineFence _ engine _ => engine < 4
  | .codecSliceComplete engine => p.has .codec engine
  | .ethFrameReceive port _ => p.hasNx && port < 6
  | .ethEgressSelect port => p.hasNx && port < 6 && port ≠ 4
  | .dmaStart _ engine channel | .dmaPause _ engine channel | .dmaResume _ engine channel | .dmaAbort _ engine channel =>
    engine < 11 && channel < 64
  | .dmaBurstGrant engine | .dmaBusError engine _ | .dmaHoldoffEnd engine => p.dmaPresent engine
  | .dmaWriteAck engine channel | .dmaDrained engine channel | .dmaLanded engine channel =>
    p.dmaPresent engine && channel < 64
  | .dmaEngineCommand _ engine | .dmaRingReadWrite _ engine _ => engine < 11
  | .dmaRingConfigWrite _ engine sub _ => engine < 11 && 1 ≤ sub && sub ≤ 2
  | .fifoWordTransfer fifo _ => p.fifoPresent fifo
  | .fifoDropRemainder _ fifo | .fifoFlush _ fifo | .fifoWmAck _ fifo _ => fifo < 636
  | .crossingWordTransfer crossing _ | .crossingWatchdog crossing => crossing < p.crossings
  | .scrubPass memory _ => p.memoryPresent memory
  | .pwrDomainEnableWrite _ domain _ => domain < 64
  | .domainSwitchDone domain => p.domainPresent domain
  | .supplyDipBegin rail _ | .supplyDipEnd rail _ | .supplyReset rail => rail < 9
  | .hubWatchdog hub _ _ => hub < p.hubs
  | .islandClockChange kind inst _ => p.islandPresent kind inst
  | .testPipeFence _ pipe _ | .testInjectStart _ pipe | .testInjectStop _ pipe => pipe < 24
  | .testGoldenSpec _ comparator _ => comparator < 16
  | .testBistCommand _ memory => memory < 12
  | .bistComplete memory _ _ => p.has .cluster memory
  | .clusterResetComplete cluster => p.has .cluster cluster
  | .canFdFrame _ _ | .canFdSegmentTimeout _ | .udpDatagram _ _ _ _ _ | .arpRequest _ _ _ | .neighbourSolicitation _ _ _
  | .openSession _ _ _ | .confirm _ | .close _ | .keepalive _ | .read _ _ _ | .write _ _ _ _ | .blockOpen _ _ _ _ _
  | .blockData _ _ _ _ _ | .blockEnd _ _ _ _ | .blockTransferAbandon _ _ | .halfOpenTimeout _ | .sessionIdleTimeout _
  | .commit _ _ | .withdraw _ _ | .subscribe _ _ | .eventAck _ _ | .evtResendInterval | .storeSave _
  | .storeSaveComplete _ | .storeLoad _ | .storeDefaults _ | .storeErase _ | .sourceTimeout | .pathHoldEnd | .slewEnd
  | .reepoch | .tbSourceWrite _ _ | .tbDiscontinuityActionSlew _ | .tbDiscontinuityActionReepoch _ | .tbRateAdjWrite _ _
  | .tbExtWatchdog | .tbOscLost | .tbOscRestored | .tbHoldoverAlarm | .ptpAsymFlagClear _ | .timeBeaconSend
  | .timeBeaconReceive _ | .oscRecalAdvice | .ttTableWrite _ _ _ _ | .bellLoad | .bellStarved | .bellFire
  | .commitUnitFire | .tapRequest _ | .linkReset _ | .mergeRelease | .trkPacketBoundary | .creditPacket _ | .trkCreditTimeout
  | .tunnelPacketReceive _ | .trkPacketErrored _ | .trkEnableWrite _ _ | .trkTrainingDecision | .trkWidenHold
  | .trkLaneCountChange | .powerOnReset | .resetRelease _ _ | .dramTrainingComplete _ _ | .fwActivate _ | .fwConfirm _
  | .fwTrialTimeout | .measExtend _ _ _ _ | .rollcallNonce _ _ _ _ | .rollcallSigned _ | .tandemProposal _ _ _ _
  | .tandemSign _ _ _ _ | .tandemCommand _ | .tandemWindowExpiry | .enrolSeal _ | .roleSecretWrite _ _ _ _
  | .accessPlanWrite _ _ _ _ | .pwrCommandStandby _ | .pwrCommandParked _ | .pwrCommandRun _ | .pwrDrainLimit
  | .outputDrainTimeout | .wake | .rstDevice _ | .rstCluster _ _ | .supplyResetRelease | .fwWatchdog | .rcvClear _
  | .avsWrite _ _ | .tjThrottle _ | .tjCritical _ | .calTrimsWrite _ _ _ _ | .calOscProcedure _ | .calSupplyProcedure _
  | .calCameraProcedure _ | .calEthProcedure _ | .calBellProcedure _ | .calSave _ | .calRevert _ | .calAbort _
  | .calProcedureComplete _ | .testDramRetrain _ | .tjThrottleRelease _ | .calSaveComplete | .returnWidthDetected _ => true

end Sys2Proof.Machine
end

