-- ==== Sys2Proof/Certificates/Slice0/Obligations.lean ====
section
/-! DEFINITION. The statements for the provers. Where a statement says that exec answers `.next t` with t written out, everything
that t does not name is unchanged. -/

open Sys2Proof Sys2Proof.Machine

/-- The next step is that of the command in front. -/
def Obligations.StepRunsFrontCommand : Prop :=
  ∀ (c : Instr) (rest : List Instr) (s : State), s.pending = c :: rest → step s = exec c { s with pending := rest }

/-- With no command waiting one cycle of the time base passes (log 1). -/
def Obligations.EmptyQueueTicks : Prop :=
  ∀ s : State, s.pending = [] → ∃ t, step s = .next t ∧ t = s.idle ∧ t.pending = []

/-- Every command whose units the part has completes, in every state; one that names a unit that the part lacks stops by that name. No
command is refused. Choices of the model that it rests on: log 10. -/
def Obligations.OnlyAbsentUnitsStop : Prop :=
  ∀ (c : Instr) (s : State), (wellFormed s.part c = true → ∃ t, exec c s = .next t) ∧
    (wellFormed s.part c = false → exec c s = .fault .noSuchUnit)

/-! Chapter 02: sessions and the dictionary. -/

/-- R52 to R54, R56: OPEN makes a half-open session, CONFIRM opens it, KEEPALIVE is answered, CLOSE closes it, each once.
Choices of the model that it rests on: log 30. -/
def Obligations.SessionsAct : Prop :=
  (∀ s src role nonce, s.hearsHost src = true → nonce.length = 16 → role ≤ 3 → s.enrolled role = true →
    s.admitsRole role src = true → s.dap.sessions.length < 8 → s.recentOpens src < 4 →
    ∃ t x, exec (.openSession src role nonce) s = .next t ∧ t.dap.sessions = s.dap.sessions ++ [x] ∧ x.role = role ∧
      x.src = src ∧ x.open_ = false ∧ x.sid = s.freeSid) ∧
  (∀ (s : State) (x : Session), s.hearsHost x.src = true → s.session x.sid = some x → x.open_ = false → x.lastSeq = 0 → x.cached = [] →
    exec (.confirm (x.req 3 1 [])) s = .next (((s.touched x 1).reply x 3 1 []).openedSession x)) ∧
  (∀ (s : State) (x : Session) (seq : Nat), s.awaits x seq = true →
    exec (.close (x.req 4 seq [])) s = .next (((s.touched x seq).reply x 4 seq []).closeSessions fun y => y.sid = x.sid)) ∧
  (∀ (s : State) (x : Session) (seq : Nat), s.awaits x seq = true →
    exec (.keepalive (x.req 5 seq [])) s = .next ((s.touched x seq).reply x 5 seq []))

/-- R42, R43, R71: a READ of a number that nothing refuses answers its value; a WRITE that nothing refuses stores it.
Choices of the model that it rests on: log 34. -/
def Obligations.ReadWriteAct : Prop :=
  (∀ (s : State) (x : Session) (seq : Nat) (index : Nat) (sub : Nat) (o : Obj) (i : Nat) (live : Bool), s.awaits x seq = true → index < 65536 → sub < 256 →
    s.toRead x.role index sub = .ok (.entry o i live) → s.offered index = true → s.imageClosed o = false → o.ty ≠ .domain →
    o.idx ≠ 0x8012 →
    exec (.read (x.req 0x10 seq (entryBytes index sub)) index sub) s = .next ((s.touched x seq).reply x 0x10 seq
      (entryBytes index sub ++ o.ty.encode ((s.touched x seq).value o i live)))) ∧
  (∀ (s : State) (x : Session) (seq : Nat) (o : Obj) (i : Nat) (v : Int), s.writable x seq o i = true → plainRow o i v = true → o.keyOf i < 2 ^ 24 → s.maskLocked o i = false →
    o.clean (o.ty.decode (o.ty.encode v)) = v → o.ty.legal v = true → o.rng.holds s.part v (fifoDepth i) = true →
    (o.acc = .rws → s.shadowLocked (o.keyOf i) = false) → (o.ty.encode v).length = o.ty.size →
    exec (.write (x.writeReq seq o i v) (o.keyOf i / 256) (o.keyOf i % 256) (o.ty.encode v)) s =
      .next (((s.touched x seq).setObj (o.keyOf i) v).written x seq o i))

/-- R58 to R60: a block transfer of each mode opens under a free handle; reads return the content as it was at the open; written data is
kept with its offset, or goes to the image that does not run; BLOCK_END ends a read, replaces the content of the entry or makes
the written region the image. Choices of the model that it rests on: log 32 and 55. -/
def Obligations.BlockTransfersAct : Prop :=
  (∀ (s u : State) (x : Session) (seq index sub mode total : Nat) (o : Obj) (i h : Nat), s.awaits x seq = true → index < 65536 →
    sub < 256 → total < 2 ^ 32 → (mode = 1 ∨ mode = 2) → s.toWrite x.role index sub = .ok (o, i) → o.ty = .domain →
    total ≤ o.rng.most → s.offered index = true → s.imageClosed o = false → s.transfersBusy index sub total = false →
    s.freeHandle = some h →
    u = (s.touched x seq).setTransfers (s.dap.transfers ++ [Transfer.mk x.sid h index sub mode total [] [] s.cycles false]) →
    exec (.blockOpen (x.req 0x12 seq (beBytes 2 index ++ [byteOf sub, byteOf mode] ++ beBytes 4 total)) index sub mode total) s =
      .next ((if index = 0x1420 ∧ sub = 1 then u.startImage mode else u).reply x 0x12 seq
        ([byteOf h, 0] ++ beBytes 4 ((s.touched x seq).content x.sid o i false).length))) ∧
  (∀ (s : State) (x : Session) (seq index sub total : Nat) (o : Obj) (i : Nat) (live : Bool) (h : Nat) (c : Bytes),
    s.awaits x seq = true → index < 65536 → sub < 256 → total < 2 ^ 32 → s.toRead x.role index sub = .ok (.entry o i live) →
    o.ty = .domain → s.offered index = true → s.imageClosed o = false → s.readBusy x.sid o i = false → s.freeHandle = some h →
    c = (s.touched x seq).content x.sid o i live →
    exec (.blockOpen (x.req 0x12 seq (beBytes 2 index ++ [byteOf sub, 0] ++ beBytes 4 total)) index sub 0 total) s =
      .next (((s.touched x seq).setTransfers (s.dap.transfers ++ [Transfer.mk x.sid h index sub 0 total c [] s.cycles false])).reply x
        0x12 seq ([byteOf h, 0] ++ beBytes 4 c.length))) ∧
  (∀ (s u : State) (x : Session) (seq off : Nat) (data : Bytes) (w : Transfer) (r : Option (Obj × Nat × Bool)),
    s.awaits x seq = true → off < 2 ^ 32 → 1 ≤ data.length → data.length ≤ 1024 → w.handle < 256 →
    (s.dap.transfers.find? fun t => t.handle = w.handle && t.sid = x.sid) = some w → (w.mode = 1 ∨ w.mode = 2) →
    w.abandoned = false → s.toMove x.role w.index w.sub w.mode = .ok r → off + data.length ≤ w.total →
    u = ((s.touched x seq).updTransfer w.handle fun t => { t with lastData := s.cycles }) →
    exec (.blockData (x.req 0x13 seq ([byteOf w.handle, 0] ++ beBytes 4 off ++ beBytes 2 data.length ++ data)) w.handle off
        data.length data) s =
      .next ((if w.image then { u with flash := s.flash.setImage s.spareImage (overlay (s.flash.image s.spareImage) off data) }
        else u.updTransfer w.handle fun t => { t with writes := t.writes ++ [(off, data)] }).reply x 0x13 seq
          ([byteOf w.handle, 0] ++ beBytes 4 off))) ∧
  (∀ (s : State) (x : Session) (seq off count : Nat) (w : Transfer) (r : Option (Obj × Nat × Bool)), s.awaits x seq = true →
    off < 2 ^ 32 → 1 ≤ count → count ≤ 1024 → w.handle < 256 →
    (s.dap.transfers.find? fun t => t.handle = w.handle && t.sid = x.sid) = some w → w.mode = 0 → w.abandoned = false →
    s.toMove x.role w.index w.sub 0 = .ok r → (w.image = true → s.imageWriting = false) →
    exec (.blockData (x.req 0x13 seq ([byteOf w.handle, 0] ++ beBytes 4 off ++ beBytes 2 count)) w.handle off count []) s =
      .next (((s.touched x seq).updTransfer w.handle fun t => { t with lastData := s.cycles }).reply x 0x13 seq
        ([byteOf w.handle, 0] ++ beBytes 4 off ++ slice w.base off count))) ∧
  (∀ (s : State) (x : Session) (seq length crc : Nat) (w : Transfer) (r : Obj × Nat × Bool), s.awaits x seq = true → w.handle < 256 →
    (s.dap.transfers.find? fun t => t.handle = w.handle && t.sid = x.sid) = some w → w.mode = 0 → w.abandoned = false →
    s.toMove x.role w.index w.sub 0 = .ok (some r) →
    exec (.blockEnd (x.req 0x14 seq (endPayload w.handle length crc)) w.handle length crc) s = .next ((s.touched x seq).ended x seq w)) ∧
  (∀ (s : State) (x : Session) (seq : Nat) (w : Transfer) (o : Obj) (i : Nat) (live : Bool), s.awaits x seq = true → w.handle < 256 → w.total < 2 ^ 32 →
    (s.dap.transfers.find? fun t => t.handle = w.handle && t.sid = x.sid) = some w → w.mode = 1 → w.abandoned = false →
    w.image = false → s.toMove x.role w.index w.sub 1 = .ok (some (o, i, live)) → o.idx = 0x7022 →
    (lengthOk s.part o w.total && contentOk o (w.result [] w.total)) = true →
    exec (.blockEnd (x.req 0x14 seq (endPayload w.handle w.total (crc32 (w.result [] w.total)))) w.handle w.total
        (crc32 (w.result [] w.total))) s =
      .next ((((((s.touched x seq).setDom (o.keyOf i) (o.cleanContent (w.result [] w.total))).checkIdle i).dropTransfer w.handle).reply x
        0x14 seq [byteOf w.handle, 0]))) ∧
  (∀ (s t : State) (x : Session) (seq n : Nat) (w : Transfer) (o : Obj) (i : Nat) (live : Bool) (b : Bytes), s.awaits x seq = true →
    w.handle < 256 → n ≤ w.total → w.total < 2 ^ 32 →
    (s.dap.transfers.find? fun t => t.handle = w.handle && t.sid = x.sid) = some w → (w.mode = 1 ∨ w.mode = 2) →
    w.abandoned = false → w.image = false → s.toMove x.role w.index w.sub w.mode = .ok (some (o, i, live)) → s.maskLocked o i = false →
    o.acc ≠ .rwp → o.idx ≠ 0x1410 → b = w.result ((s.touched x seq).content x.sid o i live) n →
    writeContent x.sid x.role o i b (s.touched x seq) = (t, 0) →
    exec (.blockEnd (x.req 0x14 seq (endPayload w.handle n (crc32 b))) w.handle n (crc32 b)) s = .next (t.ended x seq w)) ∧
  (∀ (s : State) (x : Session) (seq n : Nat) (w : Transfer) (o : Obj) (i : Nat) (live : Bool) (b : Bytes), s.awaits x seq = true →
    w.handle < 256 → n ≤ w.total → w.total < 2 ^ 32 →
    (s.dap.transfers.find? fun t => t.handle = w.handle && t.sid = x.sid) = some w → (w.mode = 1 ∨ w.mode = 2) →
    w.abandoned = false → w.image = true → s.toMove x.role w.index w.sub w.mode = .ok (some (o, i, live)) → s.maskLocked o i = false →
    lengthOk s.part o n = true → b = padTo n ((s.touched x seq).content x.sid o i live) →
    exec (.blockEnd (x.req 0x14 seq (endPayload w.handle n (crc32 b))) w.handle n (crc32 b)) s =
      .next (((s.touched x seq).endImage b).ended x seq w))

/-- R48, R53, R56, R60, R65: the time limits of the protocol act once their time has come: a transfer without BLOCK_DATA for 5 s is
abandoned with what was written, a half-open session ends after 1 s, an idle one after its limit with event 0x1003, a session gets
its unacknowledged records again, and a message begun on CAN FD that does not go on within 10 ms is dropped.
Choices of the model that it rests on: log 2 and 33. -/
def Obligations.ProtocolTimeoutsAct : Prop :=
  (∀ s sid handle w, w ∈ s.dap.transfers → w.sid = sid → w.handle = handle → secCycles 5 ≤ s.since w.lastData →
    ∃ t, exec (.blockTransferAbandon sid handle) s = .next t ∧ { w with abandoned := true, writes := [] } ∈ t.dap.transfers ∧
      t = s.setTransfers (s.dap.transfers.map fun y => if y.sid = sid && y.handle = handle && secCycles 5 ≤ s.since y.lastData then
        { y with abandoned := true, writes := [] } else y)) ∧
  (∀ (s : State) (x : Session), s.session x.sid = some x → x.open_ = false → secCycles 1 ≤ s.since x.opened →
    ∃ t, exec (.halfOpenTimeout x.sid) s = .next t ∧ x ∉ t.dap.sessions ∧
      t = (s.closeSessions fun y => y.sid = x.sid && !y.open_ && secCycles 1 ≤ s.since y.opened)) ∧
  (∀ (s : State) (x : Session), s.session x.sid = some x → x.open_ = true → secCycles (s.nat Key.dapSessionIdleTimeout) ≤ s.since x.lastMsg →
    ∃ t, exec (.sessionIdleTimeout x.sid) s = .next t ∧ x ∉ t.dap.sessions ∧
      t = (s.closeSessions fun y => y.sid = x.sid).raise 0x1003 0 "CX" (leBytes 2 x.sid)) ∧
  (∀ s x, s.dap.sessions = [x] → msCycles (s.nat Key.evtResendInterval) ≤ s.since s.ev.resent →
    exec .evtResendInterval s =
      .next (sendEvents 256 x.sid (s.unacked x) { s with ev := { s.ev with resent := s.cycles } })) ∧
  (∀ (s : State) (x : Session) (r : EventRec), s.dap.sessions = [x] → msCycles (s.nat Key.evtResendInterval) ≤ s.since s.ev.resent →
    s.unacked x = [r] →
    exec .evtResendInterval s = .next (({ s with ev := { s.ev with resent := s.cycles } } : State).sendTagged x x.evtDst 3 0x40
      ([1, 0] ++ r.be))) ∧
  (∀ s host q, q ∈ s.dap.partials → q.host = host → msCycles 10 ≤ s.since q.last →
    ∃ t, exec (.canFdSegmentTimeout host) s = .next t ∧ q ∉ t.dap.partials ∧
      t = s.setPartials (s.dap.partials.filter fun y => !(y.host = host && msCycles 10 ≤ s.since y.last)))

/-- R47 to R50: frames and datagrams carry messages; ARP requests and neighbour solicitations for the device are answered.
Choices of the model that it rests on: log 31. -/
def Obligations.TransportsAct : Prop :=
  (∀ s h data, 1 ≤ h → h ≤ 255 → s.hearsHost (.can h) = true → s.nodeId < 256 → data ≠ [] → canLength data.length = data.length →
    data.length ≤ 64 → beAt data 0 1 = 192 →
    exec (.canFdFrame (2 ^ 24 + h * 256 + s.nodeId) data) s =
      .next ((s.setPartials (s.dap.partials.filter (·.host ≠ h))).receive (.can h) false (data.drop 1))) ∧
  (∀ s src dst msg, s.ownAddress src = some dst → msg.length ≤ 1408 →
    exec (.udpDatagram src dst (s.atReset Key.dapMgmtVlan) (s.atReset Key.dapUdpPort) msg) s = .next (s.receive src true msg)) ∧
  (∀ s mac addr, s.emAnswers = true → s.atReset Key.dapIpv4Address ≠ 0 →
    exec (.arpRequest (s.atReset Key.dapIpv4Address) mac addr) s = .next (s.send (.address (s.nat Key.dapMgmtMac) mac addr))) ∧
  (∀ s mac addr, s.emAnswers = true → s.atReset Key.dapIpv6Enable ≠ 0 →
    exec (.neighbourSolicitation (linkLocal (s.nat Key.dapMgmtMac)) mac addr) s =
      .next (s.send (.address (s.nat Key.dapMgmtMac) mac addr)))

/-- R61, R62, R65, R200, R209: a COMMIT that no check refuses is pending under the next ticket; WITHDRAW ends a pending one;
SUBSCRIBE sets the mask; EVENT_ACK pays what the session owes. Choices of the model that it rests on: log 33 and 46. -/
def Obligations.CommitsAndEventsAct : Prop :=
  (∀ (s : State) (x : Session) (seq : Nat) (p : Bytes), s.awaits x seq = true → p.length ≤ 1382 → (s.commitChecks x.role p).all (fun c => !c.1) = true →
    exec (.commit (x.req 0x20 seq p) p) s =
      .next (((s.touched x seq).acceptCommit (commitFields p)).reply x 0x20 seq (beBytes 2 s.commits.nextTicket))) ∧
  (∀ (s : State) (x : Session) (seq : Nat) (ticket : Nat) (c : Commit) (g : Nat), s.awaits x seq = true → ticket < 65536 → ticket ≠ 0 →
    (s.commits.pending.find? fun c => c.ticket = ticket && ticket ≠ 0) = some c → scopeGroup c.scope = some g →
    s.mayWrite x.role g = true →
    ∃ t, exec (.withdraw (x.req 0x21 seq (beBytes 2 ticket)) ticket) s = .next t ∧ c ∉ t.commits.pending) ∧
  (∀ (s : State) (x : Session) (seq : Nat) (mask : Nat), s.awaits x seq = true → mask < 256 → s.mayRead x.role 1 = true → s.ev.queue = [] →
    exec (.subscribe (x.req 0x30 seq [byteOf mask]) mask) s = .next (((s.touched x seq).updSession x.sid fun z =>
      { z with mask := mask, subscribed := true, evtDst := x.src }).reply x 0x30 seq [])) ∧
  (∀ (s : State) (x : Session) (seq : Nat) (n : Nat), s.awaits x seq = true → n < 2 ^ 32 → s.mayRead x.role 1 = true → s.ev.lostPending = false →
    ∃ t, exec (.eventAck (x.req 0x31 seq (beBytes 4 n)) n) s = .next t ∧
      ∀ q ∈ t.ev.queue, q.record.evseq ≤ n → x.sid ∉ q.owed)

/-! Chapter 05: serial lanes. -/

/-- R134, R153, R155: SEEK_ATTEMPT, TRANSITIONS_DETECTED, ATTEMPT_TIMEOUT, CLOCK_RECOVERY_LOCK, DETECT_TIMEOUT, SYMBOL_ALIGNMENT
and ALIGN_TIMEOUT complete, with the attempts, requests and changes of state of the table of R153.
Choices of the model that it rests on: log 2, 14 and 35. -/
def Obligations.LaneBringUpActs : Prop :=
  (∀ s l, s.cendoHere l = true → s.laneState l = lnSeek → (s.lane l).attempt = false → s.mayAttempt l = true →
    (s.lane l).nextAt ≤ s.cycles →
    exec (.seekAttempt l) s = .next ((((s.setLane l oRateActive 0).updLane l fun x => { x with
      attempt := true, attemptAt := s.cycles, rated := false, nextTag := 1 }).sendMessage l 8 0 []).laneFollow l lnSeek)) ∧
  (∀ s l density, s.cendoHere l = true → s.laneState l = lnSeek → (s.lane l).attempt = true →
    s.nat Key.laneTdFloor ≤ density → usCycles 10 ≤ s.since (s.lane l).attemptAt →
    s.since (s.lane l).attemptAt ≤ msCycles 2 →
    exec (.transitionsDetected l density) s = .next (((s.loadCameraTrims l).laneGo l lnDetect).laneFollow l lnSeek)) ∧
  (∀ s l, s.cendoHere l = true → s.laneState l = lnSeek → (s.lane l).attempt = true →
    msCycles 2 ≤ s.since (s.lane l).attemptAt →
    exec (.attemptTimeout l) s = .next ((s.updLane l fun x => { x with
      nextAt := s.cycles + msCycles x.backoff, backoff := min 1280 (2 * x.backoff), attempt := false }).laneFollow l lnSeek)) ∧
  (∀ s l, s.cendoHere l = true → s.laneState l = lnDetect → s.since (s.lane l).entered ≤ msCycles 1 →
    exec (.clockRecoveryLock l) s = .next ((s.laneGo l lnAlign).laneFollow l lnDetect)) ∧
  (∀ s l, s.cendoHere l = true → s.laneState l = lnDetect → msCycles 1 ≤ s.since (s.lane l).entered →
    exec (.detectTimeout l) s = .next ((s.toSeek l).laneFollow l lnDetect)) ∧
  (∀ s l commas, s.cendoHere l = true → s.laneState l = lnAlign → (s.lane l).aligned = false → fourCommas commas = true →
    s.since (s.lane l).entered ≤ msCycles 2 →
    ∃ u, u = (s.updLane l fun x => { x with aligned := true, recent := [], slip := false }) ∧
      exec (.symbolAlignment l commas) s =
        .next ((if (s.lane l).rated then u.toTrain l else u.laneRequest l 6 []).laneFollow l lnAlign)) ∧
  (∀ s l commas, s.cendoHere l = true → lnAlign < s.laneState l → (s.lane l).aligned = false → fourCommas commas = true →
    exec (.symbolAlignment l commas) s = .next ((s.updLane l fun x => { x with
      aligned := true, recent := [], slip := false }).laneFollow l (s.laneState l))) ∧
  (∀ s l, s.cendoHere l = true → s.laneState l = lnAlign → ((s.lane l).aligned = false ∨ (s.lane l).req = none) →
    msCycles 2 ≤ s.since (s.lane l).entered →
    exec (.alignTimeout l) s = .next ((s.toSeek l).laneFollow l lnAlign))

/-- R134, R153, R154: ALIGNMENT_LOST and LOSS_OF_SIGNAL complete: a receiver counts the violations that it hears and, at eight within 64
characters, loses alignment; a lane that was up enters ALIGN at its rate. What the loss of signal counts, reports and where the lane
goes. Choices of the model that it rests on: log 14 and 35. -/
def Obligations.LaneLossesAct : Prop :=
  (∀ s l x, s.cendoHere l = true → (s.lane l).aligned = true → x.codes.length ≤ 64 →
    8 ≤ ((lineViolations (if isTrunk l then trunkKnown else cameraKnown) x).filter id).length →
    ∃ u, u = (((s.hear l x).bump (laneKey oAlignLoss l)).updLane l fun y => { y with aligned := false, recent := [], slip := false }) ∧
      u.laneNat l oCodeErrors = satAdd 32 (s.laneNat l oCodeErrors)
        ((lineViolations (if isTrunk l then trunkKnown else cameraKnown) x).filter id).length ∧
      exec (.alignmentLost l x) s = .next ((if s.laneUp l then ((u.laneRaise l 0x3006 1 []).updLane l fun y => { y with
        rated := true, req := none, retrain := none }).laneGo l lnAlign else u).laneFollow l (s.laneState l))) ∧
  (∀ s l, s.laneHere l = true → s.laneState l ≠ lnSeek →
    exec (.lossOfSignal l) s = .next
      ((((s.bump (laneKey oLosCount l)).laneRaise l 0x3007 1
        [byteOf ((s.bump (laneKey oLosCount l)).laneState l)]).toSeek l).laneFollow l (s.laneState l)))

/-- R143 to R148, R153, R162: the messages of the lane protocol complete: an answer to the outstanding request of its TAG, as its
characters bring it. Choices of the model that it rests on: log 2, 14 and 35. -/
def Obligations.LaneAnswersAct : Prop :=
  (∀ (s h : State) l x pos tag, ∀ result pre main post lane : Byte, s.cendoHere l = true → tag < 256 →
    x = messageLine l pos 0x81 tag [result, pre, main, post, lane] → s.steady l x = true → h = s.heard l x →
    s.answers l 1 tag = true → s.laneState l = lnTrain → (s.lane l).goal = none →
    exec (.tapStatus l x) s = .next ((((h.clearReq l).setLane l oTaps (pre.toNat * 65536 + main.toNat * 256 + post.toNat)).updLane l
      fun y => { y with tapsAt := some s.cycles, goal := none }).laneFollow l lnTrain)) ∧
  (∀ (s h u : State) l x pos tag vendor model version rates caps latency, s.cendoHere l = true → tag < 256 →
    vendor < 65536 → model < 65536 → version < 65536 → rates < 256 → caps < 256 → latency < 65536 →
    x = messageLine l pos 0x86 tag (beBytes 2 vendor ++ beBytes 2 model ++ beBytes 2 version ++ [byteOf rates, byteOf caps] ++
      beBytes 2 latency) →
    s.steady l x = true → h = s.heard l x → s.answers l 6 tag = true → s.laneState l = lnAlign →
    u = (((h.clearReq l).setLane l oPartner (vendor * 2 ^ 48 + model * 2 ^ 32 + version * 65536 + rates * 256 + caps)).updLane l
      fun y => { y with latency := latency }) →
    exec (.identity l x) s = .next ((u.laneRequest l 7 [byteOf (bestRate rates (u.topRate l))]).laneFollow l lnAlign)) ∧
  (∀ (s h : State) l x pos tag, ∀ code : Byte, s.cendoHere l = true → tag < 256 → x = messageLine l pos 0x87 tag [code] →
    s.steady l x = true → h = s.heard l x → s.answers l 7 tag = true → s.trk.lowering = none →
    (s.laneState l = lnAlign ∨ s.laneState l = lnFallback) →
    exec (.rateAck l x) s = .next ((((((h.clearReq l).setLane l oRateActive (s.asked l)).updLane l fun y =>
      { y with rated := true }).toDetect l)).laneFollow l (s.laneState l))) ∧
  (∀ (s h : State) x pos tag c, ∀ code : Byte, s.cendoHere (.trunk 8) = true → tag < 256 →
    x = messageLine (.trunk 8) pos 0x87 tag [code] → s.steady (.trunk 8) x = true → h = s.heard (.trunk 8) x →
    s.answers (.trunk 8) 7 tag = true → s.trk.lowering = some c →
    exec (.rateAck (.trunk 8) x) s = .next ((((h.clearReq (.trunk 8)).updTrk fun t =>
      { t with lowering := none }).trkLowered c).laneFollow (.trunk 8) (s.laneState (.trunk 8)))) ∧
  (∀ (s h : State) l x pos tag, ∀ on : Byte, s.cendoHere l = true → tag < 256 → x = messageLine l pos 0x84 tag [on] →
    s.steady l x = true → h = s.heard l x → s.answers l 4 tag = true → s.laneNat l oTestMode ≠ 4 →
    exec (.loopAck l x) s = .next
      (((h.clearReq l).updLane l fun y => { y with loop_ := s.asked l = 1 }).laneFollow l (s.laneState l))) ∧
  (∀ (s h : State) i x pos tag, ∀ on : Byte, i < s.part.ports → tag < 256 → x = messageLine (.camera i) pos 0x84 tag [on] →
    s.steady (.camera i) x = true → h = s.heard (.camera i) x → s.answers (.camera i) 4 tag = true →
    s.laneNat (.camera i) oTestMode = 4 → s.asked (.camera i) = 1 →
    exec (.loopAck (.camera i) x) s = .next
      ((((h.clearReq (.camera i)).updLane (.camera i) fun y => { y with loop_ := true }).startGen i).laneFollow (.camera i)
        (s.laneState (.camera i)))) ∧
  (∀ (s h : State) l x pos tag, ∀ pattern d1 d0 : Byte, s.cendoHere l = true → tag < 256 →
    x = messageLine l pos 0x85 tag [pattern, d1, d0] → s.steady l x = true → h = s.heard l x → s.answers l 5 tag = true →
    s.laneState l = lnVerify →
    exec (.prbsAck l x) s = .next (((h.clearReq l).updLane l fun y =>
      { y with pattern := s.asked l ≠ 0, entered := s.cycles }).laneFollow l lnVerify))

/-- R137, R145, R267, R269: a request that gets no answer is sent again under its TAG, with its retry counted; REFUSED is counted and
reported; WRITE_ACK 0 makes the change a generation; READ_DATA answers its request.
Choices of the model that it rests on: log 14, 35 and 54. -/
def Obligations.LaneRequestsEnd : Prop :=
  (∀ s i tag r, i < s.part.ports → (s.lane (.camera i)).req = some r → r.tag = tag → r.type ≠ 1 → r.retries < 3 →
    msCycles 2 ≤ s.since r.sent → s.sentChange i tag = none →
    ∃ t, exec (.messageResponseTimeout (.camera i) tag) s = .next t ∧
      (t.tx i).queue = (s.tx i).queue ++ [messageChars k283 r.type tag r.payload] ∧
      (t.lane (.camera i)).req = some { r with retries := r.retries + 1, sent := s.cycles + s.sendTime (.camera i) r.payload } ∧
      t.nat (laneKey oMsgErrors (.camera i)) = satAdd 32 (s.nat (laneKey oMsgErrors (.camera i))) 1) ∧
  (∀ (s h : State) i x pos tag r, i < s.part.ports → tag < 256 → r.type < 256 → x = messageLine (.camera i) pos 0xFF tag [byteOf r.type] →
    s.steady (.camera i) x = true → h = s.heard (.camera i) x → (s.lane (.camera i)).req = some r → r.tag = tag → r.type ≠ 2 →
    exec (.refused (.camera i) x) s = .next ((((((h.bump (laneKey oMsgErrors (.camera i))).updLane (.camera i) fun y => { y with
      req := none, sensor := y.sensor.filter (·.tag ≠ tag) }).laneRaise (.camera i) 0x3008 1 [byteOf r.type]).nextRequest
        (.camera i))).laneFollow (.camera i) (s.laneState (.camera i)))) ∧
  (∀ s l tag r, s.cendoHere l = true → (s.lane l).req = some r → r.tag = tag → r.retries = 3 → r.type ≠ 2 → r.type ≠ 3 →
    msCycles 2 ≤ s.since r.sent → (∀ i, l = .camera i → s.sentChange i tag = none) →
    exec (.messageResponseTimeout l tag) s = .next ((requestFailed l r.type s).laneFollow l (s.laneState l))) ∧
  (∀ (s h : State) i x pos tag r c, i < s.part.ports → tag < 256 → x = messageLine (.camera i) pos 0xFF tag [2] →
    s.steady (.camera i) x = true → h = s.heard (.camera i) x → (s.lane (.camera i)).req = none →
    (s.lane (.camera i)).sensor = [r] → r.tag = tag → r.type = 2 → (s.exp i).change = some c → c.tag = some tag →
    exec (.refused (.camera i) x) s = .next (((((((h.bump (laneKey oMsgErrors (.camera i))).updLane (.camera i) fun y => { y with
      req := none, sensor := [] }).laneRaise (.camera i) 0x3008 1 [2]).nextRequest (.camera i)).changeFailed i c 4)).laneFollow
        (.camera i) (s.laneState (.camera i)))) ∧
  (∀ (s h : State) i x pos tag c, i < s.part.ports → tag < 256 → x = messageLine (.camera i) pos 0x82 tag [0] →
    s.steady (.camera i) x = true → h = s.heard (.camera i) x → s.sensorAnswers i 2 tag = true → (s.exp i).change = some c →
    c.tag = some tag →
    exec (.writeAck i x) s =
      .next (((h.clearSensor i tag).acknowledge i c).laneFollow (.camera i) (s.laneState (.camera i)))) ∧
  (∀ (s h : State) i x pos tag, ∀ status v1 v0 : Byte, i < s.part.ports → tag < 256 →
    x = messageLine (.camera i) pos 0x83 tag [status, v1, v0] → s.steady (.camera i) x = true → h = s.heard (.camera i) x →
    s.sensorAnswers i 3 tag = true →
    exec (.readData i x) s = .next ((h.clearSensor i tag).laneFollow (.camera i) (s.laneState (.camera i))))

/-- R149, R150, R153, R156, R158 to R160: training, verification and the watch over the eye complete.
Choices of the model that it rests on: log 14 and 35. -/
def Obligations.LaneTrainingActs : Prop :=
  (∀ s l h v t0, s.cendoHere l = true → s.laneState l = lnTrain → (s.lane l).tapsAt = some t0 → usCycles 150 ≤ s.since t0 →
    ∃ u, u = (((s.setLane l oFom (fomOf h v)).adapt l).updLane l fun x => { x with
        tapsAt := none, tested := (Taps.ofNat (s.laneNat l oTaps), fomOf h v) :: x.tested }) ∧
      exec (.trainingEvaluation l h v) s =
        .next ((if converged (Taps.ofNat (s.laneNat l oTaps)) (fomOf h v) (u.lane l).tested then u.toVerify l
          else u.requestTap l).laneFollow l lnTrain)) ∧
  (∀ s l, s.cendoHere l = true → s.laneState l = lnTrain → msCycles 500 ≤ s.since (s.lane l).entered →
    exec (.trainingBudgetExpiry l) s = .next
      (((s.laneRaise l 0x3002 1 [byteOf (s.laneNat l oFom)]).toVerifyPreset l).laneFollow l lnTrain)) ∧
  (∀ (s u : State) l errors h v, s.cendoHere l = true → s.laneState l = lnVerify → (s.lane l).pattern = true →
    msCycles 1 ≤ s.since (s.lane l).entered →
    u = (((s.addTo (laneKey oPrbsBits l) 64 (s.millisecondBits l)).addTo (laneKey oPrbsErrors l) 64 errors).setLane l oFom (fomOf h v)) →
    errors ≤ u.nat Key.laneVerifyMaxErrors → u.nat Key.laneFomFloor ≤ fomOf h v →
    exec (.verifyEnd l errors h v) s = .next
      ((u.laneGo l (if (s.lane l).preset then lnDegraded else lnActive)).laneFollow l lnVerify)) ∧
  (∀ s l h v density, s.laneHere l = true → s.receiverOn l = true → s.nat Key.laneFomFloor ≤ fomOf h v → (s.lane l).dipEvals ≠ 1 →
    exec (.fomEvaluation l h v density) s = .next ((((((s.updLane l fun x => { x with
      sparse := density < s.nat Key.laneTdFloor,
      frozen := x.frozen || (density < s.nat Key.laneTdFloor && lnAlign ≤ s.laneState l) }).setLane l oFom (fomOf h v)).adapt l).updLane l
        fun x => { x with low := 0, dipEvals := x.dipEvals - 1, dipLow := if x.dipEvals ≤ 1 then 0 else x.dipLow })).laneFollow l
          (s.laneState l))) ∧
  (∀ s l h v density, s.cendoHere l = true → s.laneState l = lnActive → fomOf h v < s.nat Key.laneFomFloor → (s.lane l).low = 9 →
    (s.lane l).dipEvals = 0 → (s.lane l).retrain = none →
    ∃ u, exec (.fomEvaluation l h v density) s = .next (((State.laneRaise u l 0x3005 1 [byteOf (fomOf h v)]).requestRetrain l).laneFollow l
        lnActive) ∧ (u.lane l).low = 0 ∧ u.laneNat l oFom = fomOf h v) ∧
  (∀ s l t0, s.cendoHere l = true → (s.lane l).retrain = some t0 → s.laneUp l = true → msCycles 100 ≤ s.since t0 →
    exec (.retrainDeferralTimeout l) s = .next ((s.toTrain l).laneFollow l (s.laneState l))) ∧
  (∀ s l, s.cendoHere l = true → s.laneState l = lnDegraded → s.nat Key.laneDegradedRetry ≠ 0 →
    secCycles (s.nat Key.laneDegradedRetry) ≤ s.since (s.lane l).degradedAt →
    exec (.laneDegradedRetry l) s = .next
      (((s.updLane l fun x => { x with degradedAt := s.cycles }).requestRetrain l).laneFollow l lnDegraded))

/-- R158, R160, R164, R345: pattern lock, the freeze and an Ethernet lane's change of state complete.
Choices of the model that it rests on: log 14 and 35. -/
def Obligations.LaneTestsAct : Prop :=
  (∀ s l bits, s.laneHere l = true → (s.lane l).locked = none → s.checkerPattern l ≠ 0 →
    bits.length = (patternTaps (s.checkerPattern l)).1 + 64 → followsPattern (s.checkerPattern l) bits = true →
    exec (.prbsLock l bits) s = .next ((s.updLane l fun x => { x with locked := some s.cycles }).laneFollow l (s.laneState l))) ∧
  (∀ s l bits errors t0 window, s.laneHere l = true → (s.lane l).locked = some t0 → window.length ≤ 1024 →
    64 ≤ (window.filter id).length →
    exec (.prbsLockLost l bits errors window) s = .next (((((s.addTo (laneKey oPrbsBits l) 64 bits).addTo (laneKey oPrbsErrors l) 64
      errors).updLane l fun x => { x with locked := none }).laneRaise l 0x3009 1 (leBytes 4 errors)).laneFollow l (s.laneState l))) ∧
  (∀ s l, s.laneHere l = true → lnAlign ≤ s.laneState l → s.laneState l ≤ lnDegraded →
    usCycles (s.nat Key.laneIdleFreeze) ≤ s.since (s.lane l).lastStart →
    exec (.laneIdleFreeze l) s = .next ((s.updLane l fun x => { x with frozen := true }).laneFollow l (s.laneState l))) ∧
  (∀ s port, s.part.hasNx = true → port < 4 → s.laneState (.eth port) ≠ lnActive → s.mayAttempt (.eth port) = true →
    exec (.ethLaneStateChange port true) s = .next ((s.laneGo (.eth port) lnActive).preemptSettle port)) ∧
  (∀ s port, s.part.hasNx = true → port < 4 → s.laneState (.eth port) = lnActive →
    exec (.ethLaneStateChange port false) s = .next ((s.laneGo (.eth port) lnSeek).nxPortDown port))

/-- R133: characters that are coded are decoded as the same characters, with no violation, from either running disparity; and, K28.7
apart, no comma straddles two codes. Choices of the model that it rests on: log 14. -/
def Obligations.CharactersReadBack : Prop :=
  (∀ (positive : Bool) (l : List Chr), (∀ b, Chr.k b ∈ l → b ∈ specials) →
    rxAll positive (encode positive l).1 = l.map fun c => ⟨some c, false⟩) ∧
  (∀ (positive : Bool) (l : List Chr), (∀ b, Chr.k b ∈ l → b ∈ specials ∧ b ≠ 0xFC) → true ∉ strays (encode positive l).1)

/-- R145, R148, R152, R335, R336, R338 to R341: the partner's requests on the trunk and the trunk's own changes complete.
Choices of the model that it rests on: log 14 and 36. -/
def Obligations.TrunkActs : Prop :=
  (∀ (s h : State) x pos tag i command preset u r, s.cendoHere (.trunk 8) = true → tag < 256 → i < s.part.txLanes → command < 256 →
    preset < 256 → x = messageLine (.trunk 8) pos 1 tag [byteOf command, byteOf preset, byteOf i] → s.steady (.trunk 8) x = true →
    h = s.heard (.trunk 8) x → s.trk.answered = none →
    tapAnswer (Taps.ofNat (s.laneNat (.trunk i) oTaps)) command preset = some (u, r) → (preset ≠ 0xFF ∨ r ≠ 0x3F) →
    exec (.tapRequest x) s = .next (((((h.setLane (.trunk i) oTaps (u.pre * 65536 + u.main * 256 + u.post)).answerPartner 1 tag i 0x81
      [byteOf r, byteOf u.pre, byteOf u.main, byteOf u.post, byteOf i]).txLaneGo i lnTrain).withdrawLanes (· = i)).trkFollow
        (s.laneState (.trunk 8)))) ∧
  (∀ (s h : State) x pos tag i command u, s.cendoHere (.trunk 8) = true → tag < 256 → i < s.part.txLanes → command < 256 →
    x = messageLine (.trunk 8) pos 1 tag [byteOf command, 0xFF, byteOf i] → s.steady (.trunk 8) x = true →
    h = s.heard (.trunk 8) x → s.trk.answered = none → s.trk.accepted.contains i = false →
    tapAnswer (Taps.ofNat (s.laneNat (.trunk i) oTaps)) command 0xFF = some (u, 0x3F) →
    exec (.tapRequest x) s = .next ((((((h.setLane (.trunk i) oTaps (u.pre * 65536 + u.main * 256 + u.post)).answerPartner 1 tag i 0x81
      [0x3F, byteOf u.pre, byteOf u.main, byteOf u.post, byteOf i]).updTrk fun t => { t with
        accepted := t.accepted ++ [i] }).txLaneGo i lnActive).noteWiden.noteL).trkFollow (s.laneState (.trunk 8)))) ∧
  (∀ (s h : State) x pos tag, s.cendoHere (.trunk 8) = true → tag < 256 → x = messageLine (.trunk 8) pos 8 tag [] →
    s.steady (.trunk 8) x = true → h = s.heard (.trunk 8) x →
    ∃ t, exec (.linkReset x) s = .next t ∧ t.trk.accepted = [] ∧
      t = (((List.range s.part.txLanes).foldl (fun v i => v.txLaneGo i lnDetect) h).withdrawLanes fun _ => true).trkFollow
        (s.laneState (.trunk 8))) ∧
  (∀ s, s.trkState = trkTraining → s.trk.lowering = none → s.trk.groups = none → secCycles 1 ≤ s.since s.trk.entered → 2 ≤ s.trkL →
    s.laneUp (.trunk 8) = true → s.trk.credit = true →
    exec .trkTrainingDecision s = .next (s.noteWiden.trkGo trkUp)) ∧
  (∀ s c, s.trkState = trkTraining → s.trk.lowering = none → s.trk.groups = none → secCycles 1 ≤ s.since s.trk.entered → s.trkL < 2 →
    s.nat Key.trkRateActive = c + 1 → s.nat Key.trkMinRate ≤ c →
    exec .trkTrainingDecision s = .next ((s.laneRequest (.trunk 8) 7 [byteOf c]).updTrk fun t => { t with lowering := some c })) ∧
  (∀ s t0, s.trk.widenSince = some t0 → s.trkState = trkUp → msCycles (s.nat Key.trkWidenHold) ≤ s.since t0 →
    exec .trkWidenHold s = .next ((s.trkGo trkResizing).updTrk fun t => { t with groups := some 0 })) ∧
  (∀ s, s.trkState = trkResizing → s.trk.groups = some 8 →
    exec .trkLaneCountChange s =
      .next ((((s.trkSetL s.acceptedL).updTrk fun t => { t with groups := none }).noteWiden).trkGo trkUp)) ∧
  (∀ (s : State) pos (idle : List Byte), s.cendoHere (.trunk 8) = true → (s.lane (.trunk 8)).aligned = true → idle.length = 7 →
    exec (.returnWidthDetected [lineOf pos (Chr.k k285 :: idle.map Chr.d)]) s = .next (s.setObj Key.trkReturnLanes 1)) ∧
  (∀ (s : State) pos pos' (idle idle' : List Byte), s.cendoHere (.trunk 8) = true → (s.lane (.trunk 8)).aligned = true → idle.length = 7 →
    idle'.length = 7 →
    exec (.returnWidthDetected [lineOf pos (Chr.k k285 :: idle.map Chr.d), lineOf pos' (Chr.k k285 :: idle'.map Chr.d)]) s =
      .next (s.setObj Key.trkReturnLanes 2)) ∧
  (∀ (s h : State) x pos (idle : List Byte) limit buffer, s.laneUp (.trunk 8) = true → s.cendoHere (.trunk 8) = true →
    idle.length = 7 → limit < 2 ^ 32 → buffer < 2 ^ 32 → x = trunkLine pos idle 0x13 (beBytes 4 limit ++ beBytes 4 buffer) →
    s.steady (.trunk 8) x = true → h = s.heard (.trunk 8) x → s.trkState ≠ trkDown → atOrAfter32 limit s.trk.limit = true →
    exec (.creditPacket [x]) s = .next (((h.addTo Key.trkRxPackets 64 1).setObj Key.trkPartnerBuffer buffer).updTrk fun t =>
      { t with credit := true, limit := limit })) ∧
  (∀ s t0, s.trk.waitSince = some t0 → s.trk.stalled = false → usCycles (s.nat Key.trkCreditTimeout) ≤ s.since t0 →
    exec .trkCreditTimeout s = .next (((s.bump Key.trkCreditStalls).updTrk fun t => { t with stalled := true }).raise 0x7103 1
      "MX.TRK" (leBytes 4 s.trk.limit ++ leBytes 4 s.trk.units))) ∧
  (∀ (s : State) x pos (idle : List Byte) kind p, s.laneUp (.trunk 8) = true → s.cendoHere (.trunk 8) = true →
    idle.length = 7 → kind < 256 → knownType kind = false → p.length < 65536 → x = trunkLine pos idle kind p →
    s.steady (.trunk 8) x = true →
    exec (.trkPacketErrored [x]) s = .next (((s.hear (.trunk 8) x).bump Key.trkRxErrored).raiseLimited 0x7104 1 0 "MX.TRK" [byteOf kind]))

/-- R337: at a packet boundary a waiting training message leaves first, then a waiting beacon, else a media packet with credit leaves whole
and in queue order; a tunnel packet for the device's own MAC address reaches NX.EM. R101 to R103: beacons.
Choices of the model that it rests on: log 14, 36 and 41. -/
def Obligations.TrunkPacketsAct : Prop :=
  (∀ s i m r, s.trkState ≠ trkDown → s.trk.training = (i, m) :: r →
    exec .trkPacketBoundary s = .next ((s.updTrk fun t => { t with inFlight := none, training := r }).sendTraining i m)) ∧
  (∀ s, s.trkState = trkUp → 2 ≤ s.trkL → s.trk.training = [] → s.trk.groups = none → s.tb.beaconQueued = true →
    exec .trkPacketBoundary s =
      .next (((s.updTrk fun t => { t with inFlight := none }).sendBeacon).addTo Key.trkPacketsSent 64 1)) ∧
  (∀ s p r, s.trkState = trkUp → 2 ≤ s.trkL → s.trk.training = [] → s.trk.groups = none → s.tb.beaconQueued = false →
    s.trk.tunnel = [] → s.mrg.trunk = p :: r → s.creditFor (creditCost p.chars.length) = true →
    exec .trkPacketBoundary s = .next (((({ s with mrg := { s.mrg with trunk := r } } : State).updTrk fun t => { t with
      inFlight := none, waitSince := none, stalled := false,
      units := (t.units + creditCost p.chars.length) % 2 ^ 32 }).addTo Key.trkPacketsSent 64 1).sendPacket p.chars)) ∧
  (∀ (s h : State) x pos (idle frame : List Byte), s.laneUp (.trunk 8) = true → s.cendoHere (.trunk 8) = true → idle.length = 7 →
    frame.length ≤ 9612 → x = trunkLine pos idle 0x12 frame → s.steady (.trunk 8) x = true → h = s.heard (.trunk 8) x →
    s.part.hasNx = true → s.nxUp 5 = true → beAt frame 0 6 = s.nat Key.dapMgmtMac →
    exec (.tunnelPacketReceive [x]) s = .next ((h.addTo Key.trkRxPackets 64 1).send (.toEm 5 frame))) ∧
  (∀ s, s.tb.beaconMs ≠ some (s.now / msUnits) →
    exec .timeBeaconSend s = .next (s.withTb fun b => { b with beaconMs := some (s.now / msUnits), beaconQueued := true })) ∧
  (∀ (s h : State) x pos (idle : List Byte) epoch t1 state bseq echoSeq turn, s.laneUp (.trunk 8) = true →
    s.cendoHere (.trunk 8) = true → idle.length = 7 → epoch < 65536 → t1 < 2 ^ 48 * secUnits → state < 256 → bseq < 2 ^ 32 →
    echoSeq < 2 ^ 32 → turn < 2 ^ 64 → x = trunkLine pos idle 0x11 (beBytes 2 epoch ++ beBytes 12 (toTime96 t1) ++
      [byteOf state, 0] ++ beBytes 4 bseq ++ beBytes 4 echoSeq ++ beBytes 8 turn) →
    s.steady (.trunk 8) x = true → h = s.heard (.trunk 8) x → (∀ e ∈ s.tb.beaconsSent, e.1 ≠ echoSeq) →
    exec (.timeBeaconReceive [x]) s = .next ((((h.addTo Key.trkRxPackets 64 1).withTb fun b => { b with
      beaconLast := some (bseq, s.instant), beaconAt := s.cycles }).setFlag Key.tbBeaconValid false))) ∧
  (∀ (s h : State) x pos (idle : List Byte) epoch t1 state bseq echoSeq turn own r, s.laneUp (.trunk 8) = true →
    s.cendoHere (.trunk 8) = true → idle.length = 7 → epoch < 65536 → t1 < 2 ^ 48 * secUnits → state < 256 → bseq < 2 ^ 32 →
    echoSeq < 2 ^ 32 → turn < 2 ^ 64 → x = trunkLine pos idle 0x11 (beBytes 2 epoch ++ beBytes 12 (toTime96 t1) ++
      [byteOf state, 0] ++ beBytes 4 bseq ++ beBytes 4 echoSeq ++ beBytes 8 turn) →
    s.steady (.trunk 8) x = true → h = s.heard (.trunk 8) x → s.tb.beaconsSent = (echoSeq, own) :: r → s.tbSource = 3 →
    ∃ (d : Int) (u : State), d = rshift (s.instant.t - s.inEpoch own - turn) 1 + tenthsToUnits (s.obj Key.tbBeaconTrim) ∧
      u = ((((h.addTo Key.trkRxPackets 64 1).withTb fun b => { b with beaconLast := some (bseq, s.instant), beaconAt := s.cycles }).setFlag
        Key.tbBeaconValid true).setObj Key.tbBeaconDelay d) ∧
      exec (.timeBeaconReceive [x]) s = .next (u.measure (s.instant.t - (t1 + d)) (msCycles 1)))


/-! Requests that have a row of their own: the WRITE of a number to an entry, with the effect on the unit. -/

/-- R69, R70: STORE_COMMAND: a save begins with the set as it stands, a load and defaults replace the stored entries, erase
empties both banks; a save ends with the inactive bank verified, or has failed (R67). Choices of the model that it rests on: log 47 and 48. -/
def Obligations.StoreRequestsAct : Prop :=
  (∀ (s : State) (x : Session) (seq : Nat), s.writable x seq (rowAt 0x1300 1) 0 = true → s.store.snapshot = none →
    s.sup.dip = false →
    exec (.storeSave (x.writeReq seq (rowAt 0x1300 1) 0 1)) s = .next (({ s.touched x seq with
      store := { snapshot := some (s.touched x seq).storedSet } }.setObj Key.storeStatus 1).written x seq (rowAt 0x1300 1) 0)) ∧
  (∀ (s : State) (x : Session) (seq : Nat), s.writable x seq (rowAt 0x1300 1) 0 = true → s.store.snapshot = none →
    s.commits.pending = [] →
    exec (.storeLoad (x.writeReq seq (rowAt 0x1300 1) 0 2)) s = .next (((s.touched x seq).loadStored
      ((s.flash.bank (s.nat Key.storeBank)).getD {})).written x seq (rowAt 0x1300 1) 0)) ∧
  (∀ (s : State) (x : Session) (seq : Nat), s.writable x seq (rowAt 0x1300 1) 0 = true → s.store.snapshot = none →
    s.commits.pending = [] →
    exec (.storeDefaults (x.writeReq seq (rowAt 0x1300 1) 0 3)) s =
      .next (((s.touched x seq).loadStored {}).written x seq (rowAt 0x1300 1) 0)) ∧
  (∀ (s : State) (x : Session) (seq : Nat), s.writable x seq (rowAt 0x1300 1) 0 = true → s.store.snapshot = none →
    exec (.storeErase (x.writeReq seq (rowAt 0x1300 1) 0 4)) s = .next (({ s.touched x seq with
      flash := { s.flash with bank0 := none, bank1 := none, torn := false } }).written x seq (rowAt 0x1300 1) 0)) ∧
  (∀ (s : State) (l : LiveSet), s.store.snapshot = some l → s.boot.held = none → s.sup.dip = false → s.nat Key.storeBank ≤ 1 →
    ∃ t, exec (.storeSaveComplete true) s = .next t ∧ t.store.snapshot = none ∧ t.flash.torn = false ∧
      t.flash.bank (1 - s.nat Key.storeBank) = some l ∧ t.prot.saves = s.prot.saves + 1) ∧
  (∀ (s : State) (l : LiveSet), s.store.snapshot = some l → s.boot.held = none → s.sup.dip = false →
    exec (.storeSaveComplete false) s = .next ((({ s with
      flash := { s.flash.setBank (1 - s.nat Key.storeBank) none with torn := true }, store := { snapshot := none } }.setObj
        Key.storeStatus 3).raise 0x1302 2 "CX" [byteOf (1 - s.nat Key.storeBank)])))

/-- R81, R85, R94, R97, R100, R106: the requests of the time base complete. Choices of the model that it rests on: log 41. -/
def Obligations.TimeRequestsAct : Prop :=
  (∀ (s : State) (x : Session) (seq v : Nat), s.writable x seq (rowAt 0x2000 4) 0 = true →
    (rowAt 0x2000 4).rng.holds s.part v 0 = true →
    exec (.tbSourceWrite (x.writeReq seq (rowAt 0x2000 4) 0 v) v) s =
      .next ((tbSourceWrite v (s.touched x seq)).written x seq (rowAt 0x2000 4) 0)) ∧
  (∀ (s : State) (x : Session) (seq sub v : Nat), (sub = 1 ∨ sub = 2 ∨ sub = 3) → s.writable x seq (rowAt 0x2010 sub) 0 = true →
    (rowAt 0x2010 sub).rng.holds s.part v 0 = true →
    exec (.ptpInstanceRestart (x.writeReq seq (rowAt 0x2010 sub) 0 v) sub v) s =
      .next ((ptpInstanceWrite sub v (s.touched x seq)).written x seq (rowAt 0x2010 sub) 0)) ∧
  (∀ (s : State) (x : Session) (seq : Nat), s.writable x seq (rowAt 0x2000 4) 0 = true → s.tbSource ≠ 0 → s.tbState = tbLocked →
    s.tb.scheduled = none →
    exec (.tbSourceWrite (x.writeReq seq (rowAt 0x2000 4) 0 0) 0) s = .next (((((((s.touched x seq).closeSpan.withTb fun b =>
      { b with scheduled := none, lastMeas := s.cycles, pathHold := none }).tbGo tbFree).setObj Key.tbSource 0).tbApply)).written x
        seq (rowAt 0x2000 4) 0)) ∧
  (∀ (s : State) (x : Session) (seq : Nat), s.writable x seq (rowAt 0x2000 9) 0 = true → s.tb.scheduled = none →
    s.tbSource ≠ 2 → s.tbState = tbDiscont → s.tb.policy = 1 → s.tb.slewing = false → s.tb.slewed = false →
    exec (.tbDiscontinuityActionSlew (x.writeReq seq (rowAt 0x2000 9) 0 1)) s =
      .next (((s.touched x seq).startSlew (s.obj Key.tbOffset)).written x seq (rowAt 0x2000 9) 0)) ∧
  (∀ (s : State) (x : Session) (seq : Nat), s.writable x seq (rowAt 0x2000 9) 0 = true → s.tb.scheduled = none →
    s.tbSource ≠ 2 → s.tbState = tbDiscont → s.tb.policy = 1 →
    exec (.tbDiscontinuityActionReepoch (x.writeReq seq (rowAt 0x2000 9) 0 2)) s =
      .next (((s.touched x seq).decideReepoch (s.obj Key.tbOffset) false).written x seq (rowAt 0x2000 9) 0)) ∧
  (∀ (s : State) (x : Session) (seq : Nat) (v : Int), s.writable x seq (rowAt 0x2000 5) 0 = true → s.tbSource = 2 →
    (rowAt 0x2000 5).rng.holds s.part v 0 = true → s.tbState = tbLocked →
    exec (.tbRateAdjWrite (x.writeReq seq (rowAt 0x2000 5) 0 v) v) s =
      .next (((((s.touched x seq).closeSpan.setObj Key.tbRateAdj v).withTb fun b =>
        { b with lastRateWrite := s.cycles }).tbApply).written x seq (rowAt 0x2000 5) 0)) ∧
  (∀ (s : State) (x : Session) (seq v : Nat), s.writable x seq (rowAt 0x2010 3) 0 = true → v ≤ 127 →
    s.nat Key.ptpDomain ≠ v → s.tbSource ≠ 2 → s.tbState ≠ tbLocked →
    exec (.ptpInstanceRestart (x.writeReq seq (rowAt 0x2010 3) 0 v) 3 v) s = .next ((((List.range 4).foldl (fun u n =>
      u.setObj (Key.ptpPortState n) (if u.flag (Key.ptpPortEnable n) then 1 else 0)) ((s.touched x seq).setObj Key.ptpDomain
        v)).withTb fun b => { b with ports := [] }).written x seq (rowAt 0x2010 3) 0)) ∧
  (∀ (s : State) (x : Session) (seq : Nat), s.writable x seq (rowAt 0x2030 6) 0 = true →
    exec (.ptpAsymFlagClear (x.writeReq seq (rowAt 0x2030 6) 0 0)) s = .next ((((s.touched x seq).setObj Key.ptpAsymFlag 0).withTb
      fun b => { b with steer := none, ports := b.ports.map fun e => (e.1, { e.2 with agree := 0 }) }).written x seq (rowAt 0x2030 6)
        0)) ∧
  (∀ (s : State) (x : Session) (seq port : Nat) (h : TxStamp) (r : List TxStamp), port < 4 →
    s.writable x seq (rowAt 0x2040 6) port = true → mapGetD port [] s.tb.txts = h :: r → h.ident < 65536 →
    exec (.txtsPop (x.writeReq seq (rowAt 0x2040 6) port h.ident) port h.ident) s = .next (((s.touched x seq).withTb fun b =>
      { b with txts := mapSet port r b.txts }).written x seq (rowAt 0x2040 6) port))

/-- R153, R157, R163, R166, R174: the requests of a lane complete. Choices of the model that it rests on: log 35. -/
def Obligations.LaneRequestsAct : Prop :=
  (∀ (s : State) (x : Session) (seq : Nat) (l : Lane), s.writable x seq (laneEntryRow oCommand l) (laneNumber l) = true →
    s.cendoHere l = true → s.laneUp l = true →
    exec (.laneCommandRetrain (x.writeReq seq (laneEntryRow oCommand l) (laneNumber l) 1) l) s =
      .next (((s.touched x seq).requestRetrain l).written x seq (laneEntryRow oCommand l) (laneNumber l))) ∧
  (∀ (s : State) (x : Session) (seq i : Nat), s.writable x seq (rowAt 0x3009 1) i = true → i < s.part.ports →
    exec (.laneCommandPortReset (x.writeReq seq (rowAt 0x3009 1) i 2) (.camera i)) s =
      .next ((((((s.touched x seq).portReset i).laneReset (.camera i)).laneFollow (.camera i)
        (((s.touched x seq).portReset i).laneState (.camera i)))).written x seq (rowAt 0x3009 1) i)) ∧
  (∀ (s : State) (x : Session) (seq : Nat) (l : Lane), s.writable x seq (laneEntryRow oEnable l) (laneNumber l) = true →
    lanePresent s.part l = true →
    exec (.laneEnableWrite (x.writeReq seq (laneEntryRow oEnable l) (laneNumber l) 0) l 0) s =
      .next ((((((s.touched x seq).setLane l oEnable 0).toSeek l).updLane l fun y => { y with attempt := false }).laneFollow l
        (s.laneState l)).written x seq (laneEntryRow oEnable l) (laneNumber l))) ∧
  (∀ (s : State) (x : Session) (seq : Nat) (l : Lane), s.writable x seq (laneEntryRow oEnable l) (laneNumber l) = true →
    lanePresent s.part l = true → s.laneBist l = false →
    exec (.laneEnableWrite (x.writeReq seq (laneEntryRow oEnable l) (laneNumber l) 1) l 1) s =
      .next ((((((s.touched x seq).setLane l oEnable 1).attemptsResume l)).laneFollow l (s.laneState l)).written x seq
        (laneEntryRow oEnable l) (laneNumber l))) ∧
  (∀ (s : State) (x : Session) (seq i v : Nat), s.writable x seq (rowAt 0x300A 1) i = true → i < s.part.ports → v ≤ 4 →
    (v ≠ 0 → s.feeds i = none) → (v = 4 → (s.laneNat (.camera i) oPartner).testBit 0 = true) →
    ∃ t, exec (.laneTestModeWrite (x.writeReq seq (rowAt 0x300A 1) i v) (.camera i) v) s =
        .next (State.written t x seq (rowAt 0x300A 1) i) ∧ t.laneNat (.camera i) oTestMode = v ∧
      (t.lane (.camera i)).held.testBit 0 = (2 ≤ v)) ∧
  (∀ (s : State) (x : Session) (seq i : Nat), s.writable x seq (rowAt 0x300A 1) i = true → i < s.part.ports →
    s.feeds i = none → s.laneNat (.camera i) oTestMode = 0 →
    ∃ t, exec (.laneTestModeWrite (x.writeReq seq (rowAt 0x300A 1) i 1) (.camera i) 1) s =
        .next (State.written t x seq (rowAt 0x300A 1) i) ∧ t.laneNat (.camera i) oTestMode = 1)

/-- R274, R292, R302, R332, R340, R355: the requests of exposure, warp, codec, trunk and gates complete.
Choices of the model that it rests on: log 27, 36, 40 and 54. -/
def Obligations.ImageRequestsAct : Prop :=
  (∀ (s : State) (x : Session) (seq port : Nat), s.writable x seq (rowAt 0x7026 1) port = true → port < 48 →
    s.nat (Key.expAeMode port) ≠ 1 → s.changing port = false → s.dom (Key.expMap port) ≠ [] →
    exec (.expApplyChange (x.writeReq seq (rowAt 0x7026 1) port 1) port) s = .next (((s.touched x seq).updExp port fun y => { y with
      change := some ((s.touched x seq).makeChange port (s.nat (Key.expSetTime port)) (s.nat (Key.expSetGain port)) false) }).written
        x seq (rowAt 0x7026 1) port)) ∧
  (∀ (s : State) (x : Session) (seq port : Nat), s.writable x seq (rowAt 0x7026 1) port = true → port < 48 →
    s.nat (Key.expAeMode port) ≠ 1 → s.changing port = false → s.dom (Key.expRawBundle port) ≠ [] →
    exec (.expApplyRaw (x.writeReq seq (rowAt 0x7026 1) port 2) port) s = .next (((s.touched x seq).updExp port fun y => { y with
      change := some ((s.touched x seq).makeChange port (s.nat (Key.expSetTime port)) (s.nat (Key.expSetGain port)) true) }).written
        x seq (rowAt 0x7026 1) port)) ∧
  (∀ (s : State) (x : Session) (seq core : Nat), s.writable x seq (rowAt 0x6740 1) core = true → core < 64 →
    s.flag (Key.warpCoreFence core) = true →
    exec (.warpCoreFence (x.writeReq seq (rowAt 0x6740 1) core 0) core 0) s =
      .next ((((s.touched x seq).setObj (Key.warpCoreFence core) 0).raise 0x6004 0 (pathCore core) [byteOf core]).written x seq
        (rowAt 0x6740 1) core)) ∧
  (∀ (s : State) (x : Session) (seq core v : Nat), s.writable x seq (rowAt 0x6740 1) core = true → core < 64 → v ≤ 1 →
    exec (.warpCoreFence (x.writeReq seq (rowAt 0x6740 1) core v) core v) s =
      .next ((warpFenceWrite core v (s.touched x seq)).written x seq (rowAt 0x6740 1) core)) ∧
  (∀ (s : State) (x : Session) (seq engine v : Nat), s.writable x seq (rowAt 0x6743 1) engine = true → engine < 4 → v ≤ 131072 →
    ((List.range 64).any fun w => ctrlEnable (s.liveNat (Key.warpViewCtrl w))) = false → s.scopePending 0x60 = false →
    v + ((((List.range s.part.warps).filter (· != engine)).map fun e => s.nat (Key.warpPartition e)).foldl (· + ·) 0) ≤ 131072 →
    exec (.warpPartitionWrite (x.writeReq seq (rowAt 0x6743 1) engine v) engine v) s =
      .next (((s.touched x seq).setObj (Key.warpPartition engine) v).written x seq (rowAt 0x6743 1) engine)) ∧
  (∀ (s : State) (x : Session) (seq engine : Nat), s.writable x seq (rowAt 0x67A0 1) engine = true → engine < 4 →
    s.flag (Key.codecEngineFence engine) = false → s.codedStreams = [] →
    exec (.codecEngineFence (x.writeReq seq (rowAt 0x67A0 1) engine 1) engine 1) s =
      .next ((((s.touched x seq).setObj (Key.codecEngineFence engine) 1).raise 0x6201 0 (pathCodec engine)
        [byteOf engine, 1]).written x seq (rowAt 0x67A0 1) engine)) ∧
  (∀ (s : State) (x : Session) (seq engine v : Nat), s.writable x seq (rowAt 0x67A0 1) engine = true → engine < 4 → v ≤ 1 →
    exec (.codecEngineFence (x.writeReq seq (rowAt 0x67A0 1) engine v) engine v) s =
      .next ((codecFenceWrite engine v (s.touched x seq)).written x seq (rowAt 0x67A0 1) engine)) ∧
  (∀ (s : State) (x : Session) (seq v : Nat), s.writable x seq (rowAt 0x7100 1) 0 = true → v ≤ 1 →
    exec (.trkEnableWrite (x.writeReq seq (rowAt 0x7100 1) 0 v) v) s =
      .next ((trkEnableWrite v (s.touched x seq)).written x seq (rowAt 0x7100 1) 0)) ∧
  (∀ (s : State) (x : Session) (seq : Nat), s.writable x seq (rowAt 0x7100 1) 0 = true → s.flag Key.trkEnable = false →
    exec (.trkEnableWrite (x.writeReq seq (rowAt 0x7100 1) 0 1) 1) s =
      .next (((((s.touched x seq).setObj Key.trkEnable 1).attemptsResume (.trunk 8)).attemptsResume (.trunk 9)).written x seq
        (rowAt 0x7100 1) 0)) ∧
  (∀ (s : State) (x : Session) (seq port : Nat), s.writable x seq (rowAt 0x7416 1) port = true → port < 4 →
    (s.nxPort port).change = none → s.dom (Key.nxGclAdmin port) ≠ [] → 0 < s.nat (Key.nxAdminCycleTime port) →
    ∃ (l : GateList), exec (.nxGateConfigChange (x.writeReq seq (rowAt 0x7416 1) port 1) port) s =
        .next (((s.touched x seq).updNx port fun p => { p with change := some l }).written x seq (rowAt 0x7416 1) port) ∧
      l.base.epoch = max s.epoch (s.nat (Key.nxAdminBaseEpoch port)) ∧
      ((s.epoch < s.nat (Key.nxAdminBaseEpoch port) ∨ s.now + usUnits 10 ≤ ofTime96 (s.nat (Key.nxAdminBaseTime port))) →
        l.base.t = ofTime96 (s.nat (Key.nxAdminBaseTime port))) ∧
      (s.nat (Key.nxAdminBaseEpoch port) ≤ s.epoch → ofTime96 (s.nat (Key.nxAdminBaseTime port)) < s.now + usUnits 10 →
        ∃ k : Nat, l.base.t = ofTime96 (s.nat (Key.nxAdminBaseTime port)) + k * nsUnits (s.nat (Key.nxAdminCycleTime port)) ∧
          s.now + usUnits 10 ≤ l.base.t ∧ l.base.t < s.now + usUnits 10 + nsUnits (s.nat (Key.nxAdminCycleTime port))) ∧
      l.cycle = s.nat (Key.nxAdminCycleTime port) ∧ l.ext = s.nat (Key.nxAdminCycleExt port) ∧
      l.bytes = s.dom (Key.nxGclAdmin port) ∧ l.entries = gateEntries (s.dom (Key.nxGclAdmin port)))

/-- R377, R379, R385, R387, R389, R394, R397: the requests of DMA channels, engines and FIFOs complete.
Choices of the model that it rests on: log 8 and 42. -/
def Obligations.MoverRequestsAct : Prop :=
  (∀ (s : State) (x : Session) (seq e ch : Nat), s.writable x seq (rowAt 0x7807 1) (64 * e + ch) = true → e < 11 → ch < 64 →
    s.bistOn e = false → ownedByDevice ch = false → s.startRefused e ch = none →
    exec (.dmaStart (x.writeReq seq (rowAt 0x7807 1) (64 * e + ch) 1) e ch) s =
      .next (((s.touched x seq).startChannel e ch).written x seq (rowAt 0x7807 1) (64 * e + ch))) ∧
  (∀ (s : State) (x : Session) (seq e ch : Nat), s.writable x seq (rowAt 0x7807 1) (64 * e + ch) = true → e < 11 → ch < 64 →
    ownedByDevice ch = false → (s.chState e ch = dmaRunning ∨ s.chState e ch = dmaWaiting) →
    exec (.dmaPause (x.writeReq seq (rowAt 0x7807 1) (64 * e + ch) 2) e ch) s =
      .next (((s.touched x seq).pauseChannel e ch).written x seq (rowAt 0x7807 1) (64 * e + ch))) ∧
  (∀ (s : State) (x : Session) (seq e ch : Nat), s.writable x seq (rowAt 0x7807 1) (64 * e + ch) = true → e < 11 → ch < 64 →
    ownedByDevice ch = false → s.chState e ch = dmaFreewheel →
    exec (.dmaResume (x.writeReq seq (rowAt 0x7807 1) (64 * e + ch) 3) e ch) s =
      .next (((s.touched x seq).goOn e ch ((s.touched x seq).runOrWait e ch)).written x seq (rowAt 0x7807 1) (64 * e + ch))) ∧
  (∀ (s : State) (x : Session) (seq e ch : Nat), s.writable x seq (rowAt 0x7807 1) (64 * e + ch) = true → e < 11 → ch < 64 →
    ownedByDevice ch = false → s.chState e ch ≠ dmaIdle → s.chState e ch ≠ dmaLanding →
    exec (.dmaAbort (x.writeReq seq (rowAt 0x7807 1) (64 * e + ch) 4) e ch) s =
      .next (((s.touched x seq).abortChannel e ch 1).written x seq (rowAt 0x7807 1) (64 * e + ch))) ∧
  (∀ (s : State) (x : Session) (seq e : Nat), s.writable x seq (rowAt 0x7830 2) e = true → e < 11 →
    s.nat (Key.dmaEngineState e) = 2 →
    exec (.dmaEngineCommand (x.writeReq seq (rowAt 0x7830 2) e 1) e) s =
      .next (((s.touched x seq).engineResume e).written x seq (rowAt 0x7830 2) e)) ∧
  (∀ (s : State) (x : Session) (seq e v : Nat), s.writable x seq (rowAt 0x7831 4) e = true → e < 11 → v < 2 ^ 32 →
    s.nat (Key.dmaRingRead e) ≤ v → v ≤ s.nat (Key.dmaRingWritten e) →
    exec (.dmaRingReadWrite (x.writeReq seq (rowAt 0x7831 4) e v) e v) s =
      .next (((s.touched x seq).setObj (Key.dmaRingRead e) v).written x seq (rowAt 0x7831 4) e)) ∧
  (∀ (s : State) (x : Session) (seq e : Nat), s.writable x seq (rowAt 0x7831 1) e = true → e < 11 →
    ((s.engineChannels e).any fun ch => ctrlRecord (s.chCtrl e ch)) = false →
    exec (.dmaRingConfigWrite (x.writeReq seq (rowAt 0x7831 1) e 0) e 1 0) s =
      .next (((((s.touched x seq).setObj (Key.dmaRingBase e) 0).setObj (Key.dmaRingWritten e) 0).setObj (Key.dmaRingRead e)
        0).written x seq (rowAt 0x7831 1) e)) ∧
  (∀ (s : State) (x : Session) (seq e v : Nat), s.writable x seq (rowAt 0x7831 1) e = true → e < 11 → v % 32 = 0 → v < 2 ^ 64 →
    s.hostSpan e v (v + 32 * s.nat (Key.dmaRingSize e) - 1) = true →
    ((s.engineChannels e).any fun ch => ctrlRecord (s.chCtrl e ch)) = false →
    exec (.dmaRingConfigWrite (x.writeReq seq (rowAt 0x7831 1) e v) e 1 v) s =
      .next (((((s.touched x seq).setObj (Key.dmaRingBase e) v).setObj (Key.dmaRingWritten e) 0).setObj (Key.dmaRingRead e)
        0).written x seq (rowAt 0x7831 1) e)) ∧
  (∀ (s : State) (x : Session) (seq e v : Nat), s.writable x seq (rowAt 0x7831 2) e = true → e < 11 →
    (rowAt 0x7831 2).rng.holds s.part v (fifoDepth e) = true → s.nat (Key.dmaRingBase e) = 0 →
    ((s.engineChannels e).any fun ch => ctrlRecord (s.chCtrl e ch)) = false →
    exec (.dmaRingConfigWrite (x.writeReq seq (rowAt 0x7831 2) e v) e 2 v) s =
      .next (((((s.touched x seq).setObj (Key.dmaRingSize e) v).setObj (Key.dmaRingWritten e) 0).setObj (Key.dmaRingRead e)
        0).written x seq (rowAt 0x7831 2) e)) ∧
  (∀ (s : State) (x : Session) (seq f : Nat), s.writable x seq (rowAt 0x7B14 1) f = true → f < 636 →
    exec (.fifoDropRemainder (x.writeReq seq (rowAt 0x7B14 1) f 1) f) s =
      .next (((s.touched x seq).updFifo f FifoSt.dropRemainder).written x seq (rowAt 0x7B14 1) f)) ∧
  (∀ (s : State) (x : Session) (seq f : Nat), s.writable x seq (rowAt 0x7B14 1) f = true → f < 636 →
    exec (.fifoFlush (x.writeReq seq (rowAt 0x7B14 1) f 2) f) s =
      .next (((s.touched x seq).updFifo f FifoSt.flush).written x seq (rowAt 0x7B14 1) f)) ∧
  (∀ (s : State) (x : Session) (seq f : Nat), s.writable x seq (rowAt 0x7B10 1) f = true → f < 636 → (s.fifo f).count < 65536 →
    exec (.fifoWmAck (x.writeReq seq (rowAt 0x7B10 1) f (s.fifo f).count) f (s.fifo f).count) s =
      .next (({ s.touched x seq with fifos := mapSet f { s.fifo f with count := 0, up := false, down := false } s.fifos }).written
        x seq (rowAt 0x7B10 1) f))


/-- R421, R430, R433: the commands of the firmware update, the seal and a tandem proposal complete.
Choices of the model that it rests on: log 47 and 51. -/
def Obligations.ProtectRequestsAct : Prop :=
  (∀ (s : State) (x : Session) (seq : Nat), s.writable x seq (rowAt 0x1420 5) 0 = true → s.nat Key.fwState = 0 →
    s.flash.imageOk s.spareImage = true →
    exec (.fwActivate (x.writeReq seq (rowAt 0x1420 5) 0 1)) s = .next (((({ s.touched x seq with
      boot := { s.boot with trial := some s.spareImage } }.setObj Key.fwState 1).raise 0x1411 0 "CX"
        [byteOf s.spareImage])).written x seq (rowAt 0x1420 5) 0)) ∧
  (∀ (s : State) (x : Session) (seq : Nat), s.writable x seq (rowAt 0x1420 5) 0 = true → s.nat Key.fwState = 2 →
    exec (.fwConfirm (x.writeReq seq (rowAt 0x1420 5) 0 2)) s = .next ((((({ s.touched x seq with
      boot := { s.boot with trial := none } }.setObj Key.fwState 0).setObj Key.fwActive (s.nat Key.fwRunning)).raise 0x1412 0 "CX"
        [byteOf (s.nat Key.fwRunning)])).written x seq (rowAt 0x1420 5) 0)) ∧
  (∀ (s : State) (x : Session) (seq : Nat), s.writable x seq (rowAt 0x1400 4) 0 = true → s.flag Key.protSealed = false →
    (s.secret 3).all (· = 0) = false → 2 ≤ ([1, 2, 3].filter fun r => !(s.dom (Key.rolePubkey r)).isEmpty).length →
    exec (.enrolSeal (x.writeReq seq (rowAt 0x1400 4) 0 1)) s = .next (((((s.touched x seq).setFlag Key.protSealed true).setSlot 3
      (extendSlot (s.slot 3) (sha384 (s.dom Key.accessPlan)))).raise 0x1406 1 "CX" []).written x seq (rowAt 0x1400 4) 0)) ∧
  (∀ (s : State) (x : Session) (seq : Nat), s.writable x seq (rowAt 0x1410 7) 0 = true → s.prot.proposal ≠ none →
    exec (.tandemCommand (x.writeReq seq (rowAt 0x1410 7) 0 1)) s =
      .next (((s.touched x seq).dropProposal 2).written x seq (rowAt 0x1410 7) 0))

/-- R111, R424, R425, R430, R431, R433, R434, R463: the BLOCK_ENDs of the entries that have a row of their own complete.
Choices of the model that it rests on: log 21, 34 and 51. -/
def Obligations.BlockEndsAct : Prop :=
  (∀ (s : State) (x : Session) (seq : Nat) (w : Transfer), s.endable x seq w (rowAt 0x2400 1) 0 = true →
    s.ttRefused ((rowAt 0x2400 1).cleanContent (w.result [] w.total)) = none →
    exec (.ttTableWrite (x.endReq seq w) w.handle w.total (crc32 (w.result [] w.total))) s =
      .next (((s.touched x seq).ttWrite ((rowAt 0x2400 1).cleanContent (w.result [] w.total))).ended x seq w)) ∧
  (∀ (s : State) (x : Session) (seq : Nat) (w : Transfer) (n : Nat), s.endable x seq w (rowAt 0x1501 1) 0 = true →
    leAt (w.result [] w.total) 0 1 = n → 5 ≤ n → n ≤ 15 →
    exec (.measExtend (x.endReq seq w) w.handle w.total (crc32 (w.result [] w.total))) s = .next (((s.touched x seq).setSlot n
      (sha384 (s.slot n ++ (w.result [] w.total).drop 1))).ended x seq w)) ∧
  (∀ (s : State) (x : Session) (seq : Nat) (w : Transfer), s.endable x seq w (rowAt 0x1504 1) 0 = true →
    exec (.rollcallNonce (x.endReq seq w) w.handle w.total (crc32 (w.result [] w.total))) s = .next (({ s.touched x seq with
      prot := { s.prot with rollcalls := s.prot.rollcalls.filter (·.sid ≠ x.sid) ++ [RollCall.mk x.sid (w.result [] w.total) none] }
        } : State).ended x seq w)) ∧
  (∀ (s : State) (x : Session) (seq : Nat) (w : Transfer) (c : Change1) (o : Obj) (i : Nat),
    s.endable x seq w (rowAt 0x1410 1) 0 = true → s.flag Key.protSealed = true → s.prot.proposal = none →
    parseProposal (w.result [] w.total) = ([c], true) → s.rwpEntry c.index c.sub = some (o, i) →
    rwpLength o i c.value.length = true → rwpRange o i c.value = true →
    exec (.tandemProposal (x.endReq seq w) w.handle w.total (crc32 (w.result [] w.total))) s = .next ((({ s.touched x seq with
      prot := { s.prot with proposal := some (Proposal.mk (w.result [] w.total) s.cycles [] 0 false) } } : State).raise 0x1401 0 "CX"
        [1, 0]).ended x seq w)) ∧
  (∀ (s : State) (x : Session) (seq : Nat) (w : Transfer) (p : Proposal), s.endable x seq w (rowAt 0x1410 3) 0 = true →
    s.prot.proposal = some p → p.deferred = false → p.signed = [] → p.bad < 2 →
    1 ≤ leAt (w.result [] w.total) 0 1 → leAt (w.result [] w.total) 0 1 ≤ 3 →
    s.dom (Key.rolePubkey (leAt (w.result [] w.total) 0 1)) ≠ [] →
    exec (.tandemSign (x.endReq seq w) w.handle w.total (crc32 (w.result [] w.total))) s = .next
      (if ecdsaVerify (s.dom (Key.rolePubkey (leAt (w.result [] w.total) 0 1))) (s.changeDigest p.bytes)
          (beAt (w.result [] w.total) 1 48) (beAt (w.result [] w.total) 49 48) then
        ((({ s.touched x seq with prot := { s.prot with
          proposal := some { p with signed := [leAt (w.result [] w.total) 0 1] } } } : State).raise 0x1402 0 "CX"
            [byteOf (leAt (w.result [] w.total) 0 1)]).ended x seq w).closeChanged s.prot.secrets
      else (({ s.touched x seq with prot := { s.prot with proposal := some { p with bad := p.bad + 1 } } } : State).raise 0x1405 2
        "CX" [byteOf (leAt (w.result [] w.total) 0 1)]).endRefused x seq w abPlan)) ∧
  (∀ (s : State) (x : Session) (seq : Nat) (w : Transfer) (r : Nat), s.endable x seq w (rowAt 0x1401 1) r = true → r < 4 →
    s.flag Key.protSealed = false → x.role = 3 →
    exec (.roleSecretWrite (x.endReq seq w) w.handle w.total (crc32 (w.result [] w.total))) s = .next
      (match unwrapSecret r (w.result [] w.total) with
        | some k => if k.all (· = 0) then (s.touched x seq).endRefused x seq w abRange
          else (({ s.touched x seq with prot := { s.prot with secrets := s.prot.secrets.set r k } } : State).ended x seq w).closeSessions
            fun y => y.open_ && y.role = r && y.sid ≠ x.sid
        | none => (s.touched x seq).endRefused x seq w abRange)) ∧
  (∀ (s : State) (x : Session) (seq : Nat) (w : Transfer), s.endable x seq w (rowAt 0x1400 1) 0 = true →
    s.flag Key.protSealed = false → x.role = 3 → planValid (w.result [] w.total) = true → (w.result [] w.total).length = 64 →
    exec (.accessPlanWrite (x.endReq seq w) w.handle w.total (crc32 (w.result [] w.total))) s =
      .next ((((s.touched x seq).setDom Key.accessPlan (w.result [] w.total)).ended x seq w).afterRwp (rowAt 0x1400 1) 0 x.sid)) ∧
  (∀ (s : State) (x : Session) (seq : Nat) (w : Transfer), s.endable x seq w (rowAt 0x8100 1) 0 = true →
    trimCrcOk (w.result [] w.total) = true → trimFields (w.result [] w.total) = true → s.cal.running = none →
    exec (.calTrimsWrite (x.endReq seq w) w.handle w.total (crc32 (w.result [] w.total))) s =
      .next (((s.touched x seq).setTrims (w.result [] w.total) 2).ended x seq w))

/-- R439, R443 to R445, R447, R457: the requests of power, resets and recovery complete; what they lead to follows the response.
Choices of the model that it rests on: log 49 and 50. -/
def Obligations.PowerRequestsAct : Prop :=
  (∀ (s : State) (x : Session) (seq : Nat), s.writable x seq (rowAt 0x1200 2) 0 = true → s.nat Key.fwState ≠ 2 →
    s.boot.outOfService = false → s.store.snapshot = none → s.nat Key.pwrState = 0 → s.powerBusy = false →
    exec (.pwrCommandStandby (x.writeReq seq (rowAt 0x1200 2) 0 1)) s =
      .next (((s.touched x seq).written x seq (rowAt 0x1200 2) 0).beginEntry 1 (s.nat Key.pwrDrainLimit))) ∧
  (∀ (s : State) (x : Session) (seq : Nat), s.writable x seq (rowAt 0x1200 2) 0 = true → s.nat Key.fwState ≠ 2 →
    s.boot.outOfService = false → s.store.snapshot = none → s.nat Key.pwrState = 0 → s.powerBusy = false →
    exec (.pwrCommandParked (x.writeReq seq (rowAt 0x1200 2) 0 2)) s =
      .next (((s.touched x seq).written x seq (rowAt 0x1200 2) 0).beginEntry 2 (s.nat Key.pwrDrainLimit))) ∧
  (∀ (s : State) (x : Session) (seq : Nat), s.writable x seq (rowAt 0x1200 2) 0 = true → s.nat Key.fwState ≠ 2 →
    s.boot.outOfService = false → s.store.snapshot = none → s.nat Key.pwrState ≠ 0 → s.powerBusy = false →
    exec (.pwrCommandRun (x.writeReq seq (rowAt 0x1200 2) 0 3)) s =
      .next (((s.touched x seq).written x seq (rowAt 0x1200 2) 0).wakeUp 1)) ∧
  (∀ (s : State) (x : Session) (seq d v : Nat), s.writable x seq (rowAt 0x8000 1) d = true → d < 59 → v ≤ 1 →
    s.nat Key.pwrState ≠ 0 →
    exec (.pwrDomainEnableWrite (x.writeReq seq (rowAt 0x8000 1) d v) d v) s =
      .next (((s.touched x seq).setObj (Key.pwrDomainEnable d) v).written x seq (rowAt 0x8000 1) d)) ∧
  (∀ (s : State) (x : Session) (seq : Nat), s.writable x seq (rowAt 0x8000 1) 58 = true → s.nat Key.pwrState = 0 →
    s.domainOn 58 = true →
    ∃ t, exec (.pwrDomainEnableWrite (x.writeReq seq (rowAt 0x8000 1) 58 0) 58 0) s =
        .next (State.written t x seq (rowAt 0x8000 1) 58) ∧
      t = { ((s.touched x seq).setObj (Key.pwrDomainEnable 58) 0).dropDomain 1 58 with pwr := { s.pwr with
        switching := mapSet 58 0 (mapDel 58 s.pwr.switching) } }) ∧
  (∀ (s : State) (x : Session) (seq : Nat), s.writable x seq (rowAt 0x1201 1) 0 = true →
    exec (.rstDevice (x.writeReq seq (rowAt 0x1201 1) 0 1)) s = .next ((((s.touched x seq).written x seq (rowAt 0x1201 1) 0).raise
      0x1205 1 "CX" (leBytes 2 x.sid)).deviceReset 2)) ∧
  (∀ (s : State) (x : Session) (seq c : Nat), s.writable x seq (rowAt 0x1201 2) 0 = true → c < 10 → s.part.has .cluster c = true →
    exec (.rstCluster (x.writeReq seq (rowAt 0x1201 2) 0 c) c) s =
      .next (((s.touched x seq).written x seq (rowAt 0x1201 2) 0).clusterReset c 0)) ∧
  (∀ (s : State) (x : Session) (seq : Nat), s.writable x seq (rowAt 0xA000 7) 0 = true →
    ∃ t, exec (.rcvClear (x.writeReq seq (rowAt 0xA000 7) 0 1)) s = .next (State.written t x seq (rowAt 0xA000 7) 0) ∧
      t.rcv.crossings = [] ∧ t.nat Key.rcvFwCount = 0)

/-- R466 to R469, R475 to R486: the requests of calibration and test complete.
Choices of the model that it rests on: log 52 and 53. -/
def Obligations.ServiceRequestsAct : Prop :=
  (∀ (s : State) (x : Session) (seq : Nat), s.writable x seq (rowAt 0x8101 1) 0 = true → s.domainOn 63 = true →
    s.cal.running = none → s.cal.saving = none → s.dap.transfers = [] →
    exec (.calOscProcedure (x.writeReq seq (rowAt 0x8101 1) 0 1)) s = .next ((({ s.touched x seq with
      cal := { s.cal with running := some (1, s.nat Key.calTarget, s.cycles) } }.setObj Key.calStatus 1).setObj Key.calResult
        0).written x seq (rowAt 0x8101 1) 0)) ∧
  (∀ (s : State) (x : Session) (seq : Nat), s.writable x seq (rowAt 0x8101 1) 0 = true → s.domainOn 63 = true →
    s.boot.outOfService = true → s.cal.running = none → s.cal.saving = none → s.dap.transfers = [] →
    exec (.calSupplyProcedure (x.writeReq seq (rowAt 0x8101 1) 0 2)) s = .next ((({ s.touched x seq with
      cal := { s.cal with running := some (2, s.nat Key.calTarget, s.cycles) } }.setObj Key.calStatus 1).setObj Key.calResult
        0).written x seq (rowAt 0x8101 1) 0)) ∧
  (∀ (s : State) (x : Session) (seq i : Nat), s.writable x seq (rowAt 0x8101 1) 0 = true → s.domainOn 63 = true →
    s.nat Key.calTarget = i → i < s.part.ports → s.feeds i = none → s.cal.running = none → s.cal.saving = none →
    s.dap.transfers = [] →
    exec (.calCameraProcedure (x.writeReq seq (rowAt 0x8101 1) 0 3)) s = .next ((((({ s.touched x seq with
      cal := { s.cal with running := some (3, i, s.cycles) } }.setObj Key.calStatus 1).setObj Key.calResult
        0).holdLane (.camera i) 1).laneFollow (.camera i) ((({ s.touched x seq with
          cal := { s.cal with running := some (3, i, s.cycles) } }.setObj Key.calStatus 1).setObj Key.calResult
            0).laneState (.camera i))).written x seq (rowAt 0x8101 1) 0)) ∧
  (∀ (s : State) (x : Session) (seq n : Nat), s.writable x seq (rowAt 0x8101 1) 0 = true → s.domainOn 63 = true →
    s.nat Key.calTarget = n → s.part.hasNx = true → n < 4 → s.laneState (.eth n) = lnActive →
    s.flag (Key.ptpPortEnable n) = false → s.cal.running = none → s.cal.saving = none → s.dap.transfers = [] →
    exec (.calEthProcedure (x.writeReq seq (rowAt 0x8101 1) 0 4)) s = .next ((({ s.touched x seq with
      cal := { s.cal with running := some (4, n, s.cycles) } }.setObj Key.calStatus 1).setObj Key.calResult
        0).written x seq (rowAt 0x8101 1) 0)) ∧
  (∀ (s : State) (x : Session) (seq : Nat), s.writable x seq (rowAt 0x8101 1) 0 = true → s.domainOn 63 = true →
    s.nat Key.calTarget = 0 → s.nat (Key.bellPinMode 0) = 1 → s.cal.running = none → s.cal.saving = none →
    s.dap.transfers = [] →
    exec (.calBellProcedure (x.writeReq seq (rowAt 0x8101 1) 0 5)) s = .next ((({ s.touched x seq with
      cal := { s.cal with running := some (5, 0, s.cycles) } }.setObj Key.calStatus 1).setObj Key.calResult
        0).written x seq (rowAt 0x8101 1) 0)) ∧
  (∀ (s : State) (x : Session) (seq : Nat), s.writable x seq (rowAt 0x8101 1) 0 = true → s.cal.saving = none →
    exec (.calSave (x.writeReq seq (rowAt 0x8101 1) 0 6)) s = .next (({ s.touched x seq with
      cal := { s.cal with saving := some (s.dom Key.calTrims) } } : State).written x seq (rowAt 0x8101 1) 0)) ∧
  (∀ (s : State) (x : Session) (seq : Nat), s.writable x seq (rowAt 0x8101 1) 0 = true →
    exec (.calRevert (x.writeReq seq (rowAt 0x8101 1) 0 7)) s =
      .next (((s.touched x seq).setTrims (factoryTrims s.part.ports) 0).written x seq (rowAt 0x8101 1) 0)) ∧
  (∀ (s : State) (x : Session) (seq c t c0 : Nat), s.writable x seq (rowAt 0x8101 1) 0 = true → s.cal.running = some (c, t, c0) →
    exec (.calAbort (x.writeReq seq (rowAt 0x8101 1) 0 8)) s = .next (((((s.touched x seq).calOver c t 3 3).raise 0x8102 1
      (pathCal c) [byteOf c, byteOf t, 3])).written x seq (rowAt 0x8101 1) 0)) ∧
  (∀ (s : State) (x : Session) (seq p : Nat), s.writable x seq (rowAt 0x9000 1) p = true → p < 24 → s.pipeNamed p = false →
    s.nat (Key.testPipeFence p) = 0 →
    exec (.testPipeFence (x.writeReq seq (rowAt 0x9000 1) p 1) p 1) s = .next ((((s.touched x seq).setObj (Key.testPipeFence p)
      1).raise 0x9004 0 (pathPipe p) [1]).written x seq (rowAt 0x9000 1) p)) ∧
  (∀ (s : State) (x : Session) (seq p : Nat), s.writable x seq (rowAt 0x9000 1) p = true → p < 24 → (s.pipe p).inj = none →
    s.nat (Key.testPipeFence p) = 1 →
    exec (.testPipeFence (x.writeReq seq (rowAt 0x9000 1) p 0) p 0) s = .next ((((s.touched x seq).setObj (Key.testPipeFence p)
      0).raise 0x9004 0 (pathPipe p) [0]).written x seq (rowAt 0x9000 1) p)) ∧
  (∀ (s : State) (x : Session) (seq p : Nat) (d : Bytes), s.writable x seq (rowAt 0x9002 1) p = true → p < 24 →
    s.dom (Key.testInjectDesc p) = d → s.flag (Key.testPipeFence p) = true → s.domainOn (pipeDomain p) = true →
    s.domainOn 63 = true → s.flag Key.memDramReady = true → (s.pipe p).inj = none → injectFields d = true →
    dramBase ≤ leAt d 0 8 → leAt d 0 8 + injectBytes d ≤ dramBase + s.hostBytes →
    (leAt d 8 2 * leAt d 13 1 + 64) * 1000000000 ≤ 1500000000 * leAt d 16 4 → leAt d 10 2 * leAt d 16 4 ≤ leAt d 40 4 * 1000 →
    leAt d 20 2 = s.epoch → s.now + usUnits 10 ≤ ofTime96 (leAt d 22 12) → leAt d 38 2 ≠ 0 →
    exec (.testInjectStart (x.writeReq seq (rowAt 0x9002 1) p 1) p) s = .next ((((((s.touched x seq).updInput (2 * p) fun y => { y with
      lastHanded := some ((leAt d 34 4 + (2 ^ 32 - 1)) % 2 ^ 32) }).updPipe p fun y => { y with inj := some (Inject.mk d 0 (some (leAt d 38 2)) false) }).setObj (Key.testInjectState p) 1).setObj (Key.testInjectFrames p)
        0).written x seq (rowAt 0x9002 1) p)) ∧
  (∀ (s : State) (x : Session) (seq p : Nat) (j : Inject), s.writable x seq (rowAt 0x9002 1) p = true → p < 24 →
    (s.pipe p).inj = some j → (s.frames.any fun f => f.synthetic && f.pipe = some p && !f.closed) = true →
    exec (.testInjectStop (x.writeReq seq (rowAt 0x9002 1) p 2) p) s = .next (((s.touched x seq).updPipe p fun y => { y with
      inj := some { j with stopping := true } }).written x seq (rowAt 0x9002 1) p)) ∧
  (∀ (s : State) (x : Session) (seq k v : Nat), s.writable x seq (rowAt 0x9010 1) k = true → k < 16 →
    (rowAt 0x9010 1).clean (v : Int) = v → v < 2 ^ 64 → (rowAt 0x9010 1).rng.holds s.part v (fifoDepth k) = true →
    exec (.testGoldenSpec (x.writeReq seq (rowAt 0x9010 1) k v) k v) s = .next (((((s.touched x seq).setObj (Key.testGoldenSpec k)
      v).setObj (Key.testGoldenResult k) 1).setObj (Key.testGoldenSeen k) 0).written x seq (rowAt 0x9010 1) k)) ∧
  (∀ (s : State) (x : Session) (seq m : Nat), s.writable x seq (rowAt 0x9020 1) m = true → m < 8 → s.quiesced m = true →
    s.domainOn (6 * m + 5) = true → s.bistOn m = false →
    exec (.testBistCommand (x.writeReq seq (rowAt 0x9020 1) m 1) m) s = .next (((((s.touched x seq).setObj (Key.testBistResult m)
      1).setObj (Key.testBistFails m) 0).setObj (Key.testBistFirstAddr m) 0).written x seq (rowAt 0x9020 1) m)) ∧
  (∀ (s : State) (x : Session) (seq : Nat), s.writable x seq (rowAt 0x9030 1) 0 = true → s.boot.outOfService = true →
    exec (.testDramRetrain (x.writeReq seq (rowAt 0x9030 1) 0 1)) s = .next (({ (s.touched x seq).setFlag Key.memDramReady false with
      dram := { s.dram with training := true } } : State).written x seq (rowAt 0x9030 1) 0))


/-! Chapter 03: the time base. -/

/-- R91 to R93, R164, R367: what each kind of message does at a port that takes it; one that is not taken does nothing; an Announce lets
the best master decide the port's state; and at the interval a master port on its own sends Sync, Follow_Up, an Announce where one is
due and, with peer delay, Pdelay_Req. Choices of the model that it rests on: log 19, 20 and 41. -/
def Obligations.PtpActs : Prop :=
  (∀ (s : State) n h m, s.part.hasNx = true → n < 4 → s.ptpTakes n h = false → exec (.ptpMessage n h m) s = .next s) ∧
  (∀ s n h origin, s.part.hasNx = true → n < 4 → s.ptpTakes n h = true →
    exec (.ptpMessage n h (.oneStepSync origin)) s = .next (s.ptpOffset n (s.now - s.ethTrim 28 n) origin)) ∧
  (∀ (s : State) n h, s.part.hasNx = true → n < 4 → s.ptpTakes n h = true →
    exec (.ptpMessage n h .twoStepSync) s =
      .next (s.setPtpPort n { s.ptpPort n with lastSync := ⟨s.epoch, s.now - s.ethTrim 28 n⟩, measured := true })) ∧
  (∀ s n h origin, s.part.hasNx = true → n < 4 → s.ptpTakes n h = true → (s.ptpPort n).measured = true →
    (s.ptpPort n).lastSync.epoch = s.epoch →
    exec (.ptpMessage n h (.followUp origin)) s =
      .next ((s.setPtpPort n { s.ptpPort n with measured := false }).ptpOffset n (s.ptpPort n).lastSync.t origin)) ∧
  (∀ s n h d, s.part.hasNx = true → n < 4 → s.ptpTakes n h = true →
    exec (.ptpMessage n h (.pathDelay d)) s = .next (s.ptpDelay n d)) ∧
  (∀ s n h, s.part.hasNx = true → n < 4 → s.ptpTakes n h = true → s.nat Key.ptpProfile = 0 → s.ptpState n = 3 →
    exec (.ptpMessage n h .delayReq) s = .next (s.send (.ptp n 9 (byteOf (s.nat Key.ptpDomain) ::
      beBytes 12 (toTime96 ((s.now : Int) - s.ethTrim 28 n).toNat) ++ beBytes 10 h.sender)))) ∧
  (∀ s n h, s.part.hasNx = true → n < 4 → s.ptpTakes n h = true → s.nat Key.ptpProfile ≠ 0 →
    exec (.ptpMessage n h .pdelayReq) s = .next ((s.sendEvent n 3 (byteOf (s.nat Key.ptpDomain) ::
      beBytes 12 (toTime96 ((s.now : Int) - s.ethTrim 28 n).toNat) ++ beBytes 10 h.sender)).send (.ptp n 10
        (byteOf (s.nat Key.ptpDomain) :: beBytes 12 (toTime96 (s.now + s.ethTrim 36 n).toNat) ++ beBytes 10 h.sender)))) ∧
  (∀ s n h d, s.part.hasNx = true → n < 4 → s.ptpTakes n h = true →
    (∀ m, m < 4 → m ≠ n → s.flag (Key.ptpPortEnable m) = false) →
    ∃ t, exec (.ptpMessage n h (.announce d)) s = .next t ∧ (t.ptpPort n).heard = some (h.sender, d) ∧
      t.nat (Key.ptpPortState n) =
        if s.nat Key.ptpPriority1 < 255 && lexLess (ptpQuality s.ownDataset) (ptpQuality d) then 3 else 2) ∧
  (∀ s : State, s.part.hasNx = true → s.tbSource ≠ 2 → s.syncInterval ≤ s.since s.tb.syncSent →
    (∀ m, m < 4 → 0 < m → s.flag (Key.ptpPortEnable m) = false) → s.flag (Key.ptpPortEnable 0) = true →
    s.nat (laneKey oState (.eth 0)) = lnActive → s.ptpState 0 = 3 → s.nat Key.ptpProfile ≠ 0 →
    exec .ptpSyncTransmit s = .next (((((s.withTb fun b => { b with syncSent := s.cycles }).sendEvent 0 0
      [byteOf (s.nat Key.ptpDomain)]).send (.ptp 0 8 (byteOf (s.nat Key.ptpDomain) ::
        beBytes 12 (toTime96 (s.now + s.ethTrim 36 0).toNat)))).sendAnnounce 0).sendEvent 0 2 [byteOf (s.nat Key.ptpDomain)]))

/-- R81, R85, R87, R94 to R96, R104, R105, R471: what the time base does on its own completes.
Choices of the model that it rests on: log 11 and 41. -/
def Obligations.TimeBaseActs : Prop :=
  (∀ s : State, (s.tbSource = 1 ∨ s.tbSource = 3) → s.sourceSilent = true → s.tbState = tbLocked →
    exec .sourceTimeout s = .next (s.tbGo tbHoldover)) ∧
  (∀ s : State, (s.tbSource = 1 ∨ s.tbSource = 3) → s.sourceSilent = true → s.tbState = tbAcquire → s.firstDecided = false →
    exec .sourceTimeout s = .next (s.tbGo tbFree)) ∧
  (∀ s : State, (s.tbSource = 1 ∨ s.tbSource = 3) → s.sourceSilent = true → s.tbState = tbDiscont → s.tb.slewing = true →
    exec .sourceTimeout s = .next (s.tbGo tbHoldover)) ∧
  (∀ (s : State) (t n : Nat), s.tb.pathHold = some t → t ≤ s.cycles → s.steerPort = some n → s.isRing n = true →
    s.ringA ≠ s.ringB → (s.ptpPort n).alone = true →
    exec .pathHoldEnd s = .next ((((s.withTb fun b => { b with pathHold := none }).setPtpPort n { s.ptpPort n with
      changed := false, alone := false, rerouted := true }).setPtpPort (s.otherRing n) { s.ptpPort (s.otherRing n) with
        changed := false }))) ∧
  (∀ (s : State) (t n : Nat), s.tb.pathHold = some t → t ≤ s.cycles → s.steerPort = some n → s.isRing n = true →
    s.ringA ≠ s.ringB → (s.ptpPort n).alone = false → s.hears (s.otherRing n) = true → s.ringAgrees = false →
    (s.ptpPort (s.otherRing n)).changed = false →
    exec .pathHoldEnd s = .next ((((s.withTb fun b => { b with pathHold := none }).setPtpPort n { s.ptpPort n with
      changed := false, alone := false }).setPtpPort (s.otherRing n) { s.ptpPort (s.otherRing n) with
        changed := false }).excludePort n)) ∧
  (∀ s : State, s.tb.slewing = true → s.tb.slewEnd ≤ s.cycles →
    exec .slewEnd s = .next ((s.withTb fun b => { b with slewing := false, slewed := true }).servoP)) ∧
  (∀ s r, s.tb.scheduled = some r → r.ts ≤ (s.now : Int) → s.commits.pending = [] → s.bells.runs = [] →
    exec .reepoch s = .next (s.reepochTime r)) ∧
  (∀ s : State, s.tbSource = 2 → s.tbState = tbLocked →
    secCycles (s.nat Key.tbExtWatchdog) ≤ s.since (max s.tb.lastRateWrite s.tb.lockedSince) →
    exec .tbExtWatchdog s = .next (s.tbGo tbHoldover)) ∧
  (∀ s : State, s.flag Key.tbOscLost = false → s.tbState = tbLocked →
    exec .tbOscLost s = .next ((((s.setFlag Key.tbOscLost true).withTb fun b => { b with
      candidate := none }).raise 0x2008 2 "AX.TB" []).tbGo tbHoldover)) ∧
  (∀ s : State, s.flag Key.tbOscLost = true →
    exec .tbOscRestored s = .next ((s.setFlag Key.tbOscLost false).raise 0x2009 0 "AX.TB" [])) ∧
  (∀ s : State, s.tbState = tbHoldover → s.tb.holdAlarm = false →
    secCycles (s.nat Key.tbHoldoverAlarm) ≤ s.since s.tb.holdSince →
    exec .tbHoldoverAlarm s = .next ((s.withTb fun b => { b with holdAlarm := true }).raise 0x200D 1 "AX.TB"
      (leBytes 4 (s.since s.tb.holdSince / secCycles 1)))) ∧
  (∀ s t, s.tb.fastSince = some t → secCycles 3600 ≤ s.since t → s.tb.advised = none →
    exec .oscRecalAdvice s = .next ((s.withTb fun b => { b with advised := some s.cycles }).raise 0x8103 1 "AX.TB"
      (leBytes 8 (ofSigned 64 s.tbFreq))))

/-! Chapter 04: the Carillon. -/

/-- R115 to R118, R123: a bell unit loads, starves and fires, a pulse ends, and a time-launched commit becomes pending.
Choices of the model that it rests on: log 45. -/
def Obligations.BellsAct : Prop :=
  (∀ s f, s.firstFiring = some f → s.bells.units.length < 256 → f.deadline - (usUnits 1000 : Nat) ≤ (s.now : Int) →
    s.missed f.deadline = false → f.unit.entry < 4096 → f.unit.sampled = true → (s.ttEntry f.unit.entry).action ≠ 6 →
    exec .bellLoad s = .next ((({ s with bells := { s.bells with units := s.bells.units ++ [f.unit] } }.updRun f.unit.entry
      fun r => { r with next := r.pass (r.next + 1) }).settleRun f.unit.entry))) ∧
  (∀ s f, s.firstFiring = some f → s.bells.units.length < 256 → f.deadline - (usUnits 1000 : Nat) ≤ (s.now : Int) →
    s.missed f.deadline = false → 4096 ≤ f.unit.entry →
    exec .bellLoad s = .next { s with bells := { s.bells with units := s.bells.units ++ [f.unit] } }) ∧
  (∀ s f, s.firstFiring = some f → f.deadline ≤ (s.now : Int) → (256 ≤ s.bells.units.length ∨ s.missed f.deadline = true) →
    f.unit.entry < 4096 → (s.ttEntry f.unit.entry).action ≠ 2 →
    exec .bellStarved s = .next (((((s.bump Key.bellStarvedCount).updRun f.unit.entry fun r => { r with
      next := r.pass (r.next + 1), skipped := satAdd 32 r.skipped 1, passed := r.next :: r.passed }).settleRun f.unit.entry).raise
        0x2403 2 "AX.TT" (leBytes 2 f.unit.entry ++ leBytes 4 f.unit.k)))) ∧
  (∀ s f, s.firstFiring = some f → f.deadline ≤ (s.now : Int) → (256 ≤ s.bells.units.length ∨ s.missed f.deadline = true) →
    4096 ≤ f.unit.entry →
    exec .bellStarved s = .next (((s.bump Key.bellStarvedCount).updExp (f.unit.entry - 4096) fun x => { x with
      starved := some f.unit.act }).raise 0x2403 2 "AX.TT" (leBytes 2 0xFFFF ++ leBytes 4 0))) ∧
  (∀ s u, s.bells.units = [u] → u.entry < 4096 → u.sampled = true → s.reached u.act = true →
    (s.ttEntry u.entry).action = 1 →
    exec .bellFire s = .next (((({ s with bells := { s.bells with units := [] } }.updRun u.entry fun r => { r with
      after := max r.after (u.k + 1), fired := satAdd 32 r.fired 1, raised := [] }).pulsePin (s.ttEntry u.entry).target
        (s.ttEntry u.entry).width (s.ttEntry u.entry).trim).settleRun u.entry))) ∧
  (∀ (s : State) (pin : Nat) (p : Pulse), pin < 16 → mapGet pin s.bells.pulses = some p → p.ends ≤ s.cycles → s.nat (Key.bellPinMode pin) ≠ 0 →
    exec (.bellPulseEnd pin) s = .next ({ s with bells := { s.bells with pulses := mapDel pin s.bells.pulses } }.send
      (.bellPin pin (s.nat (Key.bellPinMode pin) = 2) p.taps))) ∧
  (∀ s c, s.waitingCommits = [c] → s.reached c.at_ = true → s.sup.dip = false →
    exec .commitUnitFire s = .next { s with commits := { s.commits with
      pending := s.commits.pending.map fun x => if x = c then { c with waiting := false, timed := true, held := false } else x } })

/-! Chapter 06: capture. -/

/-- R138 to R141, R168 to R192: what arrives at a camera port in service, character by character, completes, and so do the watches over
its frames. Choices of the model that it rests on: log 37. -/
def Obligations.CaptureActs : Prop :=
  (∀ (s h : State) (i sframe : Nat) pos x, i < s.part.ports → s.laneUp (.camera i) = true → s.openFrame i = none →
    s.pwr.stopFs = false → sframe < 2 ^ 32 → s.liveNat (Key.capNexp i) < 256 → s.liveNat (Key.capFormat i) < 256 →
    x = framePacketLine pos k280 (beBytes 4 sframe ++ [byteOf (s.liveNat (Key.capNexp i)), byteOf (s.liveNat (Key.capFormat i)), 0, 0]) →
    s.steady (.camera i) x = true → h = s.heard (.camera i) x →
    ∃ t, exec (.fsArrival i x) s = .next (State.laneFollow t (.camera i) (s.laneState (.camera i))) ∧
      (let u := h.updPort i fun x => { x with discard := false }
      let r := u.takeCapture i (u.fsStamp i)
      let v := (((r.1.checkIdle i).updPort i fun x => { x with owed := x.owed ||| r.2.getD 0 }).noteArrival i (u.fsStamp i))
      t = if s.liveNat (Key.capNexp i) = v.liveNat (Key.capNexp i) ∧ s.liveNat (Key.capFormat i) = v.liveNat (Key.capFormat i)
        then v.acceptFs i sframe (u.fsStamp i)
        else (v.bump (Key.capFsRejected i)).capRaise i 0x4004 1
          [byteOf (s.liveNat (Key.capNexp i)), byteOf (s.liveNat (Key.capFormat i))])) ∧
  (∀ (s h : State) (i line : Nat) pos x, ∀ (stream format : Byte) (payload : Bytes), i < s.part.ports → s.laneUp (.camera i) = true →
    s.openFrame i = none → (s.port i).discard = false → line < 65536 → payload.length < 65536 →
    x = packetLine pos k277 k297 ([stream, format] ++ beBytes 2 line ++ beBytes 2 payload.length ++ payload) →
    s.steady (.camera i) x = true → h = s.heard (.camera i) x →
    exec (.linePacket i x) s = .next ((h.bump (Key.capLinesDiscarded i)).laneFollow (.camera i) (s.laneState (.camera i)))) ∧
  (∀ (s h : State) (i line : Nat) f pos x, ∀ (stream : Byte) (payload : Bytes), i < s.part.ports → s.laneUp (.camera i) = true →
    s.openFrame i = some f → s.frameOf f.fid = some f → 0 < line → line < f.height → line < 65536 → f.format < 256 →
    stream.toNat % 4 < f.nexp → f.nextLine.getD (stream.toNat % 4) 0 = line → s.ingressFull f = false →
    payload.length = f.lineBytes → payload.length < 65536 → f.port = i →
    x = packetLine pos k277 k297 ([stream, byteOf f.format] ++ beBytes 2 line ++ beBytes 2 payload.length ++ payload) →
    s.steady (.camera i) x = true → h = s.heard (.camera i) x →
    exec (.linePacket i x) s =
      .next ((h.storeLine f (stream.toNat % 4) line payload true).laneFollow (.camera i) (s.laneState (.camera i)))) ∧
  (∀ (s h : State) (i line : Nat) f pos x, ∀ (stream format : Byte) (payload : Bytes), i < s.part.ports → s.laneUp (.camera i) = true →
    s.openFrame i = some f → f.embedded < 16 → line < 16 → payload.length < 65536 →
    x = packetLine pos k237 k297 ([stream, format] ++ beBytes 2 line ++ beBytes 2 payload.length ++ payload) →
    s.steady (.camera i) x = true → h = s.heard (.camera i) x →
    exec (.embeddedPacket i x) s = .next ((
      if s.dom (Key.expEchoMap i) ≠ [] ∧ line = leAt (s.dom (Key.expEchoMap i)) 0 1 ∧ f.echoLate = false ∧ f.echo = none
        then (h.updFrame f.fid fun x => { x with embedded := x.embedded + 1 }).takeEcho f payload
        else h.updFrame f.fid fun x => { x with embedded := x.embedded + 1 }).laneFollow (.camera i) (s.laneState (.camera i)))) ∧
  (∀ (s h : State) (i sframe lines : Nat) f pos x, i < s.part.ports → s.laneUp (.camera i) = true → s.openFrame i = some f →
    x = framePacketLine pos k284 (beBytes 4 sframe ++ beBytes 2 lines ++ [0, 0]) →
    s.steady (.camera i) x = true → h = s.heard (.camera i) x →
    exec (.fePacket i x) s =
      .next ((retrainAtFe (.camera i) (h.closeAtEnd f false)).laneFollow (.camera i) (s.laneState (.camera i)))) ∧
  (∀ (s : State) (i : Nat) f, i < s.part.ports → s.openFrame i = some f →
    usCycles (f.framePeriod + s.liveNat (Key.capCadenceMargin i)) ≤ s.since f.arrived →
    exec (.feWatchdog i) s = .next (s.closeAtEnd f true)) ∧
  (∀ (s : State) (i : Nat) t0, i < s.part.ports → (s.port i).lastFs = some t0 → s.laneUp (.camera i) = true →
    s.liveNat (Key.capTimeMode i) = 1 →
    usCycles (s.liveNat (Key.capFramePeriod i) + s.liveNat (Key.capCadenceMargin i) +
      (s.port i).misses * s.liveNat (Key.capFramePeriod i)) ≤ s.since t0 →
    ∃ t, exec (.cadenceMiss i) s = .next t ∧ t = ((((s.updPort i fun x => { x with misses := x.misses + 1 }).bump
      (Key.capCadenceMisses i)).capRaise i 0x4005 1 (leBytes 4 (s.nat (Key.capNextFrame i))))))


/-! Chapters 07 to 11: the pipelines' input, statistics, warps, merge and codec. -/

/-- R175, R184, R261, R268: a frame is handed over, line groups and credits move, a record completes, a write slot sends.
Choices of the model that it rests on: log 38 and 54. -/
def Obligations.PipelineActs : Prop :=
  (∀ (s : State) (p k : Nat) (f : Frame), s.part.has .pipe p = true → k < 2 → s.waitingFrame p k = some f → s.inputBusy f = false →
    s.pipeTakes p f = true → (s.pipe p).restart = false →
    exec (.fsAccepted p k) s = .next (s.handOver f)) ∧
  (∀ (s : State) (p : Nat) (f : Frame), s.part.has .pipe p = true →
    (s.frames.filter fun f => f.pipe = some p && f.handed && !f.closed && s.groupReady f) = [f] → s.pipeTakes p f = true →
    (s.pipe p).restart = false →
    ∃ t, exec (.lineGroupTake p) s = .next t ∧
      t = ((((((s.updInput f.inst fun y => { y with credits := y.credits - 1 }).updPipe p fun y => { y with watch := none }).hubMoves
        (p / 3)).updFrame f.fid fun y => { y with
          taken := y.taken ++ [s.groupPayloads f], slots := y.slots.filter fun z => z.line != f.taken.length,
          card := if s.groupPoisoned f then y.card ||| 2 ^ cardMem else y.card,
          link := if y.synthetic && y.height ≤ f.taken.length + 1 then 2 else y.link }).produceReady f.fid).settleViews.tryClose
            f.fid)) ∧
  (∀ (s : State) (i : Nat) (f : Frame), i < s.part.ports → s.inProgress i = some f → s.isShared (f.pipe.getD 0) = true →
    nsCycles f.linePeriod ≤ s.since (s.input f.inst).creditAt →
    exec (.lineCreditGain i) s = .next (s.updInput f.inst fun y => { y with
      credits := min 4 (y.credits + 1), creditAt := y.creditAt + nsCycles f.linePeriod })) ∧
  (∀ (s u : State) (p k : Nat) (j : StatJob) (r : Bytes), s.part.has .pipe p = true → k < 2 →
    (s.statJobs.find? (·.inst = 2 * p + k)) = some j →
    r = j.header.take 42 ++ leBytes 4 (satAdd 32 (s.nat (Key.statRseq (2 * p + k))) 1) ++ leBytes 2 s.epoch ++
      leBytes 12 (toTime96 s.now) ++ j.header.drop 42 ++ j.sections →
    u = { (s.setDom (Key.statRecord (2 * p + k)) r).setObj (Key.statRseq (2 * p + k)) (satAdd 32 (s.nat (Key.statRseq (2 * p + k)))
      1) with statJobs := s.statJobs.erase j } →
    exec (.statRecordComplete p k) s =
      .next (if j.port < s.part.ports then u.aeControl { j with header := r.take 64 } else u)) ∧
  (∀ (s : State) (i : Nat) (u : BellUnit) (c : Change), i < s.part.ports →
    (s.bells.units.find? fun u => u.entry = sendEntry i && s.reached u.act) = some u →
    s.domainOn (laneDomain (.camera i)) = true → s.laneUp (.camera i) = true → (s.exp i).change = some c → c.tag = none →
    exec (.expWriteSlot i) s = .next (({ s with bells := { s.bells with units := s.bells.units.erase u } }.laneRequest (.camera i) 2
      c.bundle).updExp i fun y => { y with
        change := some { c with tag := some (s.lane (.camera i)).nextTag }, owed := false, raised := [] }))

/-- R284, R300, R301, R315, R330: a view is decided, a tile issued and completed, an entry released, a slice coded.
Choices of the model that it rests on: log 13, 24 to 27 and 39. -/
def Obligations.MergeActs : Prop :=
  (∀ (s : State) (v : Nat) (o : OutFrame), v < 64 →
    (s.mrg.frames.filter fun o => o.stream = 960 + v && !o.queued && s.pastDeadline o) = [o] → o.matches_ = [] →
    exec (.warpMatchDeadline v) s = .next (s.tryQueueView o.oid)) ∧
  (∀ (s : State) (v k : Nat) (o : OutFrame), v < 64 →
    (s.mrg.frames.filter fun o => o.stream = 960 + v && !o.queued && s.pastDeadline o) = [o] → o.matches_ = [(k, .open_)] →
    s.streamFrames (slotStream ((o.viewSet s.part).num (Key.warpSource k))) = [] →
    exec (.warpMatchDeadline v) s = .next (((s.setMatch o.oid k .none_).viewRaise o.view 0x6001
      (leBytes 4 o.num ++ [byteOf k])).tryQueueView o.oid)) ∧
  (∀ (s : State) (e c : Nat) (l : List Nat) (x : Entry), s.part.has .warpEngine e = true →
    (((List.range 16).map (16 * e + ·)).filter fun c => s.coreState c = 0) = c :: l →
    firstBy s.issueBefore (s.readyTiles e) = some x →
    exec (.warpTileIssue e) s =
      .next (({ s with mrg := { s.mrg with cores := mapSet c ⟨x.oid, x.row, x.col⟩ s.mrg.cores } } : State).countBlocks)) ∧
  (∀ (s : State) (c : Nat) (k : CoreSt), s.part.has .core c = true → mapGet c s.mrg.cores = some k → s.outOf k.oid = none →
    exec (.warpTileComplete c) s = .next { s with mrg := { s.mrg with cores := mapDel c s.mrg.cores } }) ∧
  (∀ (s : State) (c : Nat) (k : CoreSt) (o : OutFrame), s.part.has .core c = true → mapGet c s.mrg.cores = some k →
    s.outOf k.oid = some o → o.route ≠ 0 →
    ∃ t, exec (.warpTileComplete c) s = .next t ∧ t.mrg.cores = mapDel c s.mrg.cores ∧
      t.nat (Key.warpCoreTiles c) = satAdd 64 (s.nat (Key.warpCoreTiles c)) 1 ∧
      (o.ended = false → ∃ o' x, t.outOf k.oid = some o' ∧ mapGet (tileKey k.row k.col) o'.tiles = some x ∧
        x.bytes = (({ s with mrg := { s.mrg with cores := mapDel c s.mrg.cores } } : State).warpTile o k.row k.col).1)) ∧
  (∀ (s : State) (e : Entry), s.nat (Key.pwrDomainState 54) = 2 →
    s.firstEntry (s.mrg.entries.filter s.entryDue) = some e →
    exec .mergeRelease s = .next (({ s with mrg := { s.mrg with
      entries := s.mrg.entries.filter (· != e), releasing := e.at_ } }.emitEntry e).prune)) ∧
  (∀ (s : State) (n : Nat) (e : Entry) (o : OutFrame) (q : Nat), s.part.has .codec n = true →
    s.flag (Key.codecEngineFence n) = false → s.nat (Key.pwrDomainState (52 + n / 2)) = 2 →
    s.firstEntry (s.slicesReady n) = some e → s.outOf e.oid = some o → o.coded = some q → o.emitted.contains e.row = false →
    ∃ t b, exec (.codecSliceComplete n) s = .next t ∧ b.length = sliceBytes o.width (o.rowLines e.row) o.bpp ∧
      b = codedSlice q o.bpp e.row (sliceBytes o.width (o.rowLines e.row) o.bpp) (o.rowSamples e.row) ∧
      t = (s.updOut o.oid fun y => { y with slices := mapSet e.row ⟨b, ((List.range o.cols).filterMap fun c =>
        mapGet (tileKey e.row c) o.tiles).any (·.poisoned)⟩ y.slices }).bump (Key.codecSlices n))

/-! Chapter 12: the bridge. -/

/-- R346, R348, R350 to R360, R365, R366, R368: frames, ageing, gates, preemption, video and the relay of the bridge complete.
Choices of the model that it rests on: log 19 and 40. -/
def Obligations.BridgeActs : Prop :=
  (∀ (s u v : State) (p : Nat) (frame : Bytes) (x : NxParsed), s.part.hasNx = true → p < 4 → s.nxUp p = true →
    u = (s.startSeen (.eth p)).addTo (Key.nxRxFrames p) 64 1 → x = u.nxParse p (frame.take (frame.length - 4)) →
    u.nxAdmits p (frame.take (frame.length - 4)) x = true → v = u.nxLearn p x.vid (beAt x.body 6 6) →
    reservedDst (beAt x.body 0 6) = false → v.ptpOverUdp x x.tagged = false →
    exec (.ethFrameReceive p frame) s = .next ((v.nxSelect p x).foldl (fun t n => t.nxOffer n x) v)) ∧
  (∀ (s u : State) (p : Nat) (frame : Bytes), s.part.hasNx = true → p < 4 → s.nxUp p = true →
    u = (s.startSeen (.eth p)).addTo (Key.nxRxFrames p) 64 1 →
    u.nxAdmits p (frame.take (frame.length - 4)) (u.nxParse p (frame.take (frame.length - 4))) = false →
    exec (.ethFrameReceive p frame) s = .next (u.nxDrop p)) ∧
  (∀ (s : State) (vid mac : Nat), s.part.hasNx = true →
    exec (.addressAging vid mac) s = .next { s with net := { s.net with addrs := s.net.addrs.filter fun a =>
      !(a.vid = vid && a.mac = mac && secCycles (s.nat Key.nxAgeTime) ≤ s.since a.fresh) } }) ∧
  (∀ (s u : State) (n : Nat) (f : NxFrame) (r : List NxFrame), s.part.hasNx = true → n < 4 → s.nxUp n = true →
    (s.nxPort n).ptp = f :: r → (s.nxPort n).sending = none → u = (s.updNx n fun p => { p with ptp := r, sending := none }) →
    ∃ t, exec (.ethEgressSelect n) s = .next t ∧ t = (((match f.stamp with
      | some id => u.stampTransmit n id (u.txStamp n)
      | none => u).addTo (Key.nxTxFrames n) 64 1).send (.eth n (withFcs f.bytes)))) ∧
  (∀ (s u : State) (n c : Nat) (f : NxFrame), s.part.hasNx = true → n < 4 → s.nxUp n = true → (s.nxPort n).ptp = [] →
    s.nat (Key.nxGateEnable n) = 0 → s.nat (Key.nxPreemptStatus n) = 0 → s.nxPick n = some (c, some (f, u)) →
    ∃ t, exec (.ethEgressSelect n) s = .next t ∧
      t = ((u.updNx n fun p => { p with sending := none }).addTo (Key.nxTxFrames n) 64 1).send (.eth n (withFcs f.bytes))) ∧
  (∀ (s : State) (n c : Nat), s.part.hasNx = true → n < 4 → s.nxUp n = true → (s.nxPort n).ptp = [] →
    s.nat (Key.nxGateEnable n) = 0 → s.nxPick n = some (c, none) →
    exec (.ethEgressSelect n) s = .next (s.updNx n fun p => { p with
      held := none, sending := some (c, s.cycles, (p.held.map (·.2)).getD 0) })) ∧
  (∀ (s v w : State) (stream : Nat) (b : Bytes) (n : Nat) (last : Bool) (x : NxParsed), s.part.hasNx = true →
    s.evFragment = some (stream, b, n, last) → s.nxUp 4 = true → x = s.nxParse 4 b → s.nxAdmits 4 b x = true →
    ((s.nxSelect 4 x).all fun p => s.nxTakes p x true) = true →
    v = (s.nxSelect 4 x).foldl (fun t p => t.nxEnqueue p x) ((s.addTo (Key.nxRxFrames 4) 64 1).nxLearn 4 x.vid (beAt x.body 6 6)) →
    w = { v with net := { v.net with
      evSeq := mapSet stream (((mapGetD stream (0, 0) v.net.evSeq).1 + 1) % 256, if last then
        ((mapGetD stream (0, 0) v.net.evSeq).2 + 1) % 65536 else (mapGetD stream (0, 0) v.net.evSeq).2) v.net.evSeq,
      evOffset := if last then 0 else v.net.evOffset + n } } →
    exec .evFrameAccept s = .next (if last then { w with mrg := { w.mrg with video := w.mrg.video.drop 1 } } else w)) ∧
  (∀ (s : State) (stream : Nat) (b : Bytes) (n : Nat), s.part.hasNx = true → s.evFragment = some (stream, b, n, true) →
    s.nxUp 4 = true → s.nxAdmits 4 b (s.nxParse 4 b) = false →
    ∃ t, exec .evFrameAccept s = .next t ∧ t = { (s.addTo (Key.nxRxFrames 4) 64 1).nxDrop 4 with
      net := { s.net with evSeq := mapSet stream (((mapGetD stream (0, 0) s.net.evSeq).1 + 1) % 256,
        ((mapGetD stream (0, 0) s.net.evSeq).2 + 1) % 65536) s.net.evSeq, evOffset := 0 },
      mrg := { s.mrg with video := s.mrg.video.drop 1 } }) ∧
  (∀ (s : State) (n : Nat) (l : GateList), s.part.hasNx = true → n < 4 → (s.nxPort n).change = some l →
    s.reached l.base = true → l.base.epoch = s.epoch →
    exec (.gateChangeInstant n) s = .next ((((s.updNx n fun p => { p with
      oper := some { l with base := ⟨s.epoch, l.base.t⟩ }, change := none }).setDom (Key.nxGclOper n) l.bytes).raise 0x7402 0
        (pathEth n) (leBytes 2 s.epoch ++ leBytes 8 (l.base.t / 65536).toNat)))) ∧
  (∀ (s : State) (n c start left len : Nat), s.part.hasNx = true → n < 4 → (s.nxPort n).sending = some (c, start, left) →
    (s.gatesOpen n).testBit c = false → s.cuttable n = some (c, len) →
    exec (.gateIntervalEnd n) s = .next ((s.updNx n fun p => { p with sending := none, held := some (c, len) }).addTo
      (Key.nxPreemptFragments n) 64 1)) ∧
  (∀ (s : State) (n : Nat), s.part.hasNx = true → n < 4 → s.nat (Key.nxPreemptStatus n) = 1 →
    exec (.preemptVerify n true) s =
      .next ((s.setObj (Key.nxPreemptStatus n) 2).updNx n fun p => { p with verifyFails := 0 })) ∧
  (∀ (s : State) (n : Nat), s.part.hasNx = true → n < 4 → s.nat (Key.nxPreemptStatus n) = 1 → (s.nxPort n).verifyFails = 2 →
    ∃ t, exec (.preemptVerify n false) s = .next t ∧ t = (((s.updNx n fun p => { p with verifyFails := 3 }).setObj
      (Key.nxPreemptStatus n) 3).raise 0x7404 1 (pathEth n) [])) ∧
  (∀ (s : State) (x : Session) (n : Nat) (data : Bytes), s.part.hasNx = true → x ∈ s.dap.sessions → x.open_ = true →
    isCan x.src = false → (x.role = 2 ∨ x.role = 3) → 16 ≤ data.length → beAt data 0 1 = n → n < 4 → beAt data 1 1 = 0 →
    (slice data 2 14).all (· = 0) = true → s.nxUp n = true →
    exec (.ptpRelayDatagram x.src data) s =
      .next (s.updNx n fun p => { p with ptp := p.ptp ++ [⟨data.drop 16, none⟩] }))

/-! Chapter 13: the movers, FIFOs and crossings. -/

/-- R380 to R390: bursts, acknowledgements, drains, landings and bus errors of an engine complete.
Choices of the model that it rests on: log 42. -/
def Obligations.DmaActs : Prop :=
  (∀ (s : State) (e ch : Nat), s.part.dmaPresent e = true → s.nat (Key.dmaEngineState e) = 0 → s.domainOn (engineDomain e) = true →
    s.engineChannels e = [ch] → paceFifo (s.nat (Key.dmaChPace e ch)) = 0xFFFF → s.hasData e ch = true →
    ∃ level, exec (.dmaBurstGrant e) s =
      .next ((s.updEng e fun g => { g with last := mapSet level ch g.last }).grantBurst e ch)) ∧
  (∀ (s : State) (e ch : Nat) (b : Burst) (r : List Burst), s.part.dmaPresent e = true → ch < 64 → (s.xfer e ch).flight = b :: r →
    s.chState e ch = dmaRunning → b.pos + b.data.length < (s.srcShape e ch).bytes →
    ∃ t, exec (.dmaWriteAck e ch) s = .next t ∧ t = ((s.storeBurst b).updXfer e ch fun y => { y with flight := r }).setObj
      (Key.dmaChDoneBytes e ch) (b.pos + b.data.length : Nat)) ∧
  (∀ (s : State) (e ch : Nat) (b : Burst) (r : List Burst), s.part.dmaPresent e = true → ch < 64 → (s.xfer e ch).flight = b :: r →
    s.chState e ch = dmaRunning → (s.srcShape e ch).bytes ≤ b.pos + b.data.length →
    exec (.dmaWriteAck e ch) s = .next ((((s.storeBurst b).updXfer e ch fun y => { y with flight := r }).setObj
      (Key.dmaChDoneBytes e ch) (b.pos + b.data.length : Nat)).enterLanding e ch)) ∧
  (∀ (s : State) (e ch : Nat), s.part.dmaPresent e = true → ch < 64 → s.chState e ch = dmaDraining → (s.xfer e ch).flight = [] →
    exec (.dmaDrained e ch) s = .next ((s.chGo e ch dmaFreewheel).updXfer e ch fun y => { y with
      granted := s.nat (Key.dmaChDoneBytes e ch) })) ∧
  (∀ (s : State) (e ch k : Nat), s.part.dmaPresent e = true → ch < 64 → s.chState e ch = dmaLanding → (s.xfer e ch).seq = some k →
    exec (.dmaLanded e ch) s = .next (((s.updEng e fun g => { g with
      unlanded := g.unlanded.filter (· ≠ k) }).landedSync e).dmaIdleNow e ch)) ∧
  (∀ (s : State) (e ch : Nat), s.part.dmaPresent e = true → ch < 64 → s.chState e ch = dmaLanding → (s.xfer e ch).seq = none →
    exec (.dmaLanded e ch) s = .next ((s.dmaEnd e ch 0 true).dmaIdleNow e ch)) ∧
  (∀ (s : State) (e addr ch : Nat), s.part.dmaPresent e = true → s.nat (Key.dmaEngineState e) = 0 → s.engineChannels e = [ch] →
    haltable (s.chState e ch) = true → (s.dmaEng e).errors = [] →
    ∃ t, exec (.dmaBusError e addr) s = .next t ∧ t = (((((s.haltChannel e addr ch).bump (Key.dmaBusErrors e)).setObj
      (Key.dmaLastErrAddr e) addr).updEng e fun g => { g with
        errors := [s.cycles], heldUntil := s.cycles + msCycles (s.nat (Key.dmaErrHoldoff e)) }).setObj (Key.dmaEngineState e) 1).raise 0x7801 2 (pathDma e)
          (leBytes 8 addr ++ [1])) ∧
  (∀ (s : State) (e addr ch t1 t2 : Nat), s.part.dmaPresent e = true → s.nat (Key.dmaEngineState e) = 0 → s.engineChannels e = [ch] →
    haltable (s.chState e ch) = true → (s.dmaEng e).errors = [t1, t2] → s.since t1 ≤ secCycles 1 → s.since t2 ≤ secCycles 1 →
    exec (.dmaBusError e addr) s = .next (((((s.haltChannel e addr ch).bump (Key.dmaBusErrors e)).setObj
      (Key.dmaLastErrAddr e) addr).updEng e fun g => { g with
        errors := [s.cycles, t1, t2], heldUntil := s.cycles + msCycles (s.nat (Key.dmaErrHoldoff e)) }).setObj
          (Key.dmaEngineState e) 2 |>.raise 0x7803 2 (pathDma e) (leBytes 8 addr))) ∧
  (∀ (s : State) (e : Nat), s.part.dmaPresent e = true → s.nat (Key.dmaEngineState e) = 1 → (s.dmaEng e).heldUntil ≤ s.cycles →
    exec (.dmaHoldoffEnd e) s = .next (s.engineResume e))

/-- R25, R26, R393, R395, R456: words enter and leave a FIFO, a crossing moves, and a crossing's watchdog restarts its owner.
Choices of the model that it rests on: log 8 and 43. -/
def Obligations.FifosAct : Prop :=
  (∀ (s : State) (f w : Nat) (last : Bool), s.part.fifoPresent f = true → (s.fifo f).dropping = false →
    (s.fifo f).words.length < fifoDepth f →
    exec (.fifoWordTransfer f (.push w last)) s = .next ({ s with
      fifos := mapSet f { s.fifo f with
        words := (s.fifo f).words ++ [FifoWord.mk w last false], producing := !last } s.fifos }.noteLevel f (s.above f))) ∧
  (∀ (s : State) (f : Nat) (w : FifoWord) (r : List FifoWord), s.part.fifoPresent f = true → (s.fifo f).words = w :: r →
    exec (.fifoWordTransfer f .pop) s = .next ({ s with
      fifos := mapSet f { s.fifo f with
        words := r, consuming := !w.last, taken := some w,
        cuts := if w.cut then (s.fifo f).cuts + 1 else (s.fifo f).cuts } s.fifos }.noteLevel f (s.above f))) ∧
  (∀ (s : State) (c w : Nat), c < s.part.crossings → (s.crossing c).request = none → 0 < (s.crossing c).credits →
    exec (.crossingWordTransfer c (.request w)) s = .next { s with
      crossings := mapSet c { s.crossing c with
        request := some (w, s.cycles, usCycles (s.nat Key.rcvCrossingTimeout)) } s.crossings }) ∧
  (∀ (s : State) (c w t0 lim : Nat), c < s.part.crossings → (s.crossing c).request = some (w, t0, lim) →
    exec (.crossingWordTransfer c .acknowledge) s = .next { s with
      crossings := mapSet c { s.crossing c with
        credits := (s.crossing c).credits - 1, request := none, moved := w :: (s.crossing c).moved } s.crossings }) ∧
  (∀ (s : State) (c w t0 lim : Nat), c < s.part.crossings → (s.crossing c).request = some (w, t0, lim) → lim ≤ s.since t0 →
    s.ownerHeld (s.part.owner c) = false → s.reportOnly 1 = false →
    exec (.crossingWatchdog c) s = .next ((((((({ s with
      rcv := { s.rcv with
        crossings := mapSet (s.part.ownerAt c) (satAdd 32 (mapGetD (s.part.ownerAt c) 0 s.rcv.crossings) 1) s.rcv.crossings } }
      : State).raiseAt 0xA001 3 1 (s.part.owner c).path (leBytes 2 c)).updCrossing c fun y => { y with
        request := none }).unitFifos (s.part.ownerAt c)).unitRestart (s.part.owner c))))) ∧
  (∀ (s : State) (m a : Nat), s.part.memoryPresent m = true → s.running = true → m < 12 →
    s.scrubPeriod m ≤ s.since (mapGetD m s.boot.release s.mems.scrubbed) →
    exec (.scrubPass m [.corrected a]) s = .next (({ s with mems := { s.mems with
      scrubbed := mapSet m s.cycles s.mems.scrubbed } } : State).scrubFinding m (.corrected a)))


/-! Chapters 14 to 18: boot, power, supply, recovery, calibration and test. -/

/-- R403, R420, R421, R425, R433, R447, R453, R500: resets and the boot complete, and so do the timers of the protection.
Choices of the model that it rests on: log 5, 23, 28 and 47. -/
def Obligations.BootActs : Prop :=
  (∀ s : State, exec .powerOnReset s = .next (s.cutCal.holdAll 0)) ∧
  (∀ (s : State) (r : Nat), r < 9 → s.boot.held ≠ some 0 → exec (.supplyReset r) s = .next (s.cutCal.holdAll 1)) ∧
  (∀ (s : State) (r : Nat), r < 9 → s.boot.held = some 0 →
    exec (.supplyReset r) s = .next { s with sup := { s.sup with low := true } }) ∧
  (∀ s : State, exec .supplyResetRelease s = .next { s with sup := { s.sup with low := false } }) ∧
  (∀ (s : State) (node sel kind c : Nat), node < 128 → sel < 4 → s.boot.held = some kind → s.sup.low = false →
    s.flash.loader = some c →
    exec (.resetRelease node sel) s = .next (({ ((({ s with strapNode := node, strapBoot := sel, boot := { s.boot with
      held := none, release := s.cycles } } : State).startXspi).bump Key.bootCount).setObj Key.bootReason kind with boot := { s.boot with
        held := none, release := s.cycles, loader := c } }.measureInto 0 (imageBody (if c = 0 then s.flash.loader0 else
          s.flash.loader1))).bootImage kind sel)) ∧
  (∀ (s : State) (node sel kind : Nat), node < 128 → sel < 4 → s.boot.held = some kind → s.sup.low = false → s.flash.loader = none →
    exec (.resetRelease node sel) s = .next ({ ((({ s with strapNode := node, strapBoot := sel, boot := { s.boot with
      held := none, release := s.cycles } } : State).startXspi).bump Key.bootCount).setObj Key.bootReason kind with boot := { s.boot with
        held := none, release := s.cycles, mode := 2 } }.endReset kind)) ∧
  (∀ (s : State) (density : Nat), s.dram.training = true → s.boot.held = none → density ∈ [4, 8, 12, 16] →
    s.atReset Key.memDramRate ≠ 0 → s.pwr.waking = none → s.nat Key.pwrState ≠ 0 →
    exec (.dramTrainingComplete density []) s = .next (s.dramTrained density (s.atReset Key.memDramRate))) ∧
  (∀ (s u : State) (density : Nat) (failures : List Nat) (r : Nat), s.dram.training = true → s.boot.held = none →
    density ∈ [4, 8, 12, 16] → s.trainAt (s.atReset Key.memDramRate) failures = (u, r) → r ≠ 0 → u.pwr.waking = none →
    s.pwr.waking = none → (u.dramTrained density r).nat Key.pwrState = 0 →
    exec (.dramTrainingComplete density failures) s = .next ((u.dramTrained density r).domainsUp.setFlag Key.memDramReady
      ((u.dramTrained density r).domainsUp.domainOn 59))) ∧
  (∀ s : State, s.nat Key.fwState = 2 → s.boot.held = none → secCycles (s.nat Key.fwTrialTime) ≤ s.since s.boot.release →
    exec .fwTrialTimeout s = .next (s.deviceReset 5)) ∧
  (∀ (s : State) (r : RollCall), s.rollcall r.sid = some r → r.report = none →
    exec (.rollcallSigned r.sid) s = .next ((({ (s.makeReport r.nonce).2 with prot := { s.prot with
      rollcalls := s.prot.rollcalls.map fun y => if y.sid = r.sid then { y with report := some (s.makeReport r.nonce).1 } else y }
        } : State).raise 0x1502 0 "CX" (leBytes 2 r.sid)))) ∧
  (∀ (s : State) (p : Proposal), s.prot.proposal = some p → p.deferred = false → secCycles 600 ≤ s.since p.opened →
    exec .tandemWindowExpiry s = .next (s.dropProposal 1)) ∧
  (∀ (s : State) (c : Nat), s.part.has .cluster c = true → mapGet c s.rcv.clusters ≠ none →
    exec (.clusterResetComplete c) s = .next ((clusterLanes c).foldl (fun u l => u.freeLane l 3)
      (if c < 8 then ({ s with rcv := { s.rcv with clusters := mapDel c s.rcv.clusters } } : State).hubMoves c
        else { s with rcv := { s.rcv with clusters := mapDel c s.rcv.clusters } })))

/-- R27, R439, R441, R443, R445, R501, R509: entry, waking, domains, island clocks, the regulator and the junction complete.
Choices of the model that it rests on: log 9, 15, 49 and 50. -/
def Obligations.PowerActs : Prop :=
  (∀ (s : State) (e : Entering), s.pwr.entry = some e → e.stage = 1 → msCycles e.limit ≤ s.since e.since → s.mrg.entries ≠ [] →
    exec .pwrDrainLimit s = .next (((((emitWhile (fun _ _ => true) s.mrg.entries.length s).prune).raise 0x1204 1 "CX"
      (leBytes 4 (s.mrg.entries.filter s.entryAbsent).length)).drainOutputs))) ∧
  (∀ (s : State) (e : Entering), s.pwr.entry = some e → e.stage = 2 → msCycles 10 ≤ s.since e.since →
    exec .outputDrainTimeout s = .next (s.finishEntry e.target)) ∧
  (∀ s : State, s.boot.held = none → s.boot.mode = 0 → (s.nat Key.pwrWakeMask).testBit 1 = true →
    exec .wake s = .next (s.wakeUp 3)) ∧
  (∀ (s : State) (d : Nat), s.part.domainPresent d = true → mapGet d s.pwr.switching = some 0 →
    exec (.domainSwitchDone d) s = .next (({ s with pwr := { s.pwr with switching := mapDel d s.pwr.switching } }.setObj
      (Key.pwrDomainState d) 0).raise 0x1202 0 (pathDomain d) [byteOf d, 0])) ∧
  (∀ (s : State) (d : Nat), s.part.domainPresent d = true → mapGet d s.pwr.switching = some 1 →
    exec (.domainSwitchDone d) s = .next ((({ s with pwr := { s.pwr with switching := mapDel d s.pwr.switching } }.setObj
      (Key.pwrDomainState d) 2).domainOn_ d).raise 0x1202 0 (pathDomain d) [byteOf d, 2])) ∧
  (∀ (s : State) (kind inst hertz : Nat), s.part.islandPresent kind inst = true → s.running = true →
    (islandDomain kind inst).all s.domainOn = true → s.betweenHandshakes kind inst = true → hertz ≤ islandCeiling kind →
    s.islandFloor kind inst ≤ hertz → s.clockSupported kind inst hertz = true →
    ∃ t, exec (.islandClockChange kind inst hertz) s = .next t ∧ t.pwr = { s.pwr with
      clocks := mapSet (kind * 64 + inst) hertz s.pwr.clocks }) ∧
  (∀ (s : State) (mv : Nat), s.boot.held = none → 650 ≤ mv → mv ≤ 850 → mv % 5 = 0 →
    exec (.avsWrite mv true) s = .next (((s.send (.avs mv)).setObj Key.pwrAvsPoint mv).setObj (Key.smTarget 0) mv)) ∧
  (∀ (s : State) (mv : Nat), s.boot.held = none → 650 ≤ mv → mv ≤ 850 → mv % 5 = 0 →
    exec (.avsWrite mv false) s = .next (((((s.send (.avs mv)).send (.avs mv)).send (.avs mv)).bump Key.pwrAvsFailures).raise 0x8003 2 "AX.SM"
      (leBytes 2 mv ++ leBytes 2 (s.nat Key.pwrAvsPoint)))) ∧
  (∀ (s : State) (c : Int), s.boot.held = none → s.obj Key.pwrTjThrottle ≤ c → c ≤ 1500 → s.pwr.hot = false →
    ∃ t, exec (.tjThrottle c) s = .next t ∧ t = ((((s.setObj Key.pwrTj c).setObj Key.pwrTjPeak (max (s.obj Key.pwrTjPeak)
      c)).withPwr fun p => { p with hot := true }).raise 0x8004 1 "AX.SM" (leBytes 2 (ofSigned 16 c)))) ∧
  (∀ (s : State) (c : Int), s.boot.held = none → -400 ≤ c → c ≤ s.obj Key.pwrTjThrottle - 20 →
    ∃ t, exec (.tjThrottleRelease c) s = .next t ∧ t = (((s.setObj Key.pwrTj c).setObj Key.pwrTjPeak (max (s.obj Key.pwrTjPeak)
      c)).withPwr fun p => { p with hot := false })) ∧
  (∀ (s : State) (c : Int), s.boot.held = none → s.boot.mode = 0 → 1300 ≤ c → c ≤ 1500 → s.nat Key.pwrState = 0 →
    s.pwr.entry = none →
    ∃ t, exec (.tjCritical c) s = .next t ∧ t = (s.noteTj c).enterCritical) ∧
  (∀ (s : State) (c : Int), s.boot.held = none → s.boot.mode = 0 → 1300 ≤ c → c ≤ 1500 → (s.nat Key.pwrState = 1 ∨ s.nat Key.pwrState = 2) →
    ∃ t, exec (.tjCritical c) s = .next t ∧ t = ((s.noteTj c).withPwr fun p => { p with critical := true }))

/-- R33 to R37, R450 to R458, R516: dips begin and end, and the watchdogs act. Choices of the model that it rests on: log 1 and 50. -/
def Obligations.SupplyAndWatchdogsAct : Prop :=
  (∀ (s : State) (rail mv : Nat), rail < 9 → s.monitored = true → s.sup.dip = false →
    ∃ t a, exec (.supplyDipBegin rail mv) s = .next t ∧ a = s.instant.plus (-(usUnits 2 : Nat)) ∧
      t = ((((((({ s with sup := { s.sup with dip := true, start := a, since := s.cycles } }.setFlag Key.smDipActive true).bump
        Key.smDipCount).setObj Key.smLastDipEpoch a.epoch).setObj Key.smLastDipStart (toTime96 a.t.toNat : Nat)).raise 0x8001 1
          "AX.SM" (byteOf rail :: leBytes 2 mv)).flagDip.pauseSave.calFail 4).spoilBist)) ∧
  (∀ (s : State) (rail mv us : Nat), rail < 9 → s.monitored = true → s.sup.dip = true →
    us = s.since s.sup.since / usCycles 1 + 2 →
    ∃ t u, exec (.supplyDipEnd rail mv) s = .next t ∧ u = (((({ s with sup := { s.sup with dip := false } }.setFlag Key.smDipActive
      false).setObj Key.smLastDipRail rail).setObj Key.smLastDipMin mv).setObj Key.smLastDipDuration us).raise 0x8002 1 "AX.SM"
        (byteOf rail :: leBytes 2 mv ++ leBytes 4 us) ∧
      t = (if s.store.snapshot.isSome then u.setObj Key.storeStatus 1 else u).freeCommits.lateTandem.freshScrubs.dipEvaluations) ∧
  (∀ (s : State) (p stage : Nat) (f : Frame) (r : List Frame), s.part.has .pipe p = true → s.pipeWork p = f :: r → (stage < 16 ∨ stage = 0xFF) →
    s.running = true → s.domainOn (pipeDomain p) = true → s.resetting (p / 3) = false → (s.pipe p).restart = false →
    (s.pipe p).watch.any s.expired = true → s.reportOnly 2 = false →
    exec (.pipeWatchdog p stage) s = .next (((s.bump (Key.rcvPipeCount p)).updPipe p fun y => { y with
      restart := true, watch := none }).raiseAt
      0xA002 3 2 (pathPipe p) (leBytes 4 f.num ++ [byteOf stage]))) ∧
  (∀ (s : State) (p : Nat) (f : Frame), s.part.has .pipe p = true → s.restartFs p = some f → (s.pipe p).restart = true →
    s.running = true →
    exec (.pipelineRestart p) s = .next (((s.clearPipe p).updPipe p fun y => { y with restart := false }).handOver f)) ∧
  (∀ (s : State) (h cause ch : Nat), h < s.part.hubs → s.running = true → s.hubStuck h cause ch = true → s.domainOn (6 * h + 5) = true → s.resetting h = false →
    s.bistOn h = false → s.reportOnly 3 = false → s.nat Key.rcvHubLimit = 0 →
    ∃ t, exec (.hubWatchdog h cause ch) s = .next t ∧ t = (State.clusterReset ({ (s.bump (Key.rcvHubCount h)).raiseAt 0xA003 3 3
      (pathCluster h) ([byteOf h, byteOf cause] ++ leBytes 2 ch) with rcv := { s.rcv with hubTimes := mapSet h (s.hubResets h) s.rcv.hubTimes } }) h 1)) ∧
  (∀ s : State, s.running = true → s.expired s.boot.beat = true →
    exec .fwWatchdog s = .next (({ s.bump Key.rcvFwCount with boot := { s.boot with
      barked := s.nat Key.bootCount } } : State).deviceReset 3))

/-- R466, R467, R479, R484: saves of the trims, procedures, injected frames and SRAM tests complete.
Choices of the model that it rests on: log 52 and 53. -/
def Obligations.CalAndTestAct : Prop :=
  (∀ (s : State) (trims : Bytes), s.cal.saving = some trims → s.sup.dip = false → s.boot.held = none →
    ∃ t, exec .calSaveComplete s = .next t ∧ t.flash.trim0 = trims ∧ t.flash.trim1 = trims ∧ t.cal.saving = none ∧
      t.nat Key.calSaveCount = satAdd 32 (s.nat Key.calSaveCount) 1) ∧
  (∀ (s : State) (target start n : Nat), s.cal.running = some (1, target, start) →
    secCycles (s.nat Key.calOscGate) + msCycles 10 ≤ s.since start →
    ∃ t, exec (.calProcedureComplete (.oscCycles n)) s = .next t ∧ t = s.calEnd 1 target (oscResult (s.nat Key.calOscGate) n)) ∧
  (∀ (s u : State) (m : CalMeasurement) (c target start : Nat) (r : CalOutcome), s.cal.running = some (c, target, start) →
    m ≠ .referenceAbsent → m ≠ .linkLost → s.calOutcome c target m = some (r, u) → s.calDuration c ≤ s.since start →
    exec (.calProcedureComplete m) s = .next ((if c = 5 then u.calPulses target else u).calEnd c target r)) ∧
  (∀ (s : State) (c target start : Nat), s.cal.running = some (c, target, start) → (c = 1 ∨ c = 2 ∨ c = 5) →
    msCycles 10 ≤ s.since start → exec (.calProcedureComplete .referenceAbsent) s = .next (s.calFail 1)) ∧
  (∀ (s : State) (target start : Nat), s.cal.running = some (4, target, start) →
    exec (.calProcedureComplete .linkLost) s = .next (s.calFail 5)) ∧
  (∀ (s : State) (p : Nat) (j : Inject), s.part.has .pipe p = true → (s.pipe p).inj = some j → j.stopping = false →
    j.left ≠ some 0 → s.reached j.capture = true →
    exec (.injectFrameStart p) s = .next (((((({ s with frames := s.frames ++ [s.injectFrame p j], nextFid := s.nextFid + 1 } :
      State).noteStamp p 0 (s.injectFrame p j).num (s.injectFrame p j).stamp).updPipe p fun y => { y with inj := some { j with next := j.next + 1, left := j.left.map (· - 1) } }).setObj (Key.testInjectState p)
        2).bump (Key.testInjectFrames p)).settleViews)) ∧
  (∀ (s : State) (m first : Nat), s.part.has .cluster m = true → s.bistOn m = true →
    exec (.bistComplete m 0 first) s = .next (s.bistEnd m 2 0 0)) ∧
  (∀ (s : State) (m fails first : Nat), s.part.has .cluster m = true → s.bistOn m = true → 0 < fails → fails < 2 ^ 32 →
    first < 2 ^ 64 → exec (.bistComplete m fails first) s = .next (s.bistEnd m 3 fails first))

/-! Laws of the whole machine and of its protocol. -/

/-- After reset nothing waits, memory lists nothing, no session is open, no event has been raised, and every entry holds its default
(R39, R52, R63). Choices of the model that it rests on: log 3. -/
def Obligations.ResetIsBare : Prop :=
  State.reset.pending = [] ∧ State.reset.mem = [] ∧ State.reset.dap.sessions = [] ∧ State.reset.ev.seq = 0 ∧
    State.reset.ev.queue = [] ∧ (∀ k, State.reset.obj k = defaultNum .p48 k) ∧ (∀ k, State.reset.dom k = defaultDom k)

/-- After reset device memory has its canonical form. Choices of the model that it rests on: log 4. -/
def Obligations.ResetMemoryHasItsForm : Prop := Memory.wf State.reset.mem = true

/-- Device memory keeps its canonical form in every step: addresses rising, no byte listed that an unlisted address reads as.
Choices of the model that it rests on: log 4. -/
def Obligations.StepKeepsMemoryForm : Prop :=
  ∀ s t : State, Memory.wf s.mem = true → step s = .next t → Memory.wf t.mem = true

/-- A step takes the front command off the queue and puts none in; no step changes which part the device is (R57). -/
def Obligations.StepTakesOneCommand : Prop :=
  ∀ s t : State, step s = .next t → t.pending = s.pending.tail ∧ t.part = s.part

/-- Commands happen at an instant: none but the two resets that restart the clock moves it (log 1). -/
def Obligations.CommandsTakeNoTime : Prop :=
  ∀ (c : Instr) (s t : State), exec c s = .next t → c ≠ .powerOnReset → (∀ rail, c ≠ .supplyReset rail) → t.cycles = s.cycles

/-- Every byte of device memory stays, whatever command runs that is not one of those that reach memory.
Choices of the model that it rests on: log 4. -/
def Obligations.MemoryStaysElsewhere : Prop :=
  ∀ (c : Instr) (s t : State), reachesMemory c = false → exec c s = .next t → t.mem = s.mem

/-- R383: an acknowledged burst that is not a transfer's last stores its bytes from its address on; every other byte reads as before.
Choices of the model that it rests on: log 42. -/
def Obligations.BurstLandsAtItsAddress : Prop :=
  ∀ (s : State) (e ch : Nat) (b : Burst) (r : List Burst), Memory.wf s.mem = true → s.part.dmaPresent e = true → ch < 64 →
    (s.xfer e ch).flight = b :: r → s.chState e ch = dmaRunning → b.pos + b.data.length < (s.srcShape e ch).bytes →
    ∃ t, exec (.dmaWriteAck e ch) s = .next t ∧ ∀ a, Memory.read a t.mem =
      if b.addr ≤ a ∧ a < b.addr + b.data.length then (b.data.map (·.byte)).getD (a - b.addr) 0 else Memory.read a s.mem

/-- R54: of the requests of a session: a wrong tag is counted and the 16th closes the session; the last accepted SEQ is answered from
the cache; a lower one is discarded; a higher one is acted on and answered. Each direction starts at 1. -/
def Obligations.RequestsInOrder : Prop :=
  (∀ (c : Instr) (s : State) (x : Session) (r : Req) (k : Nat) (p : Bytes), asking c = some (r, k, p) → s.hearsHost r.src = true →
    p.length ≤ 1382 → r.seq < 2 ^ 32 → s.session r.session = some x → x.src = r.src →
    (dapTag x.key (dapBody k r.session r.seq p) ≠ r.tag → x.tagFails < 15 → exec c s =
      .next ((s.bump Key.dapTagFailures).updSession x.sid fun y => { y with tagFails := y.tagFails + 1 })) ∧
    (dapTag x.key (dapBody k r.session r.seq p) ≠ r.tag → x.tagFails = 15 → exec c s =
      .next ((((s.bump Key.dapTagFailures).updSession x.sid fun y => { y with tagFails := y.tagFails + 1 }).closeSessions
        fun y => y.sid = x.sid).raise 0x1002 1 "CX" (leBytes 2 x.sid))) ∧
    (dapTag x.key (dapBody k r.session r.seq p) = r.tag → r.seq = x.lastSeq → x.cached ≠ [] → exec c s =
      .next ((s.updSession r.session fun y => { y with lastMsg := s.cycles }).transmit r.src 2 x.cached)) ∧
    (dapTag x.key (dapBody k r.session r.seq p) = r.tag → r.seq < x.lastSeq → exec c s = .next s) ∧
    (dapTag x.key (dapBody k r.session r.seq p) = r.tag → x.lastSeq < r.seq → x.open_ = true → exec c s =
      .next (((serve x k p (s.touched x r.seq)).after).run x ((serve x k p (s.touched x r.seq)).reply x.sid k r.seq)))) ∧
  (∀ (s : State) (src : Source) (role : Nat) (nonce : Bytes), s.hearsHost src = true → nonce.length = 16 → role ≤ 3 →
    s.enrolled role = true → s.admitsRole role src = true → s.dap.sessions.length < 8 → s.recentOpens src < 4 →
    ∃ t x, exec (.openSession src role nonce) s = .next t ∧ t.dap.sessions = s.dap.sessions ++ [x] ∧ x.lastSeq = 0 ∧ x.devSeq = 1)

/-- R51: a request that names no session, or one that was opened from elsewhere, is discarded. -/
def Obligations.ForeignRequestsAreDiscarded : Prop :=
  ∀ (c : Instr) (s : State) (r : Req) (k : Nat) (p : Bytes), asking c = some (r, k, p) → s.hearsHost r.src = true →
    (∀ x, s.session r.session = some x → x.src ≠ r.src) → exec c s = .next s

/-- R53: the three cases in which an OPEN is refused, and the end of a half-open session.
Choices of the model that it rests on: log 30. -/
def Obligations.OpensAreRefused : Prop :=
  (∀ (s : State) (src : Source) (role : Nat) (nonce : Bytes), s.hearsHost src = true → nonce.length = 16 → role ≤ 3 →
    (s.recentOpens src < 4 → (s.enrolled role = false ∨ s.admitsRole role src = false) → exec (.openSession src role nonce) s =
      .next (((s.countOpen src).bump Key.dapOpenRefused).transmit src 2 (dapBody 0xFF 0 0 (abortPayload 0 1 0 0 0x0008)))) ∧
    (s.recentOpens src < 4 → s.enrolled role = true → s.admitsRole role src = true → 8 ≤ s.dap.sessions.length →
      exec (.openSession src role nonce) s =
        .next (((s.countOpen src).bump Key.dapOpenRefused).transmit src 2 (dapBody 0xFF 0 0 (abortPayload 0 1 0 0 0x000A)))) ∧
    (4 ≤ s.recentOpens src → exec (.openSession src role nonce) s = .next ((s.countOpen src).bump Key.dapOpenRefused))) ∧
  (∀ (s : State) (x : Session), s.session x.sid = some x → x.open_ = false → secCycles 1 ≤ s.since x.opened →
    ∃ t, exec (.halfOpenTimeout x.sid) s = .next t ∧ t.dap.sessions = s.dap.sessions.filter fun y =>
      !(y.sid = x.sid && !y.open_ && secCycles 1 ≤ s.since y.opened))

/-- R71, conditions 1 to 6, in their order, for a WRITE; and condition 5 for a READ.
Choices of the model that it rests on: log 34. -/
def Obligations.AccessIsChecked : Prop :=
  (∀ (s : State) (x : Session) (seq index sub : Nat) (value : Bytes), s.awaits x seq = true → index < 65536 → sub < 256 →
    value.length ≤ 1378 →
    (∀ c, s.part.locate index sub = .error c → exec (.write (x.req 0x11 seq (entryBytes index sub ++ value)) index sub value) s =
      .next ((s.touched x seq).abort x 0x11 seq index sub c)) ∧
    (∀ n, s.part.locate index sub = .ok (.count n) → exec (.write (x.req 0x11 seq (entryBytes index sub ++ value)) index sub value) s =
      .next ((s.touched x seq).abort x 0x11 seq index sub
        (if s.mayWrite x.role ((groupOf index).getD 0) then 0x0003 else 0x0008))) ∧
    (∀ o i live, s.part.locate index sub = .ok (.entry o i live) → s.mayWriteEntry x.role index o = false →
      exec (.write (x.req 0x11 seq (entryBytes index sub ++ value)) index sub value) s =
        .next ((s.touched x seq).abort x 0x11 seq index sub 0x0008)) ∧
    (∀ o i live, s.part.locate index sub = .ok (.entry o i live) → s.mayWriteEntry x.role index o = true →
      (live = true ∨ o.acc = .ro) → exec (.write (x.req 0x11 seq (entryBytes index sub ++ value)) index sub value) s =
        .next ((s.touched x seq).abort x 0x11 seq index sub 0x0003)) ∧
    (∀ o i, s.part.locate index sub = .ok (.entry o i false) → s.mayWriteEntry x.role index o = true → o.acc = .rwp →
      (s.flag Key.protSealed = true ∨ x.role ≠ 3) →
      exec (.write (x.req 0x11 seq (entryBytes index sub ++ value)) index sub value) s =
        .next ((s.touched x seq).abort x 0x11 seq index sub 0x0009))) ∧
  (∀ (s : State) (x : Session) (seq index sub : Nat) (o : Obj) (i : Nat) (live : Bool), s.awaits x seq = true → index < 65536 →
    sub < 256 → s.part.locate index sub = .ok (.entry o i live) → s.mayReadIndex x.role index = true → o.acc = .wo →
    exec (.read (x.req 0x10 seq (entryBytes index sub)) index sub) s =
      .next ((s.touched x seq).abort x 0x10 seq index sub 0x0004))

/-- R42: a READ of a DOMAIN entry that nothing refuses returns its length in bytes; a WRITE to one, where conditions 1 to 6 and the
mask lock (R242) refuse nothing, is refused with 0x0005. Choices of the model that it rests on: log 34. -/
def Obligations.DomainEntriesMoveInBlocks : Prop :=
  (∀ (s : State) (x : Session) (seq index sub : Nat) (o : Obj) (i : Nat) (live : Bool), s.awaits x seq = true → index < 65536 →
    sub < 256 → s.toRead x.role index sub = .ok (.entry o i live) → o.ty = .domain → s.offered index = true →
    s.imageClosed o = false → s.readBusy x.sid o i = false →
    exec (.read (x.req 0x10 seq (entryBytes index sub)) index sub) s = .next ((s.touched x seq).reply x 0x10 seq
      (entryBytes index sub ++ beBytes 4 ((s.touched x seq).content x.sid o i live).length))) ∧
  (∀ (s : State) (x : Session) (seq index sub : Nat) (value : Bytes) (o : Obj) (i : Nat), s.awaits x seq = true → index < 65536 →
    sub < 256 → value.length ≤ 1378 → s.toWrite x.role index sub = .ok (o, i) → o.ty = .domain → s.maskLocked o i = false →
    exec (.write (x.req 0x11 seq (entryBytes index sub ++ value)) index sub value) s =
      .next ((s.touched x seq).abort x 0x11 seq index sub 0x0005))

/-- R71: a request that is refused leaves the state as it was; BLOCK_DATA and BLOCK_END apart, which can end a transfer that was
abandoned (R60), and set TT_LAST_REFUSED_ENTRY (R112). Choices of the model that it rests on: log 32. -/
def Obligations.RefusalsChangeNothing : Prop :=
  ∀ (x : Session) (k : Nat) (p : Bytes) (s : State), k ≠ 0x13 → k ≠ 0x14 → (serve x k p s).code ≠ 0 → (serve x k p s).st = s

/-- R64: a raised event takes the next EVSEQ and goes to the head of the log of 4,096; it is queued while the queue holds fewer than
256, and otherwise counted as lost; event 0x1101 is raised once space returns. -/
def Obligations.EventsAreLogged : Prop :=
  (∀ (s : State) (cause cls : Nat) (path : String) (detail : Bytes), ∃ r : EventRec,
    r = ⟨s.ev.seq + 1, s.instant, cls, 0, cause, padTo 16 (ascii path), padTo 10 detail⟩ ∧
    (s.raise cause cls path detail).ev.seq = s.ev.seq + 1 ∧
    (s.raise cause cls path detail).ev.log = (r :: s.ev.log).take 4096 ∧
    (s.ev.queue.length < 256 → ∃ q : QueuedEvent, q.record = r ∧
      (s.raise cause cls path detail).ev.queue = s.ev.queue ++ [q] ∧ (s.raise cause cls path detail).dict = s.dict) ∧
    (256 ≤ s.ev.queue.length → (s.raise cause cls path detail).ev.queue = s.ev.queue ∧
      (s.raise cause cls path detail).obj Key.evtLostCount = (satAdd 32 (s.nat Key.evtLostCount) 1 : Nat) ∧
      (s.raise cause cls path detail).flag Key.evtLostSticky = true ∧
      (s.raise cause cls path detail).ev.lostPending = true ∧ (s.raise cause cls path detail).out = s.out)) ∧
  (∀ s : State, s.ev.lostPending = true → (s.ev.queue.filter fun q => q.orphan || !q.owed.isEmpty).length < 256 →
    s.pruneEvents = { s with ev := { s.ev with
      queue := s.ev.queue.filter fun q => q.orphan || !q.owed.isEmpty, lostPending := false } }.raise 0x1101 1 "AX.EL"
        (leBytes 4 (s.nat Key.evtLostCount)))

/-- R66: NOTIFY_N is driven low while the queue holds a record of class EVT_NOTIFY_CLASS or higher or a loss stands, and only then. -/
def Obligations.NotifyIsDrivenLow : Prop :=
  ∀ s : State, s.notifyLow = true ↔
    (∃ q ∈ s.ev.queue, s.nat Key.evtNotifyClass ≤ q.record.cls) ∨ s.flag Key.evtLostSticky = true

/-- R10: a time is read back from its TIME96 value, and a TIME96 value from the time it names. -/
def Obligations.TimesReadBack : Prop :=
  (∀ t, t < 2 ^ 48 * secUnits → time96Valid (toTime96 t) = true ∧ toTime96 t < 2 ^ 96 ∧ ofTime96 (toTime96 t) = t) ∧
  (∀ x, time96Valid x = true → toTime96 (ofTime96 x) = x)

/-- R45: a message is read back, field by field, from the bytes it is sent as; and the bytes of a message that is read are those of the
fields read, so that no bit is dropped. Choices of the model that it rests on: log 31. -/
def Obligations.MessagesReadBack : Prop :=
  (∀ (service session seq : Nat) (p tag : Bytes), service < 256 → session < 65536 → seq < 2 ^ 32 → p.length ≤ 1382 →
    tag.length = (if service = 1 then 0 else 16) →
    parseMessage true (dapBody service session seq p ++ tag) = some ⟨service, session, seq, p, tag⟩) ∧
  (∀ (b : Bytes) (m : Message), parseMessage true b = some m →
    b = dapBody m.service m.session m.seq m.payload ++ m.tag ∧ m.payload.length ≤ 1382 ∧
      m.tag.length = (if m.service = 1 then 0 else 16))

/-- R47, R48: the frames that carry a request on CAN FD, sent one after the other from host h, are put together again: the device
takes exactly that request, and keeps no part of it; what the host had begun before is dropped.
Choices of the model that it rests on: log 31. -/
def Obligations.CanFramesMakeTheRequest : Prop :=
  ∀ (s : State) (h service session seq : Nat) (p tag : Bytes), s.hearsHost (.can h) = true → s.nodeId < 256 → service < 256 →
    service ≠ 1 → session < 65536 → seq < 2 ^ 32 → p.length ≤ 1382 → tag.length = 16 →
    runCommands ((canSegments 32 0 (dapBody service session seq p ++ tag)).map fun f =>
        Instr.canFdFrame (0x1000000 + 256 * h + s.nodeId) f) s =
      some ((s.setPartials (s.dap.partials.filter (·.host ≠ h))).request (.can h) service session seq p tag)

/-- The spec's worked example of a READ over CAN FD (chapter 02): the bytes and the identifier of the request, the bytes of the
response, and the data lengths of the frames of messages of 30 and 36 bytes. -/
def Obligations.WorkedExampleHeaders : Prop :=
  dapBody 0x10 3 7 (entryBytes 0x1000 1) = [0x01, 0x10, 0x00, 0x03, 0x00, 0x00, 0x00, 0x07, 0x00, 0x04, 0x10, 0x00, 0x01, 0x00] ∧
    canIdent 1 2 21 = 0x01000215 ∧ canIdent 2 2 21 = 0x02000215 ∧
    dapBody 0x90 3 12 (beBytes 4 7 ++ (entryBytes 0x1000 1 ++ beBytes 2 0x9648)) =
      [0x01, 0x90, 0x00, 0x03, 0x00, 0x00, 0x00, 0x0C, 0x00, 0x0A, 0x00, 0x00, 0x00, 0x07, 0x10, 0x00, 0x01, 0x00, 0x96, 0x48] ∧
    (∀ b : Byte, canSegments 32 0 (List.replicate 30 b) = [0xC0 :: (List.replicate 30 b ++ [0x00])]) ∧
    (∀ b : Byte, canSegments 32 0 (List.replicate 36 b) = [0xC0 :: (List.replicate 36 b ++ List.replicate 11 0x00)])

/-- R435, R508: five cycles of TCK with TMS high, like a pulse on TRST_N, leave the TAP in Test-Logic-Reset with IDCODE; boundary scan
drives the lanes only in a device out of service whose debug state gives it; and the port changes nothing but itself, what it sends
and the count of free values. Choices of the model that it rests on: log 57. -/
def Obligations.JtagPort : Prop :=
  (∀ (s : State) (bits : List Bool), bits.length = 5 → (bits.foldl (fun s b => tapClock true b s) s).jtag = {}) ∧
  (∀ s : State, (tapReset s).jtag = {}) ∧
  (∀ s : State, s.tapInstr.drives = true → 1 ≤ s.boot.debug ∧ s.boot.outOfService = true) ∧
  (∀ (s : State) (tms tdi : Bool), tapClock tms tdi s =
    { s with jtag := (tapClock tms tdi s).jtag, out := (tapClock tms tdi s).out, free := (tapClock tms tdi s).free })
end

