-- ==== Sys2Proof/Laws/State.lean ====
section
/-! SUPPORT. One lemma per field per named update of the state: a field the update does not name is as it was. -/
namespace Sys2Proof.Machine

variable (s : State)

/-! setObj changes `dict` only. -/
@[simp] theorem State.setObj_pending (k : Nat) (v : Int) : (s.setObj k v).pending = s.pending := rfl
@[simp] theorem State.setObj_part (k : Nat) (v : Int) : (s.setObj k v).part = s.part := rfl
@[simp] theorem State.setObj_strapNode (k : Nat) (v : Int) : (s.setObj k v).strapNode = s.strapNode := rfl
@[simp] theorem State.setObj_strapBoot (k : Nat) (v : Int) : (s.setObj k v).strapBoot = s.strapBoot := rfl
@[simp] theorem State.setObj_cycles (k : Nat) (v : Int) : (s.setObj k v).cycles = s.cycles := rfl
@[simp] theorem State.setObj_time (k : Nat) (v : Int) : (s.setObj k v).time = s.time := rfl
@[simp] theorem State.setObj_doms (k : Nat) (v : Int) : (s.setObj k v).doms = s.doms := rfl
@[simp] theorem State.setObj_out (k : Nat) (v : Int) : (s.setObj k v).out = s.out := rfl
@[simp] theorem State.setObj_free (k : Nat) (v : Int) : (s.setObj k v).free = s.free := rfl
@[simp] theorem State.setObj_mem (k : Nat) (v : Int) : (s.setObj k v).mem = s.mem := rfl
@[simp] theorem State.setObj_poison (k : Nat) (v : Int) : (s.setObj k v).poison = s.poison := rfl
@[simp] theorem State.setObj_ev (k : Nat) (v : Int) : (s.setObj k v).ev = s.ev := rfl
@[simp] theorem State.setObj_dap (k : Nat) (v : Int) : (s.setObj k v).dap = s.dap := rfl
@[simp] theorem State.setObj_tb (k : Nat) (v : Int) : (s.setObj k v).tb = s.tb := rfl
@[simp] theorem State.setObj_lanes (k : Nat) (v : Int) : (s.setObj k v).lanes = s.lanes := rfl
@[simp] theorem State.setObj_txs (k : Nat) (v : Int) : (s.setObj k v).txs = s.txs := rfl
@[simp] theorem State.setObj_gens (k : Nat) (v : Int) : (s.setObj k v).gens = s.gens := rfl
@[simp] theorem State.setObj_limits (k : Nat) (v : Int) : (s.setObj k v).limits = s.limits := rfl
@[simp] theorem State.setObj_bells (k : Nat) (v : Int) : (s.setObj k v).bells = s.bells := rfl
@[simp] theorem State.setObj_commits (k : Nat) (v : Int) : (s.setObj k v).commits = s.commits := rfl
@[simp] theorem State.setObj_ports (k : Nat) (v : Int) : (s.setObj k v).ports = s.ports := rfl
@[simp] theorem State.setObj_frames (k : Nat) (v : Int) : (s.setObj k v).frames = s.frames := rfl
@[simp] theorem State.setObj_nextFid (k : Nat) (v : Int) : (s.setObj k v).nextFid = s.nextFid := rfl
@[simp] theorem State.setObj_inputs (k : Nat) (v : Int) : (s.setObj k v).inputs = s.inputs := rfl
@[simp] theorem State.setObj_pipes (k : Nat) (v : Int) : (s.setObj k v).pipes = s.pipes := rfl
@[simp] theorem State.setObj_statJobs (k : Nat) (v : Int) : (s.setObj k v).statJobs = s.statJobs := rfl
@[simp] theorem State.setObj_exps (k : Nat) (v : Int) : (s.setObj k v).exps = s.exps := rfl
@[simp] theorem State.setObj_mrg (k : Nat) (v : Int) : (s.setObj k v).mrg = s.mrg := rfl
@[simp] theorem State.setObj_wide (k : Nat) (v : Int) : (s.setObj k v).wide = s.wide := rfl
@[simp] theorem State.setObj_sup (k : Nat) (v : Int) : (s.setObj k v).sup = s.sup := rfl
@[simp] theorem State.setObj_pwr (k : Nat) (v : Int) : (s.setObj k v).pwr = s.pwr := rfl
@[simp] theorem State.setObj_trk (k : Nat) (v : Int) : (s.setObj k v).trk = s.trk := rfl
@[simp] theorem State.setObj_net (k : Nat) (v : Int) : (s.setObj k v).net = s.net := rfl
@[simp] theorem State.setObj_dma (k : Nat) (v : Int) : (s.setObj k v).dma = s.dma := rfl
@[simp] theorem State.setObj_fifos (k : Nat) (v : Int) : (s.setObj k v).fifos = s.fifos := rfl
@[simp] theorem State.setObj_crossings (k : Nat) (v : Int) : (s.setObj k v).crossings = s.crossings := rfl
@[simp] theorem State.setObj_mems (k : Nat) (v : Int) : (s.setObj k v).mems = s.mems := rfl
@[simp] theorem State.setObj_flash (k : Nat) (v : Int) : (s.setObj k v).flash = s.flash := rfl
@[simp] theorem State.setObj_xspi (k : Nat) (v : Int) : (s.setObj k v).xspi = s.xspi := rfl
@[simp] theorem State.setObj_jtag (k : Nat) (v : Int) : (s.setObj k v).jtag = s.jtag := rfl
@[simp] theorem State.setObj_store (k : Nat) (v : Int) : (s.setObj k v).store = s.store := rfl
@[simp] theorem State.setObj_prot (k : Nat) (v : Int) : (s.setObj k v).prot = s.prot := rfl
@[simp] theorem State.setObj_boot (k : Nat) (v : Int) : (s.setObj k v).boot = s.boot := rfl
@[simp] theorem State.setObj_dram (k : Nat) (v : Int) : (s.setObj k v).dram = s.dram := rfl
@[simp] theorem State.setObj_rcv (k : Nat) (v : Int) : (s.setObj k v).rcv = s.rcv := rfl
@[simp] theorem State.setObj_cal (k : Nat) (v : Int) : (s.setObj k v).cal = s.cal := rfl

/-! resetObj changes `dict` only. -/
@[simp] theorem State.resetObj_pending (k : Nat) : (s.resetObj k).pending = s.pending := rfl
@[simp] theorem State.resetObj_part (k : Nat) : (s.resetObj k).part = s.part := rfl
@[simp] theorem State.resetObj_strapNode (k : Nat) : (s.resetObj k).strapNode = s.strapNode := rfl
@[simp] theorem State.resetObj_strapBoot (k : Nat) : (s.resetObj k).strapBoot = s.strapBoot := rfl
@[simp] theorem State.resetObj_cycles (k : Nat) : (s.resetObj k).cycles = s.cycles := rfl
@[simp] theorem State.resetObj_time (k : Nat) : (s.resetObj k).time = s.time := rfl
@[simp] theorem State.resetObj_doms (k : Nat) : (s.resetObj k).doms = s.doms := rfl
@[simp] theorem State.resetObj_out (k : Nat) : (s.resetObj k).out = s.out := rfl
@[simp] theorem State.resetObj_free (k : Nat) : (s.resetObj k).free = s.free := rfl
@[simp] theorem State.resetObj_mem (k : Nat) : (s.resetObj k).mem = s.mem := rfl
@[simp] theorem State.resetObj_poison (k : Nat) : (s.resetObj k).poison = s.poison := rfl
@[simp] theorem State.resetObj_ev (k : Nat) : (s.resetObj k).ev = s.ev := rfl
@[simp] theorem State.resetObj_dap (k : Nat) : (s.resetObj k).dap = s.dap := rfl
@[simp] theorem State.resetObj_tb (k : Nat) : (s.resetObj k).tb = s.tb := rfl
@[simp] theorem State.resetObj_lanes (k : Nat) : (s.resetObj k).lanes = s.lanes := rfl
@[simp] theorem State.resetObj_txs (k : Nat) : (s.resetObj k).txs = s.txs := rfl
@[simp] theorem State.resetObj_gens (k : Nat) : (s.resetObj k).gens = s.gens := rfl
@[simp] theorem State.resetObj_limits (k : Nat) : (s.resetObj k).limits = s.limits := rfl
@[simp] theorem State.resetObj_bells (k : Nat) : (s.resetObj k).bells = s.bells := rfl
@[simp] theorem State.resetObj_commits (k : Nat) : (s.resetObj k).commits = s.commits := rfl
@[simp] theorem State.resetObj_ports (k : Nat) : (s.resetObj k).ports = s.ports := rfl
@[simp] theorem State.resetObj_frames (k : Nat) : (s.resetObj k).frames = s.frames := rfl
@[simp] theorem State.resetObj_nextFid (k : Nat) : (s.resetObj k).nextFid = s.nextFid := rfl
@[simp] theorem State.resetObj_inputs (k : Nat) : (s.resetObj k).inputs = s.inputs := rfl
@[simp] theorem State.resetObj_pipes (k : Nat) : (s.resetObj k).pipes = s.pipes := rfl
@[simp] theorem State.resetObj_statJobs (k : Nat) : (s.resetObj k).statJobs = s.statJobs := rfl
@[simp] theorem State.resetObj_exps (k : Nat) : (s.resetObj k).exps = s.exps := rfl
@[simp] theorem State.resetObj_mrg (k : Nat) : (s.resetObj k).mrg = s.mrg := rfl
@[simp] theorem State.resetObj_wide (k : Nat) : (s.resetObj k).wide = s.wide := rfl
@[simp] theorem State.resetObj_sup (k : Nat) : (s.resetObj k).sup = s.sup := rfl
@[simp] theorem State.resetObj_pwr (k : Nat) : (s.resetObj k).pwr = s.pwr := rfl
@[simp] theorem State.resetObj_trk (k : Nat) : (s.resetObj k).trk = s.trk := rfl
@[simp] theorem State.resetObj_net (k : Nat) : (s.resetObj k).net = s.net := rfl
@[simp] theorem State.resetObj_dma (k : Nat) : (s.resetObj k).dma = s.dma := rfl
@[simp] theorem State.resetObj_fifos (k : Nat) : (s.resetObj k).fifos = s.fifos := rfl
@[simp] theorem State.resetObj_crossings (k : Nat) : (s.resetObj k).crossings = s.crossings := rfl
@[simp] theorem State.resetObj_mems (k : Nat) : (s.resetObj k).mems = s.mems := rfl
@[simp] theorem State.resetObj_flash (k : Nat) : (s.resetObj k).flash = s.flash := rfl
@[simp] theorem State.resetObj_xspi (k : Nat) : (s.resetObj k).xspi = s.xspi := rfl
@[simp] theorem State.resetObj_jtag (k : Nat) : (s.resetObj k).jtag = s.jtag := rfl
@[simp] theorem State.resetObj_store (k : Nat) : (s.resetObj k).store = s.store := rfl
@[simp] theorem State.resetObj_prot (k : Nat) : (s.resetObj k).prot = s.prot := rfl
@[simp] theorem State.resetObj_boot (k : Nat) : (s.resetObj k).boot = s.boot := rfl
@[simp] theorem State.resetObj_dram (k : Nat) : (s.resetObj k).dram = s.dram := rfl
@[simp] theorem State.resetObj_rcv (k : Nat) : (s.resetObj k).rcv = s.rcv := rfl
@[simp] theorem State.resetObj_cal (k : Nat) : (s.resetObj k).cal = s.cal := rfl

/-! setFlag changes `dict` only. -/
@[simp] theorem State.setFlag_pending (k : Nat) (b : Bool) : (s.setFlag k b).pending = s.pending := rfl
@[simp] theorem State.setFlag_part (k : Nat) (b : Bool) : (s.setFlag k b).part = s.part := rfl
@[simp] theorem State.setFlag_strapNode (k : Nat) (b : Bool) : (s.setFlag k b).strapNode = s.strapNode := rfl
@[simp] theorem State.setFlag_strapBoot (k : Nat) (b : Bool) : (s.setFlag k b).strapBoot = s.strapBoot := rfl
@[simp] theorem State.setFlag_cycles (k : Nat) (b : Bool) : (s.setFlag k b).cycles = s.cycles := rfl
@[simp] theorem State.setFlag_time (k : Nat) (b : Bool) : (s.setFlag k b).time = s.time := rfl
@[simp] theorem State.setFlag_doms (k : Nat) (b : Bool) : (s.setFlag k b).doms = s.doms := rfl
@[simp] theorem State.setFlag_out (k : Nat) (b : Bool) : (s.setFlag k b).out = s.out := rfl
@[simp] theorem State.setFlag_free (k : Nat) (b : Bool) : (s.setFlag k b).free = s.free := rfl
@[simp] theorem State.setFlag_mem (k : Nat) (b : Bool) : (s.setFlag k b).mem = s.mem := rfl
@[simp] theorem State.setFlag_poison (k : Nat) (b : Bool) : (s.setFlag k b).poison = s.poison := rfl
@[simp] theorem State.setFlag_ev (k : Nat) (b : Bool) : (s.setFlag k b).ev = s.ev := rfl
@[simp] theorem State.setFlag_dap (k : Nat) (b : Bool) : (s.setFlag k b).dap = s.dap := rfl
@[simp] theorem State.setFlag_tb (k : Nat) (b : Bool) : (s.setFlag k b).tb = s.tb := rfl
@[simp] theorem State.setFlag_lanes (k : Nat) (b : Bool) : (s.setFlag k b).lanes = s.lanes := rfl
@[simp] theorem State.setFlag_txs (k : Nat) (b : Bool) : (s.setFlag k b).txs = s.txs := rfl
@[simp] theorem State.setFlag_gens (k : Nat) (b : Bool) : (s.setFlag k b).gens = s.gens := rfl
@[simp] theorem State.setFlag_limits (k : Nat) (b : Bool) : (s.setFlag k b).limits = s.limits := rfl
@[simp] theorem State.setFlag_bells (k : Nat) (b : Bool) : (s.setFlag k b).bells = s.bells := rfl
@[simp] theorem State.setFlag_commits (k : Nat) (b : Bool) : (s.setFlag k b).commits = s.commits := rfl
@[simp] theorem State.setFlag_ports (k : Nat) (b : Bool) : (s.setFlag k b).ports = s.ports := rfl
@[simp] theorem State.setFlag_frames (k : Nat) (b : Bool) : (s.setFlag k b).frames = s.frames := rfl
@[simp] theorem State.setFlag_nextFid (k : Nat) (b : Bool) : (s.setFlag k b).nextFid = s.nextFid := rfl
@[simp] theorem State.setFlag_inputs (k : Nat) (b : Bool) : (s.setFlag k b).inputs = s.inputs := rfl
@[simp] theorem State.setFlag_pipes (k : Nat) (b : Bool) : (s.setFlag k b).pipes = s.pipes := rfl
@[simp] theorem State.setFlag_statJobs (k : Nat) (b : Bool) : (s.setFlag k b).statJobs = s.statJobs := rfl
@[simp] theorem State.setFlag_exps (k : Nat) (b : Bool) : (s.setFlag k b).exps = s.exps := rfl
@[simp] theorem State.setFlag_mrg (k : Nat) (b : Bool) : (s.setFlag k b).mrg = s.mrg := rfl
@[simp] theorem State.setFlag_wide (k : Nat) (b : Bool) : (s.setFlag k b).wide = s.wide := rfl
@[simp] theorem State.setFlag_sup (k : Nat) (b : Bool) : (s.setFlag k b).sup = s.sup := rfl
@[simp] theorem State.setFlag_pwr (k : Nat) (b : Bool) : (s.setFlag k b).pwr = s.pwr := rfl
@[simp] theorem State.setFlag_trk (k : Nat) (b : Bool) : (s.setFlag k b).trk = s.trk := rfl
@[simp] theorem State.setFlag_net (k : Nat) (b : Bool) : (s.setFlag k b).net = s.net := rfl
@[simp] theorem State.setFlag_dma (k : Nat) (b : Bool) : (s.setFlag k b).dma = s.dma := rfl
@[simp] theorem State.setFlag_fifos (k : Nat) (b : Bool) : (s.setFlag k b).fifos = s.fifos := rfl
@[simp] theorem State.setFlag_crossings (k : Nat) (b : Bool) : (s.setFlag k b).crossings = s.crossings := rfl
@[simp] theorem State.setFlag_mems (k : Nat) (b : Bool) : (s.setFlag k b).mems = s.mems := rfl
@[simp] theorem State.setFlag_flash (k : Nat) (b : Bool) : (s.setFlag k b).flash = s.flash := rfl
@[simp] theorem State.setFlag_xspi (k : Nat) (b : Bool) : (s.setFlag k b).xspi = s.xspi := rfl
@[simp] theorem State.setFlag_jtag (k : Nat) (b : Bool) : (s.setFlag k b).jtag = s.jtag := rfl
@[simp] theorem State.setFlag_store (k : Nat) (b : Bool) : (s.setFlag k b).store = s.store := rfl
@[simp] theorem State.setFlag_prot (k : Nat) (b : Bool) : (s.setFlag k b).prot = s.prot := rfl
@[simp] theorem State.setFlag_boot (k : Nat) (b : Bool) : (s.setFlag k b).boot = s.boot := rfl
@[simp] theorem State.setFlag_dram (k : Nat) (b : Bool) : (s.setFlag k b).dram = s.dram := rfl
@[simp] theorem State.setFlag_rcv (k : Nat) (b : Bool) : (s.setFlag k b).rcv = s.rcv := rfl
@[simp] theorem State.setFlag_cal (k : Nat) (b : Bool) : (s.setFlag k b).cal = s.cal := rfl

/-! addTo changes `dict` only. -/
@[simp] theorem State.addTo_pending (k w d : Nat) : (s.addTo k w d).pending = s.pending := rfl
@[simp] theorem State.addTo_part (k w d : Nat) : (s.addTo k w d).part = s.part := rfl
@[simp] theorem State.addTo_strapNode (k w d : Nat) : (s.addTo k w d).strapNode = s.strapNode := rfl
@[simp] theorem State.addTo_strapBoot (k w d : Nat) : (s.addTo k w d).strapBoot = s.strapBoot := rfl
@[simp] theorem State.addTo_cycles (k w d : Nat) : (s.addTo k w d).cycles = s.cycles := rfl
@[simp] theorem State.addTo_time (k w d : Nat) : (s.addTo k w d).time = s.time := rfl
@[simp] theorem State.addTo_doms (k w d : Nat) : (s.addTo k w d).doms = s.doms := rfl
@[simp] theorem State.addTo_out (k w d : Nat) : (s.addTo k w d).out = s.out := rfl
@[simp] theorem State.addTo_free (k w d : Nat) : (s.addTo k w d).free = s.free := rfl
@[simp] theorem State.addTo_mem (k w d : Nat) : (s.addTo k w d).mem = s.mem := rfl
@[simp] theorem State.addTo_poison (k w d : Nat) : (s.addTo k w d).poison = s.poison := rfl
@[simp] theorem State.addTo_ev (k w d : Nat) : (s.addTo k w d).ev = s.ev := rfl
@[simp] theorem State.addTo_dap (k w d : Nat) : (s.addTo k w d).dap = s.dap := rfl
@[simp] theorem State.addTo_tb (k w d : Nat) : (s.addTo k w d).tb = s.tb := rfl
@[simp] theorem State.addTo_lanes (k w d : Nat) : (s.addTo k w d).lanes = s.lanes := rfl
@[simp] theorem State.addTo_txs (k w d : Nat) : (s.addTo k w d).txs = s.txs := rfl
@[simp] theorem State.addTo_gens (k w d : Nat) : (s.addTo k w d).gens = s.gens := rfl
@[simp] theorem State.addTo_limits (k w d : Nat) : (s.addTo k w d).limits = s.limits := rfl
@[simp] theorem State.addTo_bells (k w d : Nat) : (s.addTo k w d).bells = s.bells := rfl
@[simp] theorem State.addTo_commits (k w d : Nat) : (s.addTo k w d).commits = s.commits := rfl
@[simp] theorem State.addTo_ports (k w d : Nat) : (s.addTo k w d).ports = s.ports := rfl
@[simp] theorem State.addTo_frames (k w d : Nat) : (s.addTo k w d).frames = s.frames := rfl
@[simp] theorem State.addTo_nextFid (k w d : Nat) : (s.addTo k w d).nextFid = s.nextFid := rfl
@[simp] theorem State.addTo_inputs (k w d : Nat) : (s.addTo k w d).inputs = s.inputs := rfl
@[simp] theorem State.addTo_pipes (k w d : Nat) : (s.addTo k w d).pipes = s.pipes := rfl
@[simp] theorem State.addTo_statJobs (k w d : Nat) : (s.addTo k w d).statJobs = s.statJobs := rfl
@[simp] theorem State.addTo_exps (k w d : Nat) : (s.addTo k w d).exps = s.exps := rfl
@[simp] theorem State.addTo_mrg (k w d : Nat) : (s.addTo k w d).mrg = s.mrg := rfl
@[simp] theorem State.addTo_wide (k w d : Nat) : (s.addTo k w d).wide = s.wide := rfl
@[simp] theorem State.addTo_sup (k w d : Nat) : (s.addTo k w d).sup = s.sup := rfl
@[simp] theorem State.addTo_pwr (k w d : Nat) : (s.addTo k w d).pwr = s.pwr := rfl
@[simp] theorem State.addTo_trk (k w d : Nat) : (s.addTo k w d).trk = s.trk := rfl
@[simp] theorem State.addTo_net (k w d : Nat) : (s.addTo k w d).net = s.net := rfl
@[simp] theorem State.addTo_dma (k w d : Nat) : (s.addTo k w d).dma = s.dma := rfl
@[simp] theorem State.addTo_fifos (k w d : Nat) : (s.addTo k w d).fifos = s.fifos := rfl
@[simp] theorem State.addTo_crossings (k w d : Nat) : (s.addTo k w d).crossings = s.crossings := rfl
@[simp] theorem State.addTo_mems (k w d : Nat) : (s.addTo k w d).mems = s.mems := rfl
@[simp] theorem State.addTo_flash (k w d : Nat) : (s.addTo k w d).flash = s.flash := rfl
@[simp] theorem State.addTo_xspi (k w d : Nat) : (s.addTo k w d).xspi = s.xspi := rfl
@[simp] theorem State.addTo_jtag (k w d : Nat) : (s.addTo k w d).jtag = s.jtag := rfl
@[simp] theorem State.addTo_store (k w d : Nat) : (s.addTo k w d).store = s.store := rfl
@[simp] theorem State.addTo_prot (k w d : Nat) : (s.addTo k w d).prot = s.prot := rfl
@[simp] theorem State.addTo_boot (k w d : Nat) : (s.addTo k w d).boot = s.boot := rfl
@[simp] theorem State.addTo_dram (k w d : Nat) : (s.addTo k w d).dram = s.dram := rfl
@[simp] theorem State.addTo_rcv (k w d : Nat) : (s.addTo k w d).rcv = s.rcv := rfl
@[simp] theorem State.addTo_cal (k w d : Nat) : (s.addTo k w d).cal = s.cal := rfl

/-! bump changes `dict` only. -/
@[simp] theorem State.bump_pending (k : Nat) : (s.bump k).pending = s.pending := rfl
@[simp] theorem State.bump_part (k : Nat) : (s.bump k).part = s.part := rfl
@[simp] theorem State.bump_strapNode (k : Nat) : (s.bump k).strapNode = s.strapNode := rfl
@[simp] theorem State.bump_strapBoot (k : Nat) : (s.bump k).strapBoot = s.strapBoot := rfl
@[simp] theorem State.bump_cycles (k : Nat) : (s.bump k).cycles = s.cycles := rfl
@[simp] theorem State.bump_time (k : Nat) : (s.bump k).time = s.time := rfl
@[simp] theorem State.bump_doms (k : Nat) : (s.bump k).doms = s.doms := rfl
@[simp] theorem State.bump_out (k : Nat) : (s.bump k).out = s.out := rfl
@[simp] theorem State.bump_free (k : Nat) : (s.bump k).free = s.free := rfl
@[simp] theorem State.bump_mem (k : Nat) : (s.bump k).mem = s.mem := rfl
@[simp] theorem State.bump_poison (k : Nat) : (s.bump k).poison = s.poison := rfl
@[simp] theorem State.bump_ev (k : Nat) : (s.bump k).ev = s.ev := rfl
@[simp] theorem State.bump_dap (k : Nat) : (s.bump k).dap = s.dap := rfl
@[simp] theorem State.bump_tb (k : Nat) : (s.bump k).tb = s.tb := rfl
@[simp] theorem State.bump_lanes (k : Nat) : (s.bump k).lanes = s.lanes := rfl
@[simp] theorem State.bump_txs (k : Nat) : (s.bump k).txs = s.txs := rfl
@[simp] theorem State.bump_gens (k : Nat) : (s.bump k).gens = s.gens := rfl
@[simp] theorem State.bump_limits (k : Nat) : (s.bump k).limits = s.limits := rfl
@[simp] theorem State.bump_bells (k : Nat) : (s.bump k).bells = s.bells := rfl
@[simp] theorem State.bump_commits (k : Nat) : (s.bump k).commits = s.commits := rfl
@[simp] theorem State.bump_ports (k : Nat) : (s.bump k).ports = s.ports := rfl
@[simp] theorem State.bump_frames (k : Nat) : (s.bump k).frames = s.frames := rfl
@[simp] theorem State.bump_nextFid (k : Nat) : (s.bump k).nextFid = s.nextFid := rfl
@[simp] theorem State.bump_inputs (k : Nat) : (s.bump k).inputs = s.inputs := rfl
@[simp] theorem State.bump_pipes (k : Nat) : (s.bump k).pipes = s.pipes := rfl
@[simp] theorem State.bump_statJobs (k : Nat) : (s.bump k).statJobs = s.statJobs := rfl
@[simp] theorem State.bump_exps (k : Nat) : (s.bump k).exps = s.exps := rfl
@[simp] theorem State.bump_mrg (k : Nat) : (s.bump k).mrg = s.mrg := rfl
@[simp] theorem State.bump_wide (k : Nat) : (s.bump k).wide = s.wide := rfl
@[simp] theorem State.bump_sup (k : Nat) : (s.bump k).sup = s.sup := rfl
@[simp] theorem State.bump_pwr (k : Nat) : (s.bump k).pwr = s.pwr := rfl
@[simp] theorem State.bump_trk (k : Nat) : (s.bump k).trk = s.trk := rfl
@[simp] theorem State.bump_net (k : Nat) : (s.bump k).net = s.net := rfl
@[simp] theorem State.bump_dma (k : Nat) : (s.bump k).dma = s.dma := rfl
@[simp] theorem State.bump_fifos (k : Nat) : (s.bump k).fifos = s.fifos := rfl
@[simp] theorem State.bump_crossings (k : Nat) : (s.bump k).crossings = s.crossings := rfl
@[simp] theorem State.bump_mems (k : Nat) : (s.bump k).mems = s.mems := rfl
@[simp] theorem State.bump_flash (k : Nat) : (s.bump k).flash = s.flash := rfl
@[simp] theorem State.bump_xspi (k : Nat) : (s.bump k).xspi = s.xspi := rfl
@[simp] theorem State.bump_jtag (k : Nat) : (s.bump k).jtag = s.jtag := rfl
@[simp] theorem State.bump_store (k : Nat) : (s.bump k).store = s.store := rfl
@[simp] theorem State.bump_prot (k : Nat) : (s.bump k).prot = s.prot := rfl
@[simp] theorem State.bump_boot (k : Nat) : (s.bump k).boot = s.boot := rfl
@[simp] theorem State.bump_dram (k : Nat) : (s.bump k).dram = s.dram := rfl
@[simp] theorem State.bump_rcv (k : Nat) : (s.bump k).rcv = s.rcv := rfl
@[simp] theorem State.bump_cal (k : Nat) : (s.bump k).cal = s.cal := rfl

/-! setDom changes `doms` only. -/
@[simp] theorem State.setDom_pending (k : Nat) (b : Bytes) : (s.setDom k b).pending = s.pending := rfl
@[simp] theorem State.setDom_part (k : Nat) (b : Bytes) : (s.setDom k b).part = s.part := rfl
@[simp] theorem State.setDom_strapNode (k : Nat) (b : Bytes) : (s.setDom k b).strapNode = s.strapNode := rfl
@[simp] theorem State.setDom_strapBoot (k : Nat) (b : Bytes) : (s.setDom k b).strapBoot = s.strapBoot := rfl
@[simp] theorem State.setDom_cycles (k : Nat) (b : Bytes) : (s.setDom k b).cycles = s.cycles := rfl
@[simp] theorem State.setDom_time (k : Nat) (b : Bytes) : (s.setDom k b).time = s.time := rfl
@[simp] theorem State.setDom_dict (k : Nat) (b : Bytes) : (s.setDom k b).dict = s.dict := rfl
@[simp] theorem State.setDom_out (k : Nat) (b : Bytes) : (s.setDom k b).out = s.out := rfl
@[simp] theorem State.setDom_free (k : Nat) (b : Bytes) : (s.setDom k b).free = s.free := rfl
@[simp] theorem State.setDom_mem (k : Nat) (b : Bytes) : (s.setDom k b).mem = s.mem := rfl
@[simp] theorem State.setDom_poison (k : Nat) (b : Bytes) : (s.setDom k b).poison = s.poison := rfl
@[simp] theorem State.setDom_ev (k : Nat) (b : Bytes) : (s.setDom k b).ev = s.ev := rfl
@[simp] theorem State.setDom_dap (k : Nat) (b : Bytes) : (s.setDom k b).dap = s.dap := rfl
@[simp] theorem State.setDom_tb (k : Nat) (b : Bytes) : (s.setDom k b).tb = s.tb := rfl
@[simp] theorem State.setDom_lanes (k : Nat) (b : Bytes) : (s.setDom k b).lanes = s.lanes := rfl
@[simp] theorem State.setDom_txs (k : Nat) (b : Bytes) : (s.setDom k b).txs = s.txs := rfl
@[simp] theorem State.setDom_gens (k : Nat) (b : Bytes) : (s.setDom k b).gens = s.gens := rfl
@[simp] theorem State.setDom_limits (k : Nat) (b : Bytes) : (s.setDom k b).limits = s.limits := rfl
@[simp] theorem State.setDom_bells (k : Nat) (b : Bytes) : (s.setDom k b).bells = s.bells := rfl
@[simp] theorem State.setDom_commits (k : Nat) (b : Bytes) : (s.setDom k b).commits = s.commits := rfl
@[simp] theorem State.setDom_ports (k : Nat) (b : Bytes) : (s.setDom k b).ports = s.ports := rfl
@[simp] theorem State.setDom_frames (k : Nat) (b : Bytes) : (s.setDom k b).frames = s.frames := rfl
@[simp] theorem State.setDom_nextFid (k : Nat) (b : Bytes) : (s.setDom k b).nextFid = s.nextFid := rfl
@[simp] theorem State.setDom_inputs (k : Nat) (b : Bytes) : (s.setDom k b).inputs = s.inputs := rfl
@[simp] theorem State.setDom_pipes (k : Nat) (b : Bytes) : (s.setDom k b).pipes = s.pipes := rfl
@[simp] theorem State.setDom_statJobs (k : Nat) (b : Bytes) : (s.setDom k b).statJobs = s.statJobs := rfl
@[simp] theorem State.setDom_exps (k : Nat) (b : Bytes) : (s.setDom k b).exps = s.exps := rfl
@[simp] theorem State.setDom_mrg (k : Nat) (b : Bytes) : (s.setDom k b).mrg = s.mrg := rfl
@[simp] theorem State.setDom_wide (k : Nat) (b : Bytes) : (s.setDom k b).wide = s.wide := rfl
@[simp] theorem State.setDom_sup (k : Nat) (b : Bytes) : (s.setDom k b).sup = s.sup := rfl
@[simp] theorem State.setDom_pwr (k : Nat) (b : Bytes) : (s.setDom k b).pwr = s.pwr := rfl
@[simp] theorem State.setDom_trk (k : Nat) (b : Bytes) : (s.setDom k b).trk = s.trk := rfl
@[simp] theorem State.setDom_net (k : Nat) (b : Bytes) : (s.setDom k b).net = s.net := rfl
@[simp] theorem State.setDom_dma (k : Nat) (b : Bytes) : (s.setDom k b).dma = s.dma := rfl
@[simp] theorem State.setDom_fifos (k : Nat) (b : Bytes) : (s.setDom k b).fifos = s.fifos := rfl
@[simp] theorem State.setDom_crossings (k : Nat) (b : Bytes) : (s.setDom k b).crossings = s.crossings := rfl
@[simp] theorem State.setDom_mems (k : Nat) (b : Bytes) : (s.setDom k b).mems = s.mems := rfl
@[simp] theorem State.setDom_flash (k : Nat) (b : Bytes) : (s.setDom k b).flash = s.flash := rfl
@[simp] theorem State.setDom_xspi (k : Nat) (b : Bytes) : (s.setDom k b).xspi = s.xspi := rfl
@[simp] theorem State.setDom_jtag (k : Nat) (b : Bytes) : (s.setDom k b).jtag = s.jtag := rfl
@[simp] theorem State.setDom_store (k : Nat) (b : Bytes) : (s.setDom k b).store = s.store := rfl
@[simp] theorem State.setDom_prot (k : Nat) (b : Bytes) : (s.setDom k b).prot = s.prot := rfl
@[simp] theorem State.setDom_boot (k : Nat) (b : Bytes) : (s.setDom k b).boot = s.boot := rfl
@[simp] theorem State.setDom_dram (k : Nat) (b : Bytes) : (s.setDom k b).dram = s.dram := rfl
@[simp] theorem State.setDom_rcv (k : Nat) (b : Bytes) : (s.setDom k b).rcv = s.rcv := rfl
@[simp] theorem State.setDom_cal (k : Nat) (b : Bytes) : (s.setDom k b).cal = s.cal := rfl

/-! send changes `out` only. -/
@[simp] theorem State.send_pending (o : Out) : (s.send o).pending = s.pending := rfl
@[simp] theorem State.send_part (o : Out) : (s.send o).part = s.part := rfl
@[simp] theorem State.send_strapNode (o : Out) : (s.send o).strapNode = s.strapNode := rfl
@[simp] theorem State.send_strapBoot (o : Out) : (s.send o).strapBoot = s.strapBoot := rfl
@[simp] theorem State.send_cycles (o : Out) : (s.send o).cycles = s.cycles := rfl
@[simp] theorem State.send_time (o : Out) : (s.send o).time = s.time := rfl
@[simp] theorem State.send_dict (o : Out) : (s.send o).dict = s.dict := rfl
@[simp] theorem State.send_doms (o : Out) : (s.send o).doms = s.doms := rfl
@[simp] theorem State.send_free (o : Out) : (s.send o).free = s.free := rfl
@[simp] theorem State.send_mem (o : Out) : (s.send o).mem = s.mem := rfl
@[simp] theorem State.send_poison (o : Out) : (s.send o).poison = s.poison := rfl
@[simp] theorem State.send_ev (o : Out) : (s.send o).ev = s.ev := rfl
@[simp] theorem State.send_dap (o : Out) : (s.send o).dap = s.dap := rfl
@[simp] theorem State.send_tb (o : Out) : (s.send o).tb = s.tb := rfl
@[simp] theorem State.send_lanes (o : Out) : (s.send o).lanes = s.lanes := rfl
@[simp] theorem State.send_txs (o : Out) : (s.send o).txs = s.txs := rfl
@[simp] theorem State.send_gens (o : Out) : (s.send o).gens = s.gens := rfl
@[simp] theorem State.send_limits (o : Out) : (s.send o).limits = s.limits := rfl
@[simp] theorem State.send_bells (o : Out) : (s.send o).bells = s.bells := rfl
@[simp] theorem State.send_commits (o : Out) : (s.send o).commits = s.commits := rfl
@[simp] theorem State.send_ports (o : Out) : (s.send o).ports = s.ports := rfl
@[simp] theorem State.send_frames (o : Out) : (s.send o).frames = s.frames := rfl
@[simp] theorem State.send_nextFid (o : Out) : (s.send o).nextFid = s.nextFid := rfl
@[simp] theorem State.send_inputs (o : Out) : (s.send o).inputs = s.inputs := rfl
@[simp] theorem State.send_pipes (o : Out) : (s.send o).pipes = s.pipes := rfl
@[simp] theorem State.send_statJobs (o : Out) : (s.send o).statJobs = s.statJobs := rfl
@[simp] theorem State.send_exps (o : Out) : (s.send o).exps = s.exps := rfl
@[simp] theorem State.send_mrg (o : Out) : (s.send o).mrg = s.mrg := rfl
@[simp] theorem State.send_wide (o : Out) : (s.send o).wide = s.wide := rfl
@[simp] theorem State.send_sup (o : Out) : (s.send o).sup = s.sup := rfl
@[simp] theorem State.send_pwr (o : Out) : (s.send o).pwr = s.pwr := rfl
@[simp] theorem State.send_trk (o : Out) : (s.send o).trk = s.trk := rfl
@[simp] theorem State.send_net (o : Out) : (s.send o).net = s.net := rfl
@[simp] theorem State.send_dma (o : Out) : (s.send o).dma = s.dma := rfl
@[simp] theorem State.send_fifos (o : Out) : (s.send o).fifos = s.fifos := rfl
@[simp] theorem State.send_crossings (o : Out) : (s.send o).crossings = s.crossings := rfl
@[simp] theorem State.send_mems (o : Out) : (s.send o).mems = s.mems := rfl
@[simp] theorem State.send_flash (o : Out) : (s.send o).flash = s.flash := rfl
@[simp] theorem State.send_xspi (o : Out) : (s.send o).xspi = s.xspi := rfl
@[simp] theorem State.send_jtag (o : Out) : (s.send o).jtag = s.jtag := rfl
@[simp] theorem State.send_store (o : Out) : (s.send o).store = s.store := rfl
@[simp] theorem State.send_prot (o : Out) : (s.send o).prot = s.prot := rfl
@[simp] theorem State.send_boot (o : Out) : (s.send o).boot = s.boot := rfl
@[simp] theorem State.send_dram (o : Out) : (s.send o).dram = s.dram := rfl
@[simp] theorem State.send_rcv (o : Out) : (s.send o).rcv = s.rcv := rfl
@[simp] theorem State.send_cal (o : Out) : (s.send o).cal = s.cal := rfl

/-! updSession changes `dap` only. -/
@[simp] theorem State.updSession_pending (n : Nat) (f : Session → Session) : (s.updSession n f).pending = s.pending := rfl
@[simp] theorem State.updSession_part (n : Nat) (f : Session → Session) : (s.updSession n f).part = s.part := rfl
@[simp] theorem State.updSession_strapNode (n : Nat) (f : Session → Session) : (s.updSession n f).strapNode = s.strapNode := rfl
@[simp] theorem State.updSession_strapBoot (n : Nat) (f : Session → Session) : (s.updSession n f).strapBoot = s.strapBoot := rfl
@[simp] theorem State.updSession_cycles (n : Nat) (f : Session → Session) : (s.updSession n f).cycles = s.cycles := rfl
@[simp] theorem State.updSession_time (n : Nat) (f : Session → Session) : (s.updSession n f).time = s.time := rfl
@[simp] theorem State.updSession_dict (n : Nat) (f : Session → Session) : (s.updSession n f).dict = s.dict := rfl
@[simp] theorem State.updSession_doms (n : Nat) (f : Session → Session) : (s.updSession n f).doms = s.doms := rfl
@[simp] theorem State.updSession_out (n : Nat) (f : Session → Session) : (s.updSession n f).out = s.out := rfl
@[simp] theorem State.updSession_free (n : Nat) (f : Session → Session) : (s.updSession n f).free = s.free := rfl
@[simp] theorem State.updSession_mem (n : Nat) (f : Session → Session) : (s.updSession n f).mem = s.mem := rfl
@[simp] theorem State.updSession_poison (n : Nat) (f : Session → Session) : (s.updSession n f).poison = s.poison := rfl
@[simp] theorem State.updSession_ev (n : Nat) (f : Session → Session) : (s.updSession n f).ev = s.ev := rfl
@[simp] theorem State.updSession_tb (n : Nat) (f : Session → Session) : (s.updSession n f).tb = s.tb := rfl
@[simp] theorem State.updSession_lanes (n : Nat) (f : Session → Session) : (s.updSession n f).lanes = s.lanes := rfl
@[simp] theorem State.updSession_txs (n : Nat) (f : Session → Session) : (s.updSession n f).txs = s.txs := rfl
@[simp] theorem State.updSession_gens (n : Nat) (f : Session → Session) : (s.updSession n f).gens = s.gens := rfl
@[simp] theorem State.updSession_limits (n : Nat) (f : Session → Session) : (s.updSession n f).limits = s.limits := rfl
@[simp] theorem State.updSession_bells (n : Nat) (f : Session → Session) : (s.updSession n f).bells = s.bells := rfl
@[simp] theorem State.updSession_commits (n : Nat) (f : Session → Session) : (s.updSession n f).commits = s.commits := rfl
@[simp] theorem State.updSession_ports (n : Nat) (f : Session → Session) : (s.updSession n f).ports = s.ports := rfl
@[simp] theorem State.updSession_frames (n : Nat) (f : Session → Session) : (s.updSession n f).frames = s.frames := rfl
@[simp] theorem State.updSession_nextFid (n : Nat) (f : Session → Session) : (s.updSession n f).nextFid = s.nextFid := rfl
@[simp] theorem State.updSession_inputs (n : Nat) (f : Session → Session) : (s.updSession n f).inputs = s.inputs := rfl
@[simp] theorem State.updSession_pipes (n : Nat) (f : Session → Session) : (s.updSession n f).pipes = s.pipes := rfl
@[simp] theorem State.updSession_statJobs (n : Nat) (f : Session → Session) : (s.updSession n f).statJobs = s.statJobs := rfl
@[simp] theorem State.updSession_exps (n : Nat) (f : Session → Session) : (s.updSession n f).exps = s.exps := rfl
@[simp] theorem State.updSession_mrg (n : Nat) (f : Session → Session) : (s.updSession n f).mrg = s.mrg := rfl
@[simp] theorem State.updSession_wide (n : Nat) (f : Session → Session) : (s.updSession n f).wide = s.wide := rfl
@[simp] theorem State.updSession_sup (n : Nat) (f : Session → Session) : (s.updSession n f).sup = s.sup := rfl
@[simp] theorem State.updSession_pwr (n : Nat) (f : Session → Session) : (s.updSession n f).pwr = s.pwr := rfl
@[simp] theorem State.updSession_trk (n : Nat) (f : Session → Session) : (s.updSession n f).trk = s.trk := rfl
@[simp] theorem State.updSession_net (n : Nat) (f : Session → Session) : (s.updSession n f).net = s.net := rfl
@[simp] theorem State.updSession_dma (n : Nat) (f : Session → Session) : (s.updSession n f).dma = s.dma := rfl
@[simp] theorem State.updSession_fifos (n : Nat) (f : Session → Session) : (s.updSession n f).fifos = s.fifos := rfl
@[simp] theorem State.updSession_crossings (n : Nat) (f : Session → Session) : (s.updSession n f).crossings = s.crossings := rfl
@[simp] theorem State.updSession_mems (n : Nat) (f : Session → Session) : (s.updSession n f).mems = s.mems := rfl
@[simp] theorem State.updSession_flash (n : Nat) (f : Session → Session) : (s.updSession n f).flash = s.flash := rfl
@[simp] theorem State.updSession_xspi (n : Nat) (f : Session → Session) : (s.updSession n f).xspi = s.xspi := rfl
@[simp] theorem State.updSession_jtag (n : Nat) (f : Session → Session) : (s.updSession n f).jtag = s.jtag := rfl
@[simp] theorem State.updSession_store (n : Nat) (f : Session → Session) : (s.updSession n f).store = s.store := rfl
@[simp] theorem State.updSession_prot (n : Nat) (f : Session → Session) : (s.updSession n f).prot = s.prot := rfl
@[simp] theorem State.updSession_boot (n : Nat) (f : Session → Session) : (s.updSession n f).boot = s.boot := rfl
@[simp] theorem State.updSession_dram (n : Nat) (f : Session → Session) : (s.updSession n f).dram = s.dram := rfl
@[simp] theorem State.updSession_rcv (n : Nat) (f : Session → Session) : (s.updSession n f).rcv = s.rcv := rfl
@[simp] theorem State.updSession_cal (n : Nat) (f : Session → Session) : (s.updSession n f).cal = s.cal := rfl

/-! setLane changes `dict` only. -/
@[simp] theorem State.setLane_pending (l : Lane) (o v : Nat) : (s.setLane l o v).pending = s.pending := rfl
@[simp] theorem State.setLane_part (l : Lane) (o v : Nat) : (s.setLane l o v).part = s.part := rfl
@[simp] theorem State.setLane_strapNode (l : Lane) (o v : Nat) : (s.setLane l o v).strapNode = s.strapNode := rfl
@[simp] theorem State.setLane_strapBoot (l : Lane) (o v : Nat) : (s.setLane l o v).strapBoot = s.strapBoot := rfl
@[simp] theorem State.setLane_cycles (l : Lane) (o v : Nat) : (s.setLane l o v).cycles = s.cycles := rfl
@[simp] theorem State.setLane_time (l : Lane) (o v : Nat) : (s.setLane l o v).time = s.time := rfl
@[simp] theorem State.setLane_doms (l : Lane) (o v : Nat) : (s.setLane l o v).doms = s.doms := rfl
@[simp] theorem State.setLane_out (l : Lane) (o v : Nat) : (s.setLane l o v).out = s.out := rfl
@[simp] theorem State.setLane_free (l : Lane) (o v : Nat) : (s.setLane l o v).free = s.free := rfl
@[simp] theorem State.setLane_mem (l : Lane) (o v : Nat) : (s.setLane l o v).mem = s.mem := rfl
@[simp] theorem State.setLane_poison (l : Lane) (o v : Nat) : (s.setLane l o v).poison = s.poison := rfl
@[simp] theorem State.setLane_ev (l : Lane) (o v : Nat) : (s.setLane l o v).ev = s.ev := rfl
@[simp] theorem State.setLane_dap (l : Lane) (o v : Nat) : (s.setLane l o v).dap = s.dap := rfl
@[simp] theorem State.setLane_tb (l : Lane) (o v : Nat) : (s.setLane l o v).tb = s.tb := rfl
@[simp] theorem State.setLane_lanes (l : Lane) (o v : Nat) : (s.setLane l o v).lanes = s.lanes := rfl
@[simp] theorem State.setLane_txs (l : Lane) (o v : Nat) : (s.setLane l o v).txs = s.txs := rfl
@[simp] theorem State.setLane_gens (l : Lane) (o v : Nat) : (s.setLane l o v).gens = s.gens := rfl
@[simp] theorem State.setLane_limits (l : Lane) (o v : Nat) : (s.setLane l o v).limits = s.limits := rfl
@[simp] theorem State.setLane_bells (l : Lane) (o v : Nat) : (s.setLane l o v).bells = s.bells := rfl
@[simp] theorem State.setLane_commits (l : Lane) (o v : Nat) : (s.setLane l o v).commits = s.commits := rfl
@[simp] theorem State.setLane_ports (l : Lane) (o v : Nat) : (s.setLane l o v).ports = s.ports := rfl
@[simp] theorem State.setLane_frames (l : Lane) (o v : Nat) : (s.setLane l o v).frames = s.frames := rfl
@[simp] theorem State.setLane_nextFid (l : Lane) (o v : Nat) : (s.setLane l o v).nextFid = s.nextFid := rfl
@[simp] theorem State.setLane_inputs (l : Lane) (o v : Nat) : (s.setLane l o v).inputs = s.inputs := rfl
@[simp] theorem State.setLane_pipes (l : Lane) (o v : Nat) : (s.setLane l o v).pipes = s.pipes := rfl
@[simp] theorem State.setLane_statJobs (l : Lane) (o v : Nat) : (s.setLane l o v).statJobs = s.statJobs := rfl
@[simp] theorem State.setLane_exps (l : Lane) (o v : Nat) : (s.setLane l o v).exps = s.exps := rfl
@[simp] theorem State.setLane_mrg (l : Lane) (o v : Nat) : (s.setLane l o v).mrg = s.mrg := rfl
@[simp] theorem State.setLane_wide (l : Lane) (o v : Nat) : (s.setLane l o v).wide = s.wide := rfl
@[simp] theorem State.setLane_sup (l : Lane) (o v : Nat) : (s.setLane l o v).sup = s.sup := rfl
@[simp] theorem State.setLane_pwr (l : Lane) (o v : Nat) : (s.setLane l o v).pwr = s.pwr := rfl
@[simp] theorem State.setLane_trk (l : Lane) (o v : Nat) : (s.setLane l o v).trk = s.trk := rfl
@[simp] theorem State.setLane_net (l : Lane) (o v : Nat) : (s.setLane l o v).net = s.net := rfl
@[simp] theorem State.setLane_dma (l : Lane) (o v : Nat) : (s.setLane l o v).dma = s.dma := rfl
@[simp] theorem State.setLane_fifos (l : Lane) (o v : Nat) : (s.setLane l o v).fifos = s.fifos := rfl
@[simp] theorem State.setLane_crossings (l : Lane) (o v : Nat) : (s.setLane l o v).crossings = s.crossings := rfl
@[simp] theorem State.setLane_mems (l : Lane) (o v : Nat) : (s.setLane l o v).mems = s.mems := rfl
@[simp] theorem State.setLane_flash (l : Lane) (o v : Nat) : (s.setLane l o v).flash = s.flash := rfl
@[simp] theorem State.setLane_xspi (l : Lane) (o v : Nat) : (s.setLane l o v).xspi = s.xspi := rfl
@[simp] theorem State.setLane_jtag (l : Lane) (o v : Nat) : (s.setLane l o v).jtag = s.jtag := rfl
@[simp] theorem State.setLane_store (l : Lane) (o v : Nat) : (s.setLane l o v).store = s.store := rfl
@[simp] theorem State.setLane_prot (l : Lane) (o v : Nat) : (s.setLane l o v).prot = s.prot := rfl
@[simp] theorem State.setLane_boot (l : Lane) (o v : Nat) : (s.setLane l o v).boot = s.boot := rfl
@[simp] theorem State.setLane_dram (l : Lane) (o v : Nat) : (s.setLane l o v).dram = s.dram := rfl
@[simp] theorem State.setLane_rcv (l : Lane) (o v : Nat) : (s.setLane l o v).rcv = s.rcv := rfl
@[simp] theorem State.setLane_cal (l : Lane) (o v : Nat) : (s.setLane l o v).cal = s.cal := rfl

/-! updLane changes `lanes` only. -/
@[simp] theorem State.updLane_pending (l : Lane) (f : LaneSt → LaneSt) : (s.updLane l f).pending = s.pending := rfl
@[simp] theorem State.updLane_part (l : Lane) (f : LaneSt → LaneSt) : (s.updLane l f).part = s.part := rfl
@[simp] theorem State.updLane_strapNode (l : Lane) (f : LaneSt → LaneSt) : (s.updLane l f).strapNode = s.strapNode := rfl
@[simp] theorem State.updLane_strapBoot (l : Lane) (f : LaneSt → LaneSt) : (s.updLane l f).strapBoot = s.strapBoot := rfl
@[simp] theorem State.updLane_cycles (l : Lane) (f : LaneSt → LaneSt) : (s.updLane l f).cycles = s.cycles := rfl
@[simp] theorem State.updLane_time (l : Lane) (f : LaneSt → LaneSt) : (s.updLane l f).time = s.time := rfl
@[simp] theorem State.updLane_dict (l : Lane) (f : LaneSt → LaneSt) : (s.updLane l f).dict = s.dict := rfl
@[simp] theorem State.updLane_doms (l : Lane) (f : LaneSt → LaneSt) : (s.updLane l f).doms = s.doms := rfl
@[simp] theorem State.updLane_out (l : Lane) (f : LaneSt → LaneSt) : (s.updLane l f).out = s.out := rfl
@[simp] theorem State.updLane_free (l : Lane) (f : LaneSt → LaneSt) : (s.updLane l f).free = s.free := rfl
@[simp] theorem State.updLane_mem (l : Lane) (f : LaneSt → LaneSt) : (s.updLane l f).mem = s.mem := rfl
@[simp] theorem State.updLane_poison (l : Lane) (f : LaneSt → LaneSt) : (s.updLane l f).poison = s.poison := rfl
@[simp] theorem State.updLane_ev (l : Lane) (f : LaneSt → LaneSt) : (s.updLane l f).ev = s.ev := rfl
@[simp] theorem State.updLane_dap (l : Lane) (f : LaneSt → LaneSt) : (s.updLane l f).dap = s.dap := rfl
@[simp] theorem State.updLane_tb (l : Lane) (f : LaneSt → LaneSt) : (s.updLane l f).tb = s.tb := rfl
@[simp] theorem State.updLane_txs (l : Lane) (f : LaneSt → LaneSt) : (s.updLane l f).txs = s.txs := rfl
@[simp] theorem State.updLane_gens (l : Lane) (f : LaneSt → LaneSt) : (s.updLane l f).gens = s.gens := rfl
@[simp] theorem State.updLane_limits (l : Lane) (f : LaneSt → LaneSt) : (s.updLane l f).limits = s.limits := rfl
@[simp] theorem State.updLane_bells (l : Lane) (f : LaneSt → LaneSt) : (s.updLane l f).bells = s.bells := rfl
@[simp] theorem State.updLane_commits (l : Lane) (f : LaneSt → LaneSt) : (s.updLane l f).commits = s.commits := rfl
@[simp] theorem State.updLane_ports (l : Lane) (f : LaneSt → LaneSt) : (s.updLane l f).ports = s.ports := rfl
@[simp] theorem State.updLane_frames (l : Lane) (f : LaneSt → LaneSt) : (s.updLane l f).frames = s.frames := rfl
@[simp] theorem State.updLane_nextFid (l : Lane) (f : LaneSt → LaneSt) : (s.updLane l f).nextFid = s.nextFid := rfl
@[simp] theorem State.updLane_inputs (l : Lane) (f : LaneSt → LaneSt) : (s.updLane l f).inputs = s.inputs := rfl
@[simp] theorem State.updLane_pipes (l : Lane) (f : LaneSt → LaneSt) : (s.updLane l f).pipes = s.pipes := rfl
@[simp] theorem State.updLane_statJobs (l : Lane) (f : LaneSt → LaneSt) : (s.updLane l f).statJobs = s.statJobs := rfl
@[simp] theorem State.updLane_exps (l : Lane) (f : LaneSt → LaneSt) : (s.updLane l f).exps = s.exps := rfl
@[simp] theorem State.updLane_mrg (l : Lane) (f : LaneSt → LaneSt) : (s.updLane l f).mrg = s.mrg := rfl
@[simp] theorem State.updLane_wide (l : Lane) (f : LaneSt → LaneSt) : (s.updLane l f).wide = s.wide := rfl
@[simp] theorem State.updLane_sup (l : Lane) (f : LaneSt → LaneSt) : (s.updLane l f).sup = s.sup := rfl
@[simp] theorem State.updLane_pwr (l : Lane) (f : LaneSt → LaneSt) : (s.updLane l f).pwr = s.pwr := rfl
@[simp] theorem State.updLane_trk (l : Lane) (f : LaneSt → LaneSt) : (s.updLane l f).trk = s.trk := rfl
@[simp] theorem State.updLane_net (l : Lane) (f : LaneSt → LaneSt) : (s.updLane l f).net = s.net := rfl
@[simp] theorem State.updLane_dma (l : Lane) (f : LaneSt → LaneSt) : (s.updLane l f).dma = s.dma := rfl
@[simp] theorem State.updLane_fifos (l : Lane) (f : LaneSt → LaneSt) : (s.updLane l f).fifos = s.fifos := rfl
@[simp] theorem State.updLane_crossings (l : Lane) (f : LaneSt → LaneSt) : (s.updLane l f).crossings = s.crossings := rfl
@[simp] theorem State.updLane_mems (l : Lane) (f : LaneSt → LaneSt) : (s.updLane l f).mems = s.mems := rfl
@[simp] theorem State.updLane_flash (l : Lane) (f : LaneSt → LaneSt) : (s.updLane l f).flash = s.flash := rfl
@[simp] theorem State.updLane_xspi (l : Lane) (f : LaneSt → LaneSt) : (s.updLane l f).xspi = s.xspi := rfl
@[simp] theorem State.updLane_jtag (l : Lane) (f : LaneSt → LaneSt) : (s.updLane l f).jtag = s.jtag := rfl
@[simp] theorem State.updLane_store (l : Lane) (f : LaneSt → LaneSt) : (s.updLane l f).store = s.store := rfl
@[simp] theorem State.updLane_prot (l : Lane) (f : LaneSt → LaneSt) : (s.updLane l f).prot = s.prot := rfl
@[simp] theorem State.updLane_boot (l : Lane) (f : LaneSt → LaneSt) : (s.updLane l f).boot = s.boot := rfl
@[simp] theorem State.updLane_dram (l : Lane) (f : LaneSt → LaneSt) : (s.updLane l f).dram = s.dram := rfl
@[simp] theorem State.updLane_rcv (l : Lane) (f : LaneSt → LaneSt) : (s.updLane l f).rcv = s.rcv := rfl
@[simp] theorem State.updLane_cal (l : Lane) (f : LaneSt → LaneSt) : (s.updLane l f).cal = s.cal := rfl

/-! updFrame changes `frames` only. -/
@[simp] theorem State.updFrame_pending (n : Nat) (f : Frame → Frame) : (s.updFrame n f).pending = s.pending := rfl
@[simp] theorem State.updFrame_part (n : Nat) (f : Frame → Frame) : (s.updFrame n f).part = s.part := rfl
@[simp] theorem State.updFrame_strapNode (n : Nat) (f : Frame → Frame) : (s.updFrame n f).strapNode = s.strapNode := rfl
@[simp] theorem State.updFrame_strapBoot (n : Nat) (f : Frame → Frame) : (s.updFrame n f).strapBoot = s.strapBoot := rfl
@[simp] theorem State.updFrame_cycles (n : Nat) (f : Frame → Frame) : (s.updFrame n f).cycles = s.cycles := rfl
@[simp] theorem State.updFrame_time (n : Nat) (f : Frame → Frame) : (s.updFrame n f).time = s.time := rfl
@[simp] theorem State.updFrame_dict (n : Nat) (f : Frame → Frame) : (s.updFrame n f).dict = s.dict := rfl
@[simp] theorem State.updFrame_doms (n : Nat) (f : Frame → Frame) : (s.updFrame n f).doms = s.doms := rfl
@[simp] theorem State.updFrame_out (n : Nat) (f : Frame → Frame) : (s.updFrame n f).out = s.out := rfl
@[simp] theorem State.updFrame_free (n : Nat) (f : Frame → Frame) : (s.updFrame n f).free = s.free := rfl
@[simp] theorem State.updFrame_mem (n : Nat) (f : Frame → Frame) : (s.updFrame n f).mem = s.mem := rfl
@[simp] theorem State.updFrame_poison (n : Nat) (f : Frame → Frame) : (s.updFrame n f).poison = s.poison := rfl
@[simp] theorem State.updFrame_ev (n : Nat) (f : Frame → Frame) : (s.updFrame n f).ev = s.ev := rfl
@[simp] theorem State.updFrame_dap (n : Nat) (f : Frame → Frame) : (s.updFrame n f).dap = s.dap := rfl
@[simp] theorem State.updFrame_tb (n : Nat) (f : Frame → Frame) : (s.updFrame n f).tb = s.tb := rfl
@[simp] theorem State.updFrame_lanes (n : Nat) (f : Frame → Frame) : (s.updFrame n f).lanes = s.lanes := rfl
@[simp] theorem State.updFrame_txs (n : Nat) (f : Frame → Frame) : (s.updFrame n f).txs = s.txs := rfl
@[simp] theorem State.updFrame_gens (n : Nat) (f : Frame → Frame) : (s.updFrame n f).gens = s.gens := rfl
@[simp] theorem State.updFrame_limits (n : Nat) (f : Frame → Frame) : (s.updFrame n f).limits = s.limits := rfl
@[simp] theorem State.updFrame_bells (n : Nat) (f : Frame → Frame) : (s.updFrame n f).bells = s.bells := rfl
@[simp] theorem State.updFrame_commits (n : Nat) (f : Frame → Frame) : (s.updFrame n f).commits = s.commits := rfl
@[simp] theorem State.updFrame_ports (n : Nat) (f : Frame → Frame) : (s.updFrame n f).ports = s.ports := rfl
@[simp] theorem State.updFrame_nextFid (n : Nat) (f : Frame → Frame) : (s.updFrame n f).nextFid = s.nextFid := rfl
@[simp] theorem State.updFrame_inputs (n : Nat) (f : Frame → Frame) : (s.updFrame n f).inputs = s.inputs := rfl
@[simp] theorem State.updFrame_pipes (n : Nat) (f : Frame → Frame) : (s.updFrame n f).pipes = s.pipes := rfl
@[simp] theorem State.updFrame_statJobs (n : Nat) (f : Frame → Frame) : (s.updFrame n f).statJobs = s.statJobs := rfl
@[simp] theorem State.updFrame_exps (n : Nat) (f : Frame → Frame) : (s.updFrame n f).exps = s.exps := rfl
@[simp] theorem State.updFrame_mrg (n : Nat) (f : Frame → Frame) : (s.updFrame n f).mrg = s.mrg := rfl
@[simp] theorem State.updFrame_wide (n : Nat) (f : Frame → Frame) : (s.updFrame n f).wide = s.wide := rfl
@[simp] theorem State.updFrame_sup (n : Nat) (f : Frame → Frame) : (s.updFrame n f).sup = s.sup := rfl
@[simp] theorem State.updFrame_pwr (n : Nat) (f : Frame → Frame) : (s.updFrame n f).pwr = s.pwr := rfl
@[simp] theorem State.updFrame_trk (n : Nat) (f : Frame → Frame) : (s.updFrame n f).trk = s.trk := rfl
@[simp] theorem State.updFrame_net (n : Nat) (f : Frame → Frame) : (s.updFrame n f).net = s.net := rfl
@[simp] theorem State.updFrame_dma (n : Nat) (f : Frame → Frame) : (s.updFrame n f).dma = s.dma := rfl
@[simp] theorem State.updFrame_fifos (n : Nat) (f : Frame → Frame) : (s.updFrame n f).fifos = s.fifos := rfl
@[simp] theorem State.updFrame_crossings (n : Nat) (f : Frame → Frame) : (s.updFrame n f).crossings = s.crossings := rfl
@[simp] theorem State.updFrame_mems (n : Nat) (f : Frame → Frame) : (s.updFrame n f).mems = s.mems := rfl
@[simp] theorem State.updFrame_flash (n : Nat) (f : Frame → Frame) : (s.updFrame n f).flash = s.flash := rfl
@[simp] theorem State.updFrame_xspi (n : Nat) (f : Frame → Frame) : (s.updFrame n f).xspi = s.xspi := rfl
@[simp] theorem State.updFrame_jtag (n : Nat) (f : Frame → Frame) : (s.updFrame n f).jtag = s.jtag := rfl
@[simp] theorem State.updFrame_store (n : Nat) (f : Frame → Frame) : (s.updFrame n f).store = s.store := rfl
@[simp] theorem State.updFrame_prot (n : Nat) (f : Frame → Frame) : (s.updFrame n f).prot = s.prot := rfl
@[simp] theorem State.updFrame_boot (n : Nat) (f : Frame → Frame) : (s.updFrame n f).boot = s.boot := rfl
@[simp] theorem State.updFrame_dram (n : Nat) (f : Frame → Frame) : (s.updFrame n f).dram = s.dram := rfl
@[simp] theorem State.updFrame_rcv (n : Nat) (f : Frame → Frame) : (s.updFrame n f).rcv = s.rcv := rfl
@[simp] theorem State.updFrame_cal (n : Nat) (f : Frame → Frame) : (s.updFrame n f).cal = s.cal := rfl

/-! updOut changes `mrg` only. -/
@[simp] theorem State.updOut_pending (n : Nat) (f : OutFrame → OutFrame) : (s.updOut n f).pending = s.pending := rfl
@[simp] theorem State.updOut_part (n : Nat) (f : OutFrame → OutFrame) : (s.updOut n f).part = s.part := rfl
@[simp] theorem State.updOut_strapNode (n : Nat) (f : OutFrame → OutFrame) : (s.updOut n f).strapNode = s.strapNode := rfl
@[simp] theorem State.updOut_strapBoot (n : Nat) (f : OutFrame → OutFrame) : (s.updOut n f).strapBoot = s.strapBoot := rfl
@[simp] theorem State.updOut_cycles (n : Nat) (f : OutFrame → OutFrame) : (s.updOut n f).cycles = s.cycles := rfl
@[simp] theorem State.updOut_time (n : Nat) (f : OutFrame → OutFrame) : (s.updOut n f).time = s.time := rfl
@[simp] theorem State.updOut_dict (n : Nat) (f : OutFrame → OutFrame) : (s.updOut n f).dict = s.dict := rfl
@[simp] theorem State.updOut_doms (n : Nat) (f : OutFrame → OutFrame) : (s.updOut n f).doms = s.doms := rfl
@[simp] theorem State.updOut_out (n : Nat) (f : OutFrame → OutFrame) : (s.updOut n f).out = s.out := rfl
@[simp] theorem State.updOut_free (n : Nat) (f : OutFrame → OutFrame) : (s.updOut n f).free = s.free := rfl
@[simp] theorem State.updOut_mem (n : Nat) (f : OutFrame → OutFrame) : (s.updOut n f).mem = s.mem := rfl
@[simp] theorem State.updOut_poison (n : Nat) (f : OutFrame → OutFrame) : (s.updOut n f).poison = s.poison := rfl
@[simp] theorem State.updOut_ev (n : Nat) (f : OutFrame → OutFrame) : (s.updOut n f).ev = s.ev := rfl
@[simp] theorem State.updOut_dap (n : Nat) (f : OutFrame → OutFrame) : (s.updOut n f).dap = s.dap := rfl
@[simp] theorem State.updOut_tb (n : Nat) (f : OutFrame → OutFrame) : (s.updOut n f).tb = s.tb := rfl
@[simp] theorem State.updOut_lanes (n : Nat) (f : OutFrame → OutFrame) : (s.updOut n f).lanes = s.lanes := rfl
@[simp] theorem State.updOut_txs (n : Nat) (f : OutFrame → OutFrame) : (s.updOut n f).txs = s.txs := rfl
@[simp] theorem State.updOut_gens (n : Nat) (f : OutFrame → OutFrame) : (s.updOut n f).gens = s.gens := rfl
@[simp] theorem State.updOut_limits (n : Nat) (f : OutFrame → OutFrame) : (s.updOut n f).limits = s.limits := rfl
@[simp] theorem State.updOut_bells (n : Nat) (f : OutFrame → OutFrame) : (s.updOut n f).bells = s.bells := rfl
@[simp] theorem State.updOut_commits (n : Nat) (f : OutFrame → OutFrame) : (s.updOut n f).commits = s.commits := rfl
@[simp] theorem State.updOut_ports (n : Nat) (f : OutFrame → OutFrame) : (s.updOut n f).ports = s.ports := rfl
@[simp] theorem State.updOut_frames (n : Nat) (f : OutFrame → OutFrame) : (s.updOut n f).frames = s.frames := rfl
@[simp] theorem State.updOut_nextFid (n : Nat) (f : OutFrame → OutFrame) : (s.updOut n f).nextFid = s.nextFid := rfl
@[simp] theorem State.updOut_inputs (n : Nat) (f : OutFrame → OutFrame) : (s.updOut n f).inputs = s.inputs := rfl
@[simp] theorem State.updOut_pipes (n : Nat) (f : OutFrame → OutFrame) : (s.updOut n f).pipes = s.pipes := rfl
@[simp] theorem State.updOut_statJobs (n : Nat) (f : OutFrame → OutFrame) : (s.updOut n f).statJobs = s.statJobs := rfl
@[simp] theorem State.updOut_exps (n : Nat) (f : OutFrame → OutFrame) : (s.updOut n f).exps = s.exps := rfl
@[simp] theorem State.updOut_wide (n : Nat) (f : OutFrame → OutFrame) : (s.updOut n f).wide = s.wide := rfl
@[simp] theorem State.updOut_sup (n : Nat) (f : OutFrame → OutFrame) : (s.updOut n f).sup = s.sup := rfl
@[simp] theorem State.updOut_pwr (n : Nat) (f : OutFrame → OutFrame) : (s.updOut n f).pwr = s.pwr := rfl
@[simp] theorem State.updOut_trk (n : Nat) (f : OutFrame → OutFrame) : (s.updOut n f).trk = s.trk := rfl
@[simp] theorem State.updOut_net (n : Nat) (f : OutFrame → OutFrame) : (s.updOut n f).net = s.net := rfl
@[simp] theorem State.updOut_dma (n : Nat) (f : OutFrame → OutFrame) : (s.updOut n f).dma = s.dma := rfl
@[simp] theorem State.updOut_fifos (n : Nat) (f : OutFrame → OutFrame) : (s.updOut n f).fifos = s.fifos := rfl
@[simp] theorem State.updOut_crossings (n : Nat) (f : OutFrame → OutFrame) : (s.updOut n f).crossings = s.crossings := rfl
@[simp] theorem State.updOut_mems (n : Nat) (f : OutFrame → OutFrame) : (s.updOut n f).mems = s.mems := rfl
@[simp] theorem State.updOut_flash (n : Nat) (f : OutFrame → OutFrame) : (s.updOut n f).flash = s.flash := rfl
@[simp] theorem State.updOut_xspi (n : Nat) (f : OutFrame → OutFrame) : (s.updOut n f).xspi = s.xspi := rfl
@[simp] theorem State.updOut_jtag (n : Nat) (f : OutFrame → OutFrame) : (s.updOut n f).jtag = s.jtag := rfl
@[simp] theorem State.updOut_store (n : Nat) (f : OutFrame → OutFrame) : (s.updOut n f).store = s.store := rfl
@[simp] theorem State.updOut_prot (n : Nat) (f : OutFrame → OutFrame) : (s.updOut n f).prot = s.prot := rfl
@[simp] theorem State.updOut_boot (n : Nat) (f : OutFrame → OutFrame) : (s.updOut n f).boot = s.boot := rfl
@[simp] theorem State.updOut_dram (n : Nat) (f : OutFrame → OutFrame) : (s.updOut n f).dram = s.dram := rfl
@[simp] theorem State.updOut_rcv (n : Nat) (f : OutFrame → OutFrame) : (s.updOut n f).rcv = s.rcv := rfl
@[simp] theorem State.updOut_cal (n : Nat) (f : OutFrame → OutFrame) : (s.updOut n f).cal = s.cal := rfl

/-! updPort changes `ports` only. -/
@[simp] theorem State.updPort_pending (n : Nat) (f : PortSt → PortSt) : (s.updPort n f).pending = s.pending := rfl
@[simp] theorem State.updPort_part (n : Nat) (f : PortSt → PortSt) : (s.updPort n f).part = s.part := rfl
@[simp] theorem State.updPort_strapNode (n : Nat) (f : PortSt → PortSt) : (s.updPort n f).strapNode = s.strapNode := rfl
@[simp] theorem State.updPort_strapBoot (n : Nat) (f : PortSt → PortSt) : (s.updPort n f).strapBoot = s.strapBoot := rfl
@[simp] theorem State.updPort_cycles (n : Nat) (f : PortSt → PortSt) : (s.updPort n f).cycles = s.cycles := rfl
@[simp] theorem State.updPort_time (n : Nat) (f : PortSt → PortSt) : (s.updPort n f).time = s.time := rfl
@[simp] theorem State.updPort_dict (n : Nat) (f : PortSt → PortSt) : (s.updPort n f).dict = s.dict := rfl
@[simp] theorem State.updPort_doms (n : Nat) (f : PortSt → PortSt) : (s.updPort n f).doms = s.doms := rfl
@[simp] theorem State.updPort_out (n : Nat) (f : PortSt → PortSt) : (s.updPort n f).out = s.out := rfl
@[simp] theorem State.updPort_free (n : Nat) (f : PortSt → PortSt) : (s.updPort n f).free = s.free := rfl
@[simp] theorem State.updPort_mem (n : Nat) (f : PortSt → PortSt) : (s.updPort n f).mem = s.mem := rfl
@[simp] theorem State.updPort_poison (n : Nat) (f : PortSt → PortSt) : (s.updPort n f).poison = s.poison := rfl
@[simp] theorem State.updPort_ev (n : Nat) (f : PortSt → PortSt) : (s.updPort n f).ev = s.ev := rfl
@[simp] theorem State.updPort_dap (n : Nat) (f : PortSt → PortSt) : (s.updPort n f).dap = s.dap := rfl
@[simp] theorem State.updPort_tb (n : Nat) (f : PortSt → PortSt) : (s.updPort n f).tb = s.tb := rfl
@[simp] theorem State.updPort_lanes (n : Nat) (f : PortSt → PortSt) : (s.updPort n f).lanes = s.lanes := rfl
@[simp] theorem State.updPort_txs (n : Nat) (f : PortSt → PortSt) : (s.updPort n f).txs = s.txs := rfl
@[simp] theorem State.updPort_gens (n : Nat) (f : PortSt → PortSt) : (s.updPort n f).gens = s.gens := rfl
@[simp] theorem State.updPort_limits (n : Nat) (f : PortSt → PortSt) : (s.updPort n f).limits = s.limits := rfl
@[simp] theorem State.updPort_bells (n : Nat) (f : PortSt → PortSt) : (s.updPort n f).bells = s.bells := rfl
@[simp] theorem State.updPort_commits (n : Nat) (f : PortSt → PortSt) : (s.updPort n f).commits = s.commits := rfl
@[simp] theorem State.updPort_frames (n : Nat) (f : PortSt → PortSt) : (s.updPort n f).frames = s.frames := rfl
@[simp] theorem State.updPort_nextFid (n : Nat) (f : PortSt → PortSt) : (s.updPort n f).nextFid = s.nextFid := rfl
@[simp] theorem State.updPort_inputs (n : Nat) (f : PortSt → PortSt) : (s.updPort n f).inputs = s.inputs := rfl
@[simp] theorem State.updPort_pipes (n : Nat) (f : PortSt → PortSt) : (s.updPort n f).pipes = s.pipes := rfl
@[simp] theorem State.updPort_statJobs (n : Nat) (f : PortSt → PortSt) : (s.updPort n f).statJobs = s.statJobs := rfl
@[simp] theorem State.updPort_exps (n : Nat) (f : PortSt → PortSt) : (s.updPort n f).exps = s.exps := rfl
@[simp] theorem State.updPort_mrg (n : Nat) (f : PortSt → PortSt) : (s.updPort n f).mrg = s.mrg := rfl
@[simp] theorem State.updPort_wide (n : Nat) (f : PortSt → PortSt) : (s.updPort n f).wide = s.wide := rfl
@[simp] theorem State.updPort_sup (n : Nat) (f : PortSt → PortSt) : (s.updPort n f).sup = s.sup := rfl
@[simp] theorem State.updPort_pwr (n : Nat) (f : PortSt → PortSt) : (s.updPort n f).pwr = s.pwr := rfl
@[simp] theorem State.updPort_trk (n : Nat) (f : PortSt → PortSt) : (s.updPort n f).trk = s.trk := rfl
@[simp] theorem State.updPort_net (n : Nat) (f : PortSt → PortSt) : (s.updPort n f).net = s.net := rfl
@[simp] theorem State.updPort_dma (n : Nat) (f : PortSt → PortSt) : (s.updPort n f).dma = s.dma := rfl
@[simp] theorem State.updPort_fifos (n : Nat) (f : PortSt → PortSt) : (s.updPort n f).fifos = s.fifos := rfl
@[simp] theorem State.updPort_crossings (n : Nat) (f : PortSt → PortSt) : (s.updPort n f).crossings = s.crossings := rfl
@[simp] theorem State.updPort_mems (n : Nat) (f : PortSt → PortSt) : (s.updPort n f).mems = s.mems := rfl
@[simp] theorem State.updPort_flash (n : Nat) (f : PortSt → PortSt) : (s.updPort n f).flash = s.flash := rfl
@[simp] theorem State.updPort_xspi (n : Nat) (f : PortSt → PortSt) : (s.updPort n f).xspi = s.xspi := rfl
@[simp] theorem State.updPort_jtag (n : Nat) (f : PortSt → PortSt) : (s.updPort n f).jtag = s.jtag := rfl
@[simp] theorem State.updPort_store (n : Nat) (f : PortSt → PortSt) : (s.updPort n f).store = s.store := rfl
@[simp] theorem State.updPort_prot (n : Nat) (f : PortSt → PortSt) : (s.updPort n f).prot = s.prot := rfl
@[simp] theorem State.updPort_boot (n : Nat) (f : PortSt → PortSt) : (s.updPort n f).boot = s.boot := rfl
@[simp] theorem State.updPort_dram (n : Nat) (f : PortSt → PortSt) : (s.updPort n f).dram = s.dram := rfl
@[simp] theorem State.updPort_rcv (n : Nat) (f : PortSt → PortSt) : (s.updPort n f).rcv = s.rcv := rfl
@[simp] theorem State.updPort_cal (n : Nat) (f : PortSt → PortSt) : (s.updPort n f).cal = s.cal := rfl

/-! updExp changes `exps` only. -/
@[simp] theorem State.updExp_pending (n : Nat) (f : ExpSt → ExpSt) : (s.updExp n f).pending = s.pending := rfl
@[simp] theorem State.updExp_part (n : Nat) (f : ExpSt → ExpSt) : (s.updExp n f).part = s.part := rfl
@[simp] theorem State.updExp_strapNode (n : Nat) (f : ExpSt → ExpSt) : (s.updExp n f).strapNode = s.strapNode := rfl
@[simp] theorem State.updExp_strapBoot (n : Nat) (f : ExpSt → ExpSt) : (s.updExp n f).strapBoot = s.strapBoot := rfl
@[simp] theorem State.updExp_cycles (n : Nat) (f : ExpSt → ExpSt) : (s.updExp n f).cycles = s.cycles := rfl
@[simp] theorem State.updExp_time (n : Nat) (f : ExpSt → ExpSt) : (s.updExp n f).time = s.time := rfl
@[simp] theorem State.updExp_dict (n : Nat) (f : ExpSt → ExpSt) : (s.updExp n f).dict = s.dict := rfl
@[simp] theorem State.updExp_doms (n : Nat) (f : ExpSt → ExpSt) : (s.updExp n f).doms = s.doms := rfl
@[simp] theorem State.updExp_out (n : Nat) (f : ExpSt → ExpSt) : (s.updExp n f).out = s.out := rfl
@[simp] theorem State.updExp_free (n : Nat) (f : ExpSt → ExpSt) : (s.updExp n f).free = s.free := rfl
@[simp] theorem State.updExp_mem (n : Nat) (f : ExpSt → ExpSt) : (s.updExp n f).mem = s.mem := rfl
@[simp] theorem State.updExp_poison (n : Nat) (f : ExpSt → ExpSt) : (s.updExp n f).poison = s.poison := rfl
@[simp] theorem State.updExp_ev (n : Nat) (f : ExpSt → ExpSt) : (s.updExp n f).ev = s.ev := rfl
@[simp] theorem State.updExp_dap (n : Nat) (f : ExpSt → ExpSt) : (s.updExp n f).dap = s.dap := rfl
@[simp] theorem State.updExp_tb (n : Nat) (f : ExpSt → ExpSt) : (s.updExp n f).tb = s.tb := rfl
@[simp] theorem State.updExp_lanes (n : Nat) (f : ExpSt → ExpSt) : (s.updExp n f).lanes = s.lanes := rfl
@[simp] theorem State.updExp_txs (n : Nat) (f : ExpSt → ExpSt) : (s.updExp n f).txs = s.txs := rfl
@[simp] theorem State.updExp_gens (n : Nat) (f : ExpSt → ExpSt) : (s.updExp n f).gens = s.gens := rfl
@[simp] theorem State.updExp_limits (n : Nat) (f : ExpSt → ExpSt) : (s.updExp n f).limits = s.limits := rfl
@[simp] theorem State.updExp_bells (n : Nat) (f : ExpSt → ExpSt) : (s.updExp n f).bells = s.bells := rfl
@[simp] theorem State.updExp_commits (n : Nat) (f : ExpSt → ExpSt) : (s.updExp n f).commits = s.commits := rfl
@[simp] theorem State.updExp_ports (n : Nat) (f : ExpSt → ExpSt) : (s.updExp n f).ports = s.ports := rfl
@[simp] theorem State.updExp_frames (n : Nat) (f : ExpSt → ExpSt) : (s.updExp n f).frames = s.frames := rfl
@[simp] theorem State.updExp_nextFid (n : Nat) (f : ExpSt → ExpSt) : (s.updExp n f).nextFid = s.nextFid := rfl
@[simp] theorem State.updExp_inputs (n : Nat) (f : ExpSt → ExpSt) : (s.updExp n f).inputs = s.inputs := rfl
@[simp] theorem State.updExp_pipes (n : Nat) (f : ExpSt → ExpSt) : (s.updExp n f).pipes = s.pipes := rfl
@[simp] theorem State.updExp_statJobs (n : Nat) (f : ExpSt → ExpSt) : (s.updExp n f).statJobs = s.statJobs := rfl
@[simp] theorem State.updExp_mrg (n : Nat) (f : ExpSt → ExpSt) : (s.updExp n f).mrg = s.mrg := rfl
@[simp] theorem State.updExp_wide (n : Nat) (f : ExpSt → ExpSt) : (s.updExp n f).wide = s.wide := rfl
@[simp] theorem State.updExp_sup (n : Nat) (f : ExpSt → ExpSt) : (s.updExp n f).sup = s.sup := rfl
@[simp] theorem State.updExp_pwr (n : Nat) (f : ExpSt → ExpSt) : (s.updExp n f).pwr = s.pwr := rfl
@[simp] theorem State.updExp_trk (n : Nat) (f : ExpSt → ExpSt) : (s.updExp n f).trk = s.trk := rfl
@[simp] theorem State.updExp_net (n : Nat) (f : ExpSt → ExpSt) : (s.updExp n f).net = s.net := rfl
@[simp] theorem State.updExp_dma (n : Nat) (f : ExpSt → ExpSt) : (s.updExp n f).dma = s.dma := rfl
@[simp] theorem State.updExp_fifos (n : Nat) (f : ExpSt → ExpSt) : (s.updExp n f).fifos = s.fifos := rfl
@[simp] theorem State.updExp_crossings (n : Nat) (f : ExpSt → ExpSt) : (s.updExp n f).crossings = s.crossings := rfl
@[simp] theorem State.updExp_mems (n : Nat) (f : ExpSt → ExpSt) : (s.updExp n f).mems = s.mems := rfl
@[simp] theorem State.updExp_flash (n : Nat) (f : ExpSt → ExpSt) : (s.updExp n f).flash = s.flash := rfl
@[simp] theorem State.updExp_xspi (n : Nat) (f : ExpSt → ExpSt) : (s.updExp n f).xspi = s.xspi := rfl
@[simp] theorem State.updExp_jtag (n : Nat) (f : ExpSt → ExpSt) : (s.updExp n f).jtag = s.jtag := rfl
@[simp] theorem State.updExp_store (n : Nat) (f : ExpSt → ExpSt) : (s.updExp n f).store = s.store := rfl
@[simp] theorem State.updExp_prot (n : Nat) (f : ExpSt → ExpSt) : (s.updExp n f).prot = s.prot := rfl
@[simp] theorem State.updExp_boot (n : Nat) (f : ExpSt → ExpSt) : (s.updExp n f).boot = s.boot := rfl
@[simp] theorem State.updExp_dram (n : Nat) (f : ExpSt → ExpSt) : (s.updExp n f).dram = s.dram := rfl
@[simp] theorem State.updExp_rcv (n : Nat) (f : ExpSt → ExpSt) : (s.updExp n f).rcv = s.rcv := rfl
@[simp] theorem State.updExp_cal (n : Nat) (f : ExpSt → ExpSt) : (s.updExp n f).cal = s.cal := rfl

/-! updInput changes `inputs` only. -/
@[simp] theorem State.updInput_pending (n : Nat) (f : InputSt → InputSt) : (s.updInput n f).pending = s.pending := rfl
@[simp] theorem State.updInput_part (n : Nat) (f : InputSt → InputSt) : (s.updInput n f).part = s.part := rfl
@[simp] theorem State.updInput_strapNode (n : Nat) (f : InputSt → InputSt) : (s.updInput n f).strapNode = s.strapNode := rfl
@[simp] theorem State.updInput_strapBoot (n : Nat) (f : InputSt → InputSt) : (s.updInput n f).strapBoot = s.strapBoot := rfl
@[simp] theorem State.updInput_cycles (n : Nat) (f : InputSt → InputSt) : (s.updInput n f).cycles = s.cycles := rfl
@[simp] theorem State.updInput_time (n : Nat) (f : InputSt → InputSt) : (s.updInput n f).time = s.time := rfl
@[simp] theorem State.updInput_dict (n : Nat) (f : InputSt → InputSt) : (s.updInput n f).dict = s.dict := rfl
@[simp] theorem State.updInput_doms (n : Nat) (f : InputSt → InputSt) : (s.updInput n f).doms = s.doms := rfl
@[simp] theorem State.updInput_out (n : Nat) (f : InputSt → InputSt) : (s.updInput n f).out = s.out := rfl
@[simp] theorem State.updInput_free (n : Nat) (f : InputSt → InputSt) : (s.updInput n f).free = s.free := rfl
@[simp] theorem State.updInput_mem (n : Nat) (f : InputSt → InputSt) : (s.updInput n f).mem = s.mem := rfl
@[simp] theorem State.updInput_poison (n : Nat) (f : InputSt → InputSt) : (s.updInput n f).poison = s.poison := rfl
@[simp] theorem State.updInput_ev (n : Nat) (f : InputSt → InputSt) : (s.updInput n f).ev = s.ev := rfl
@[simp] theorem State.updInput_dap (n : Nat) (f : InputSt → InputSt) : (s.updInput n f).dap = s.dap := rfl
@[simp] theorem State.updInput_tb (n : Nat) (f : InputSt → InputSt) : (s.updInput n f).tb = s.tb := rfl
@[simp] theorem State.updInput_lanes (n : Nat) (f : InputSt → InputSt) : (s.updInput n f).lanes = s.lanes := rfl
@[simp] theorem State.updInput_txs (n : Nat) (f : InputSt → InputSt) : (s.updInput n f).txs = s.txs := rfl
@[simp] theorem State.updInput_gens (n : Nat) (f : InputSt → InputSt) : (s.updInput n f).gens = s.gens := rfl
@[simp] theorem State.updInput_limits (n : Nat) (f : InputSt → InputSt) : (s.updInput n f).limits = s.limits := rfl
@[simp] theorem State.updInput_bells (n : Nat) (f : InputSt → InputSt) : (s.updInput n f).bells = s.bells := rfl
@[simp] theorem State.updInput_commits (n : Nat) (f : InputSt → InputSt) : (s.updInput n f).commits = s.commits := rfl
@[simp] theorem State.updInput_ports (n : Nat) (f : InputSt → InputSt) : (s.updInput n f).ports = s.ports := rfl
@[simp] theorem State.updInput_frames (n : Nat) (f : InputSt → InputSt) : (s.updInput n f).frames = s.frames := rfl
@[simp] theorem State.updInput_nextFid (n : Nat) (f : InputSt → InputSt) : (s.updInput n f).nextFid = s.nextFid := rfl
@[simp] theorem State.updInput_pipes (n : Nat) (f : InputSt → InputSt) : (s.updInput n f).pipes = s.pipes := rfl
@[simp] theorem State.updInput_statJobs (n : Nat) (f : InputSt → InputSt) : (s.updInput n f).statJobs = s.statJobs := rfl
@[simp] theorem State.updInput_exps (n : Nat) (f : InputSt → InputSt) : (s.updInput n f).exps = s.exps := rfl
@[simp] theorem State.updInput_mrg (n : Nat) (f : InputSt → InputSt) : (s.updInput n f).mrg = s.mrg := rfl
@[simp] theorem State.updInput_wide (n : Nat) (f : InputSt → InputSt) : (s.updInput n f).wide = s.wide := rfl
@[simp] theorem State.updInput_sup (n : Nat) (f : InputSt → InputSt) : (s.updInput n f).sup = s.sup := rfl
@[simp] theorem State.updInput_pwr (n : Nat) (f : InputSt → InputSt) : (s.updInput n f).pwr = s.pwr := rfl
@[simp] theorem State.updInput_trk (n : Nat) (f : InputSt → InputSt) : (s.updInput n f).trk = s.trk := rfl
@[simp] theorem State.updInput_net (n : Nat) (f : InputSt → InputSt) : (s.updInput n f).net = s.net := rfl
@[simp] theorem State.updInput_dma (n : Nat) (f : InputSt → InputSt) : (s.updInput n f).dma = s.dma := rfl
@[simp] theorem State.updInput_fifos (n : Nat) (f : InputSt → InputSt) : (s.updInput n f).fifos = s.fifos := rfl
@[simp] theorem State.updInput_crossings (n : Nat) (f : InputSt → InputSt) : (s.updInput n f).crossings = s.crossings := rfl
@[simp] theorem State.updInput_mems (n : Nat) (f : InputSt → InputSt) : (s.updInput n f).mems = s.mems := rfl
@[simp] theorem State.updInput_flash (n : Nat) (f : InputSt → InputSt) : (s.updInput n f).flash = s.flash := rfl
@[simp] theorem State.updInput_xspi (n : Nat) (f : InputSt → InputSt) : (s.updInput n f).xspi = s.xspi := rfl
@[simp] theorem State.updInput_jtag (n : Nat) (f : InputSt → InputSt) : (s.updInput n f).jtag = s.jtag := rfl
@[simp] theorem State.updInput_store (n : Nat) (f : InputSt → InputSt) : (s.updInput n f).store = s.store := rfl
@[simp] theorem State.updInput_prot (n : Nat) (f : InputSt → InputSt) : (s.updInput n f).prot = s.prot := rfl
@[simp] theorem State.updInput_boot (n : Nat) (f : InputSt → InputSt) : (s.updInput n f).boot = s.boot := rfl
@[simp] theorem State.updInput_dram (n : Nat) (f : InputSt → InputSt) : (s.updInput n f).dram = s.dram := rfl
@[simp] theorem State.updInput_rcv (n : Nat) (f : InputSt → InputSt) : (s.updInput n f).rcv = s.rcv := rfl
@[simp] theorem State.updInput_cal (n : Nat) (f : InputSt → InputSt) : (s.updInput n f).cal = s.cal := rfl

/-! updPipe changes `pipes` only. -/
@[simp] theorem State.updPipe_pending (n : Nat) (f : PipeSt → PipeSt) : (s.updPipe n f).pending = s.pending := rfl
@[simp] theorem State.updPipe_part (n : Nat) (f : PipeSt → PipeSt) : (s.updPipe n f).part = s.part := rfl
@[simp] theorem State.updPipe_strapNode (n : Nat) (f : PipeSt → PipeSt) : (s.updPipe n f).strapNode = s.strapNode := rfl
@[simp] theorem State.updPipe_strapBoot (n : Nat) (f : PipeSt → PipeSt) : (s.updPipe n f).strapBoot = s.strapBoot := rfl
@[simp] theorem State.updPipe_cycles (n : Nat) (f : PipeSt → PipeSt) : (s.updPipe n f).cycles = s.cycles := rfl
@[simp] theorem State.updPipe_time (n : Nat) (f : PipeSt → PipeSt) : (s.updPipe n f).time = s.time := rfl
@[simp] theorem State.updPipe_dict (n : Nat) (f : PipeSt → PipeSt) : (s.updPipe n f).dict = s.dict := rfl
@[simp] theorem State.updPipe_doms (n : Nat) (f : PipeSt → PipeSt) : (s.updPipe n f).doms = s.doms := rfl
@[simp] theorem State.updPipe_out (n : Nat) (f : PipeSt → PipeSt) : (s.updPipe n f).out = s.out := rfl
@[simp] theorem State.updPipe_free (n : Nat) (f : PipeSt → PipeSt) : (s.updPipe n f).free = s.free := rfl
@[simp] theorem State.updPipe_mem (n : Nat) (f : PipeSt → PipeSt) : (s.updPipe n f).mem = s.mem := rfl
@[simp] theorem State.updPipe_poison (n : Nat) (f : PipeSt → PipeSt) : (s.updPipe n f).poison = s.poison := rfl
@[simp] theorem State.updPipe_ev (n : Nat) (f : PipeSt → PipeSt) : (s.updPipe n f).ev = s.ev := rfl
@[simp] theorem State.updPipe_dap (n : Nat) (f : PipeSt → PipeSt) : (s.updPipe n f).dap = s.dap := rfl
@[simp] theorem State.updPipe_tb (n : Nat) (f : PipeSt → PipeSt) : (s.updPipe n f).tb = s.tb := rfl
@[simp] theorem State.updPipe_lanes (n : Nat) (f : PipeSt → PipeSt) : (s.updPipe n f).lanes = s.lanes := rfl
@[simp] theorem State.updPipe_txs (n : Nat) (f : PipeSt → PipeSt) : (s.updPipe n f).txs = s.txs := rfl
@[simp] theorem State.updPipe_gens (n : Nat) (f : PipeSt → PipeSt) : (s.updPipe n f).gens = s.gens := rfl
@[simp] theorem State.updPipe_limits (n : Nat) (f : PipeSt → PipeSt) : (s.updPipe n f).limits = s.limits := rfl
@[simp] theorem State.updPipe_bells (n : Nat) (f : PipeSt → PipeSt) : (s.updPipe n f).bells = s.bells := rfl
@[simp] theorem State.updPipe_commits (n : Nat) (f : PipeSt → PipeSt) : (s.updPipe n f).commits = s.commits := rfl
@[simp] theorem State.updPipe_ports (n : Nat) (f : PipeSt → PipeSt) : (s.updPipe n f).ports = s.ports := rfl
@[simp] theorem State.updPipe_frames (n : Nat) (f : PipeSt → PipeSt) : (s.updPipe n f).frames = s.frames := rfl
@[simp] theorem State.updPipe_nextFid (n : Nat) (f : PipeSt → PipeSt) : (s.updPipe n f).nextFid = s.nextFid := rfl
@[simp] theorem State.updPipe_inputs (n : Nat) (f : PipeSt → PipeSt) : (s.updPipe n f).inputs = s.inputs := rfl
@[simp] theorem State.updPipe_statJobs (n : Nat) (f : PipeSt → PipeSt) : (s.updPipe n f).statJobs = s.statJobs := rfl
@[simp] theorem State.updPipe_exps (n : Nat) (f : PipeSt → PipeSt) : (s.updPipe n f).exps = s.exps := rfl
@[simp] theorem State.updPipe_mrg (n : Nat) (f : PipeSt → PipeSt) : (s.updPipe n f).mrg = s.mrg := rfl
@[simp] theorem State.updPipe_wide (n : Nat) (f : PipeSt → PipeSt) : (s.updPipe n f).wide = s.wide := rfl
@[simp] theorem State.updPipe_sup (n : Nat) (f : PipeSt → PipeSt) : (s.updPipe n f).sup = s.sup := rfl
@[simp] theorem State.updPipe_pwr (n : Nat) (f : PipeSt → PipeSt) : (s.updPipe n f).pwr = s.pwr := rfl
@[simp] theorem State.updPipe_trk (n : Nat) (f : PipeSt → PipeSt) : (s.updPipe n f).trk = s.trk := rfl
@[simp] theorem State.updPipe_net (n : Nat) (f : PipeSt → PipeSt) : (s.updPipe n f).net = s.net := rfl
@[simp] theorem State.updPipe_dma (n : Nat) (f : PipeSt → PipeSt) : (s.updPipe n f).dma = s.dma := rfl
@[simp] theorem State.updPipe_fifos (n : Nat) (f : PipeSt → PipeSt) : (s.updPipe n f).fifos = s.fifos := rfl
@[simp] theorem State.updPipe_crossings (n : Nat) (f : PipeSt → PipeSt) : (s.updPipe n f).crossings = s.crossings := rfl
@[simp] theorem State.updPipe_mems (n : Nat) (f : PipeSt → PipeSt) : (s.updPipe n f).mems = s.mems := rfl
@[simp] theorem State.updPipe_flash (n : Nat) (f : PipeSt → PipeSt) : (s.updPipe n f).flash = s.flash := rfl
@[simp] theorem State.updPipe_xspi (n : Nat) (f : PipeSt → PipeSt) : (s.updPipe n f).xspi = s.xspi := rfl
@[simp] theorem State.updPipe_jtag (n : Nat) (f : PipeSt → PipeSt) : (s.updPipe n f).jtag = s.jtag := rfl
@[simp] theorem State.updPipe_store (n : Nat) (f : PipeSt → PipeSt) : (s.updPipe n f).store = s.store := rfl
@[simp] theorem State.updPipe_prot (n : Nat) (f : PipeSt → PipeSt) : (s.updPipe n f).prot = s.prot := rfl
@[simp] theorem State.updPipe_boot (n : Nat) (f : PipeSt → PipeSt) : (s.updPipe n f).boot = s.boot := rfl
@[simp] theorem State.updPipe_dram (n : Nat) (f : PipeSt → PipeSt) : (s.updPipe n f).dram = s.dram := rfl
@[simp] theorem State.updPipe_rcv (n : Nat) (f : PipeSt → PipeSt) : (s.updPipe n f).rcv = s.rcv := rfl
@[simp] theorem State.updPipe_cal (n : Nat) (f : PipeSt → PipeSt) : (s.updPipe n f).cal = s.cal := rfl

/-! updTrk changes `trk` only. -/
@[simp] theorem State.updTrk_pending (f : Trunk → Trunk) : (s.updTrk f).pending = s.pending := rfl
@[simp] theorem State.updTrk_part (f : Trunk → Trunk) : (s.updTrk f).part = s.part := rfl
@[simp] theorem State.updTrk_strapNode (f : Trunk → Trunk) : (s.updTrk f).strapNode = s.strapNode := rfl
@[simp] theorem State.updTrk_strapBoot (f : Trunk → Trunk) : (s.updTrk f).strapBoot = s.strapBoot := rfl
@[simp] theorem State.updTrk_cycles (f : Trunk → Trunk) : (s.updTrk f).cycles = s.cycles := rfl
@[simp] theorem State.updTrk_time (f : Trunk → Trunk) : (s.updTrk f).time = s.time := rfl
@[simp] theorem State.updTrk_dict (f : Trunk → Trunk) : (s.updTrk f).dict = s.dict := rfl
@[simp] theorem State.updTrk_doms (f : Trunk → Trunk) : (s.updTrk f).doms = s.doms := rfl
@[simp] theorem State.updTrk_out (f : Trunk → Trunk) : (s.updTrk f).out = s.out := rfl
@[simp] theorem State.updTrk_free (f : Trunk → Trunk) : (s.updTrk f).free = s.free := rfl
@[simp] theorem State.updTrk_mem (f : Trunk → Trunk) : (s.updTrk f).mem = s.mem := rfl
@[simp] theorem State.updTrk_poison (f : Trunk → Trunk) : (s.updTrk f).poison = s.poison := rfl
@[simp] theorem State.updTrk_ev (f : Trunk → Trunk) : (s.updTrk f).ev = s.ev := rfl
@[simp] theorem State.updTrk_dap (f : Trunk → Trunk) : (s.updTrk f).dap = s.dap := rfl
@[simp] theorem State.updTrk_tb (f : Trunk → Trunk) : (s.updTrk f).tb = s.tb := rfl
@[simp] theorem State.updTrk_lanes (f : Trunk → Trunk) : (s.updTrk f).lanes = s.lanes := rfl
@[simp] theorem State.updTrk_txs (f : Trunk → Trunk) : (s.updTrk f).txs = s.txs := rfl
@[simp] theorem State.updTrk_gens (f : Trunk → Trunk) : (s.updTrk f).gens = s.gens := rfl
@[simp] theorem State.updTrk_limits (f : Trunk → Trunk) : (s.updTrk f).limits = s.limits := rfl
@[simp] theorem State.updTrk_bells (f : Trunk → Trunk) : (s.updTrk f).bells = s.bells := rfl
@[simp] theorem State.updTrk_commits (f : Trunk → Trunk) : (s.updTrk f).commits = s.commits := rfl
@[simp] theorem State.updTrk_ports (f : Trunk → Trunk) : (s.updTrk f).ports = s.ports := rfl
@[simp] theorem State.updTrk_frames (f : Trunk → Trunk) : (s.updTrk f).frames = s.frames := rfl
@[simp] theorem State.updTrk_nextFid (f : Trunk → Trunk) : (s.updTrk f).nextFid = s.nextFid := rfl
@[simp] theorem State.updTrk_inputs (f : Trunk → Trunk) : (s.updTrk f).inputs = s.inputs := rfl
@[simp] theorem State.updTrk_pipes (f : Trunk → Trunk) : (s.updTrk f).pipes = s.pipes := rfl
@[simp] theorem State.updTrk_statJobs (f : Trunk → Trunk) : (s.updTrk f).statJobs = s.statJobs := rfl
@[simp] theorem State.updTrk_exps (f : Trunk → Trunk) : (s.updTrk f).exps = s.exps := rfl
@[simp] theorem State.updTrk_mrg (f : Trunk → Trunk) : (s.updTrk f).mrg = s.mrg := rfl
@[simp] theorem State.updTrk_wide (f : Trunk → Trunk) : (s.updTrk f).wide = s.wide := rfl
@[simp] theorem State.updTrk_sup (f : Trunk → Trunk) : (s.updTrk f).sup = s.sup := rfl
@[simp] theorem State.updTrk_pwr (f : Trunk → Trunk) : (s.updTrk f).pwr = s.pwr := rfl
@[simp] theorem State.updTrk_net (f : Trunk → Trunk) : (s.updTrk f).net = s.net := rfl
@[simp] theorem State.updTrk_dma (f : Trunk → Trunk) : (s.updTrk f).dma = s.dma := rfl
@[simp] theorem State.updTrk_fifos (f : Trunk → Trunk) : (s.updTrk f).fifos = s.fifos := rfl
@[simp] theorem State.updTrk_crossings (f : Trunk → Trunk) : (s.updTrk f).crossings = s.crossings := rfl
@[simp] theorem State.updTrk_mems (f : Trunk → Trunk) : (s.updTrk f).mems = s.mems := rfl
@[simp] theorem State.updTrk_flash (f : Trunk → Trunk) : (s.updTrk f).flash = s.flash := rfl
@[simp] theorem State.updTrk_xspi (f : Trunk → Trunk) : (s.updTrk f).xspi = s.xspi := rfl
@[simp] theorem State.updTrk_jtag (f : Trunk → Trunk) : (s.updTrk f).jtag = s.jtag := rfl
@[simp] theorem State.updTrk_store (f : Trunk → Trunk) : (s.updTrk f).store = s.store := rfl
@[simp] theorem State.updTrk_prot (f : Trunk → Trunk) : (s.updTrk f).prot = s.prot := rfl
@[simp] theorem State.updTrk_boot (f : Trunk → Trunk) : (s.updTrk f).boot = s.boot := rfl
@[simp] theorem State.updTrk_dram (f : Trunk → Trunk) : (s.updTrk f).dram = s.dram := rfl
@[simp] theorem State.updTrk_rcv (f : Trunk → Trunk) : (s.updTrk f).rcv = s.rcv := rfl
@[simp] theorem State.updTrk_cal (f : Trunk → Trunk) : (s.updTrk f).cal = s.cal := rfl

/-! withTb changes `tb` only. -/
@[simp] theorem State.withTb_pending (f : TimeBase → TimeBase) : (s.withTb f).pending = s.pending := rfl
@[simp] theorem State.withTb_part (f : TimeBase → TimeBase) : (s.withTb f).part = s.part := rfl
@[simp] theorem State.withTb_strapNode (f : TimeBase → TimeBase) : (s.withTb f).strapNode = s.strapNode := rfl
@[simp] theorem State.withTb_strapBoot (f : TimeBase → TimeBase) : (s.withTb f).strapBoot = s.strapBoot := rfl
@[simp] theorem State.withTb_cycles (f : TimeBase → TimeBase) : (s.withTb f).cycles = s.cycles := rfl
@[simp] theorem State.withTb_time (f : TimeBase → TimeBase) : (s.withTb f).time = s.time := rfl
@[simp] theorem State.withTb_dict (f : TimeBase → TimeBase) : (s.withTb f).dict = s.dict := rfl
@[simp] theorem State.withTb_doms (f : TimeBase → TimeBase) : (s.withTb f).doms = s.doms := rfl
@[simp] theorem State.withTb_out (f : TimeBase → TimeBase) : (s.withTb f).out = s.out := rfl
@[simp] theorem State.withTb_free (f : TimeBase → TimeBase) : (s.withTb f).free = s.free := rfl
@[simp] theorem State.withTb_mem (f : TimeBase → TimeBase) : (s.withTb f).mem = s.mem := rfl
@[simp] theorem State.withTb_poison (f : TimeBase → TimeBase) : (s.withTb f).poison = s.poison := rfl
@[simp] theorem State.withTb_ev (f : TimeBase → TimeBase) : (s.withTb f).ev = s.ev := rfl
@[simp] theorem State.withTb_dap (f : TimeBase → TimeBase) : (s.withTb f).dap = s.dap := rfl
@[simp] theorem State.withTb_lanes (f : TimeBase → TimeBase) : (s.withTb f).lanes = s.lanes := rfl
@[simp] theorem State.withTb_txs (f : TimeBase → TimeBase) : (s.withTb f).txs = s.txs := rfl
@[simp] theorem State.withTb_gens (f : TimeBase → TimeBase) : (s.withTb f).gens = s.gens := rfl
@[simp] theorem State.withTb_limits (f : TimeBase → TimeBase) : (s.withTb f).limits = s.limits := rfl
@[simp] theorem State.withTb_bells (f : TimeBase → TimeBase) : (s.withTb f).bells = s.bells := rfl
@[simp] theorem State.withTb_commits (f : TimeBase → TimeBase) : (s.withTb f).commits = s.commits := rfl
@[simp] theorem State.withTb_ports (f : TimeBase → TimeBase) : (s.withTb f).ports = s.ports := rfl
@[simp] theorem State.withTb_frames (f : TimeBase → TimeBase) : (s.withTb f).frames = s.frames := rfl
@[simp] theorem State.withTb_nextFid (f : TimeBase → TimeBase) : (s.withTb f).nextFid = s.nextFid := rfl
@[simp] theorem State.withTb_inputs (f : TimeBase → TimeBase) : (s.withTb f).inputs = s.inputs := rfl
@[simp] theorem State.withTb_pipes (f : TimeBase → TimeBase) : (s.withTb f).pipes = s.pipes := rfl
@[simp] theorem State.withTb_statJobs (f : TimeBase → TimeBase) : (s.withTb f).statJobs = s.statJobs := rfl
@[simp] theorem State.withTb_exps (f : TimeBase → TimeBase) : (s.withTb f).exps = s.exps := rfl
@[simp] theorem State.withTb_mrg (f : TimeBase → TimeBase) : (s.withTb f).mrg = s.mrg := rfl
@[simp] theorem State.withTb_wide (f : TimeBase → TimeBase) : (s.withTb f).wide = s.wide := rfl
@[simp] theorem State.withTb_sup (f : TimeBase → TimeBase) : (s.withTb f).sup = s.sup := rfl
@[simp] theorem State.withTb_pwr (f : TimeBase → TimeBase) : (s.withTb f).pwr = s.pwr := rfl
@[simp] theorem State.withTb_trk (f : TimeBase → TimeBase) : (s.withTb f).trk = s.trk := rfl
@[simp] theorem State.withTb_net (f : TimeBase → TimeBase) : (s.withTb f).net = s.net := rfl
@[simp] theorem State.withTb_dma (f : TimeBase → TimeBase) : (s.withTb f).dma = s.dma := rfl
@[simp] theorem State.withTb_fifos (f : TimeBase → TimeBase) : (s.withTb f).fifos = s.fifos := rfl
@[simp] theorem State.withTb_crossings (f : TimeBase → TimeBase) : (s.withTb f).crossings = s.crossings := rfl
@[simp] theorem State.withTb_mems (f : TimeBase → TimeBase) : (s.withTb f).mems = s.mems := rfl
@[simp] theorem State.withTb_flash (f : TimeBase → TimeBase) : (s.withTb f).flash = s.flash := rfl
@[simp] theorem State.withTb_xspi (f : TimeBase → TimeBase) : (s.withTb f).xspi = s.xspi := rfl
@[simp] theorem State.withTb_jtag (f : TimeBase → TimeBase) : (s.withTb f).jtag = s.jtag := rfl
@[simp] theorem State.withTb_store (f : TimeBase → TimeBase) : (s.withTb f).store = s.store := rfl
@[simp] theorem State.withTb_prot (f : TimeBase → TimeBase) : (s.withTb f).prot = s.prot := rfl
@[simp] theorem State.withTb_boot (f : TimeBase → TimeBase) : (s.withTb f).boot = s.boot := rfl
@[simp] theorem State.withTb_dram (f : TimeBase → TimeBase) : (s.withTb f).dram = s.dram := rfl
@[simp] theorem State.withTb_rcv (f : TimeBase → TimeBase) : (s.withTb f).rcv = s.rcv := rfl
@[simp] theorem State.withTb_cal (f : TimeBase → TimeBase) : (s.withTb f).cal = s.cal := rfl

/-! withPwr changes `pwr` only. -/
@[simp] theorem State.withPwr_pending (f : PowerSt → PowerSt) : (s.withPwr f).pending = s.pending := rfl
@[simp] theorem State.withPwr_part (f : PowerSt → PowerSt) : (s.withPwr f).part = s.part := rfl
@[simp] theorem State.withPwr_strapNode (f : PowerSt → PowerSt) : (s.withPwr f).strapNode = s.strapNode := rfl
@[simp] theorem State.withPwr_strapBoot (f : PowerSt → PowerSt) : (s.withPwr f).strapBoot = s.strapBoot := rfl
@[simp] theorem State.withPwr_cycles (f : PowerSt → PowerSt) : (s.withPwr f).cycles = s.cycles := rfl
@[simp] theorem State.withPwr_time (f : PowerSt → PowerSt) : (s.withPwr f).time = s.time := rfl
@[simp] theorem State.withPwr_dict (f : PowerSt → PowerSt) : (s.withPwr f).dict = s.dict := rfl
@[simp] theorem State.withPwr_doms (f : PowerSt → PowerSt) : (s.withPwr f).doms = s.doms := rfl
@[simp] theorem State.withPwr_out (f : PowerSt → PowerSt) : (s.withPwr f).out = s.out := rfl
@[simp] theorem State.withPwr_free (f : PowerSt → PowerSt) : (s.withPwr f).free = s.free := rfl
@[simp] theorem State.withPwr_mem (f : PowerSt → PowerSt) : (s.withPwr f).mem = s.mem := rfl
@[simp] theorem State.withPwr_poison (f : PowerSt → PowerSt) : (s.withPwr f).poison = s.poison := rfl
@[simp] theorem State.withPwr_ev (f : PowerSt → PowerSt) : (s.withPwr f).ev = s.ev := rfl
@[simp] theorem State.withPwr_dap (f : PowerSt → PowerSt) : (s.withPwr f).dap = s.dap := rfl
@[simp] theorem State.withPwr_tb (f : PowerSt → PowerSt) : (s.withPwr f).tb = s.tb := rfl
@[simp] theorem State.withPwr_lanes (f : PowerSt → PowerSt) : (s.withPwr f).lanes = s.lanes := rfl
@[simp] theorem State.withPwr_txs (f : PowerSt → PowerSt) : (s.withPwr f).txs = s.txs := rfl
@[simp] theorem State.withPwr_gens (f : PowerSt → PowerSt) : (s.withPwr f).gens = s.gens := rfl
@[simp] theorem State.withPwr_limits (f : PowerSt → PowerSt) : (s.withPwr f).limits = s.limits := rfl
@[simp] theorem State.withPwr_bells (f : PowerSt → PowerSt) : (s.withPwr f).bells = s.bells := rfl
@[simp] theorem State.withPwr_commits (f : PowerSt → PowerSt) : (s.withPwr f).commits = s.commits := rfl
@[simp] theorem State.withPwr_ports (f : PowerSt → PowerSt) : (s.withPwr f).ports = s.ports := rfl
@[simp] theorem State.withPwr_frames (f : PowerSt → PowerSt) : (s.withPwr f).frames = s.frames := rfl
@[simp] theorem State.withPwr_nextFid (f : PowerSt → PowerSt) : (s.withPwr f).nextFid = s.nextFid := rfl
@[simp] theorem State.withPwr_inputs (f : PowerSt → PowerSt) : (s.withPwr f).inputs = s.inputs := rfl
@[simp] theorem State.withPwr_pipes (f : PowerSt → PowerSt) : (s.withPwr f).pipes = s.pipes := rfl
@[simp] theorem State.withPwr_statJobs (f : PowerSt → PowerSt) : (s.withPwr f).statJobs = s.statJobs := rfl
@[simp] theorem State.withPwr_exps (f : PowerSt → PowerSt) : (s.withPwr f).exps = s.exps := rfl
@[simp] theorem State.withPwr_mrg (f : PowerSt → PowerSt) : (s.withPwr f).mrg = s.mrg := rfl
@[simp] theorem State.withPwr_wide (f : PowerSt → PowerSt) : (s.withPwr f).wide = s.wide := rfl
@[simp] theorem State.withPwr_sup (f : PowerSt → PowerSt) : (s.withPwr f).sup = s.sup := rfl
@[simp] theorem State.withPwr_trk (f : PowerSt → PowerSt) : (s.withPwr f).trk = s.trk := rfl
@[simp] theorem State.withPwr_net (f : PowerSt → PowerSt) : (s.withPwr f).net = s.net := rfl
@[simp] theorem State.withPwr_dma (f : PowerSt → PowerSt) : (s.withPwr f).dma = s.dma := rfl
@[simp] theorem State.withPwr_fifos (f : PowerSt → PowerSt) : (s.withPwr f).fifos = s.fifos := rfl
@[simp] theorem State.withPwr_crossings (f : PowerSt → PowerSt) : (s.withPwr f).crossings = s.crossings := rfl
@[simp] theorem State.withPwr_mems (f : PowerSt → PowerSt) : (s.withPwr f).mems = s.mems := rfl
@[simp] theorem State.withPwr_flash (f : PowerSt → PowerSt) : (s.withPwr f).flash = s.flash := rfl
@[simp] theorem State.withPwr_xspi (f : PowerSt → PowerSt) : (s.withPwr f).xspi = s.xspi := rfl
@[simp] theorem State.withPwr_jtag (f : PowerSt → PowerSt) : (s.withPwr f).jtag = s.jtag := rfl
@[simp] theorem State.withPwr_store (f : PowerSt → PowerSt) : (s.withPwr f).store = s.store := rfl
@[simp] theorem State.withPwr_prot (f : PowerSt → PowerSt) : (s.withPwr f).prot = s.prot := rfl
@[simp] theorem State.withPwr_boot (f : PowerSt → PowerSt) : (s.withPwr f).boot = s.boot := rfl
@[simp] theorem State.withPwr_dram (f : PowerSt → PowerSt) : (s.withPwr f).dram = s.dram := rfl
@[simp] theorem State.withPwr_rcv (f : PowerSt → PowerSt) : (s.withPwr f).rcv = s.rcv := rfl
@[simp] theorem State.withPwr_cal (f : PowerSt → PowerSt) : (s.withPwr f).cal = s.cal := rfl

/-! updXfer changes `dma` only. -/
@[simp] theorem State.updXfer_pending (e c : Nat) (f : Xfer → Xfer) : (s.updXfer e c f).pending = s.pending := rfl
@[simp] theorem State.updXfer_part (e c : Nat) (f : Xfer → Xfer) : (s.updXfer e c f).part = s.part := rfl
@[simp] theorem State.updXfer_strapNode (e c : Nat) (f : Xfer → Xfer) : (s.updXfer e c f).strapNode = s.strapNode := rfl
@[simp] theorem State.updXfer_strapBoot (e c : Nat) (f : Xfer → Xfer) : (s.updXfer e c f).strapBoot = s.strapBoot := rfl
@[simp] theorem State.updXfer_cycles (e c : Nat) (f : Xfer → Xfer) : (s.updXfer e c f).cycles = s.cycles := rfl
@[simp] theorem State.updXfer_time (e c : Nat) (f : Xfer → Xfer) : (s.updXfer e c f).time = s.time := rfl
@[simp] theorem State.updXfer_dict (e c : Nat) (f : Xfer → Xfer) : (s.updXfer e c f).dict = s.dict := rfl
@[simp] theorem State.updXfer_doms (e c : Nat) (f : Xfer → Xfer) : (s.updXfer e c f).doms = s.doms := rfl
@[simp] theorem State.updXfer_out (e c : Nat) (f : Xfer → Xfer) : (s.updXfer e c f).out = s.out := rfl
@[simp] theorem State.updXfer_free (e c : Nat) (f : Xfer → Xfer) : (s.updXfer e c f).free = s.free := rfl
@[simp] theorem State.updXfer_mem (e c : Nat) (f : Xfer → Xfer) : (s.updXfer e c f).mem = s.mem := rfl
@[simp] theorem State.updXfer_poison (e c : Nat) (f : Xfer → Xfer) : (s.updXfer e c f).poison = s.poison := rfl
@[simp] theorem State.updXfer_ev (e c : Nat) (f : Xfer → Xfer) : (s.updXfer e c f).ev = s.ev := rfl
@[simp] theorem State.updXfer_dap (e c : Nat) (f : Xfer → Xfer) : (s.updXfer e c f).dap = s.dap := rfl
@[simp] theorem State.updXfer_tb (e c : Nat) (f : Xfer → Xfer) : (s.updXfer e c f).tb = s.tb := rfl
@[simp] theorem State.updXfer_lanes (e c : Nat) (f : Xfer → Xfer) : (s.updXfer e c f).lanes = s.lanes := rfl
@[simp] theorem State.updXfer_txs (e c : Nat) (f : Xfer → Xfer) : (s.updXfer e c f).txs = s.txs := rfl
@[simp] theorem State.updXfer_gens (e c : Nat) (f : Xfer → Xfer) : (s.updXfer e c f).gens = s.gens := rfl
@[simp] theorem State.updXfer_limits (e c : Nat) (f : Xfer → Xfer) : (s.updXfer e c f).limits = s.limits := rfl
@[simp] theorem State.updXfer_bells (e c : Nat) (f : Xfer → Xfer) : (s.updXfer e c f).bells = s.bells := rfl
@[simp] theorem State.updXfer_commits (e c : Nat) (f : Xfer → Xfer) : (s.updXfer e c f).commits = s.commits := rfl
@[simp] theorem State.updXfer_ports (e c : Nat) (f : Xfer → Xfer) : (s.updXfer e c f).ports = s.ports := rfl
@[simp] theorem State.updXfer_frames (e c : Nat) (f : Xfer → Xfer) : (s.updXfer e c f).frames = s.frames := rfl
@[simp] theorem State.updXfer_nextFid (e c : Nat) (f : Xfer → Xfer) : (s.updXfer e c f).nextFid = s.nextFid := rfl
@[simp] theorem State.updXfer_inputs (e c : Nat) (f : Xfer → Xfer) : (s.updXfer e c f).inputs = s.inputs := rfl
@[simp] theorem State.updXfer_pipes (e c : Nat) (f : Xfer → Xfer) : (s.updXfer e c f).pipes = s.pipes := rfl
@[simp] theorem State.updXfer_statJobs (e c : Nat) (f : Xfer → Xfer) : (s.updXfer e c f).statJobs = s.statJobs := rfl
@[simp] theorem State.updXfer_exps (e c : Nat) (f : Xfer → Xfer) : (s.updXfer e c f).exps = s.exps := rfl
@[simp] theorem State.updXfer_mrg (e c : Nat) (f : Xfer → Xfer) : (s.updXfer e c f).mrg = s.mrg := rfl
@[simp] theorem State.updXfer_wide (e c : Nat) (f : Xfer → Xfer) : (s.updXfer e c f).wide = s.wide := rfl
@[simp] theorem State.updXfer_sup (e c : Nat) (f : Xfer → Xfer) : (s.updXfer e c f).sup = s.sup := rfl
@[simp] theorem State.updXfer_pwr (e c : Nat) (f : Xfer → Xfer) : (s.updXfer e c f).pwr = s.pwr := rfl
@[simp] theorem State.updXfer_trk (e c : Nat) (f : Xfer → Xfer) : (s.updXfer e c f).trk = s.trk := rfl
@[simp] theorem State.updXfer_net (e c : Nat) (f : Xfer → Xfer) : (s.updXfer e c f).net = s.net := rfl
@[simp] theorem State.updXfer_fifos (e c : Nat) (f : Xfer → Xfer) : (s.updXfer e c f).fifos = s.fifos := rfl
@[simp] theorem State.updXfer_crossings (e c : Nat) (f : Xfer → Xfer) : (s.updXfer e c f).crossings = s.crossings := rfl
@[simp] theorem State.updXfer_mems (e c : Nat) (f : Xfer → Xfer) : (s.updXfer e c f).mems = s.mems := rfl
@[simp] theorem State.updXfer_flash (e c : Nat) (f : Xfer → Xfer) : (s.updXfer e c f).flash = s.flash := rfl
@[simp] theorem State.updXfer_xspi (e c : Nat) (f : Xfer → Xfer) : (s.updXfer e c f).xspi = s.xspi := rfl
@[simp] theorem State.updXfer_jtag (e c : Nat) (f : Xfer → Xfer) : (s.updXfer e c f).jtag = s.jtag := rfl
@[simp] theorem State.updXfer_store (e c : Nat) (f : Xfer → Xfer) : (s.updXfer e c f).store = s.store := rfl
@[simp] theorem State.updXfer_prot (e c : Nat) (f : Xfer → Xfer) : (s.updXfer e c f).prot = s.prot := rfl
@[simp] theorem State.updXfer_boot (e c : Nat) (f : Xfer → Xfer) : (s.updXfer e c f).boot = s.boot := rfl
@[simp] theorem State.updXfer_dram (e c : Nat) (f : Xfer → Xfer) : (s.updXfer e c f).dram = s.dram := rfl
@[simp] theorem State.updXfer_rcv (e c : Nat) (f : Xfer → Xfer) : (s.updXfer e c f).rcv = s.rcv := rfl
@[simp] theorem State.updXfer_cal (e c : Nat) (f : Xfer → Xfer) : (s.updXfer e c f).cal = s.cal := rfl

/-! updEng changes `dma` only. -/
@[simp] theorem State.updEng_pending (e : Nat) (f : DmaEngine → DmaEngine) : (s.updEng e f).pending = s.pending := rfl
@[simp] theorem State.updEng_part (e : Nat) (f : DmaEngine → DmaEngine) : (s.updEng e f).part = s.part := rfl
@[simp] theorem State.updEng_strapNode (e : Nat) (f : DmaEngine → DmaEngine) : (s.updEng e f).strapNode = s.strapNode := rfl
@[simp] theorem State.updEng_strapBoot (e : Nat) (f : DmaEngine → DmaEngine) : (s.updEng e f).strapBoot = s.strapBoot := rfl
@[simp] theorem State.updEng_cycles (e : Nat) (f : DmaEngine → DmaEngine) : (s.updEng e f).cycles = s.cycles := rfl
@[simp] theorem State.updEng_time (e : Nat) (f : DmaEngine → DmaEngine) : (s.updEng e f).time = s.time := rfl
@[simp] theorem State.updEng_dict (e : Nat) (f : DmaEngine → DmaEngine) : (s.updEng e f).dict = s.dict := rfl
@[simp] theorem State.updEng_doms (e : Nat) (f : DmaEngine → DmaEngine) : (s.updEng e f).doms = s.doms := rfl
@[simp] theorem State.updEng_out (e : Nat) (f : DmaEngine → DmaEngine) : (s.updEng e f).out = s.out := rfl
@[simp] theorem State.updEng_free (e : Nat) (f : DmaEngine → DmaEngine) : (s.updEng e f).free = s.free := rfl
@[simp] theorem State.updEng_mem (e : Nat) (f : DmaEngine → DmaEngine) : (s.updEng e f).mem = s.mem := rfl
@[simp] theorem State.updEng_poison (e : Nat) (f : DmaEngine → DmaEngine) : (s.updEng e f).poison = s.poison := rfl
@[simp] theorem State.updEng_ev (e : Nat) (f : DmaEngine → DmaEngine) : (s.updEng e f).ev = s.ev := rfl
@[simp] theorem State.updEng_dap (e : Nat) (f : DmaEngine → DmaEngine) : (s.updEng e f).dap = s.dap := rfl
@[simp] theorem State.updEng_tb (e : Nat) (f : DmaEngine → DmaEngine) : (s.updEng e f).tb = s.tb := rfl
@[simp] theorem State.updEng_lanes (e : Nat) (f : DmaEngine → DmaEngine) : (s.updEng e f).lanes = s.lanes := rfl
@[simp] theorem State.updEng_txs (e : Nat) (f : DmaEngine → DmaEngine) : (s.updEng e f).txs = s.txs := rfl
@[simp] theorem State.updEng_gens (e : Nat) (f : DmaEngine → DmaEngine) : (s.updEng e f).gens = s.gens := rfl
@[simp] theorem State.updEng_limits (e : Nat) (f : DmaEngine → DmaEngine) : (s.updEng e f).limits = s.limits := rfl
@[simp] theorem State.updEng_bells (e : Nat) (f : DmaEngine → DmaEngine) : (s.updEng e f).bells = s.bells := rfl
@[simp] theorem State.updEng_commits (e : Nat) (f : DmaEngine → DmaEngine) : (s.updEng e f).commits = s.commits := rfl
@[simp] theorem State.updEng_ports (e : Nat) (f : DmaEngine → DmaEngine) : (s.updEng e f).ports = s.ports := rfl
@[simp] theorem State.updEng_frames (e : Nat) (f : DmaEngine → DmaEngine) : (s.updEng e f).frames = s.frames := rfl
@[simp] theorem State.updEng_nextFid (e : Nat) (f : DmaEngine → DmaEngine) : (s.updEng e f).nextFid = s.nextFid := rfl
@[simp] theorem State.updEng_inputs (e : Nat) (f : DmaEngine → DmaEngine) : (s.updEng e f).inputs = s.inputs := rfl
@[simp] theorem State.updEng_pipes (e : Nat) (f : DmaEngine → DmaEngine) : (s.updEng e f).pipes = s.pipes := rfl
@[simp] theorem State.updEng_statJobs (e : Nat) (f : DmaEngine → DmaEngine) : (s.updEng e f).statJobs = s.statJobs := rfl
@[simp] theorem State.updEng_exps (e : Nat) (f : DmaEngine → DmaEngine) : (s.updEng e f).exps = s.exps := rfl
@[simp] theorem State.updEng_mrg (e : Nat) (f : DmaEngine → DmaEngine) : (s.updEng e f).mrg = s.mrg := rfl
@[simp] theorem State.updEng_wide (e : Nat) (f : DmaEngine → DmaEngine) : (s.updEng e f).wide = s.wide := rfl
@[simp] theorem State.updEng_sup (e : Nat) (f : DmaEngine → DmaEngine) : (s.updEng e f).sup = s.sup := rfl
@[simp] theorem State.updEng_pwr (e : Nat) (f : DmaEngine → DmaEngine) : (s.updEng e f).pwr = s.pwr := rfl
@[simp] theorem State.updEng_trk (e : Nat) (f : DmaEngine → DmaEngine) : (s.updEng e f).trk = s.trk := rfl
@[simp] theorem State.updEng_net (e : Nat) (f : DmaEngine → DmaEngine) : (s.updEng e f).net = s.net := rfl
@[simp] theorem State.updEng_fifos (e : Nat) (f : DmaEngine → DmaEngine) : (s.updEng e f).fifos = s.fifos := rfl
@[simp] theorem State.updEng_crossings (e : Nat) (f : DmaEngine → DmaEngine) : (s.updEng e f).crossings = s.crossings := rfl
@[simp] theorem State.updEng_mems (e : Nat) (f : DmaEngine → DmaEngine) : (s.updEng e f).mems = s.mems := rfl
@[simp] theorem State.updEng_flash (e : Nat) (f : DmaEngine → DmaEngine) : (s.updEng e f).flash = s.flash := rfl
@[simp] theorem State.updEng_xspi (e : Nat) (f : DmaEngine → DmaEngine) : (s.updEng e f).xspi = s.xspi := rfl
@[simp] theorem State.updEng_jtag (e : Nat) (f : DmaEngine → DmaEngine) : (s.updEng e f).jtag = s.jtag := rfl
@[simp] theorem State.updEng_store (e : Nat) (f : DmaEngine → DmaEngine) : (s.updEng e f).store = s.store := rfl
@[simp] theorem State.updEng_prot (e : Nat) (f : DmaEngine → DmaEngine) : (s.updEng e f).prot = s.prot := rfl
@[simp] theorem State.updEng_boot (e : Nat) (f : DmaEngine → DmaEngine) : (s.updEng e f).boot = s.boot := rfl
@[simp] theorem State.updEng_dram (e : Nat) (f : DmaEngine → DmaEngine) : (s.updEng e f).dram = s.dram := rfl
@[simp] theorem State.updEng_rcv (e : Nat) (f : DmaEngine → DmaEngine) : (s.updEng e f).rcv = s.rcv := rfl
@[simp] theorem State.updEng_cal (e : Nat) (f : DmaEngine → DmaEngine) : (s.updEng e f).cal = s.cal := rfl

/-! updNx changes `net` only. -/
@[simp] theorem State.updNx_pending (n : Nat) (f : NxPort → NxPort) : (s.updNx n f).pending = s.pending := rfl
@[simp] theorem State.updNx_part (n : Nat) (f : NxPort → NxPort) : (s.updNx n f).part = s.part := rfl
@[simp] theorem State.updNx_strapNode (n : Nat) (f : NxPort → NxPort) : (s.updNx n f).strapNode = s.strapNode := rfl
@[simp] theorem State.updNx_strapBoot (n : Nat) (f : NxPort → NxPort) : (s.updNx n f).strapBoot = s.strapBoot := rfl
@[simp] theorem State.updNx_cycles (n : Nat) (f : NxPort → NxPort) : (s.updNx n f).cycles = s.cycles := rfl
@[simp] theorem State.updNx_time (n : Nat) (f : NxPort → NxPort) : (s.updNx n f).time = s.time := rfl
@[simp] theorem State.updNx_dict (n : Nat) (f : NxPort → NxPort) : (s.updNx n f).dict = s.dict := rfl
@[simp] theorem State.updNx_doms (n : Nat) (f : NxPort → NxPort) : (s.updNx n f).doms = s.doms := rfl
@[simp] theorem State.updNx_out (n : Nat) (f : NxPort → NxPort) : (s.updNx n f).out = s.out := rfl
@[simp] theorem State.updNx_free (n : Nat) (f : NxPort → NxPort) : (s.updNx n f).free = s.free := rfl
@[simp] theorem State.updNx_mem (n : Nat) (f : NxPort → NxPort) : (s.updNx n f).mem = s.mem := rfl
@[simp] theorem State.updNx_poison (n : Nat) (f : NxPort → NxPort) : (s.updNx n f).poison = s.poison := rfl
@[simp] theorem State.updNx_ev (n : Nat) (f : NxPort → NxPort) : (s.updNx n f).ev = s.ev := rfl
@[simp] theorem State.updNx_dap (n : Nat) (f : NxPort → NxPort) : (s.updNx n f).dap = s.dap := rfl
@[simp] theorem State.updNx_tb (n : Nat) (f : NxPort → NxPort) : (s.updNx n f).tb = s.tb := rfl
@[simp] theorem State.updNx_lanes (n : Nat) (f : NxPort → NxPort) : (s.updNx n f).lanes = s.lanes := rfl
@[simp] theorem State.updNx_txs (n : Nat) (f : NxPort → NxPort) : (s.updNx n f).txs = s.txs := rfl
@[simp] theorem State.updNx_gens (n : Nat) (f : NxPort → NxPort) : (s.updNx n f).gens = s.gens := rfl
@[simp] theorem State.updNx_limits (n : Nat) (f : NxPort → NxPort) : (s.updNx n f).limits = s.limits := rfl
@[simp] theorem State.updNx_bells (n : Nat) (f : NxPort → NxPort) : (s.updNx n f).bells = s.bells := rfl
@[simp] theorem State.updNx_commits (n : Nat) (f : NxPort → NxPort) : (s.updNx n f).commits = s.commits := rfl
@[simp] theorem State.updNx_ports (n : Nat) (f : NxPort → NxPort) : (s.updNx n f).ports = s.ports := rfl
@[simp] theorem State.updNx_frames (n : Nat) (f : NxPort → NxPort) : (s.updNx n f).frames = s.frames := rfl
@[simp] theorem State.updNx_nextFid (n : Nat) (f : NxPort → NxPort) : (s.updNx n f).nextFid = s.nextFid := rfl
@[simp] theorem State.updNx_inputs (n : Nat) (f : NxPort → NxPort) : (s.updNx n f).inputs = s.inputs := rfl
@[simp] theorem State.updNx_pipes (n : Nat) (f : NxPort → NxPort) : (s.updNx n f).pipes = s.pipes := rfl
@[simp] theorem State.updNx_statJobs (n : Nat) (f : NxPort → NxPort) : (s.updNx n f).statJobs = s.statJobs := rfl
@[simp] theorem State.updNx_exps (n : Nat) (f : NxPort → NxPort) : (s.updNx n f).exps = s.exps := rfl
@[simp] theorem State.updNx_mrg (n : Nat) (f : NxPort → NxPort) : (s.updNx n f).mrg = s.mrg := rfl
@[simp] theorem State.updNx_wide (n : Nat) (f : NxPort → NxPort) : (s.updNx n f).wide = s.wide := rfl
@[simp] theorem State.updNx_sup (n : Nat) (f : NxPort → NxPort) : (s.updNx n f).sup = s.sup := rfl
@[simp] theorem State.updNx_pwr (n : Nat) (f : NxPort → NxPort) : (s.updNx n f).pwr = s.pwr := rfl
@[simp] theorem State.updNx_trk (n : Nat) (f : NxPort → NxPort) : (s.updNx n f).trk = s.trk := rfl
@[simp] theorem State.updNx_dma (n : Nat) (f : NxPort → NxPort) : (s.updNx n f).dma = s.dma := rfl
@[simp] theorem State.updNx_fifos (n : Nat) (f : NxPort → NxPort) : (s.updNx n f).fifos = s.fifos := rfl
@[simp] theorem State.updNx_crossings (n : Nat) (f : NxPort → NxPort) : (s.updNx n f).crossings = s.crossings := rfl
@[simp] theorem State.updNx_mems (n : Nat) (f : NxPort → NxPort) : (s.updNx n f).mems = s.mems := rfl
@[simp] theorem State.updNx_flash (n : Nat) (f : NxPort → NxPort) : (s.updNx n f).flash = s.flash := rfl
@[simp] theorem State.updNx_xspi (n : Nat) (f : NxPort → NxPort) : (s.updNx n f).xspi = s.xspi := rfl
@[simp] theorem State.updNx_jtag (n : Nat) (f : NxPort → NxPort) : (s.updNx n f).jtag = s.jtag := rfl
@[simp] theorem State.updNx_store (n : Nat) (f : NxPort → NxPort) : (s.updNx n f).store = s.store := rfl
@[simp] theorem State.updNx_prot (n : Nat) (f : NxPort → NxPort) : (s.updNx n f).prot = s.prot := rfl
@[simp] theorem State.updNx_boot (n : Nat) (f : NxPort → NxPort) : (s.updNx n f).boot = s.boot := rfl
@[simp] theorem State.updNx_dram (n : Nat) (f : NxPort → NxPort) : (s.updNx n f).dram = s.dram := rfl
@[simp] theorem State.updNx_rcv (n : Nat) (f : NxPort → NxPort) : (s.updNx n f).rcv = s.rcv := rfl
@[simp] theorem State.updNx_cal (n : Nat) (f : NxPort → NxPort) : (s.updNx n f).cal = s.cal := rfl

/-! setTx changes `txs` only. -/
@[simp] theorem State.setTx_pending (i : Nat) (x : TxSt) : (s.setTx i x).pending = s.pending := rfl
@[simp] theorem State.setTx_part (i : Nat) (x : TxSt) : (s.setTx i x).part = s.part := rfl
@[simp] theorem State.setTx_strapNode (i : Nat) (x : TxSt) : (s.setTx i x).strapNode = s.strapNode := rfl
@[simp] theorem State.setTx_strapBoot (i : Nat) (x : TxSt) : (s.setTx i x).strapBoot = s.strapBoot := rfl
@[simp] theorem State.setTx_cycles (i : Nat) (x : TxSt) : (s.setTx i x).cycles = s.cycles := rfl
@[simp] theorem State.setTx_time (i : Nat) (x : TxSt) : (s.setTx i x).time = s.time := rfl
@[simp] theorem State.setTx_dict (i : Nat) (x : TxSt) : (s.setTx i x).dict = s.dict := rfl
@[simp] theorem State.setTx_doms (i : Nat) (x : TxSt) : (s.setTx i x).doms = s.doms := rfl
@[simp] theorem State.setTx_out (i : Nat) (x : TxSt) : (s.setTx i x).out = s.out := rfl
@[simp] theorem State.setTx_free (i : Nat) (x : TxSt) : (s.setTx i x).free = s.free := rfl
@[simp] theorem State.setTx_mem (i : Nat) (x : TxSt) : (s.setTx i x).mem = s.mem := rfl
@[simp] theorem State.setTx_poison (i : Nat) (x : TxSt) : (s.setTx i x).poison = s.poison := rfl
@[simp] theorem State.setTx_ev (i : Nat) (x : TxSt) : (s.setTx i x).ev = s.ev := rfl
@[simp] theorem State.setTx_dap (i : Nat) (x : TxSt) : (s.setTx i x).dap = s.dap := rfl
@[simp] theorem State.setTx_tb (i : Nat) (x : TxSt) : (s.setTx i x).tb = s.tb := rfl
@[simp] theorem State.setTx_lanes (i : Nat) (x : TxSt) : (s.setTx i x).lanes = s.lanes := rfl
@[simp] theorem State.setTx_gens (i : Nat) (x : TxSt) : (s.setTx i x).gens = s.gens := rfl
@[simp] theorem State.setTx_limits (i : Nat) (x : TxSt) : (s.setTx i x).limits = s.limits := rfl
@[simp] theorem State.setTx_bells (i : Nat) (x : TxSt) : (s.setTx i x).bells = s.bells := rfl
@[simp] theorem State.setTx_commits (i : Nat) (x : TxSt) : (s.setTx i x).commits = s.commits := rfl
@[simp] theorem State.setTx_ports (i : Nat) (x : TxSt) : (s.setTx i x).ports = s.ports := rfl
@[simp] theorem State.setTx_frames (i : Nat) (x : TxSt) : (s.setTx i x).frames = s.frames := rfl
@[simp] theorem State.setTx_nextFid (i : Nat) (x : TxSt) : (s.setTx i x).nextFid = s.nextFid := rfl
@[simp] theorem State.setTx_inputs (i : Nat) (x : TxSt) : (s.setTx i x).inputs = s.inputs := rfl
@[simp] theorem State.setTx_pipes (i : Nat) (x : TxSt) : (s.setTx i x).pipes = s.pipes := rfl
@[simp] theorem State.setTx_statJobs (i : Nat) (x : TxSt) : (s.setTx i x).statJobs = s.statJobs := rfl
@[simp] theorem State.setTx_exps (i : Nat) (x : TxSt) : (s.setTx i x).exps = s.exps := rfl
@[simp] theorem State.setTx_mrg (i : Nat) (x : TxSt) : (s.setTx i x).mrg = s.mrg := rfl
@[simp] theorem State.setTx_wide (i : Nat) (x : TxSt) : (s.setTx i x).wide = s.wide := rfl
@[simp] theorem State.setTx_sup (i : Nat) (x : TxSt) : (s.setTx i x).sup = s.sup := rfl
@[simp] theorem State.setTx_pwr (i : Nat) (x : TxSt) : (s.setTx i x).pwr = s.pwr := rfl
@[simp] theorem State.setTx_trk (i : Nat) (x : TxSt) : (s.setTx i x).trk = s.trk := rfl
@[simp] theorem State.setTx_net (i : Nat) (x : TxSt) : (s.setTx i x).net = s.net := rfl
@[simp] theorem State.setTx_dma (i : Nat) (x : TxSt) : (s.setTx i x).dma = s.dma := rfl
@[simp] theorem State.setTx_fifos (i : Nat) (x : TxSt) : (s.setTx i x).fifos = s.fifos := rfl
@[simp] theorem State.setTx_crossings (i : Nat) (x : TxSt) : (s.setTx i x).crossings = s.crossings := rfl
@[simp] theorem State.setTx_mems (i : Nat) (x : TxSt) : (s.setTx i x).mems = s.mems := rfl
@[simp] theorem State.setTx_flash (i : Nat) (x : TxSt) : (s.setTx i x).flash = s.flash := rfl
@[simp] theorem State.setTx_xspi (i : Nat) (x : TxSt) : (s.setTx i x).xspi = s.xspi := rfl
@[simp] theorem State.setTx_jtag (i : Nat) (x : TxSt) : (s.setTx i x).jtag = s.jtag := rfl
@[simp] theorem State.setTx_store (i : Nat) (x : TxSt) : (s.setTx i x).store = s.store := rfl
@[simp] theorem State.setTx_prot (i : Nat) (x : TxSt) : (s.setTx i x).prot = s.prot := rfl
@[simp] theorem State.setTx_boot (i : Nat) (x : TxSt) : (s.setTx i x).boot = s.boot := rfl
@[simp] theorem State.setTx_dram (i : Nat) (x : TxSt) : (s.setTx i x).dram = s.dram := rfl
@[simp] theorem State.setTx_rcv (i : Nat) (x : TxSt) : (s.setTx i x).rcv = s.rcv := rfl
@[simp] theorem State.setTx_cal (i : Nat) (x : TxSt) : (s.setTx i x).cal = s.cal := rfl

/-! updCrossing changes `crossings` only. -/
@[simp] theorem State.updCrossing_pending (c : Nat) (f : CrossSt → CrossSt) : (s.updCrossing c f).pending = s.pending := rfl
@[simp] theorem State.updCrossing_part (c : Nat) (f : CrossSt → CrossSt) : (s.updCrossing c f).part = s.part := rfl
@[simp] theorem State.updCrossing_strapNode (c : Nat) (f : CrossSt → CrossSt) : (s.updCrossing c f).strapNode = s.strapNode := rfl
@[simp] theorem State.updCrossing_strapBoot (c : Nat) (f : CrossSt → CrossSt) : (s.updCrossing c f).strapBoot = s.strapBoot := rfl
@[simp] theorem State.updCrossing_cycles (c : Nat) (f : CrossSt → CrossSt) : (s.updCrossing c f).cycles = s.cycles := rfl
@[simp] theorem State.updCrossing_time (c : Nat) (f : CrossSt → CrossSt) : (s.updCrossing c f).time = s.time := rfl
@[simp] theorem State.updCrossing_dict (c : Nat) (f : CrossSt → CrossSt) : (s.updCrossing c f).dict = s.dict := rfl
@[simp] theorem State.updCrossing_doms (c : Nat) (f : CrossSt → CrossSt) : (s.updCrossing c f).doms = s.doms := rfl
@[simp] theorem State.updCrossing_out (c : Nat) (f : CrossSt → CrossSt) : (s.updCrossing c f).out = s.out := rfl
@[simp] theorem State.updCrossing_free (c : Nat) (f : CrossSt → CrossSt) : (s.updCrossing c f).free = s.free := rfl
@[simp] theorem State.updCrossing_mem (c : Nat) (f : CrossSt → CrossSt) : (s.updCrossing c f).mem = s.mem := rfl
@[simp] theorem State.updCrossing_poison (c : Nat) (f : CrossSt → CrossSt) : (s.updCrossing c f).poison = s.poison := rfl
@[simp] theorem State.updCrossing_ev (c : Nat) (f : CrossSt → CrossSt) : (s.updCrossing c f).ev = s.ev := rfl
@[simp] theorem State.updCrossing_dap (c : Nat) (f : CrossSt → CrossSt) : (s.updCrossing c f).dap = s.dap := rfl
@[simp] theorem State.updCrossing_tb (c : Nat) (f : CrossSt → CrossSt) : (s.updCrossing c f).tb = s.tb := rfl
@[simp] theorem State.updCrossing_lanes (c : Nat) (f : CrossSt → CrossSt) : (s.updCrossing c f).lanes = s.lanes := rfl
@[simp] theorem State.updCrossing_txs (c : Nat) (f : CrossSt → CrossSt) : (s.updCrossing c f).txs = s.txs := rfl
@[simp] theorem State.updCrossing_gens (c : Nat) (f : CrossSt → CrossSt) : (s.updCrossing c f).gens = s.gens := rfl
@[simp] theorem State.updCrossing_limits (c : Nat) (f : CrossSt → CrossSt) : (s.updCrossing c f).limits = s.limits := rfl
@[simp] theorem State.updCrossing_bells (c : Nat) (f : CrossSt → CrossSt) : (s.updCrossing c f).bells = s.bells := rfl
@[simp] theorem State.updCrossing_commits (c : Nat) (f : CrossSt → CrossSt) : (s.updCrossing c f).commits = s.commits := rfl
@[simp] theorem State.updCrossing_ports (c : Nat) (f : CrossSt → CrossSt) : (s.updCrossing c f).ports = s.ports := rfl
@[simp] theorem State.updCrossing_frames (c : Nat) (f : CrossSt → CrossSt) : (s.updCrossing c f).frames = s.frames := rfl
@[simp] theorem State.updCrossing_nextFid (c : Nat) (f : CrossSt → CrossSt) : (s.updCrossing c f).nextFid = s.nextFid := rfl
@[simp] theorem State.updCrossing_inputs (c : Nat) (f : CrossSt → CrossSt) : (s.updCrossing c f).inputs = s.inputs := rfl
@[simp] theorem State.updCrossing_pipes (c : Nat) (f : CrossSt → CrossSt) : (s.updCrossing c f).pipes = s.pipes := rfl
@[simp] theorem State.updCrossing_statJobs (c : Nat) (f : CrossSt → CrossSt) : (s.updCrossing c f).statJobs = s.statJobs := rfl
@[simp] theorem State.updCrossing_exps (c : Nat) (f : CrossSt → CrossSt) : (s.updCrossing c f).exps = s.exps := rfl
@[simp] theorem State.updCrossing_mrg (c : Nat) (f : CrossSt → CrossSt) : (s.updCrossing c f).mrg = s.mrg := rfl
@[simp] theorem State.updCrossing_wide (c : Nat) (f : CrossSt → CrossSt) : (s.updCrossing c f).wide = s.wide := rfl
@[simp] theorem State.updCrossing_sup (c : Nat) (f : CrossSt → CrossSt) : (s.updCrossing c f).sup = s.sup := rfl
@[simp] theorem State.updCrossing_pwr (c : Nat) (f : CrossSt → CrossSt) : (s.updCrossing c f).pwr = s.pwr := rfl
@[simp] theorem State.updCrossing_trk (c : Nat) (f : CrossSt → CrossSt) : (s.updCrossing c f).trk = s.trk := rfl
@[simp] theorem State.updCrossing_net (c : Nat) (f : CrossSt → CrossSt) : (s.updCrossing c f).net = s.net := rfl
@[simp] theorem State.updCrossing_dma (c : Nat) (f : CrossSt → CrossSt) : (s.updCrossing c f).dma = s.dma := rfl
@[simp] theorem State.updCrossing_fifos (c : Nat) (f : CrossSt → CrossSt) : (s.updCrossing c f).fifos = s.fifos := rfl
@[simp] theorem State.updCrossing_mems (c : Nat) (f : CrossSt → CrossSt) : (s.updCrossing c f).mems = s.mems := rfl
@[simp] theorem State.updCrossing_flash (c : Nat) (f : CrossSt → CrossSt) : (s.updCrossing c f).flash = s.flash := rfl
@[simp] theorem State.updCrossing_xspi (c : Nat) (f : CrossSt → CrossSt) : (s.updCrossing c f).xspi = s.xspi := rfl
@[simp] theorem State.updCrossing_jtag (c : Nat) (f : CrossSt → CrossSt) : (s.updCrossing c f).jtag = s.jtag := rfl
@[simp] theorem State.updCrossing_store (c : Nat) (f : CrossSt → CrossSt) : (s.updCrossing c f).store = s.store := rfl
@[simp] theorem State.updCrossing_prot (c : Nat) (f : CrossSt → CrossSt) : (s.updCrossing c f).prot = s.prot := rfl
@[simp] theorem State.updCrossing_boot (c : Nat) (f : CrossSt → CrossSt) : (s.updCrossing c f).boot = s.boot := rfl
@[simp] theorem State.updCrossing_dram (c : Nat) (f : CrossSt → CrossSt) : (s.updCrossing c f).dram = s.dram := rfl
@[simp] theorem State.updCrossing_rcv (c : Nat) (f : CrossSt → CrossSt) : (s.updCrossing c f).rcv = s.rcv := rfl
@[simp] theorem State.updCrossing_cal (c : Nat) (f : CrossSt → CrossSt) : (s.updCrossing c f).cal = s.cal := rfl

/-! updRun changes `bells` only. -/
@[simp] theorem State.updRun_pending (n : Nat) (f : Run → Run) : (s.updRun n f).pending = s.pending := by
  simp only [State.updRun]; split <;> rfl
@[simp] theorem State.updRun_part (n : Nat) (f : Run → Run) : (s.updRun n f).part = s.part := by
  simp only [State.updRun]; split <;> rfl
@[simp] theorem State.updRun_strapNode (n : Nat) (f : Run → Run) : (s.updRun n f).strapNode = s.strapNode := by
  simp only [State.updRun]; split <;> rfl
@[simp] theorem State.updRun_strapBoot (n : Nat) (f : Run → Run) : (s.updRun n f).strapBoot = s.strapBoot := by
  simp only [State.updRun]; split <;> rfl
@[simp] theorem State.updRun_cycles (n : Nat) (f : Run → Run) : (s.updRun n f).cycles = s.cycles := by
  simp only [State.updRun]; split <;> rfl
@[simp] theorem State.updRun_time (n : Nat) (f : Run → Run) : (s.updRun n f).time = s.time := by
  simp only [State.updRun]; split <;> rfl
@[simp] theorem State.updRun_dict (n : Nat) (f : Run → Run) : (s.updRun n f).dict = s.dict := by
  simp only [State.updRun]; split <;> rfl
@[simp] theorem State.updRun_doms (n : Nat) (f : Run → Run) : (s.updRun n f).doms = s.doms := by
  simp only [State.updRun]; split <;> rfl
@[simp] theorem State.updRun_out (n : Nat) (f : Run → Run) : (s.updRun n f).out = s.out := by
  simp only [State.updRun]; split <;> rfl
@[simp] theorem State.updRun_free (n : Nat) (f : Run → Run) : (s.updRun n f).free = s.free := by
  simp only [State.updRun]; split <;> rfl
@[simp] theorem State.updRun_mem (n : Nat) (f : Run → Run) : (s.updRun n f).mem = s.mem := by
  simp only [State.updRun]; split <;> rfl
@[simp] theorem State.updRun_poison (n : Nat) (f : Run → Run) : (s.updRun n f).poison = s.poison := by
  simp only [State.updRun]; split <;> rfl
@[simp] theorem State.updRun_ev (n : Nat) (f : Run → Run) : (s.updRun n f).ev = s.ev := by
  simp only [State.updRun]; split <;> rfl
@[simp] theorem State.updRun_dap (n : Nat) (f : Run → Run) : (s.updRun n f).dap = s.dap := by
  simp only [State.updRun]; split <;> rfl
@[simp] theorem State.updRun_tb (n : Nat) (f : Run → Run) : (s.updRun n f).tb = s.tb := by
  simp only [State.updRun]; split <;> rfl
@[simp] theorem State.updRun_lanes (n : Nat) (f : Run → Run) : (s.updRun n f).lanes = s.lanes := by
  simp only [State.updRun]; split <;> rfl
@[simp] theorem State.updRun_txs (n : Nat) (f : Run → Run) : (s.updRun n f).txs = s.txs := by
  simp only [State.updRun]; split <;> rfl
@[simp] theorem State.updRun_gens (n : Nat) (f : Run → Run) : (s.updRun n f).gens = s.gens := by
  simp only [State.updRun]; split <;> rfl
@[simp] theorem State.updRun_limits (n : Nat) (f : Run → Run) : (s.updRun n f).limits = s.limits := by
  simp only [State.updRun]; split <;> rfl
@[simp] theorem State.updRun_commits (n : Nat) (f : Run → Run) : (s.updRun n f).commits = s.commits := by
  simp only [State.updRun]; split <;> rfl
@[simp] theorem State.updRun_ports (n : Nat) (f : Run → Run) : (s.updRun n f).ports = s.ports := by
  simp only [State.updRun]; split <;> rfl
@[simp] theorem State.updRun_frames (n : Nat) (f : Run → Run) : (s.updRun n f).frames = s.frames := by
  simp only [State.updRun]; split <;> rfl
@[simp] theorem State.updRun_nextFid (n : Nat) (f : Run → Run) : (s.updRun n f).nextFid = s.nextFid := by
  simp only [State.updRun]; split <;> rfl
@[simp] theorem State.updRun_inputs (n : Nat) (f : Run → Run) : (s.updRun n f).inputs = s.inputs := by
  simp only [State.updRun]; split <;> rfl
@[simp] theorem State.updRun_pipes (n : Nat) (f : Run → Run) : (s.updRun n f).pipes = s.pipes := by
  simp only [State.updRun]; split <;> rfl
@[simp] theorem State.updRun_statJobs (n : Nat) (f : Run → Run) : (s.updRun n f).statJobs = s.statJobs := by
  simp only [State.updRun]; split <;> rfl
@[simp] theorem State.updRun_exps (n : Nat) (f : Run → Run) : (s.updRun n f).exps = s.exps := by
  simp only [State.updRun]; split <;> rfl
@[simp] theorem State.updRun_mrg (n : Nat) (f : Run → Run) : (s.updRun n f).mrg = s.mrg := by
  simp only [State.updRun]; split <;> rfl
@[simp] theorem State.updRun_wide (n : Nat) (f : Run → Run) : (s.updRun n f).wide = s.wide := by
  simp only [State.updRun]; split <;> rfl
@[simp] theorem State.updRun_sup (n : Nat) (f : Run → Run) : (s.updRun n f).sup = s.sup := by
  simp only [State.updRun]; split <;> rfl
@[simp] theorem State.updRun_pwr (n : Nat) (f : Run → Run) : (s.updRun n f).pwr = s.pwr := by
  simp only [State.updRun]; split <;> rfl
@[simp] theorem State.updRun_trk (n : Nat) (f : Run → Run) : (s.updRun n f).trk = s.trk := by
  simp only [State.updRun]; split <;> rfl
@[simp] theorem State.updRun_net (n : Nat) (f : Run → Run) : (s.updRun n f).net = s.net := by
  simp only [State.updRun]; split <;> rfl
@[simp] theorem State.updRun_dma (n : Nat) (f : Run → Run) : (s.updRun n f).dma = s.dma := by
  simp only [State.updRun]; split <;> rfl
@[simp] theorem State.updRun_fifos (n : Nat) (f : Run → Run) : (s.updRun n f).fifos = s.fifos := by
  simp only [State.updRun]; split <;> rfl
@[simp] theorem State.updRun_crossings (n : Nat) (f : Run → Run) : (s.updRun n f).crossings = s.crossings := by
  simp only [State.updRun]; split <;> rfl
@[simp] theorem State.updRun_mems (n : Nat) (f : Run → Run) : (s.updRun n f).mems = s.mems := by
  simp only [State.updRun]; split <;> rfl
@[simp] theorem State.updRun_flash (n : Nat) (f : Run → Run) : (s.updRun n f).flash = s.flash := by
  simp only [State.updRun]; split <;> rfl
@[simp] theorem State.updRun_xspi (n : Nat) (f : Run → Run) : (s.updRun n f).xspi = s.xspi := by
  simp only [State.updRun]; split <;> rfl
@[simp] theorem State.updRun_jtag (n : Nat) (f : Run → Run) : (s.updRun n f).jtag = s.jtag := by
  simp only [State.updRun]; split <;> rfl
@[simp] theorem State.updRun_store (n : Nat) (f : Run → Run) : (s.updRun n f).store = s.store := by
  simp only [State.updRun]; split <;> rfl
@[simp] theorem State.updRun_prot (n : Nat) (f : Run → Run) : (s.updRun n f).prot = s.prot := by
  simp only [State.updRun]; split <;> rfl
@[simp] theorem State.updRun_boot (n : Nat) (f : Run → Run) : (s.updRun n f).boot = s.boot := by
  simp only [State.updRun]; split <;> rfl
@[simp] theorem State.updRun_dram (n : Nat) (f : Run → Run) : (s.updRun n f).dram = s.dram := by
  simp only [State.updRun]; split <;> rfl
@[simp] theorem State.updRun_rcv (n : Nat) (f : Run → Run) : (s.updRun n f).rcv = s.rcv := by
  simp only [State.updRun]; split <;> rfl
@[simp] theorem State.updRun_cal (n : Nat) (f : Run → Run) : (s.updRun n f).cal = s.cal := by
  simp only [State.updRun]; split <;> rfl

end Sys2Proof.Machine
end

