-- ==== Sys2Proof/Laws/Bytes.lean ====
section
/-! SUPPORT. Byte orders (R13): lengths, and reading back what was written. -/
namespace Sys2Proof.Machine

@[simp] theorem byteOf_toNat (n : Nat) : (byteOf n).toNat = n % 256 := by simp [byteOf]

@[simp] theorem length_leBytes (n x : Nat) : (leBytes n x).length = n := by
  induction n generalizing x with
  | zero => rfl
  | succ n ih => simp [leBytes, ih]

@[simp] theorem length_beBytes (n x : Nat) : (beBytes n x).length = n := by simp [beBytes]

@[simp] theorem leNat_leBytes (n x : Nat) : leNat (leBytes n x) = x % 256 ^ n := by
  induction n generalizing x with
  | zero => simp [leBytes, leNat, Nat.mod_one]
  | succ n ih =>
    simp only [leBytes, leNat, ih, byteOf_toNat]
    rw [Nat.pow_succ', Nat.mod_mul]

@[simp] theorem beNat_beBytes (n x : Nat) : beNat (beBytes n x) = x % 256 ^ n := by simp [beNat, beBytes]

/-- The field of a message at the place where it was put. -/
theorem beAt_append (a : Bytes) (n x : Nat) (r : Bytes) (h : x < 256 ^ n) : beAt (a ++ (beBytes n x ++ r)) a.length n = x := by
  simp [beAt, slice, Nat.mod_eq_of_lt h]

theorem slice_append (a b r : Bytes) : slice (a ++ (b ++ r)) a.length b.length = b := by simp [slice]

@[simp] theorem length_padTo (n : Nat) (b : Bytes) : (padTo n b).length = n := by
  simp [padTo]; omega

theorem length_dapBody (service session seq : Nat) (p : Bytes) : (dapBody service session seq p).length = 10 + p.length := by
  simp [dapBody]; omega

end Sys2Proof.Machine
end

