-- ==== Sys2Proof/Laws/Maps.lean ====
section
/-! SUPPORT. Finite maps: what is read after a store, a removal; and with them the entries of the dictionary. -/
namespace Sys2Proof.Machine

variable {α : Type}

@[simp] theorem mapGet_mapSet_same (k : Nat) (v : α) (m : Map α) : mapGet k (mapSet k v m) = some v := by
  induction m with
  | nil => simp [mapSet, mapGet]
  | cons e r ih =>
    obtain ⟨k', v'⟩ := e
    simp only [mapSet]
    split
    · simp [mapGet]
    · split
      · simp [mapGet]
      · simp [mapGet, *]

theorem mapGet_mapSet_other {j k : Nat} (h : j ≠ k) (v : α) (m : Map α) : mapGet j (mapSet k v m) = mapGet j m := by
  induction m with
  | nil => simp [mapSet, mapGet, h]
  | cons e r ih =>
    obtain ⟨k', v'⟩ := e
    simp only [mapSet]
    split
    · simp [mapGet, h]
    · split
      · next h1 => subst h1; simp [mapGet, h]
      · simp only [mapGet]; split <;> simp [*]

@[simp] theorem mapGet_mapDel_same (k : Nat) (m : Map α) : mapGet k (mapDel k m) = none := by
  induction m with
  | nil => rfl
  | cons e r ih =>
    obtain ⟨k', v'⟩ := e
    simp only [mapDel]
    split
    · exact ih
    · next h => simp [mapGet, h, ih]

theorem mapGet_mapDel_other {j k : Nat} (h : j ≠ k) (m : Map α) : mapGet j (mapDel k m) = mapGet j m := by
  induction m with
  | nil => rfl
  | cons e r ih =>
    obtain ⟨k', v'⟩ := e
    simp only [mapDel]
    split
    · next h1 => subst h1; simp [mapGet, h, ih]
    · simp only [mapGet]; split <;> simp [*]

variable (s : State)

@[simp] theorem State.obj_setObj_same (k : Nat) (v : Int) : (s.setObj k v).obj k = v := by
  simp [State.obj, State.setObj]

theorem State.obj_setObj_other {j k : Nat} (h : j ≠ k) (v : Int) : (s.setObj k v).obj j = s.obj j := by
  simp [State.obj, State.setObj, mapGet_mapSet_other h]

@[simp] theorem State.nat_setObj_same (k v : Nat) : (s.setObj k v).nat k = v := by simp [State.nat]

theorem State.nat_setObj_other {j k : Nat} (h : j ≠ k) (v : Int) : (s.setObj k v).nat j = s.nat j := by
  simp [State.nat, State.obj_setObj_other s h]

theorem State.flag_setObj_other {j k : Nat} (h : j ≠ k) (v : Int) : (s.setObj k v).flag j = s.flag j := by
  simp [State.flag, State.obj_setObj_other s h]

@[simp] theorem State.flag_setFlag_same (k : Nat) (b : Bool) : (s.setFlag k b).flag k = b := by
  cases b <;> simp [State.setFlag, State.flag]

theorem State.nat_addTo_same (k w d : Nat) : (s.addTo k w d).nat k = satAdd w (s.nat k) d := by simp [State.addTo]

theorem State.obj_addTo_other {j k : Nat} (h : j ≠ k) (w d : Nat) : (s.addTo k w d).obj j = s.obj j :=
  s.obj_setObj_other h _

theorem State.nat_addTo_other {j k : Nat} (h : j ≠ k) (w d : Nat) : (s.addTo k w d).nat j = s.nat j := by
  simp [State.nat, s.obj_addTo_other h]

@[simp] theorem State.dom_setDom_same (k : Nat) (b : Bytes) : (s.setDom k b).dom k = b := by simp [State.dom, State.setDom]

theorem State.dom_setDom_other {j k : Nat} (h : j ≠ k) (b : Bytes) : (s.setDom k b).dom j = s.dom j := by
  simp [State.dom, State.setDom, mapGet_mapSet_other h]

/-- A lane's record after an update of that lane, and of another. -/
@[simp] theorem State.lane_updLane_same (l : Lane) (f : LaneSt → LaneSt) : (s.updLane l f).lane l = f (s.lane l) := by
  simp [State.lane, State.updLane, mapGetD]

theorem State.lane_updLane_other {l m : Lane} (h : laneId m ≠ laneId l) (f : LaneSt → LaneSt) :
    (s.updLane l f).lane m = s.lane m := by
  simp [State.lane, State.updLane, mapGetD, mapGet_mapSet_other h]

end Sys2Proof.Machine
end

