-- ==== Sys2Proof/Laws/Events.lean ====
section
/-! SUPPORT. What sending a message and raising an event can do: they touch the events, the sessions' sequence numbers, what was
sent, and the two entries that count lost events; nothing else. -/
namespace Sys2Proof.Machine

/-- `t` is `s` but for its events, sessions, output and dictionary. -/
structure Spoke (s t : State) : Prop where
  eq : t = { s with ev := t.ev, dict := t.dict, dap := t.dap, out := t.out }

/-- `t` is `s` but for its sessions and output. -/
structure Talked (s t : State) : Prop where
  eq : t = { s with dap := t.dap, out := t.out }

theorem Talked.refl (s : State) : Talked s s := ⟨rfl⟩

theorem Talked.trans {s t u : State} (a : Talked s t) (b : Talked t u) : Talked s u :=
  ⟨by have h := b.eq; rw [a.eq] at h; exact h⟩

theorem Talked.spoke {s t : State} (a : Talked s t) : Spoke s t :=
  ⟨by
    have e : t.ev = s.ev := (congrArg State.ev a.eq :)
    have d : t.dict = s.dict := (congrArg State.dict a.eq :)
    rw [e, d]; exact a.eq⟩

theorem Spoke.refl (s : State) : Spoke s s := ⟨rfl⟩

theorem Spoke.trans {s t u : State} (a : Spoke s t) (b : Spoke t u) : Spoke s u :=
  ⟨by have h := b.eq; rw [a.eq] at h; exact h⟩

theorem sent_foldl {β : Type} (f : State → β → State) (h : ∀ s x, Talked s (f s x)) (l : List β) (s : State) :
    Talked s (l.foldl f s) := by
  induction l generalizing s with
  | nil => exact Talked.refl s
  | cons x r ih => exact (h s x).trans (ih (f s x))

theorem State.sent_send (s : State) (o : Out) : Talked s (s.send o) := ⟨rfl⟩

theorem State.sent_updSession (s : State) (n : Nat) (f : Session → Session) : Talked s (s.updSession n f) := ⟨rfl⟩

theorem State.sent_transmit (s : State) (d : Source) (n : Nat) (m : Bytes) : Talked s (s.transmit d n m) := by
  simp only [State.transmit]
  split
  · exact Talked.refl s
  · split
    · exact sent_foldl _ (fun _ _ => State.sent_send _ _) _ _
    · exact State.sent_send _ _

theorem State.sent_sendTagged (s : State) (x : Session) (d : Source) (n k : Nat) (p : Bytes) :
    Talked s (s.sendTagged x d n k p) :=
  (s.sent_updSession _ _).trans (State.sent_transmit _ _ _ _)

theorem sent_sendEvents (n sid : Nat) (l : List EventRec) (s : State) : Talked s (sendEvents n sid l s) := by
  induction n generalizing l s with
  | zero => exact Talked.refl s
  | succ n ih =>
    simp only [sendEvents]
    split
    · exact Talked.refl s
    · split
      · exact Talked.refl s
      · exact (State.sent_sendTagged _ _ _ _ _ _).trans (ih _ _)

theorem State.sent_deliver (s : State) (r : EventRec) : Talked s (s.deliver r) :=
  sent_foldl _ (fun _ _ => sent_sendEvents _ _ _ _) _ _

theorem State.spoke_enqueueEvent (s : State) (r : EventRec) : Spoke s (s.enqueueEvent r) := by
  simp only [State.enqueueEvent]
  split
  · exact Spoke.trans ⟨rfl⟩ (State.sent_deliver _ _).spoke
  · exact ⟨rfl⟩

theorem State.spoke_raiseAt (s : State) (c k v : Nat) (p : String) (d : Bytes) : Spoke s (s.raiseAt c k v p d) :=
  Spoke.trans ⟨rfl⟩ (State.spoke_enqueueEvent _ _)

theorem State.spoke_raise (s : State) (c k : Nat) (p : String) (d : Bytes) : Spoke s (s.raise c k p d) :=
  s.spoke_raiseAt c k 0 p d

theorem State.spoke_laneRaise (s : State) (l : Lane) (c k : Nat) (d : Bytes) : Spoke s (s.laneRaise l c k d) :=
  s.spoke_raise c k _ _

theorem Spoke.pending {s t : State} (h : Spoke s t) : t.pending = s.pending := (congrArg State.pending h.eq :)
theorem Spoke.part {s t : State} (h : Spoke s t) : t.part = s.part := (congrArg State.part h.eq :)
theorem Spoke.strapNode {s t : State} (h : Spoke s t) : t.strapNode = s.strapNode := (congrArg State.strapNode h.eq :)
theorem Spoke.strapBoot {s t : State} (h : Spoke s t) : t.strapBoot = s.strapBoot := (congrArg State.strapBoot h.eq :)
theorem Spoke.cycles {s t : State} (h : Spoke s t) : t.cycles = s.cycles := (congrArg State.cycles h.eq :)
theorem Spoke.time {s t : State} (h : Spoke s t) : t.time = s.time := (congrArg State.time h.eq :)
theorem Spoke.doms {s t : State} (h : Spoke s t) : t.doms = s.doms := (congrArg State.doms h.eq :)
theorem Spoke.free {s t : State} (h : Spoke s t) : t.free = s.free := (congrArg State.free h.eq :)
theorem Spoke.mem {s t : State} (h : Spoke s t) : t.mem = s.mem := (congrArg State.mem h.eq :)
theorem Spoke.poison {s t : State} (h : Spoke s t) : t.poison = s.poison := (congrArg State.poison h.eq :)
theorem Spoke.tb {s t : State} (h : Spoke s t) : t.tb = s.tb := (congrArg State.tb h.eq :)
theorem Spoke.lanes {s t : State} (h : Spoke s t) : t.lanes = s.lanes := (congrArg State.lanes h.eq :)
theorem Spoke.limits {s t : State} (h : Spoke s t) : t.limits = s.limits := (congrArg State.limits h.eq :)
theorem Spoke.bells {s t : State} (h : Spoke s t) : t.bells = s.bells := (congrArg State.bells h.eq :)
theorem Spoke.commits {s t : State} (h : Spoke s t) : t.commits = s.commits := (congrArg State.commits h.eq :)
theorem Spoke.ports {s t : State} (h : Spoke s t) : t.ports = s.ports := (congrArg State.ports h.eq :)
theorem Spoke.frames {s t : State} (h : Spoke s t) : t.frames = s.frames := (congrArg State.frames h.eq :)
theorem Spoke.nextFid {s t : State} (h : Spoke s t) : t.nextFid = s.nextFid := (congrArg State.nextFid h.eq :)
theorem Spoke.inputs {s t : State} (h : Spoke s t) : t.inputs = s.inputs := (congrArg State.inputs h.eq :)
theorem Spoke.pipes {s t : State} (h : Spoke s t) : t.pipes = s.pipes := (congrArg State.pipes h.eq :)
theorem Spoke.statJobs {s t : State} (h : Spoke s t) : t.statJobs = s.statJobs := (congrArg State.statJobs h.eq :)
theorem Spoke.exps {s t : State} (h : Spoke s t) : t.exps = s.exps := (congrArg State.exps h.eq :)
theorem Spoke.mrg {s t : State} (h : Spoke s t) : t.mrg = s.mrg := (congrArg State.mrg h.eq :)
theorem Spoke.wide {s t : State} (h : Spoke s t) : t.wide = s.wide := (congrArg State.wide h.eq :)
theorem Spoke.sup {s t : State} (h : Spoke s t) : t.sup = s.sup := (congrArg State.sup h.eq :)
theorem Spoke.pwr {s t : State} (h : Spoke s t) : t.pwr = s.pwr := (congrArg State.pwr h.eq :)
theorem Spoke.trk {s t : State} (h : Spoke s t) : t.trk = s.trk := (congrArg State.trk h.eq :)
theorem Spoke.net {s t : State} (h : Spoke s t) : t.net = s.net := (congrArg State.net h.eq :)
theorem Spoke.dma {s t : State} (h : Spoke s t) : t.dma = s.dma := (congrArg State.dma h.eq :)
theorem Spoke.fifos {s t : State} (h : Spoke s t) : t.fifos = s.fifos := (congrArg State.fifos h.eq :)
theorem Spoke.crossings {s t : State} (h : Spoke s t) : t.crossings = s.crossings := (congrArg State.crossings h.eq :)
theorem Spoke.mems {s t : State} (h : Spoke s t) : t.mems = s.mems := (congrArg State.mems h.eq :)
theorem Spoke.flash {s t : State} (h : Spoke s t) : t.flash = s.flash := (congrArg State.flash h.eq :)
theorem Spoke.store {s t : State} (h : Spoke s t) : t.store = s.store := (congrArg State.store h.eq :)
theorem Spoke.prot {s t : State} (h : Spoke s t) : t.prot = s.prot := (congrArg State.prot h.eq :)
theorem Spoke.boot {s t : State} (h : Spoke s t) : t.boot = s.boot := (congrArg State.boot h.eq :)
theorem Spoke.dram {s t : State} (h : Spoke s t) : t.dram = s.dram := (congrArg State.dram h.eq :)
theorem Spoke.rcv {s t : State} (h : Spoke s t) : t.rcv = s.rcv := (congrArg State.rcv h.eq :)
theorem Spoke.cal {s t : State} (h : Spoke s t) : t.cal = s.cal := (congrArg State.cal h.eq :)

variable (s : State)

@[simp] theorem State.raiseAt_pending (c k v : Nat) (p : String) (d : Bytes) : (s.raiseAt c k v p d).pending = s.pending := (s.spoke_raiseAt c k v p d).pending
@[simp] theorem State.raiseAt_part (c k v : Nat) (p : String) (d : Bytes) : (s.raiseAt c k v p d).part = s.part := (s.spoke_raiseAt c k v p d).part
@[simp] theorem State.raiseAt_strapNode (c k v : Nat) (p : String) (d : Bytes) : (s.raiseAt c k v p d).strapNode = s.strapNode := (s.spoke_raiseAt c k v p d).strapNode
@[simp] theorem State.raiseAt_strapBoot (c k v : Nat) (p : String) (d : Bytes) : (s.raiseAt c k v p d).strapBoot = s.strapBoot := (s.spoke_raiseAt c k v p d).strapBoot
@[simp] theorem State.raiseAt_cycles (c k v : Nat) (p : String) (d : Bytes) : (s.raiseAt c k v p d).cycles = s.cycles := (s.spoke_raiseAt c k v p d).cycles
@[simp] theorem State.raiseAt_time (c k v : Nat) (p : String) (d : Bytes) : (s.raiseAt c k v p d).time = s.time := (s.spoke_raiseAt c k v p d).time
@[simp] theorem State.raiseAt_doms (c k v : Nat) (p : String) (d : Bytes) : (s.raiseAt c k v p d).doms = s.doms := (s.spoke_raiseAt c k v p d).doms
@[simp] theorem State.raiseAt_free (c k v : Nat) (p : String) (d : Bytes) : (s.raiseAt c k v p d).free = s.free := (s.spoke_raiseAt c k v p d).free
@[simp] theorem State.raiseAt_mem (c k v : Nat) (p : String) (d : Bytes) : (s.raiseAt c k v p d).mem = s.mem := (s.spoke_raiseAt c k v p d).mem
@[simp] theorem State.raiseAt_poison (c k v : Nat) (p : String) (d : Bytes) : (s.raiseAt c k v p d).poison = s.poison := (s.spoke_raiseAt c k v p d).poison
@[simp] theorem State.raiseAt_tb (c k v : Nat) (p : String) (d : Bytes) : (s.raiseAt c k v p d).tb = s.tb := (s.spoke_raiseAt c k v p d).tb
@[simp] theorem State.raiseAt_lanes (c k v : Nat) (p : String) (d : Bytes) : (s.raiseAt c k v p d).lanes = s.lanes := (s.spoke_raiseAt c k v p d).lanes
@[simp] theorem State.raiseAt_limits (c k v : Nat) (p : String) (d : Bytes) : (s.raiseAt c k v p d).limits = s.limits := (s.spoke_raiseAt c k v p d).limits
@[simp] theorem State.raiseAt_bells (c k v : Nat) (p : String) (d : Bytes) : (s.raiseAt c k v p d).bells = s.bells := (s.spoke_raiseAt c k v p d).bells
@[simp] theorem State.raiseAt_commits (c k v : Nat) (p : String) (d : Bytes) : (s.raiseAt c k v p d).commits = s.commits := (s.spoke_raiseAt c k v p d).commits
@[simp] theorem State.raiseAt_ports (c k v : Nat) (p : String) (d : Bytes) : (s.raiseAt c k v p d).ports = s.ports := (s.spoke_raiseAt c k v p d).ports
@[simp] theorem State.raiseAt_frames (c k v : Nat) (p : String) (d : Bytes) : (s.raiseAt c k v p d).frames = s.frames := (s.spoke_raiseAt c k v p d).frames
@[simp] theorem State.raiseAt_nextFid (c k v : Nat) (p : String) (d : Bytes) : (s.raiseAt c k v p d).nextFid = s.nextFid := (s.spoke_raiseAt c k v p d).nextFid
@[simp] theorem State.raiseAt_inputs (c k v : Nat) (p : String) (d : Bytes) : (s.raiseAt c k v p d).inputs = s.inputs := (s.spoke_raiseAt c k v p d).inputs
@[simp] theorem State.raiseAt_pipes (c k v : Nat) (p : String) (d : Bytes) : (s.raiseAt c k v p d).pipes = s.pipes := (s.spoke_raiseAt c k v p d).pipes
@[simp] theorem State.raiseAt_statJobs (c k v : Nat) (p : String) (d : Bytes) : (s.raiseAt c k v p d).statJobs = s.statJobs := (s.spoke_raiseAt c k v p d).statJobs
@[simp] theorem State.raiseAt_exps (c k v : Nat) (p : String) (d : Bytes) : (s.raiseAt c k v p d).exps = s.exps := (s.spoke_raiseAt c k v p d).exps
@[simp] theorem State.raiseAt_mrg (c k v : Nat) (p : String) (d : Bytes) : (s.raiseAt c k v p d).mrg = s.mrg := (s.spoke_raiseAt c k v p d).mrg
@[simp] theorem State.raiseAt_wide (c k v : Nat) (p : String) (d : Bytes) : (s.raiseAt c k v p d).wide = s.wide := (s.spoke_raiseAt c k v p d).wide
@[simp] theorem State.raiseAt_sup (c k v : Nat) (p : String) (d : Bytes) : (s.raiseAt c k v p d).sup = s.sup := (s.spoke_raiseAt c k v p d).sup
@[simp] theorem State.raiseAt_pwr (c k v : Nat) (p : String) (d : Bytes) : (s.raiseAt c k v p d).pwr = s.pwr := (s.spoke_raiseAt c k v p d).pwr
@[simp] theorem State.raiseAt_trk (c k v : Nat) (p : String) (d : Bytes) : (s.raiseAt c k v p d).trk = s.trk := (s.spoke_raiseAt c k v p d).trk
@[simp] theorem State.raiseAt_net (c k v : Nat) (p : String) (d : Bytes) : (s.raiseAt c k v p d).net = s.net := (s.spoke_raiseAt c k v p d).net
@[simp] theorem State.raiseAt_dma (c k v : Nat) (p : String) (d : Bytes) : (s.raiseAt c k v p d).dma = s.dma := (s.spoke_raiseAt c k v p d).dma
@[simp] theorem State.raiseAt_fifos (c k v : Nat) (p : String) (d : Bytes) : (s.raiseAt c k v p d).fifos = s.fifos := (s.spoke_raiseAt c k v p d).fifos
@[simp] theorem State.raiseAt_crossings (c k v : Nat) (p : String) (d : Bytes) : (s.raiseAt c k v p d).crossings = s.crossings := (s.spoke_raiseAt c k v p d).crossings
@[simp] theorem State.raiseAt_mems (c k v : Nat) (p : String) (d : Bytes) : (s.raiseAt c k v p d).mems = s.mems := (s.spoke_raiseAt c k v p d).mems
@[simp] theorem State.raiseAt_flash (c k v : Nat) (p : String) (d : Bytes) : (s.raiseAt c k v p d).flash = s.flash := (s.spoke_raiseAt c k v p d).flash
@[simp] theorem State.raiseAt_store (c k v : Nat) (p : String) (d : Bytes) : (s.raiseAt c k v p d).store = s.store := (s.spoke_raiseAt c k v p d).store
@[simp] theorem State.raiseAt_prot (c k v : Nat) (p : String) (d : Bytes) : (s.raiseAt c k v p d).prot = s.prot := (s.spoke_raiseAt c k v p d).prot
@[simp] theorem State.raiseAt_boot (c k v : Nat) (p : String) (d : Bytes) : (s.raiseAt c k v p d).boot = s.boot := (s.spoke_raiseAt c k v p d).boot
@[simp] theorem State.raiseAt_dram (c k v : Nat) (p : String) (d : Bytes) : (s.raiseAt c k v p d).dram = s.dram := (s.spoke_raiseAt c k v p d).dram
@[simp] theorem State.raiseAt_rcv (c k v : Nat) (p : String) (d : Bytes) : (s.raiseAt c k v p d).rcv = s.rcv := (s.spoke_raiseAt c k v p d).rcv
@[simp] theorem State.raiseAt_cal (c k v : Nat) (p : String) (d : Bytes) : (s.raiseAt c k v p d).cal = s.cal := (s.spoke_raiseAt c k v p d).cal
@[simp] theorem State.raise_pending (c k : Nat) (p : String) (d : Bytes) : (s.raise c k p d).pending = s.pending := (s.spoke_raise c k p d).pending
@[simp] theorem State.raise_part (c k : Nat) (p : String) (d : Bytes) : (s.raise c k p d).part = s.part := (s.spoke_raise c k p d).part
@[simp] theorem State.raise_strapNode (c k : Nat) (p : String) (d : Bytes) : (s.raise c k p d).strapNode = s.strapNode := (s.spoke_raise c k p d).strapNode
@[simp] theorem State.raise_strapBoot (c k : Nat) (p : String) (d : Bytes) : (s.raise c k p d).strapBoot = s.strapBoot := (s.spoke_raise c k p d).strapBoot
@[simp] theorem State.raise_cycles (c k : Nat) (p : String) (d : Bytes) : (s.raise c k p d).cycles = s.cycles := (s.spoke_raise c k p d).cycles
@[simp] theorem State.raise_time (c k : Nat) (p : String) (d : Bytes) : (s.raise c k p d).time = s.time := (s.spoke_raise c k p d).time
@[simp] theorem State.raise_doms (c k : Nat) (p : String) (d : Bytes) : (s.raise c k p d).doms = s.doms := (s.spoke_raise c k p d).doms
@[simp] theorem State.raise_free (c k : Nat) (p : String) (d : Bytes) : (s.raise c k p d).free = s.free := (s.spoke_raise c k p d).free
@[simp] theorem State.raise_mem (c k : Nat) (p : String) (d : Bytes) : (s.raise c k p d).mem = s.mem := (s.spoke_raise c k p d).mem
@[simp] theorem State.raise_poison (c k : Nat) (p : String) (d : Bytes) : (s.raise c k p d).poison = s.poison := (s.spoke_raise c k p d).poison
@[simp] theorem State.raise_tb (c k : Nat) (p : String) (d : Bytes) : (s.raise c k p d).tb = s.tb := (s.spoke_raise c k p d).tb
@[simp] theorem State.raise_lanes (c k : Nat) (p : String) (d : Bytes) : (s.raise c k p d).lanes = s.lanes := (s.spoke_raise c k p d).lanes
@[simp] theorem State.raise_limits (c k : Nat) (p : String) (d : Bytes) : (s.raise c k p d).limits = s.limits := (s.spoke_raise c k p d).limits
@[simp] theorem State.raise_bells (c k : Nat) (p : String) (d : Bytes) : (s.raise c k p d).bells = s.bells := (s.spoke_raise c k p d).bells
@[simp] theorem State.raise_commits (c k : Nat) (p : String) (d : Bytes) : (s.raise c k p d).commits = s.commits := (s.spoke_raise c k p d).commits
@[simp] theorem State.raise_ports (c k : Nat) (p : String) (d : Bytes) : (s.raise c k p d).ports = s.ports := (s.spoke_raise c k p d).ports
@[simp] theorem State.raise_frames (c k : Nat) (p : String) (d : Bytes) : (s.raise c k p d).frames = s.frames := (s.spoke_raise c k p d).frames
@[simp] theorem State.raise_nextFid (c k : Nat) (p : String) (d : Bytes) : (s.raise c k p d).nextFid = s.nextFid := (s.spoke_raise c k p d).nextFid
@[simp] theorem State.raise_inputs (c k : Nat) (p : String) (d : Bytes) : (s.raise c k p d).inputs = s.inputs := (s.spoke_raise c k p d).inputs
@[simp] theorem State.raise_pipes (c k : Nat) (p : String) (d : Bytes) : (s.raise c k p d).pipes = s.pipes := (s.spoke_raise c k p d).pipes
@[simp] theorem State.raise_statJobs (c k : Nat) (p : String) (d : Bytes) : (s.raise c k p d).statJobs = s.statJobs := (s.spoke_raise c k p d).statJobs
@[simp] theorem State.raise_exps (c k : Nat) (p : String) (d : Bytes) : (s.raise c k p d).exps = s.exps := (s.spoke_raise c k p d).exps
@[simp] theorem State.raise_mrg (c k : Nat) (p : String) (d : Bytes) : (s.raise c k p d).mrg = s.mrg := (s.spoke_raise c k p d).mrg
@[simp] theorem State.raise_wide (c k : Nat) (p : String) (d : Bytes) : (s.raise c k p d).wide = s.wide := (s.spoke_raise c k p d).wide
@[simp] theorem State.raise_sup (c k : Nat) (p : String) (d : Bytes) : (s.raise c k p d).sup = s.sup := (s.spoke_raise c k p d).sup
@[simp] theorem State.raise_pwr (c k : Nat) (p : String) (d : Bytes) : (s.raise c k p d).pwr = s.pwr := (s.spoke_raise c k p d).pwr
@[simp] theorem State.raise_trk (c k : Nat) (p : String) (d : Bytes) : (s.raise c k p d).trk = s.trk := (s.spoke_raise c k p d).trk
@[simp] theorem State.raise_net (c k : Nat) (p : String) (d : Bytes) : (s.raise c k p d).net = s.net := (s.spoke_raise c k p d).net
@[simp] theorem State.raise_dma (c k : Nat) (p : String) (d : Bytes) : (s.raise c k p d).dma = s.dma := (s.spoke_raise c k p d).dma
@[simp] theorem State.raise_fifos (c k : Nat) (p : String) (d : Bytes) : (s.raise c k p d).fifos = s.fifos := (s.spoke_raise c k p d).fifos
@[simp] theorem State.raise_crossings (c k : Nat) (p : String) (d : Bytes) : (s.raise c k p d).crossings = s.crossings := (s.spoke_raise c k p d).crossings
@[simp] theorem State.raise_mems (c k : Nat) (p : String) (d : Bytes) : (s.raise c k p d).mems = s.mems := (s.spoke_raise c k p d).mems
@[simp] theorem State.raise_flash (c k : Nat) (p : String) (d : Bytes) : (s.raise c k p d).flash = s.flash := (s.spoke_raise c k p d).flash
@[simp] theorem State.raise_store (c k : Nat) (p : String) (d : Bytes) : (s.raise c k p d).store = s.store := (s.spoke_raise c k p d).store
@[simp] theorem State.raise_prot (c k : Nat) (p : String) (d : Bytes) : (s.raise c k p d).prot = s.prot := (s.spoke_raise c k p d).prot
@[simp] theorem State.raise_boot (c k : Nat) (p : String) (d : Bytes) : (s.raise c k p d).boot = s.boot := (s.spoke_raise c k p d).boot
@[simp] theorem State.raise_dram (c k : Nat) (p : String) (d : Bytes) : (s.raise c k p d).dram = s.dram := (s.spoke_raise c k p d).dram
@[simp] theorem State.raise_rcv (c k : Nat) (p : String) (d : Bytes) : (s.raise c k p d).rcv = s.rcv := (s.spoke_raise c k p d).rcv
@[simp] theorem State.raise_cal (c k : Nat) (p : String) (d : Bytes) : (s.raise c k p d).cal = s.cal := (s.spoke_raise c k p d).cal
@[simp] theorem State.laneRaise_pending (l : Lane) (c k : Nat) (d : Bytes) : (s.laneRaise l c k d).pending = s.pending := (s.spoke_laneRaise l c k d).pending
@[simp] theorem State.laneRaise_part (l : Lane) (c k : Nat) (d : Bytes) : (s.laneRaise l c k d).part = s.part := (s.spoke_laneRaise l c k d).part
@[simp] theorem State.laneRaise_strapNode (l : Lane) (c k : Nat) (d : Bytes) : (s.laneRaise l c k d).strapNode = s.strapNode := (s.spoke_laneRaise l c k d).strapNode
@[simp] theorem State.laneRaise_strapBoot (l : Lane) (c k : Nat) (d : Bytes) : (s.laneRaise l c k d).strapBoot = s.strapBoot := (s.spoke_laneRaise l c k d).strapBoot
@[simp] theorem State.laneRaise_cycles (l : Lane) (c k : Nat) (d : Bytes) : (s.laneRaise l c k d).cycles = s.cycles := (s.spoke_laneRaise l c k d).cycles
@[simp] theorem State.laneRaise_time (l : Lane) (c k : Nat) (d : Bytes) : (s.laneRaise l c k d).time = s.time := (s.spoke_laneRaise l c k d).time
@[simp] theorem State.laneRaise_doms (l : Lane) (c k : Nat) (d : Bytes) : (s.laneRaise l c k d).doms = s.doms := (s.spoke_laneRaise l c k d).doms
@[simp] theorem State.laneRaise_free (l : Lane) (c k : Nat) (d : Bytes) : (s.laneRaise l c k d).free = s.free := (s.spoke_laneRaise l c k d).free
@[simp] theorem State.laneRaise_mem (l : Lane) (c k : Nat) (d : Bytes) : (s.laneRaise l c k d).mem = s.mem := (s.spoke_laneRaise l c k d).mem
@[simp] theorem State.laneRaise_poison (l : Lane) (c k : Nat) (d : Bytes) : (s.laneRaise l c k d).poison = s.poison := (s.spoke_laneRaise l c k d).poison
@[simp] theorem State.laneRaise_tb (l : Lane) (c k : Nat) (d : Bytes) : (s.laneRaise l c k d).tb = s.tb := (s.spoke_laneRaise l c k d).tb
@[simp] theorem State.laneRaise_lanes (l : Lane) (c k : Nat) (d : Bytes) : (s.laneRaise l c k d).lanes = s.lanes := (s.spoke_laneRaise l c k d).lanes
@[simp] theorem State.laneRaise_limits (l : Lane) (c k : Nat) (d : Bytes) : (s.laneRaise l c k d).limits = s.limits := (s.spoke_laneRaise l c k d).limits
@[simp] theorem State.laneRaise_bells (l : Lane) (c k : Nat) (d : Bytes) : (s.laneRaise l c k d).bells = s.bells := (s.spoke_laneRaise l c k d).bells
@[simp] theorem State.laneRaise_commits (l : Lane) (c k : Nat) (d : Bytes) : (s.laneRaise l c k d).commits = s.commits := (s.spoke_laneRaise l c k d).commits
@[simp] theorem State.laneRaise_ports (l : Lane) (c k : Nat) (d : Bytes) : (s.laneRaise l c k d).ports = s.ports := (s.spoke_laneRaise l c k d).ports
@[simp] theorem State.laneRaise_frames (l : Lane) (c k : Nat) (d : Bytes) : (s.laneRaise l c k d).frames = s.frames := (s.spoke_laneRaise l c k d).frames
@[simp] theorem State.laneRaise_nextFid (l : Lane) (c k : Nat) (d : Bytes) : (s.laneRaise l c k d).nextFid = s.nextFid := (s.spoke_laneRaise l c k d).nextFid
@[simp] theorem State.laneRaise_inputs (l : Lane) (c k : Nat) (d : Bytes) : (s.laneRaise l c k d).inputs = s.inputs := (s.spoke_laneRaise l c k d).inputs
@[simp] theorem State.laneRaise_pipes (l : Lane) (c k : Nat) (d : Bytes) : (s.laneRaise l c k d).pipes = s.pipes := (s.spoke_laneRaise l c k d).pipes
@[simp] theorem State.laneRaise_statJobs (l : Lane) (c k : Nat) (d : Bytes) : (s.laneRaise l c k d).statJobs = s.statJobs := (s.spoke_laneRaise l c k d).statJobs
@[simp] theorem State.laneRaise_exps (l : Lane) (c k : Nat) (d : Bytes) : (s.laneRaise l c k d).exps = s.exps := (s.spoke_laneRaise l c k d).exps
@[simp] theorem State.laneRaise_mrg (l : Lane) (c k : Nat) (d : Bytes) : (s.laneRaise l c k d).mrg = s.mrg := (s.spoke_laneRaise l c k d).mrg
@[simp] theorem State.laneRaise_wide (l : Lane) (c k : Nat) (d : Bytes) : (s.laneRaise l c k d).wide = s.wide := (s.spoke_laneRaise l c k d).wide
@[simp] theorem State.laneRaise_sup (l : Lane) (c k : Nat) (d : Bytes) : (s.laneRaise l c k d).sup = s.sup := (s.spoke_laneRaise l c k d).sup
@[simp] theorem State.laneRaise_pwr (l : Lane) (c k : Nat) (d : Bytes) : (s.laneRaise l c k d).pwr = s.pwr := (s.spoke_laneRaise l c k d).pwr
@[simp] theorem State.laneRaise_trk (l : Lane) (c k : Nat) (d : Bytes) : (s.laneRaise l c k d).trk = s.trk := (s.spoke_laneRaise l c k d).trk
@[simp] theorem State.laneRaise_net (l : Lane) (c k : Nat) (d : Bytes) : (s.laneRaise l c k d).net = s.net := (s.spoke_laneRaise l c k d).net
@[simp] theorem State.laneRaise_dma (l : Lane) (c k : Nat) (d : Bytes) : (s.laneRaise l c k d).dma = s.dma := (s.spoke_laneRaise l c k d).dma
@[simp] theorem State.laneRaise_fifos (l : Lane) (c k : Nat) (d : Bytes) : (s.laneRaise l c k d).fifos = s.fifos := (s.spoke_laneRaise l c k d).fifos
@[simp] theorem State.laneRaise_crossings (l : Lane) (c k : Nat) (d : Bytes) : (s.laneRaise l c k d).crossings = s.crossings := (s.spoke_laneRaise l c k d).crossings
@[simp] theorem State.laneRaise_mems (l : Lane) (c k : Nat) (d : Bytes) : (s.laneRaise l c k d).mems = s.mems := (s.spoke_laneRaise l c k d).mems
@[simp] theorem State.laneRaise_flash (l : Lane) (c k : Nat) (d : Bytes) : (s.laneRaise l c k d).flash = s.flash := (s.spoke_laneRaise l c k d).flash
@[simp] theorem State.laneRaise_store (l : Lane) (c k : Nat) (d : Bytes) : (s.laneRaise l c k d).store = s.store := (s.spoke_laneRaise l c k d).store
@[simp] theorem State.laneRaise_prot (l : Lane) (c k : Nat) (d : Bytes) : (s.laneRaise l c k d).prot = s.prot := (s.spoke_laneRaise l c k d).prot
@[simp] theorem State.laneRaise_boot (l : Lane) (c k : Nat) (d : Bytes) : (s.laneRaise l c k d).boot = s.boot := (s.spoke_laneRaise l c k d).boot
@[simp] theorem State.laneRaise_dram (l : Lane) (c k : Nat) (d : Bytes) : (s.laneRaise l c k d).dram = s.dram := (s.spoke_laneRaise l c k d).dram
@[simp] theorem State.laneRaise_rcv (l : Lane) (c k : Nat) (d : Bytes) : (s.laneRaise l c k d).rcv = s.rcv := (s.spoke_laneRaise l c k d).rcv
@[simp] theorem State.laneRaise_cal (l : Lane) (c k : Nat) (d : Bytes) : (s.laneRaise l c k d).cal = s.cal := (s.spoke_laneRaise l c k d).cal
@[simp] theorem State.transmit_pending (d : Source) (n : Nat) (m : Bytes) : (s.transmit d n m).pending = s.pending := (congrArg State.pending (s.sent_transmit d n m).eq :)
@[simp] theorem State.transmit_part (d : Source) (n : Nat) (m : Bytes) : (s.transmit d n m).part = s.part := (congrArg State.part (s.sent_transmit d n m).eq :)
@[simp] theorem State.transmit_strapNode (d : Source) (n : Nat) (m : Bytes) : (s.transmit d n m).strapNode = s.strapNode := (congrArg State.strapNode (s.sent_transmit d n m).eq :)
@[simp] theorem State.transmit_strapBoot (d : Source) (n : Nat) (m : Bytes) : (s.transmit d n m).strapBoot = s.strapBoot := (congrArg State.strapBoot (s.sent_transmit d n m).eq :)
@[simp] theorem State.transmit_cycles (d : Source) (n : Nat) (m : Bytes) : (s.transmit d n m).cycles = s.cycles := (congrArg State.cycles (s.sent_transmit d n m).eq :)
@[simp] theorem State.transmit_time (d : Source) (n : Nat) (m : Bytes) : (s.transmit d n m).time = s.time := (congrArg State.time (s.sent_transmit d n m).eq :)
@[simp] theorem State.transmit_doms (d : Source) (n : Nat) (m : Bytes) : (s.transmit d n m).doms = s.doms := (congrArg State.doms (s.sent_transmit d n m).eq :)
@[simp] theorem State.transmit_free (d : Source) (n : Nat) (m : Bytes) : (s.transmit d n m).free = s.free := (congrArg State.free (s.sent_transmit d n m).eq :)
@[simp] theorem State.transmit_mem (d : Source) (n : Nat) (m : Bytes) : (s.transmit d n m).mem = s.mem := (congrArg State.mem (s.sent_transmit d n m).eq :)
@[simp] theorem State.transmit_poison (d : Source) (n : Nat) (m : Bytes) : (s.transmit d n m).poison = s.poison := (congrArg State.poison (s.sent_transmit d n m).eq :)
@[simp] theorem State.transmit_tb (d : Source) (n : Nat) (m : Bytes) : (s.transmit d n m).tb = s.tb := (congrArg State.tb (s.sent_transmit d n m).eq :)
@[simp] theorem State.transmit_lanes (d : Source) (n : Nat) (m : Bytes) : (s.transmit d n m).lanes = s.lanes := (congrArg State.lanes (s.sent_transmit d n m).eq :)
@[simp] theorem State.transmit_limits (d : Source) (n : Nat) (m : Bytes) : (s.transmit d n m).limits = s.limits := (congrArg State.limits (s.sent_transmit d n m).eq :)
@[simp] theorem State.transmit_bells (d : Source) (n : Nat) (m : Bytes) : (s.transmit d n m).bells = s.bells := (congrArg State.bells (s.sent_transmit d n m).eq :)
@[simp] theorem State.transmit_commits (d : Source) (n : Nat) (m : Bytes) : (s.transmit d n m).commits = s.commits := (congrArg State.commits (s.sent_transmit d n m).eq :)
@[simp] theorem State.transmit_ports (d : Source) (n : Nat) (m : Bytes) : (s.transmit d n m).ports = s.ports := (congrArg State.ports (s.sent_transmit d n m).eq :)
@[simp] theorem State.transmit_frames (d : Source) (n : Nat) (m : Bytes) : (s.transmit d n m).frames = s.frames := (congrArg State.frames (s.sent_transmit d n m).eq :)
@[simp] theorem State.transmit_nextFid (d : Source) (n : Nat) (m : Bytes) : (s.transmit d n m).nextFid = s.nextFid := (congrArg State.nextFid (s.sent_transmit d n m).eq :)
@[simp] theorem State.transmit_inputs (d : Source) (n : Nat) (m : Bytes) : (s.transmit d n m).inputs = s.inputs := (congrArg State.inputs (s.sent_transmit d n m).eq :)
@[simp] theorem State.transmit_pipes (d : Source) (n : Nat) (m : Bytes) : (s.transmit d n m).pipes = s.pipes := (congrArg State.pipes (s.sent_transmit d n m).eq :)
@[simp] theorem State.transmit_statJobs (d : Source) (n : Nat) (m : Bytes) : (s.transmit d n m).statJobs = s.statJobs := (congrArg State.statJobs (s.sent_transmit d n m).eq :)
@[simp] theorem State.transmit_exps (d : Source) (n : Nat) (m : Bytes) : (s.transmit d n m).exps = s.exps := (congrArg State.exps (s.sent_transmit d n m).eq :)
@[simp] theorem State.transmit_mrg (d : Source) (n : Nat) (m : Bytes) : (s.transmit d n m).mrg = s.mrg := (congrArg State.mrg (s.sent_transmit d n m).eq :)
@[simp] theorem State.transmit_wide (d : Source) (n : Nat) (m : Bytes) : (s.transmit d n m).wide = s.wide := (congrArg State.wide (s.sent_transmit d n m).eq :)
@[simp] theorem State.transmit_sup (d : Source) (n : Nat) (m : Bytes) : (s.transmit d n m).sup = s.sup := (congrArg State.sup (s.sent_transmit d n m).eq :)
@[simp] theorem State.transmit_pwr (d : Source) (n : Nat) (m : Bytes) : (s.transmit d n m).pwr = s.pwr := (congrArg State.pwr (s.sent_transmit d n m).eq :)
@[simp] theorem State.transmit_trk (d : Source) (n : Nat) (m : Bytes) : (s.transmit d n m).trk = s.trk := (congrArg State.trk (s.sent_transmit d n m).eq :)
@[simp] theorem State.transmit_net (d : Source) (n : Nat) (m : Bytes) : (s.transmit d n m).net = s.net := (congrArg State.net (s.sent_transmit d n m).eq :)
@[simp] theorem State.transmit_dma (d : Source) (n : Nat) (m : Bytes) : (s.transmit d n m).dma = s.dma := (congrArg State.dma (s.sent_transmit d n m).eq :)
@[simp] theorem State.transmit_fifos (d : Source) (n : Nat) (m : Bytes) : (s.transmit d n m).fifos = s.fifos := (congrArg State.fifos (s.sent_transmit d n m).eq :)
@[simp] theorem State.transmit_crossings (d : Source) (n : Nat) (m : Bytes) : (s.transmit d n m).crossings = s.crossings := (congrArg State.crossings (s.sent_transmit d n m).eq :)
@[simp] theorem State.transmit_mems (d : Source) (n : Nat) (m : Bytes) : (s.transmit d n m).mems = s.mems := (congrArg State.mems (s.sent_transmit d n m).eq :)
@[simp] theorem State.transmit_flash (d : Source) (n : Nat) (m : Bytes) : (s.transmit d n m).flash = s.flash := (congrArg State.flash (s.sent_transmit d n m).eq :)
@[simp] theorem State.transmit_store (d : Source) (n : Nat) (m : Bytes) : (s.transmit d n m).store = s.store := (congrArg State.store (s.sent_transmit d n m).eq :)
@[simp] theorem State.transmit_prot (d : Source) (n : Nat) (m : Bytes) : (s.transmit d n m).prot = s.prot := (congrArg State.prot (s.sent_transmit d n m).eq :)
@[simp] theorem State.transmit_boot (d : Source) (n : Nat) (m : Bytes) : (s.transmit d n m).boot = s.boot := (congrArg State.boot (s.sent_transmit d n m).eq :)
@[simp] theorem State.transmit_dram (d : Source) (n : Nat) (m : Bytes) : (s.transmit d n m).dram = s.dram := (congrArg State.dram (s.sent_transmit d n m).eq :)
@[simp] theorem State.transmit_rcv (d : Source) (n : Nat) (m : Bytes) : (s.transmit d n m).rcv = s.rcv := (congrArg State.rcv (s.sent_transmit d n m).eq :)
@[simp] theorem State.transmit_cal (d : Source) (n : Nat) (m : Bytes) : (s.transmit d n m).cal = s.cal := (congrArg State.cal (s.sent_transmit d n m).eq :)
@[simp] theorem State.transmit_ev (d : Source) (n : Nat) (m : Bytes) : (s.transmit d n m).ev = s.ev := (congrArg State.ev (s.sent_transmit d n m).eq :)
@[simp] theorem State.transmit_dict (d : Source) (n : Nat) (m : Bytes) : (s.transmit d n m).dict = s.dict := (congrArg State.dict (s.sent_transmit d n m).eq :)

/-- Entries of the dictionary other than the two that count lost events are as they were. -/
theorem State.enqueueEvent_obj (r : EventRec) {k : Nat} (h1 : k ≠ Key.evtLostCount) (h2 : k ≠ Key.evtLostSticky) :
    (s.enqueueEvent r).obj k = s.obj k := by
  simp only [State.enqueueEvent]
  split
  · have h := congrArg State.dict (State.sent_deliver ({ s with ev := { s.ev with queue := s.ev.queue ++ [QueuedEvent.mk r
      ((s.dap.sessions.filter (·.admits r.cls)).map (·.sid)) ((s.dap.sessions.filter (·.admits r.cls)).map (·.sid)).isEmpty] } }) r).eq
    have p := congrArg State.part (State.sent_deliver ({ s with ev := { s.ev with queue := s.ev.queue ++ [QueuedEvent.mk r
      ((s.dap.sessions.filter (·.admits r.cls)).map (·.sid)) ((s.dap.sessions.filter (·.admits r.cls)).map (·.sid)).isEmpty] } }) r).eq
    simp only [State.obj]
    rw [h, p]
  · show (((s.bump Key.evtLostCount).setFlag Key.evtLostSticky true).obj k) = _
    rw [State.setFlag, State.obj_setObj_other _ h2, State.bump, State.obj_addTo_other _ h1]

theorem State.raiseAt_obj (c l v : Nat) (p : String) (d : Bytes) {k : Nat} (h1 : k ≠ Key.evtLostCount)
    (h2 : k ≠ Key.evtLostSticky) : (s.raiseAt c l v p d).obj k = s.obj k :=
  State.enqueueEvent_obj _ _ h1 h2

theorem State.raise_obj (c l : Nat) (p : String) (d : Bytes) {k : Nat} (h1 : k ≠ Key.evtLostCount)
    (h2 : k ≠ Key.evtLostSticky) : (s.raise c l p d).obj k = s.obj k := s.raiseAt_obj c l 0 p d h1 h2

theorem State.raise_nat (c l : Nat) (p : String) (d : Bytes) {k : Nat} (h1 : k ≠ Key.evtLostCount)
    (h2 : k ≠ Key.evtLostSticky) : (s.raise c l p d).nat k = s.nat k := by rw [State.nat, State.nat, s.raise_obj c l p d h1 h2]

end Sys2Proof.Machine
end

