-- ==== Sys2Proof/Laws/Memory.lean ====
section
/-! SUPPORT. Device memory: a byte reads back as it was written, every other byte as before, and every operation keeps the
canonical form. -/
namespace Sys2Proof.Machine

theorem Memory.wfFrom_mono {lo lo' : Nat} {m : List Host.Cell} (h : Memory.wfFrom lo m = true) (hl : lo' ≤ lo) :
    Memory.wfFrom lo' m = true := by
  cases m with
  | nil => rfl
  | cons c r =>
    simp only [Memory.wfFrom, Bool.and_eq_true, decide_eq_true_eq] at h ⊢
    exact ⟨⟨Nat.le_trans hl h.1.1, h.1.2⟩, h.2⟩

/-- Below the first address nothing is listed. -/
theorem Memory.read_below {lo a : Nat} {m : List Host.Cell} (h : Memory.wfFrom lo m = true) (ha : a < lo) :
    Memory.read a m = emptyByte := by
  induction m generalizing lo with
  | nil => rfl
  | cons c r ih =>
    simp only [Memory.wfFrom, Bool.and_eq_true, decide_eq_true_eq] at h
    have hc : c.1 ≠ a := by omega
    simp only [Memory.read, hc, if_false]
    exact ih h.2 (by omega)

theorem Memory.write_wfFrom {lo a : Nat} (b : Byte) {m : List Host.Cell} (h : Memory.wfFrom lo m = true) (ha : lo ≤ a) :
    Memory.wfFrom lo (Memory.write a b m) = true := by
  induction m generalizing lo with
  | nil =>
    by_cases hb : b = emptyByte <;> simp [Memory.write, Memory.wfFrom, hb, ha]
  | cons c r ih =>
    have h0 := h
    simp only [Memory.wfFrom, Bool.and_eq_true, decide_eq_true_eq] at h
    unfold Memory.write
    split
    · next hlt =>
      by_cases hb : b = emptyByte
      · simpa [hb] using h0
      · have : a + 1 ≤ c.1 := hlt
        simp [hb, Memory.wfFrom, ha, this, h.1.2, h.2]
    · next hge =>
      split
      · next he =>
        by_cases hb : b = emptyByte
        · simpa [hb] using Memory.wfFrom_mono h.2 (by omega)
        · simp [hb, Memory.wfFrom, he, h.2, h.1.1]
      · next hne =>
        have hi : c.1 + 1 ≤ a := by omega
        simp only [Memory.wfFrom, ih h.2 hi, h.1.1, h.1.2, Bool.and_true, decide_true]

/-- A write keeps the canonical form. -/
@[simp] theorem Memory.write_wf (a : Nat) (b : Byte) {m : List Host.Cell} (h : Memory.wf m = true) : Memory.wf (Memory.write a b m) = true :=
  Memory.write_wfFrom b h (Nat.zero_le a)

@[simp] theorem Memory.writeBytes_wf (a : Nat) (b : Bytes) {m : List Host.Cell} (h : Memory.wf m = true) :
    Memory.wf (Memory.writeBytes a b m) = true := by
  induction b generalizing a m with
  | nil => exact h
  | cons x r ih => exact ih (a + 1) (Memory.write_wf a x h)

theorem Memory.filter_wfFrom (p : Host.Cell → Bool) {lo : Nat} {m : List Host.Cell} (h : Memory.wfFrom lo m = true) :
    Memory.wfFrom lo (m.filter p) = true := by
  induction m generalizing lo with
  | nil => rfl
  | cons c r ih =>
    simp only [Memory.wfFrom, Bool.and_eq_true, decide_eq_true_eq] at h
    cases hp : p c
    · simpa [List.filter, hp] using ih (Memory.wfFrom_mono h.2 (by omega))
    · simp [List.filter, hp, Memory.wfFrom, ih h.2, h.1.1]
      simpa using h.1.2

/-- Losing bytes keeps the canonical form. -/
@[simp] theorem Memory.filter_wf (p : Host.Cell → Bool) {m : List Host.Cell} (h : Memory.wf m = true) : Memory.wf (m.filter p) = true :=
  Memory.filter_wfFrom p h

@[simp] theorem Memory.clear_wf (lo hi : Nat) {m : List Host.Cell} (h : Memory.wf m = true) : Memory.wf (Memory.clear lo hi m) = true :=
  Memory.filter_wf _ h

theorem Memory.read_write_from {lo a : Nat} (b : Byte) (x : Nat) {m : List Host.Cell} (h : Memory.wfFrom lo m = true) :
    Memory.read x (Memory.write a b m) = if x = a then b else Memory.read x m := by
  induction m generalizing lo with
  | nil =>
    by_cases hb : b = emptyByte
    · simp [Memory.write, hb, Memory.read]
    · by_cases hx : x = a
      · simp [Memory.write, hb, Memory.read, hx]
      · have : ¬ a = x := fun e => hx e.symm
        simp [Memory.write, hb, Memory.read, hx, this]
  | cons c r ih =>
    simp only [Memory.wfFrom, Bool.and_eq_true, decide_eq_true_eq] at h
    unfold Memory.write
    split
    · next hlt =>
      by_cases hb : b = emptyByte
      · by_cases hx : x = a
        · have hc : ¬ c.1 = a := by omega
          simp [hb, hx, Memory.read, hc, Memory.read_below h.2 (by omega : a < c.1 + 1)]
        · simp [hb, hx]
      · by_cases hx : x = a
        · simp [hb, hx, Memory.read]
        · have : ¬ a = x := fun e => hx e.symm
          simp [hb, hx, Memory.read, this]
    · next hge =>
      split
      · next he =>
        subst he
        by_cases hx : x = c.1
        · by_cases hb : b = emptyByte
          · simp [hb, hx, Memory.read_below h.2 (by omega : c.1 < c.1 + 1)]
          · simp [hb, hx, Memory.read]
        · have : ¬ c.1 = x := fun e => hx e.symm
          by_cases hb : b = emptyByte <;> simp [hb, hx, Memory.read, this]
      · next hne =>
        by_cases hx : c.1 = x
        · have : ¬ x = a := by omega
          simp [Memory.read, hx, this]
        · simp [Memory.read, hx, ih h.2]

/-- A byte reads back as it was written; every other byte reads as before. -/
theorem Memory.read_write (a x : Nat) (b : Byte) {m : List Host.Cell} (h : Memory.wf m = true) :
    Memory.read x (Memory.write a b m) = if x = a then b else Memory.read x m := Memory.read_write_from b x h

/-- The bytes of a string read back as they were written; every other byte reads as before. -/
theorem Memory.read_writeBytes (a x : Nat) (b : Bytes) {m : List Host.Cell} (h : Memory.wf m = true) :
    Memory.read x (Memory.writeBytes a b m) = if a ≤ x ∧ x < a + b.length then b.getD (x - a) 0 else Memory.read x m := by
  induction b generalizing a m with
  | nil =>
    have : ¬ (a ≤ x ∧ x < a + 0) := by omega
    simp only [Memory.writeBytes, List.length_nil]
    rw [if_neg this]
  | cons y r ih =>
    simp only [Memory.writeBytes, ih (a + 1) (Memory.write_wf a y h), Memory.read_write a x y h, List.length_cons]
    by_cases hx : x = a
    · subst hx
      have h1 : ¬ (x + 1 ≤ x ∧ x < x + 1 + r.length) := by omega
      have h2 : x ≤ x ∧ x < x + (r.length + 1) := by omega
      rw [if_neg h1, if_pos rfl, if_pos h2, Nat.sub_self]
      rfl
    · by_cases hin : a + 1 ≤ x ∧ x < a + 1 + r.length
      · have h2 : a ≤ x ∧ x < a + (r.length + 1) := by omega
        have h3 : x - a = (x - (a + 1)) + 1 := by omega
        rw [if_pos hin, if_pos h2, h3]
        simp
      · have h2 : ¬ (a ≤ x ∧ x < a + (r.length + 1)) := by omega
        rw [if_neg hin, if_neg h2, if_neg hx]

end Sys2Proof.Machine
end

