-- ==== Sys2Proof/Laws/Keep.lean ====
section
/-! SUPPORT. What the operations of the machine keep: the queue of waiting commands, the part, the clock, device memory, and
    the
canonical form of device memory where they write it. f_keeps names the fields f leaves, f_wf says that f keeps the form,
    f_tame that
an effect that goes through keeps all of these. -/
namespace Sys2Proof.Machine

@[simp] theorem State.pending_ite (c : Prop) [Decidable c] (a b : State) :
    (if c then a else b).pending = if c then a.pending else b.pending := by split <;> rfl
@[simp] theorem State.part_ite (c : Prop) [Decidable c] (a b : State) :
    (if c then a else b).part = if c then a.part else b.part := by split <;> rfl
@[simp] theorem State.cycles_ite (c : Prop) [Decidable c] (a b : State) :
    (if c then a else b).cycles = if c then a.cycles else b.cycles := by split <;> rfl
@[simp] theorem State.mem_ite (c : Prop) [Decidable c] (a b : State) :
    (if c then a else b).mem = if c then a.mem else b.mem := by split <;> rfl

/-- A fold of an operation that leaves a field of the state leaves it. -/
theorem State.foldl_field {α β : Type} (p : State → β) (g : State → α → State) (h : ∀ t a, p (g t a) = p t) (l : List α) (s :
    State) :
    p (l.foldl g s) = p s := by
  induction l generalizing s with
  | nil => rfl
  | cons a r ih => exact (ih (g s a)).trans (h s a)
@[simp] theorem State.foldl_pending {α : Type} (g : State → α → State) (l : List α) (s : State) (h : ∀ t a, (g t a).pending =
    t.pending) :
    (l.foldl g s).pending = s.pending := State.foldl_field State.pending g h l s
@[simp] theorem State.foldl_part {α : Type} (g : State → α → State) (l : List α) (s : State) (h : ∀ t a, (g t a).part = t.part) :
    (l.foldl g s).part = s.part := State.foldl_field State.part g h l s
@[simp] theorem State.foldl_cycles {α : Type} (g : State → α → State) (l : List α) (s : State) (h : ∀ t a, (g t a).cycles = t.cycles)
    :
    (l.foldl g s).cycles = s.cycles := State.foldl_field State.cycles g h l s
@[simp] theorem State.foldl_mem {α : Type} (g : State → α → State) (l : List α) (s : State) (h : ∀ t a, (g t a).mem = t.mem) :
    (l.foldl g s).mem = s.mem := State.foldl_field State.mem g h l s

/-- The queue, the part, the clock and device memory. -/
def State.kept (s : State) : List Instr × Part × Nat × List Host.Cell := (s.pending, s.part, s.cycles, s.mem)

theorem State.foldl_wf {α : Type} (g : State → α → State) (l : List α) (s : State)
    (h : ∀ t a, Memory.wf t.mem = true → Memory.wf (g t a).mem = true) (hs : Memory.wf s.mem = true) :
    Memory.wf (l.foldl g s).mem = true := by
  induction l generalizing s with
  | nil => exact hs
  | cons a r ih => exact ih (g s a) (h s a hs)

/-- From s to t the queue, the part and the clock stay, and device memory stays canonical. -/
def State.Tame (s t : State) : Prop :=
  t.pending = s.pending ∧ t.part = s.part ∧ t.cycles = s.cycles ∧ (Memory.wf s.mem = true → Memory.wf t.mem = true)

/-- A result that is a state is tame from s. -/
def ResTame (s : State) (r : Except Nat State) : Prop := ∀ t, r = .ok t → State.Tame s t

/-- An effect that goes through does so. -/
def EffectTame (e : Effect) : Prop := ∀ s, ResTame s (e s)

theorem ResTame.error (s : State) (c : Nat) : ResTame s (.error c) := fun _ h => by cases h
theorem ResTame.ok {s t : State} (h : State.Tame s t) : ResTame s (.ok t) := fun _ k => by cases k; exact h
theorem ResTame.bind {s : State} (m : Except Nat Unit) (f : Unit → Except Nat State) (h : ∀ u, ResTame s (f u)) :
    ResTame s (m >>= f) := by
  cases m with
  | error c => exact ResTame.error s c
  | ok u => exact h u
theorem ResTame.ite {s : State} (c : Prop) [Decidable c] {a b : Except Nat State} (h : ResTame s a) (k : ResTame s b) :
    ResTame s (if c then a else b) := by split <;> assumption
theorem State.Tame.rfl (s : State) : State.Tame s s := ⟨Eq.refl _, Eq.refl _, Eq.refl _, id⟩
theorem State.Tame.trans {s t u : State} (h : State.Tame s t) (k : State.Tame t u) : State.Tame s u :=
  ⟨k.1.trans h.1, k.2.1.trans h.2.1, k.2.2.1.trans h.2.2.1, fun w => k.2.2.2 (h.2.2.2 w)⟩

theorem ResTame.andThen {s : State} (m : Except Nat State) (f : State → Except Nat State) (h : ResTame s m)
    (k : ∀ t, ResTame t (f t)) : ResTame s (m >>= f) := by
  cases m with
  | error c => exact ResTame.error s c
  | ok u => exact fun t ht => State.Tame.trans (h u rfl) (k u t ht)

/-- Every effect of an option is tame. -/
def OptTame (o : Option Effect) : Prop := ∀ e, o = some e → EffectTame e
theorem OptTame.none : OptTame none := fun _ h => by cases h
theorem OptTame.some {e : Effect} (h : EffectTame e) : OptTame (some e) := fun _ k => by cases k; exact h
theorem OptTame.or {a b : Option Effect} (h : OptTame a) (k : OptTame b) : OptTame (a.or b) := by
  cases a with
  | none => exact k
  | some e => exact h
theorem OptTame.getD {a : Option Effect} {e : Effect} (h : OptTame a) (k : EffectTame e) : EffectTame (a.getD e) := by
  cases a with
  | none => exact k
  | some e => exact h e rfl
theorem always_tame (f : State → State) (h : ∀ s, State.Tame s (f s)) : EffectTame (always f) :=
  fun s => ResTame.ok (h s)

@[simp] theorem State.setObj_keeps (s : State) (key : Nat) (v : Int) :
    (State.setObj s key v).pending = s.pending ∧ (State.setObj s key v).part = s.part ∧
    (State.setObj s key v).cycles = s.cycles ∧ (State.setObj s key v).mem = s.mem := by
  simp -implicitDefEqProofs [State.setObj]
@[simp] theorem State.setFlag_keeps (s : State) (key : Nat) (b : Bool) :
    (State.setFlag s key b).pending = s.pending ∧ (State.setFlag s key b).part = s.part ∧
    (State.setFlag s key b).cycles = s.cycles ∧ (State.setFlag s key b).mem = s.mem := by
  simp -implicitDefEqProofs [State.setFlag]
@[simp] theorem State.resetObj_keeps (s : State) (key : Nat) :
    (State.resetObj s key).pending = s.pending ∧ (State.resetObj s key).part = s.part ∧
    (State.resetObj s key).cycles = s.cycles ∧ (State.resetObj s key).mem = s.mem := by
  simp -implicitDefEqProofs [State.resetObj]
@[simp] theorem State.addTo_keeps (s : State) (key : Nat) (w : Nat) (d : Nat) :
    (State.addTo s key w d).pending = s.pending ∧ (State.addTo s key w d).part = s.part ∧
    (State.addTo s key w d).cycles = s.cycles ∧ (State.addTo s key w d).mem = s.mem := by
  simp -implicitDefEqProofs [State.addTo]
@[simp] theorem State.bump_keeps (s : State) (key : Nat) :
    (State.bump s key).pending = s.pending ∧ (State.bump s key).part = s.part ∧ (State.bump s key).cycles = s.cycles ∧
    (State.bump s key).mem = s.mem := by
  simp -implicitDefEqProofs [State.bump]
@[simp] theorem State.setDom_keeps (s : State) (key : Nat) (b : Bytes) :
    (State.setDom s key b).pending = s.pending ∧ (State.setDom s key b).part = s.part ∧
    (State.setDom s key b).cycles = s.cycles ∧ (State.setDom s key b).mem = s.mem := by
  simp -implicitDefEqProofs [State.setDom]
@[simp] theorem State.send_keeps (s : State) (o : Out) :
    (State.send s o).pending = s.pending ∧ (State.send s o).part = s.part ∧ (State.send s o).cycles = s.cycles ∧
    (State.send s o).mem = s.mem := by
  simp -implicitDefEqProofs [State.send]
@[simp] theorem State.draw_keeps (s : State) :
    (State.draw s).2.pending = s.pending ∧ (State.draw s).2.part = s.part ∧ (State.draw s).2.cycles = s.cycles ∧
    (State.draw s).2.mem = s.mem := by
  simp -implicitDefEqProofs [State.draw]
@[simp] theorem State.transmit_keeps (s : State) (dst : Source) (function : Nat) (msg : Bytes) :
    (State.transmit s dst function msg).pending = s.pending ∧ (State.transmit s dst function msg).part = s.part ∧
    (State.transmit s dst function msg).cycles = s.cycles ∧ (State.transmit s dst function msg).mem = s.mem := by
  unfold State.transmit
  (repeat' split) <;> simp -implicitDefEqProofs
@[simp] theorem State.updSession_keeps (s : State) (sid : Nat) (f : Session → Session) :
    (State.updSession s sid f).pending = s.pending ∧ (State.updSession s sid f).part = s.part ∧
    (State.updSession s sid f).cycles = s.cycles ∧ (State.updSession s sid f).mem = s.mem := by
  simp -implicitDefEqProofs [State.updSession]
@[simp] theorem State.sendTagged_keeps (s : State) (x : Session) (dst : Source) (function : Nat) (service : Nat) (payload :
    Bytes) :
    (State.sendTagged s x dst function service payload).pending = s.pending ∧
    (State.sendTagged s x dst function service payload).part = s.part ∧
    (State.sendTagged s x dst function service payload).cycles = s.cycles ∧
    (State.sendTagged s x dst function service payload).mem = s.mem := by
  simp -implicitDefEqProofs [State.sendTagged]
@[simp] theorem sendEvents_keeps (n sid : Nat) (recs : List EventRec) (s : State) :
    (sendEvents n sid recs s).pending = s.pending ∧ (sendEvents n sid recs s).part = s.part ∧
    (sendEvents n sid recs s).cycles = s.cycles ∧ (sendEvents n sid recs s).mem = s.mem := by
  induction n generalizing recs s with
  | zero => simp [sendEvents]
  | succ n ih =>
    unfold sendEvents
    split
    · simp
    · split
      · simp
      · simp [ih]
@[simp] theorem State.deliver_keeps (s : State) (r : EventRec) :
    (State.deliver s r).pending = s.pending ∧ (State.deliver s r).part = s.part ∧ (State.deliver s r).cycles = s.cycles ∧
    (State.deliver s r).mem = s.mem := by
  simp -implicitDefEqProofs [State.deliver]
@[simp] theorem State.enqueueEvent_keeps (s : State) (r : EventRec) :
    (State.enqueueEvent s r).pending = s.pending ∧ (State.enqueueEvent s r).part = s.part ∧
    (State.enqueueEvent s r).cycles = s.cycles ∧ (State.enqueueEvent s r).mem = s.mem := by
  simp -implicitDefEqProofs [State.enqueueEvent]
@[simp] theorem State.raiseAt_keeps (s : State) (cause : Nat) (cls : Nat) (level : Nat) (path : String) (detail : Bytes) :
    (State.raiseAt s cause cls level path detail).pending = s.pending ∧
    (State.raiseAt s cause cls level path detail).part = s.part ∧
    (State.raiseAt s cause cls level path detail).cycles = s.cycles ∧
    (State.raiseAt s cause cls level path detail).mem = s.mem := by
  simp -implicitDefEqProofs [State.raiseAt]
@[simp] theorem State.raise_keeps (s : State) (cause : Nat) (cls : Nat) (path : String) (detail : Bytes) :
    (State.raise s cause cls path detail).pending = s.pending ∧ (State.raise s cause cls path detail).part = s.part ∧
    (State.raise s cause cls path detail).cycles = s.cycles ∧ (State.raise s cause cls path detail).mem = s.mem := by
  simp -implicitDefEqProofs [State.raise]
@[simp] theorem State.raiseLimited_keeps (s : State) (cause : Nat) (cls : Nat) (unit : Nat) (path : String) (detail : Bytes) :
    (State.raiseLimited s cause cls unit path detail).pending = s.pending ∧
    (State.raiseLimited s cause cls unit path detail).part = s.part ∧
    (State.raiseLimited s cause cls unit path detail).cycles = s.cycles ∧
    (State.raiseLimited s cause cls unit path detail).mem = s.mem := by
  simp only [State.raiseLimited]
  (repeat' split) <;> simp -implicitDefEqProofs
@[simp] theorem State.raiseSparse_keeps (s : State) (cause : Nat) (cls : Nat) (unit : Nat) (path : String) (detail : Bytes) :
    (State.raiseSparse s cause cls unit path detail).pending = s.pending ∧
    (State.raiseSparse s cause cls unit path detail).part = s.part ∧
    (State.raiseSparse s cause cls unit path detail).cycles = s.cycles ∧
    (State.raiseSparse s cause cls unit path detail).mem = s.mem := by
  simp -implicitDefEqProofs [State.raiseSparse]
@[simp] theorem State.noteLost_keeps (s : State) :
    (State.noteLost s).pending = s.pending ∧ (State.noteLost s).part = s.part ∧ (State.noteLost s).cycles = s.cycles ∧
    (State.noteLost s).mem = s.mem := by
  simp -implicitDefEqProofs [State.noteLost]
@[simp] theorem State.pruneEvents_keeps (s : State) :
    (State.pruneEvents s).pending = s.pending ∧ (State.pruneEvents s).part = s.part ∧
    (State.pruneEvents s).cycles = s.cycles ∧ (State.pruneEvents s).mem = s.mem := by
  simp -implicitDefEqProofs [State.pruneEvents]
@[simp] theorem State.whenever_pending (s : State) (c : Bool) (f : State → State) (h : ∀ t, (f t).pending = t.pending) :
    (s.whenever c f).pending = s.pending := by simp [State.whenever, h]
@[simp] theorem State.whenever_part (s : State) (c : Bool) (f : State → State) (h : ∀ t, (f t).part = t.part) :
    (s.whenever c f).part = s.part := by simp [State.whenever, h]
@[simp] theorem State.whenever_cycles (s : State) (c : Bool) (f : State → State) (h : ∀ t, (f t).cycles = t.cycles) :
    (s.whenever c f).cycles = s.cycles := by simp [State.whenever, h]
@[simp] theorem State.whenever_mem (s : State) (c : Bool) (f : State → State) (h : ∀ t, (f t).mem = t.mem) :
    (s.whenever c f).mem = s.mem := by simp [State.whenever, h]
@[simp] theorem State.whenever_wf (s : State) (c : Bool) (f : State → State) (h : ∀ t, Memory.wf t.mem = true → Memory.wf (f
    t).mem = true)
    (hs : Memory.wf s.mem = true) : Memory.wf (s.whenever c f).mem = true := by
  unfold State.whenever
  split
  · exact h s hs
  · exact hs
@[simp] theorem State.hubMoves_keeps (s : State) (h : Nat) :
    (State.hubMoves s h).pending = s.pending ∧ (State.hubMoves s h).part = s.part ∧ (State.hubMoves s h).cycles = s.cycles ∧
    (State.hubMoves s h).mem = s.mem := by
  simp -implicitDefEqProofs [State.hubMoves]
@[simp] theorem State.noteFast_keeps (s : State) :
    (State.noteFast s).pending = s.pending ∧ (State.noteFast s).part = s.part ∧ (State.noteFast s).cycles = s.cycles ∧
    (State.noteFast s).mem = s.mem := by
  simp -implicitDefEqProofs [State.noteFast]
@[simp] theorem State.tbApply_keeps (s : State) :
    (State.tbApply s).pending = s.pending ∧ (State.tbApply s).part = s.part ∧ (State.tbApply s).cycles = s.cycles ∧
    (State.tbApply s).mem = s.mem := by
  simp -implicitDefEqProofs [State.tbApply]
@[simp] theorem State.withTb_keeps (s : State) (f : TimeBase → TimeBase) :
    (State.withTb s f).pending = s.pending ∧ (State.withTb s f).part = s.part ∧ (State.withTb s f).cycles = s.cycles ∧
    (State.withTb s f).mem = s.mem := by
  simp -implicitDefEqProofs [State.withTb]
@[simp] theorem State.takeLimits_keeps (s : State) :
    (State.takeLimits s).pending = s.pending ∧ (State.takeLimits s).part = s.part ∧ (State.takeLimits s).cycles = s.cycles ∧
    (State.takeLimits s).mem = s.mem := by
  simp -implicitDefEqProofs [State.takeLimits]
@[simp] theorem State.setFreq_keeps (s : State) (f : Int) :
    (State.setFreq s f).pending = s.pending ∧ (State.setFreq s f).part = s.part ∧ (State.setFreq s f).cycles = s.cycles ∧
    (State.setFreq s f).mem = s.mem := by
  simp -implicitDefEqProofs [State.setFreq]
@[simp] theorem State.closeSpan_keeps (s : State) :
    (State.closeSpan s).pending = s.pending ∧ (State.closeSpan s).part = s.part ∧ (State.closeSpan s).cycles = s.cycles ∧
    (State.closeSpan s).mem = s.mem := by
  simp -implicitDefEqProofs [State.closeSpan]
@[simp] theorem State.freezeMean_keeps (s : State) :
    (State.freezeMean s).pending = s.pending ∧ (State.freezeMean s).part = s.part ∧ (State.freezeMean s).cycles = s.cycles ∧
    (State.freezeMean s).mem = s.mem := by
  unfold State.freezeMean
  split <;> simp -implicitDefEqProofs
@[simp] theorem State.tbGo_keeps (s : State) (new : Nat) :
    (State.tbGo s new).pending = s.pending ∧ (State.tbGo s new).part = s.part ∧ (State.tbGo s new).cycles = s.cycles ∧
    (State.tbGo s new).mem = s.mem := by
  simp -implicitDefEqProofs [State.tbGo]
@[simp] theorem State.servoF_keeps (s : State) :
    (State.servoF s).pending = s.pending ∧ (State.servoF s).part = s.part ∧ (State.servoF s).cycles = s.cycles ∧
    (State.servoF s).mem = s.mem := by
  simp -implicitDefEqProofs [State.servoF]
@[simp] theorem State.servoP_keeps (s : State) :
    (State.servoP s).pending = s.pending ∧ (State.servoP s).part = s.part ∧ (State.servoP s).cycles = s.cycles ∧
    (State.servoP s).mem = s.mem := by
  simp -implicitDefEqProofs [State.servoP]
@[simp] theorem State.startSlew_keeps (s : State) (offset : Int) :
    (State.startSlew s offset).pending = s.pending ∧ (State.startSlew s offset).part = s.part ∧
    (State.startSlew s offset).cycles = s.cycles ∧ (State.startSlew s offset).mem = s.mem := by
  simp -implicitDefEqProofs [State.startSlew]
@[simp] theorem State.decideReepoch_keeps (s : State) (offset : Int) (first : Bool) :
    (State.decideReepoch s offset first).pending = s.pending ∧ (State.decideReepoch s offset first).part = s.part ∧
    (State.decideReepoch s offset first).cycles = s.cycles ∧ (State.decideReepoch s offset first).mem = s.mem := by
  simp -implicitDefEqProofs [State.decideReepoch]
@[simp] theorem State.actPolicy_keeps (s : State) (offset : Int) :
    (State.actPolicy s offset).pending = s.pending ∧ (State.actPolicy s offset).part = s.part ∧
    (State.actPolicy s offset).cycles = s.cycles ∧ (State.actPolicy s offset).mem = s.mem := by
  simp -implicitDefEqProofs [State.actPolicy]
@[simp] theorem State.suspect_keeps (s : State) (offset : Int) (f : Int) :
    (State.suspect s offset f).pending = s.pending ∧ (State.suspect s offset f).part = s.part ∧
    (State.suspect s offset f).cycles = s.cycles ∧ (State.suspect s offset f).mem = s.mem := by
  simp -implicitDefEqProofs [State.suspect]
@[simp] theorem State.stepDetected_keeps (s : State) (offset : Int) :
    (State.stepDetected s offset).pending = s.pending ∧ (State.stepDetected s offset).part = s.part ∧
    (State.stepDetected s offset).cycles = s.cycles ∧ (State.stepDetected s offset).mem = s.mem := by
  simp -implicitDefEqProofs [State.stepDetected]
@[simp] theorem State.track_keeps (s : State) (offset : Int) :
    (State.track s offset).pending = s.pending ∧ (State.track s offset).part = s.part ∧
    (State.track s offset).cycles = s.cycles ∧ (State.track s offset).mem = s.mem := by
  unfold State.track
  (repeat' split) <;> simp -implicitDefEqProofs
@[simp] theorem State.acquire_keeps (s : State) (offset : Int) :
    (State.acquire s offset).pending = s.pending ∧ (State.acquire s offset).part = s.part ∧
    (State.acquire s offset).cycles = s.cycles ∧ (State.acquire s offset).mem = s.mem := by
  simp -implicitDefEqProofs [State.acquire]
@[simp] theorem State.discontMeasure_keeps (s : State) (offset : Int) :
    (State.discontMeasure s offset).pending = s.pending ∧ (State.discontMeasure s offset).part = s.part ∧
    (State.discontMeasure s offset).cycles = s.cycles ∧ (State.discontMeasure s offset).mem = s.mem := by
  simp -implicitDefEqProofs [State.discontMeasure]
@[simp] theorem State.measure_keeps (s : State) (offset : Int) (interval : Nat) :
    (State.measure s offset interval).pending = s.pending ∧ (State.measure s offset interval).part = s.part ∧
    (State.measure s offset interval).cycles = s.cycles ∧ (State.measure s offset interval).mem = s.mem := by
  simp -implicitDefEqProofs [State.measure]
@[simp] theorem State.reepochTime_keeps (s : State) (r : Reepoch) :
    (State.reepochTime s r).pending = s.pending ∧ (State.reepochTime s r).part = s.part ∧
    (State.reepochTime s r).cycles = s.cycles ∧ (State.reepochTime s r).mem = s.mem := by
  simp -implicitDefEqProofs [State.reepochTime]
@[simp] theorem tbSourceWrite_keeps (v : Nat) (s : State) :
    (tbSourceWrite v s).pending = s.pending ∧ (tbSourceWrite v s).part = s.part ∧ (tbSourceWrite v s).cycles = s.cycles ∧
    (tbSourceWrite v s).mem = s.mem := by
  simp -implicitDefEqProofs [tbSourceWrite]
theorem tbRateAdjWrite_tame (v : Int) (s : State) : ResTame s (tbRateAdjWrite v s) := by
  unfold tbRateAdjWrite
  (repeat' (first | exact .error _ _ | refine .ok ?_ | refine .bind _ _ (fun _ => ?_) | refine .ite _ ?_ ?_ | split)) <;>
      simp -implicitDefEqProofs [State.Tame]
theorem tbActionSlew_tame  (s : State) : ResTame s (tbActionSlew  s) := by
  unfold tbActionSlew
  (repeat' (first | exact .error _ _ | refine .ok ?_ | refine .bind _ _ (fun _ => ?_) | refine .ite _ ?_ ?_ | split)) <;>
      simp -implicitDefEqProofs [State.Tame]
theorem tbActionReepoch_tame  (s : State) : ResTame s (tbActionReepoch  s) := by
  unfold tbActionReepoch
  (repeat' (first | exact .error _ _ | refine .ok ?_ | refine .bind _ _ (fun _ => ?_) | refine .ite _ ?_ ?_ | split)) <;>
      simp -implicitDefEqProofs [State.Tame]
@[simp] theorem ptpInstanceWrite_keeps (sub : Nat) (value : Nat) (s : State) :
    (ptpInstanceWrite sub value s).pending = s.pending ∧ (ptpInstanceWrite sub value s).part = s.part ∧
    (ptpInstanceWrite sub value s).cycles = s.cycles ∧ (ptpInstanceWrite sub value s).mem = s.mem := by
  simp -implicitDefEqProofs [ptpInstanceWrite]
@[simp] theorem ptpAsymClear_keeps (s : State) :
    (ptpAsymClear s).pending = s.pending ∧ (ptpAsymClear s).part = s.part ∧ (ptpAsymClear s).cycles = s.cycles ∧
    (ptpAsymClear s).mem = s.mem := by
  simp -implicitDefEqProofs [ptpAsymClear]
theorem txtsPopWrite_tame (port : Nat) (ident : Nat) (s : State) : ResTame s (txtsPopWrite port ident s) := by
  unfold txtsPopWrite
  (repeat' (first | exact .error _ _ | refine .ok ?_ | refine .bind _ _ (fun _ => ?_) | refine .ite _ ?_ ?_ | split)) <;>
      simp -implicitDefEqProofs [State.Tame]
@[simp] theorem State.stampTransmit_keeps (s : State) (port : Nat) (ident : Nat) (at_ : Instant) :
    (State.stampTransmit s port ident at_).pending = s.pending ∧ (State.stampTransmit s port ident at_).part = s.part ∧
    (State.stampTransmit s port ident at_).cycles = s.cycles ∧ (State.stampTransmit s port ident at_).mem = s.mem := by
  simp -implicitDefEqProofs [State.stampTransmit]
@[simp] theorem State.setPtpPort_keeps (s : State) (n : Nat) (p : PtpPort) :
    (State.setPtpPort s n p).pending = s.pending ∧ (State.setPtpPort s n p).part = s.part ∧
    (State.setPtpPort s n p).cycles = s.cycles ∧ (State.setPtpPort s n p).mem = s.mem := by
  simp -implicitDefEqProofs [State.setPtpPort]
@[simp] theorem State.excludePort_keeps (s : State) (n : Nat) :
    (State.excludePort s n).pending = s.pending ∧ (State.excludePort s n).part = s.part ∧
    (State.excludePort s n).cycles = s.cycles ∧ (State.excludePort s n).mem = s.mem := by
  simp -implicitDefEqProofs [State.excludePort]
@[simp] theorem State.rejoin_keeps (s : State) (n : Nat) :
    (State.rejoin s n).pending = s.pending ∧ (State.rejoin s n).part = s.part ∧ (State.rejoin s n).cycles = s.cycles ∧
    (State.rejoin s n).mem = s.mem := by
  simp -implicitDefEqProofs [State.rejoin]
@[simp] theorem State.ptpOffset_keeps (s : State) (n : Nat) (rx : Int) (origin : Int) :
    (State.ptpOffset s n rx origin).pending = s.pending ∧ (State.ptpOffset s n rx origin).part = s.part ∧
    (State.ptpOffset s n rx origin).cycles = s.cycles ∧ (State.ptpOffset s n rx origin).mem = s.mem := by
  simp -implicitDefEqProofs [State.ptpOffset]
@[simp] theorem State.beginPathHold_keeps (s : State) (n : Nat) (change : Int) :
    (State.beginPathHold s n change).pending = s.pending ∧ (State.beginPathHold s n change).part = s.part ∧
    (State.beginPathHold s n change).cycles = s.cycles ∧ (State.beginPathHold s n change).mem = s.mem := by
  simp -implicitDefEqProofs [State.beginPathHold]
@[simp] theorem State.steeringChange_keeps (s : State) (n : Nat) (old : Int) (change : Int) (back : Bool) :
    (State.steeringChange s n old change back).pending = s.pending ∧
    (State.steeringChange s n old change back).part = s.part ∧ (State.steeringChange s n old change back).cycles = s.cycles ∧
    (State.steeringChange s n old change back).mem = s.mem := by
  simp -implicitDefEqProofs [State.steeringChange]
@[simp] theorem State.otherChange_keeps (s : State) (n : Nat) :
    (State.otherChange s n).pending = s.pending ∧ (State.otherChange s n).part = s.part ∧
    (State.otherChange s n).cycles = s.cycles ∧ (State.otherChange s n).mem = s.mem := by
  simp -implicitDefEqProofs [State.otherChange]
@[simp] theorem State.ptpDelay_keeps (s : State) (n : Nat) (delay : Int) :
    (State.ptpDelay s n delay).pending = s.pending ∧ (State.ptpDelay s n delay).part = s.part ∧
    (State.ptpDelay s n delay).cycles = s.cycles ∧ (State.ptpDelay s n delay).mem = s.mem := by
  simp -implicitDefEqProofs [State.ptpDelay]
@[simp] theorem State.selectMaster_keeps (s : State) :
    (State.selectMaster s).pending = s.pending ∧ (State.selectMaster s).part = s.part ∧
    (State.selectMaster s).cycles = s.cycles ∧ (State.selectMaster s).mem = s.mem := by
  unfold State.selectMaster
  split <;> simp -implicitDefEqProofs
@[simp] theorem State.sendEvent_keeps (s : State) (n : Nat) (type : Nat) (body : Bytes) :
    (State.sendEvent s n type body).pending = s.pending ∧ (State.sendEvent s n type body).part = s.part ∧
    (State.sendEvent s n type body).cycles = s.cycles ∧ (State.sendEvent s n type body).mem = s.mem := by
  simp -implicitDefEqProofs [State.sendEvent]
@[simp] theorem ptpReceive_keeps (n : Nat) (h : PtpHead) (m : PtpMessage) (s : State) :
    (ptpReceive n h m s).pending = s.pending ∧ (ptpReceive n h m s).part = s.part ∧ (ptpReceive n h m s).cycles = s.cycles ∧
    (ptpReceive n h m s).mem = s.mem := by
  unfold ptpReceive
  split <;> simp -implicitDefEqProofs
@[simp] theorem State.sendAnnounce_keeps (s : State) (n : Nat) :
    (State.sendAnnounce s n).pending = s.pending ∧ (State.sendAnnounce s n).part = s.part ∧
    (State.sendAnnounce s n).cycles = s.cycles ∧ (State.sendAnnounce s n).mem = s.mem := by
  simp -implicitDefEqProofs [State.sendAnnounce]
@[simp] theorem ptpSendPort_keeps (s : State) (n : Nat) :
    (ptpSendPort s n).pending = s.pending ∧ (ptpSendPort s n).part = s.part ∧ (ptpSendPort s n).cycles = s.cycles ∧
    (ptpSendPort s n).mem = s.mem := by
  simp -implicitDefEqProofs [ptpSendPort]
@[simp] theorem ptpTransmit_keeps (s : State) :
    (ptpTransmit s).pending = s.pending ∧ (ptpTransmit s).part = s.part ∧ (ptpTransmit s).cycles = s.cycles ∧
    (ptpTransmit s).mem = s.mem := by
  simp -implicitDefEqProofs [ptpTransmit]
@[simp] theorem sourceTimeout_keeps (s : State) :
    (sourceTimeout s).pending = s.pending ∧ (sourceTimeout s).part = s.part ∧ (sourceTimeout s).cycles = s.cycles ∧
    (sourceTimeout s).mem = s.mem := by
  simp -implicitDefEqProofs [sourceTimeout]
@[simp] theorem pathHoldEnd_keeps (s : State) :
    (pathHoldEnd s).pending = s.pending ∧ (pathHoldEnd s).part = s.part ∧ (pathHoldEnd s).cycles = s.cycles ∧
    (pathHoldEnd s).mem = s.mem := by
  simp only [pathHoldEnd]
  (repeat' split) <;> simp -implicitDefEqProofs
@[simp] theorem slewEnd_keeps (s : State) :
    (slewEnd s).pending = s.pending ∧ (slewEnd s).part = s.part ∧ (slewEnd s).cycles = s.cycles ∧
    (slewEnd s).mem = s.mem := by
  simp -implicitDefEqProofs [slewEnd]
@[simp] theorem tbExtWatchdog_keeps (s : State) :
    (tbExtWatchdog s).pending = s.pending ∧ (tbExtWatchdog s).part = s.part ∧ (tbExtWatchdog s).cycles = s.cycles ∧
    (tbExtWatchdog s).mem = s.mem := by
  simp -implicitDefEqProofs [tbExtWatchdog]
@[simp] theorem tbOscLost_keeps (s : State) :
    (tbOscLost s).pending = s.pending ∧ (tbOscLost s).part = s.part ∧ (tbOscLost s).cycles = s.cycles ∧
    (tbOscLost s).mem = s.mem := by
  simp -implicitDefEqProofs [tbOscLost]
@[simp] theorem tbOscRestored_keeps (s : State) :
    (tbOscRestored s).pending = s.pending ∧ (tbOscRestored s).part = s.part ∧ (tbOscRestored s).cycles = s.cycles ∧
    (tbOscRestored s).mem = s.mem := by
  simp -implicitDefEqProofs [tbOscRestored]
@[simp] theorem tbHoldoverAlarm_keeps (s : State) :
    (tbHoldoverAlarm s).pending = s.pending ∧ (tbHoldoverAlarm s).part = s.part ∧ (tbHoldoverAlarm s).cycles = s.cycles ∧
    (tbHoldoverAlarm s).mem = s.mem := by
  simp -implicitDefEqProofs [tbHoldoverAlarm]
@[simp] theorem oscRecalAdvice_keeps (s : State) :
    (oscRecalAdvice s).pending = s.pending ∧ (oscRecalAdvice s).part = s.part ∧ (oscRecalAdvice s).cycles = s.cycles ∧
    (oscRecalAdvice s).mem = s.mem := by
  simp -implicitDefEqProofs [oscRecalAdvice]
@[simp] theorem State.tick_keeps (s : State) :
    (State.tick s).pending = s.pending ∧ (State.tick s).part = s.part ∧ (State.tick s).mem = s.mem := by
  simp -implicitDefEqProofs [State.tick]
@[simp] theorem State.updLane_keeps (s : State) (l : Lane) (f : LaneSt → LaneSt) :
    (State.updLane s l f).pending = s.pending ∧ (State.updLane s l f).part = s.part ∧
    (State.updLane s l f).cycles = s.cycles ∧ (State.updLane s l f).mem = s.mem := by
  simp -implicitDefEqProofs [State.updLane]
@[simp] theorem State.setLane_keeps (s : State) (l : Lane) (off : Nat) (v : Nat) :
    (State.setLane s l off v).pending = s.pending ∧ (State.setLane s l off v).part = s.part ∧
    (State.setLane s l off v).cycles = s.cycles ∧ (State.setLane s l off v).mem = s.mem := by
  simp -implicitDefEqProofs [State.setLane]
@[simp] theorem State.laneRaise_keeps (s : State) (l : Lane) (cause cls : Nat) (detail : Bytes) :
    (s.laneRaise l cause cls detail).pending = s.pending ∧ (s.laneRaise l cause cls detail).part = s.part ∧
    (s.laneRaise l cause cls detail).cycles = s.cycles ∧ (s.laneRaise l cause cls detail).mem = s.mem := by
  unfold State.laneRaise
  exact State.raise_keeps _ _ _ _ _
@[simp] theorem State.laneGo_keeps (s : State) (l : Lane) (new : Nat) :
    (State.laneGo s l new).pending = s.pending ∧ (State.laneGo s l new).part = s.part ∧
    (State.laneGo s l new).cycles = s.cycles ∧ (State.laneGo s l new).mem = s.mem := by
  simp -implicitDefEqProofs [State.laneGo]
@[simp] theorem State.backOff_keeps (s : State) (l : Lane) :
    (State.backOff s l).pending = s.pending ∧ (State.backOff s l).part = s.part ∧ (State.backOff s l).cycles = s.cycles ∧
    (State.backOff s l).mem = s.mem := by
  simp -implicitDefEqProofs [State.backOff]
@[simp] theorem State.attemptsResume_keeps (s : State) (l : Lane) :
    (State.attemptsResume s l).pending = s.pending ∧ (State.attemptsResume s l).part = s.part ∧
    (State.attemptsResume s l).cycles = s.cycles ∧ (State.attemptsResume s l).mem = s.mem := by
  simp -implicitDefEqProofs [State.attemptsResume]
@[simp] theorem State.toSeek_keeps (s : State) (l : Lane) :
    (State.toSeek s l).pending = s.pending ∧ (State.toSeek s l).part = s.part ∧ (State.toSeek s l).cycles = s.cycles ∧
    (State.toSeek s l).mem = s.mem := by
  simp -implicitDefEqProofs [State.toSeek]
@[simp] theorem State.setTx_keeps (s : State) (i : Nat) (x : TxSt) :
    (State.setTx s i x).pending = s.pending ∧ (State.setTx s i x).part = s.part ∧ (State.setTx s i x).cycles = s.cycles ∧
    (State.setTx s i x).mem = s.mem := by
  simp -implicitDefEqProofs [State.setTx]
@[simp] theorem State.sendAfterIdle_keeps (s : State) (l : Lane) (m : List Chr) :
    (State.sendAfterIdle s l m).pending = s.pending ∧ (State.sendAfterIdle s l m).part = s.part ∧
    (State.sendAfterIdle s l m).cycles = s.cycles ∧ (State.sendAfterIdle s l m).mem = s.mem := by
  simp -implicitDefEqProofs [State.sendAfterIdle]
@[simp] theorem State.sendMessage_keeps (s : State) (l : Lane) (type : Nat) (tag : Nat) (payload : Bytes) :
    (State.sendMessage s l type tag payload).pending = s.pending ∧ (State.sendMessage s l type tag payload).part = s.part ∧
    (State.sendMessage s l type tag payload).cycles = s.cycles ∧ (State.sendMessage s l type tag payload).mem = s.mem := by
  unfold State.sendMessage
  split <;> simp -implicitDefEqProofs
@[simp] theorem State.issueRequest_keeps (s : State) (l : Lane) (type : Nat) (payload : Bytes) :
    (State.issueRequest s l type payload).pending = s.pending ∧ (State.issueRequest s l type payload).part = s.part ∧
    (State.issueRequest s l type payload).cycles = s.cycles ∧ (State.issueRequest s l type payload).mem = s.mem := by
  simp -implicitDefEqProofs [State.issueRequest]
@[simp] theorem State.laneRequest_keeps (s : State) (l : Lane) (type : Nat) (payload : Bytes) :
    (State.laneRequest s l type payload).pending = s.pending ∧ (State.laneRequest s l type payload).part = s.part ∧
    (State.laneRequest s l type payload).cycles = s.cycles ∧ (State.laneRequest s l type payload).mem = s.mem := by
  simp -implicitDefEqProofs [State.laneRequest]
@[simp] theorem State.nextRequest_keeps (s : State) (l : Lane) :
    (State.nextRequest s l).pending = s.pending ∧ (State.nextRequest s l).part = s.part ∧
    (State.nextRequest s l).cycles = s.cycles ∧ (State.nextRequest s l).mem = s.mem := by
  simp only [State.nextRequest]
  (repeat' split) <;> simp -implicitDefEqProofs
@[simp] theorem State.requestPreset_keeps (s : State) (l : Lane) (preset : Nat) :
    (State.requestPreset s l preset).pending = s.pending ∧ (State.requestPreset s l preset).part = s.part ∧
    (State.requestPreset s l preset).cycles = s.cycles ∧ (State.requestPreset s l preset).mem = s.mem := by
  simp -implicitDefEqProofs [State.requestPreset]
@[simp] theorem State.requestPrbs_keeps (s : State) (l : Lane) :
    (State.requestPrbs s l).pending = s.pending ∧ (State.requestPrbs s l).part = s.part ∧
    (State.requestPrbs s l).cycles = s.cycles ∧ (State.requestPrbs s l).mem = s.mem := by
  simp -implicitDefEqProofs [State.requestPrbs]
@[simp] theorem State.requestTap_keeps (s : State) (l : Lane) :
    (State.requestTap s l).pending = s.pending ∧ (State.requestTap s l).part = s.part ∧
    (State.requestTap s l).cycles = s.cycles ∧ (State.requestTap s l).mem = s.mem := by
  unfold State.requestTap
  split <;> simp -implicitDefEqProofs
@[simp] theorem State.keepTraining_keeps (s : State) (l : Lane) :
    (State.keepTraining s l).pending = s.pending ∧ (State.keepTraining s l).part = s.part ∧
    (State.keepTraining s l).cycles = s.cycles ∧ (State.keepTraining s l).mem = s.mem := by
  simp -implicitDefEqProofs [State.keepTraining]
@[simp] theorem State.dropTraining_keeps (s : State) (l : Lane) :
    (State.dropTraining s l).pending = s.pending ∧ (State.dropTraining s l).part = s.part ∧
    (State.dropTraining s l).cycles = s.cycles ∧ (State.dropTraining s l).mem = s.mem := by
  simp -implicitDefEqProofs [State.dropTraining]
@[simp] theorem State.toTrain_keeps (s : State) (l : Lane) :
    (State.toTrain s l).pending = s.pending ∧ (State.toTrain s l).part = s.part ∧ (State.toTrain s l).cycles = s.cycles ∧
    (State.toTrain s l).mem = s.mem := by
  simp -implicitDefEqProofs [State.toTrain]
@[simp] theorem State.toVerify_keeps (s : State) (l : Lane) :
    (State.toVerify s l).pending = s.pending ∧ (State.toVerify s l).part = s.part ∧ (State.toVerify s l).cycles = s.cycles ∧
    (State.toVerify s l).mem = s.mem := by
  simp -implicitDefEqProofs [State.toVerify]
@[simp] theorem State.toVerifyPreset_keeps (s : State) (l : Lane) :
    (State.toVerifyPreset s l).pending = s.pending ∧ (State.toVerifyPreset s l).part = s.part ∧
    (State.toVerifyPreset s l).cycles = s.cycles ∧ (State.toVerifyPreset s l).mem = s.mem := by
  simp -implicitDefEqProofs [State.toVerifyPreset]
@[simp] theorem State.adapt_keeps (s : State) (l : Lane) :
    (State.adapt s l).pending = s.pending ∧ (State.adapt s l).part = s.part ∧ (State.adapt s l).cycles = s.cycles ∧
    (State.adapt s l).mem = s.mem := by
  simp -implicitDefEqProofs [State.adapt]
@[simp] theorem State.startSeen_keeps (s : State) (l : Lane) :
    (State.startSeen s l).pending = s.pending ∧ (State.startSeen s l).part = s.part ∧
    (State.startSeen s l).cycles = s.cycles ∧ (State.startSeen s l).mem = s.mem := by
  simp -implicitDefEqProofs [State.startSeen]
@[simp] theorem seekAttempt_keeps (l : Lane) (s : State) :
    (seekAttempt l s).pending = s.pending ∧ (seekAttempt l s).part = s.part ∧ (seekAttempt l s).cycles = s.cycles ∧
    (seekAttempt l s).mem = s.mem := by
  simp -implicitDefEqProofs [seekAttempt]
@[simp] theorem State.loadCameraTrims_keeps (s : State) (a1 : Lane) :
    (State.loadCameraTrims s a1).pending = s.pending ∧ (State.loadCameraTrims s a1).part = s.part ∧
    (State.loadCameraTrims s a1).cycles = s.cycles ∧ (State.loadCameraTrims s a1).mem = s.mem := by
  unfold State.loadCameraTrims
  split <;> simp -implicitDefEqProofs
@[simp] theorem State.toDetect_keeps (s : State) (l : Lane) :
    (State.toDetect s l).pending = s.pending ∧ (State.toDetect s l).part = s.part ∧ (State.toDetect s l).cycles = s.cycles ∧
    (State.toDetect s l).mem = s.mem := by
  simp -implicitDefEqProofs [State.toDetect]
@[simp] theorem transitionsDetected_keeps (l : Lane) (density : Nat) (s : State) :
    (transitionsDetected l density s).pending = s.pending ∧ (transitionsDetected l density s).part = s.part ∧
    (transitionsDetected l density s).cycles = s.cycles ∧ (transitionsDetected l density s).mem = s.mem := by
  simp -implicitDefEqProofs [transitionsDetected]
@[simp] theorem attemptTimeout_keeps (l : Lane) (s : State) :
    (attemptTimeout l s).pending = s.pending ∧ (attemptTimeout l s).part = s.part ∧ (attemptTimeout l s).cycles = s.cycles ∧
    (attemptTimeout l s).mem = s.mem := by
  simp -implicitDefEqProofs [attemptTimeout]
@[simp] theorem clockRecoveryLock_keeps (l : Lane) (s : State) :
    (clockRecoveryLock l s).pending = s.pending ∧ (clockRecoveryLock l s).part = s.part ∧
    (clockRecoveryLock l s).cycles = s.cycles ∧ (clockRecoveryLock l s).mem = s.mem := by
  simp -implicitDefEqProofs [clockRecoveryLock]
@[simp] theorem detectTimeout_keeps (l : Lane) (s : State) :
    (detectTimeout l s).pending = s.pending ∧ (detectTimeout l s).part = s.part ∧ (detectTimeout l s).cycles = s.cycles ∧
    (detectTimeout l s).mem = s.mem := by
  simp -implicitDefEqProofs [detectTimeout]
@[simp] theorem symbolAlignment_keeps (l : Lane) (commas : List Nat) (s : State) :
    (symbolAlignment l commas s).pending = s.pending ∧ (symbolAlignment l commas s).part = s.part ∧
    (symbolAlignment l commas s).cycles = s.cycles ∧ (symbolAlignment l commas s).mem = s.mem := by
  simp -implicitDefEqProofs [symbolAlignment]
@[simp] theorem alignTimeout_keeps (l : Lane) (s : State) :
    (alignTimeout l s).pending = s.pending ∧ (alignTimeout l s).part = s.part ∧ (alignTimeout l s).cycles = s.cycles ∧
    (alignTimeout l s).mem = s.mem := by
  simp -implicitDefEqProofs [alignTimeout]
@[simp] theorem State.hear_keeps (s : State) (l : Lane) (x : Line) :
    (State.hear s l x).pending = s.pending ∧ (State.hear s l x).part = s.part ∧ (State.hear s l x).cycles = s.cycles ∧
    (State.hear s l x).mem = s.mem := by
  simp -implicitDefEqProofs [State.hear]
@[simp] theorem State.settleLine_keeps (s : State) (l : Lane) :
    (State.settleLine s l).pending = s.pending ∧ (State.settleLine s l).part = s.part ∧
    (State.settleLine s l).cycles = s.cycles ∧ (State.settleLine s l).mem = s.mem := by
  simp -implicitDefEqProofs [State.settleLine]
@[simp] theorem State.onLine_pending (s : State) (l : Lane) (x : Line) (f : State → State) (h : ∀ t, (f t).pending =
    t.pending) :
    (s.onLine l x f).pending = s.pending := by
  unfold State.onLine
  exact State.whenever_pending _ _ _ fun t => by simp [h]
@[simp] theorem State.onLine_part (s : State) (l : Lane) (x : Line) (f : State → State) (h : ∀ t, (f t).part = t.part) :
    (s.onLine l x f).part = s.part := by
  unfold State.onLine
  exact State.whenever_part _ _ _ fun t => by simp [h]
@[simp] theorem State.onLine_cycles (s : State) (l : Lane) (x : Line) (f : State → State) (h : ∀ t, (f t).cycles = t.cycles) :
    (s.onLine l x f).cycles = s.cycles := by
  unfold State.onLine
  exact State.whenever_cycles _ _ _ fun t => by simp [h]
@[simp] theorem State.onLine_mem (s : State) (l : Lane) (x : Line) (f : State → State) (h : ∀ t, (f t).mem = t.mem) :
    (s.onLine l x f).mem = s.mem := by
  unfold State.onLine
  exact State.whenever_mem _ _ _ fun t => by simp [h]
@[simp] theorem alignmentLost_keeps (l : Lane) (x : Line) (s : State) :
    (alignmentLost l x s).pending = s.pending ∧ (alignmentLost l x s).part = s.part ∧
    (alignmentLost l x s).cycles = s.cycles ∧ (alignmentLost l x s).mem = s.mem := by
  simp -implicitDefEqProofs [alignmentLost]
@[simp] theorem State.readBytes_keeps (s : State) (l : List (Option Byte)) :
    (State.readBytes s l).1.pending = s.pending ∧ (State.readBytes s l).1.part = s.part ∧
    (State.readBytes s l).1.cycles = s.cycles ∧ (State.readBytes s l).1.mem = s.mem := by
  unfold State.readBytes
  split <;> simp -implicitDefEqProofs
@[simp] theorem State.receiveLine_keeps (s : State) (l : Lane) (start : Byte) (x : Line) :
    (State.receiveLine s l start x).1.pending = s.pending ∧ (State.receiveLine s l start x).1.part = s.part ∧
    (State.receiveLine s l start x).1.cycles = s.cycles ∧ (State.receiveLine s l start x).1.mem = s.mem := by
  unfold State.receiveLine
  split <;> simp -implicitDefEqProofs
@[simp] theorem State.takeMessage_pending (s : State) (l : Lane) (x : Line) (f : Nat → Nat → Bytes → State → State) (h : ∀ a
    b c t, (f a b c t).pending = t.pending) :
    (s.takeMessage l x f).pending = s.pending := by
  unfold State.takeMessage
  refine State.onLine_pending _ _ _ _ fun t => ?_
  have k := State.receiveLine_keeps t l (messageStart l) x
  split
  · next e => rw [e] at k; simpa using k.1
  · next e =>
    rw [e] at k
    simp only [] at k ⊢
    split <;> simp [h, k]
@[simp] theorem State.takeMessage_part (s : State) (l : Lane) (x : Line) (f : Nat → Nat → Bytes → State → State) (h : ∀ a b c
    t, (f a b c t).part = t.part) :
    (s.takeMessage l x f).part = s.part := by
  unfold State.takeMessage
  refine State.onLine_part _ _ _ _ fun t => ?_
  have k := State.receiveLine_keeps t l (messageStart l) x
  split
  · next e => rw [e] at k; simpa using k.2.1
  · next e =>
    rw [e] at k
    simp only [] at k ⊢
    split <;> simp [h, k]
@[simp] theorem State.takeMessage_cycles (s : State) (l : Lane) (x : Line) (f : Nat → Nat → Bytes → State → State) (h : ∀ a b
    c t, (f a b c t).cycles = t.cycles) :
    (s.takeMessage l x f).cycles = s.cycles := by
  unfold State.takeMessage
  refine State.onLine_cycles _ _ _ _ fun t => ?_
  have k := State.receiveLine_keeps t l (messageStart l) x
  split
  · next e => rw [e] at k; simpa using k.2.2.1
  · next e =>
    rw [e] at k
    simp only [] at k ⊢
    split <;> simp [h, k]
@[simp] theorem State.takeMessage_mem (s : State) (l : Lane) (x : Line) (f : Nat → Nat → Bytes → State → State) (h : ∀ a b c
    t, (f a b c t).mem = t.mem) :
    (s.takeMessage l x f).mem = s.mem := by
  unfold State.takeMessage
  refine State.onLine_mem _ _ _ _ fun t => ?_
  have k := State.receiveLine_keeps t l (messageStart l) x
  split
  · next e => rw [e] at k; simpa using k.2.2.2
  · next e =>
    rw [e] at k
    simp only [] at k ⊢
    split <;> simp [h, k]
@[simp] theorem State.onMessage_pending (s : State) (l : Lane) (x : Line) (type : Nat) (f : Nat → Bytes → State → State) (h :
    ∀ a b t, (f a b t).pending = t.pending) :
    (s.onMessage l x type f).pending = s.pending := by
  unfold State.onMessage
  refine State.takeMessage_pending _ _ _ _ fun _ _ _ t => ?_
  split <;> simp [h]
@[simp] theorem State.onMessage_part (s : State) (l : Lane) (x : Line) (type : Nat) (f : Nat → Bytes → State → State) (h : ∀
    a b t, (f a b t).part = t.part) :
    (s.onMessage l x type f).part = s.part := by
  unfold State.onMessage
  refine State.takeMessage_part _ _ _ _ fun _ _ _ t => ?_
  split <;> simp [h]
@[simp] theorem State.onMessage_cycles (s : State) (l : Lane) (x : Line) (type : Nat) (f : Nat → Bytes → State → State) (h :
    ∀ a b t, (f a b t).cycles = t.cycles) :
    (s.onMessage l x type f).cycles = s.cycles := by
  unfold State.onMessage
  refine State.takeMessage_cycles _ _ _ _ fun _ _ _ t => ?_
  split <;> simp [h]
@[simp] theorem State.onMessage_mem (s : State) (l : Lane) (x : Line) (type : Nat) (f : Nat → Bytes → State → State) (h : ∀ a
    b t, (f a b t).mem = t.mem) :
    (s.onMessage l x type f).mem = s.mem := by
  unfold State.onMessage
  refine State.takeMessage_mem _ _ _ _ fun _ _ _ t => ?_
  split <;> simp [h]
@[simp] theorem lossOfSignal_keeps (l : Lane) (s : State) :
    (lossOfSignal l s).pending = s.pending ∧ (lossOfSignal l s).part = s.part ∧ (lossOfSignal l s).cycles = s.cycles ∧
    (lossOfSignal l s).mem = s.mem := by
  simp -implicitDefEqProofs [lossOfSignal]
@[simp] theorem requestFailed_keeps (l : Lane) (type : Nat) (s : State) :
    (requestFailed l type s).pending = s.pending ∧ (requestFailed l type s).part = s.part ∧
    (requestFailed l type s).cycles = s.cycles ∧ (requestFailed l type s).mem = s.mem := by
  simp -implicitDefEqProofs [requestFailed]
@[simp] theorem State.resend_keeps (s : State) (l : Lane) (r : LaneReq) :
    (State.resend s l r).pending = s.pending ∧ (State.resend s l r).part = s.part ∧ (State.resend s l r).cycles = s.cycles ∧
    (State.resend s l r).mem = s.mem := by
  simp -implicitDefEqProofs [State.resend]
@[simp] theorem messageTimeout_keeps (l : Lane) (tag : Nat) (s : State) :
    (messageTimeout l tag s).pending = s.pending ∧ (messageTimeout l tag s).part = s.part ∧
    (messageTimeout l tag s).cycles = s.cycles ∧ (messageTimeout l tag s).mem = s.mem := by
  unfold messageTimeout
  split <;> simp -implicitDefEqProofs
@[simp] theorem State.clearReq_keeps (s : State) (l : Lane) :
    (State.clearReq s l).pending = s.pending ∧ (State.clearReq s l).part = s.part ∧ (State.clearReq s l).cycles = s.cycles ∧
    (State.clearReq s l).mem = s.mem := by
  simp -implicitDefEqProofs [State.clearReq]
@[simp] theorem tapStatus_keeps (l : Lane) (tag : Nat) (p : Bytes) (s : State) :
    (tapStatus l tag p s).pending = s.pending ∧ (tapStatus l tag p s).part = s.part ∧
    (tapStatus l tag p s).cycles = s.cycles ∧ (tapStatus l tag p s).mem = s.mem := by
  simp -implicitDefEqProofs [tapStatus]
@[simp] theorem identity_keeps (l : Lane) (tag : Nat) (p : Bytes) (s : State) :
    (identity l tag p s).pending = s.pending ∧ (identity l tag p s).part = s.part ∧ (identity l tag p s).cycles = s.cycles ∧
    (identity l tag p s).mem = s.mem := by
  simp -implicitDefEqProofs [identity]
@[simp] theorem rateAck_keeps (l : Lane) (tag : Nat) (s : State) :
    (rateAck l tag s).pending = s.pending ∧ (rateAck l tag s).part = s.part ∧ (rateAck l tag s).cycles = s.cycles ∧
    (rateAck l tag s).mem = s.mem := by
  simp -implicitDefEqProofs [rateAck]
@[simp] theorem State.startGen_keeps (s : State) (port : Nat) :
    (State.startGen s port).pending = s.pending ∧ (State.startGen s port).part = s.part ∧
    (State.startGen s port).cycles = s.cycles ∧ (State.startGen s port).mem = s.mem := by
  simp -implicitDefEqProofs [State.startGen]
@[simp] theorem State.stopGen_keeps (s : State) (port : Nat) :
    (State.stopGen s port).pending = s.pending ∧ (State.stopGen s port).part = s.part ∧
    (State.stopGen s port).cycles = s.cycles ∧ (State.stopGen s port).mem = s.mem := by
  simp -implicitDefEqProofs [State.stopGen]
@[simp] theorem loopAck_keeps (l : Lane) (tag : Nat) (s : State) :
    (loopAck l tag s).pending = s.pending ∧ (loopAck l tag s).part = s.part ∧ (loopAck l tag s).cycles = s.cycles ∧
    (loopAck l tag s).mem = s.mem := by
  unfold loopAck
  split <;> simp -implicitDefEqProofs
@[simp] theorem prbsAck_keeps (l : Lane) (tag : Nat) (s : State) :
    (prbsAck l tag s).pending = s.pending ∧ (prbsAck l tag s).part = s.part ∧ (prbsAck l tag s).cycles = s.cycles ∧
    (prbsAck l tag s).mem = s.mem := by
  simp -implicitDefEqProofs [prbsAck]
@[simp] theorem refusedAnswer_keeps (l : Lane) (tag : Nat) (type : Nat) (s : State) :
    (refusedAnswer l tag type s).pending = s.pending ∧ (refusedAnswer l tag type s).part = s.part ∧
    (refusedAnswer l tag type s).cycles = s.cycles ∧ (refusedAnswer l tag type s).mem = s.mem := by
  unfold refusedAnswer
  split <;> simp -implicitDefEqProofs
@[simp] theorem trainingEvaluation_keeps (l : Lane) (h : Nat) (v : Nat) (s : State) :
    (trainingEvaluation l h v s).pending = s.pending ∧ (trainingEvaluation l h v s).part = s.part ∧
    (trainingEvaluation l h v s).cycles = s.cycles ∧ (trainingEvaluation l h v s).mem = s.mem := by
  unfold trainingEvaluation
  split <;> simp -implicitDefEqProofs
@[simp] theorem trainingBudgetExpiry_keeps (l : Lane) (s : State) :
    (trainingBudgetExpiry l s).pending = s.pending ∧ (trainingBudgetExpiry l s).part = s.part ∧
    (trainingBudgetExpiry l s).cycles = s.cycles ∧ (trainingBudgetExpiry l s).mem = s.mem := by
  simp -implicitDefEqProofs [trainingBudgetExpiry]
@[simp] theorem verifyEnd_keeps (l : Lane) (errors : Nat) (h : Nat) (v : Nat) (s : State) :
    (verifyEnd l errors h v s).pending = s.pending ∧ (verifyEnd l errors h v s).part = s.part ∧
    (verifyEnd l errors h v s).cycles = s.cycles ∧ (verifyEnd l errors h v s).mem = s.mem := by
  simp -implicitDefEqProofs [verifyEnd]
@[simp] theorem State.requestRetrain_keeps (s : State) (l : Lane) :
    (State.requestRetrain s l).pending = s.pending ∧ (State.requestRetrain s l).part = s.part ∧
    (State.requestRetrain s l).cycles = s.cycles ∧ (State.requestRetrain s l).mem = s.mem := by
  simp -implicitDefEqProofs [State.requestRetrain]
@[simp] theorem fomEvaluation_keeps (l : Lane) (h : Nat) (v : Nat) (density : Nat) (s : State) :
    (fomEvaluation l h v density s).pending = s.pending ∧ (fomEvaluation l h v density s).part = s.part ∧
    (fomEvaluation l h v density s).cycles = s.cycles ∧ (fomEvaluation l h v density s).mem = s.mem := by
  simp -implicitDefEqProofs [fomEvaluation]
@[simp] theorem retrainDeferralTimeout_keeps (l : Lane) (s : State) :
    (retrainDeferralTimeout l s).pending = s.pending ∧ (retrainDeferralTimeout l s).part = s.part ∧
    (retrainDeferralTimeout l s).cycles = s.cycles ∧ (retrainDeferralTimeout l s).mem = s.mem := by
  unfold retrainDeferralTimeout
  split <;> simp -implicitDefEqProofs
@[simp] theorem retrainAtFe_keeps (l : Lane) (s : State) :
    (retrainAtFe l s).pending = s.pending ∧ (retrainAtFe l s).part = s.part ∧ (retrainAtFe l s).cycles = s.cycles ∧
    (retrainAtFe l s).mem = s.mem := by
  simp -implicitDefEqProofs [retrainAtFe]
@[simp] theorem laneDegradedRetry_keeps (l : Lane) (s : State) :
    (laneDegradedRetry l s).pending = s.pending ∧ (laneDegradedRetry l s).part = s.part ∧
    (laneDegradedRetry l s).cycles = s.cycles ∧ (laneDegradedRetry l s).mem = s.mem := by
  simp -implicitDefEqProofs [laneDegradedRetry]
theorem laneRetrain_tame (l : Lane) (s : State) : ResTame s (laneRetrain l s) := by
  unfold laneRetrain
  (repeat' (first | exact .error _ _ | refine .ok ?_ | refine .bind _ _ (fun _ => ?_) | refine .ite _ ?_ ?_ | split)) <;>
      simp -implicitDefEqProofs [State.Tame]
@[simp] theorem State.clearLaneCounters_keeps (s : State) (l : Lane) :
    (State.clearLaneCounters s l).pending = s.pending ∧ (State.clearLaneCounters s l).part = s.part ∧
    (State.clearLaneCounters s l).cycles = s.cycles ∧ (State.clearLaneCounters s l).mem = s.mem := by
  simp -implicitDefEqProofs [State.clearLaneCounters]
@[simp] theorem State.laneReset_keeps (s : State) (l : Lane) :
    (State.laneReset s l).pending = s.pending ∧ (State.laneReset s l).part = s.part ∧
    (State.laneReset s l).cycles = s.cycles ∧ (State.laneReset s l).mem = s.mem := by
  simp -implicitDefEqProofs [State.laneReset]
@[simp] theorem laneEnable_keeps (l : Lane) (value : Nat) (s : State) :
    (laneEnable l value s).pending = s.pending ∧ (laneEnable l value s).part = s.part ∧
    (laneEnable l value s).cycles = s.cycles ∧ (laneEnable l value s).mem = s.mem := by
  simp -implicitDefEqProofs [laneEnable]
@[simp] theorem State.countLocked_keeps (s : State) (l : Lane) :
    (State.countLocked s l).pending = s.pending ∧ (State.countLocked s l).part = s.part ∧
    (State.countLocked s l).cycles = s.cycles ∧ (State.countLocked s l).mem = s.mem := by
  simp -implicitDefEqProofs [State.countLocked]
@[simp] theorem State.testEnds_keeps (s : State) (l : Lane) (old : Nat) :
    (State.testEnds s l old).pending = s.pending ∧ (State.testEnds s l old).part = s.part ∧
    (State.testEnds s l old).cycles = s.cycles ∧ (State.testEnds s l old).mem = s.mem := by
  unfold State.testEnds
  split <;> simp -implicitDefEqProofs
theorem laneTestMode_tame (l : Lane) (value : Nat) (s : State) : ResTame s (laneTestMode l value s) := by
  unfold laneTestMode
  (repeat' (first | exact .error _ _ | refine .ok ?_ | refine .bind _ _ (fun _ => ?_) | refine .ite _ ?_ ?_ | split)) <;>
      simp -implicitDefEqProofs [State.Tame]
@[simp] theorem prbsLock_keeps (l : Lane) (bits : List Bool) (s : State) :
    (prbsLock l bits s).pending = s.pending ∧ (prbsLock l bits s).part = s.part ∧ (prbsLock l bits s).cycles = s.cycles ∧
    (prbsLock l bits s).mem = s.mem := by
  simp -implicitDefEqProofs [prbsLock]
@[simp] theorem prbsLockLost_keeps (l : Lane) (bits : Nat) (errors : Nat) (window : List Bool) (s : State) :
    (prbsLockLost l bits errors window s).pending = s.pending ∧ (prbsLockLost l bits errors window s).part = s.part ∧
    (prbsLockLost l bits errors window s).cycles = s.cycles ∧ (prbsLockLost l bits errors window s).mem = s.mem := by
  simp -implicitDefEqProofs [prbsLockLost]
@[simp] theorem laneIdleFreeze_keeps (l : Lane) (s : State) :
    (laneIdleFreeze l s).pending = s.pending ∧ (laneIdleFreeze l s).part = s.part ∧ (laneIdleFreeze l s).cycles = s.cycles ∧
    (laneIdleFreeze l s).mem = s.mem := by
  simp -implicitDefEqProofs [laneIdleFreeze]
@[simp] theorem State.holdLane_keeps (s : State) (l : Lane) (b : Nat) :
    (State.holdLane s l b).pending = s.pending ∧ (State.holdLane s l b).part = s.part ∧
    (State.holdLane s l b).cycles = s.cycles ∧ (State.holdLane s l b).mem = s.mem := by
  simp -implicitDefEqProofs [State.holdLane]
@[simp] theorem State.freeLane_keeps (s : State) (l : Lane) (b : Nat) :
    (State.freeLane s l b).pending = s.pending ∧ (State.freeLane s l b).part = s.part ∧
    (State.freeLane s l b).cycles = s.cycles ∧ (State.freeLane s l b).mem = s.mem := by
  simp -implicitDefEqProofs [State.freeLane]
@[simp] theorem State.launchTrigger_keeps (s : State) (port : Nat) (act : Instant) :
    (State.launchTrigger s port act).pending = s.pending ∧ (State.launchTrigger s port act).part = s.part ∧
    (State.launchTrigger s port act).cycles = s.cycles ∧ (State.launchTrigger s port act).mem = s.mem := by
  simp -implicitDefEqProofs [State.launchTrigger]
@[simp] theorem State.injectClears_keeps (s : State) (port : Nat) (g : Gen) :
    (State.injectClears s port g).pending = s.pending ∧ (State.injectClears s port g).part = s.part ∧
    (State.injectClears s port g).cycles = s.cycles ∧ (State.injectClears s port g).mem = s.mem := by
  simp -implicitDefEqProofs [State.injectClears]
@[simp] theorem State.sendSlot_keeps (n : Nat) (s : State) (i : Nat) :
    (State.sendSlot n s i).pending = s.pending ∧ (State.sendSlot n s i).part = s.part ∧
    (State.sendSlot n s i).cycles = s.cycles ∧ (State.sendSlot n s i).mem = s.mem := by
  simp only [State.sendSlot]
  (repeat' split) <;> simp -implicitDefEqProofs
@[simp] theorem State.runGen_keeps (s : State) (i : Nat) :
    (State.runGen s i).pending = s.pending ∧ (State.runGen s i).part = s.part ∧ (State.runGen s i).cycles = s.cycles ∧
    (State.runGen s i).mem = s.mem := by
  unfold State.runGen
  split <;> simp -implicitDefEqProofs
@[simp] theorem State.transmitCycle_keeps (s : State) :
    (State.transmitCycle s).pending = s.pending ∧ (State.transmitCycle s).part = s.part ∧
    (State.transmitCycle s).cycles = s.cycles ∧ (State.transmitCycle s).mem = s.mem := by
  simp -implicitDefEqProofs [State.transmitCycle]
@[simp] theorem State.makeLive_keeps (s : State) (p : Nat → Bool) :
    (State.makeLive s p).pending = s.pending ∧ (State.makeLive s p).part = s.part ∧ (State.makeLive s p).cycles = s.cycles ∧
    (State.makeLive s p).mem = s.mem := by
  simp -implicitDefEqProofs [State.makeLive]
@[simp] theorem State.makeShadow_keeps (s : State) (p : Nat → Bool) :
    (State.makeShadow s p).pending = s.pending ∧ (State.makeShadow s p).part = s.part ∧
    (State.makeShadow s p).cycles = s.cycles ∧ (State.makeShadow s p).mem = s.mem := by
  simp -implicitDefEqProofs [State.makeShadow]
@[simp] theorem State.updInput_keeps (s : State) (inst : Nat) (f : InputSt → InputSt) :
    (State.updInput s inst f).pending = s.pending ∧ (State.updInput s inst f).part = s.part ∧
    (State.updInput s inst f).cycles = s.cycles ∧ (State.updInput s inst f).mem = s.mem := by
  simp -implicitDefEqProofs [State.updInput]
@[simp] theorem State.updPipe_keeps (s : State) (p : Nat) (f : PipeSt → PipeSt) :
    (State.updPipe s p f).pending = s.pending ∧ (State.updPipe s p f).part = s.part ∧
    (State.updPipe s p f).cycles = s.cycles ∧ (State.updPipe s p f).mem = s.mem := by
  simp -implicitDefEqProofs [State.updPipe]
@[simp] theorem State.updCommit_keeps (s : State) (scope : Nat) (unit : Nat) (f : Commit → Commit) :
    (State.updCommit s scope unit f).pending = s.pending ∧ (State.updCommit s scope unit f).part = s.part ∧
    (State.updCommit s scope unit f).cycles = s.cycles ∧ (State.updCommit s scope unit f).mem = s.mem := by
  simp -implicitDefEqProofs [State.updCommit]
@[simp] theorem State.updTarget_keeps (s : State) (scope : Nat) (unit : Nat) (f : CommitTarget → CommitTarget) :
    (State.updTarget s scope unit f).pending = s.pending ∧ (State.updTarget s scope unit f).part = s.part ∧
    (State.updTarget s scope unit f).cycles = s.cycles ∧ (State.updTarget s scope unit f).mem = s.mem := by
  simp -implicitDefEqProofs [State.updTarget]
@[simp] theorem State.settleOne_keeps (s : State) (c : Commit) :
    (State.settleOne s c).pending = s.pending ∧ (State.settleOne s c).part = s.part ∧
    (State.settleOne s c).cycles = s.cycles ∧ (State.settleOne s c).mem = s.mem := by
  simp -implicitDefEqProofs [State.settleOne]
@[simp] theorem State.settle_keeps (s : State) :
    (State.settle s).pending = s.pending ∧ (State.settle s).part = s.part ∧ (State.settle s).cycles = s.cycles ∧
    (State.settle s).mem = s.mem := by
  simp -implicitDefEqProofs [State.settle]
@[simp] theorem State.deferAt_keeps (s : State) (scope : Nat) (unit : Nat) :
    (State.deferAt s scope unit).pending = s.pending ∧ (State.deferAt s scope unit).part = s.part ∧
    (State.deferAt s scope unit).cycles = s.cycles ∧ (State.deferAt s scope unit).mem = s.mem := by
  unfold State.deferAt
  split <;> simp -implicitDefEqProofs
@[simp] theorem State.takeAt_keeps (s : State) (scope : Nat) (unit : Nat) (num : Nat) (stamp : Instant) (genKey : Nat)
    (frameKey : Nat) (ticketKey : Nat) :
    (State.takeAt s scope unit num stamp genKey frameKey ticketKey).1.pending = s.pending ∧
    (State.takeAt s scope unit num stamp genKey frameKey ticketKey).1.part = s.part ∧
    (State.takeAt s scope unit num stamp genKey frameKey ticketKey).1.cycles = s.cycles ∧
    (State.takeAt s scope unit num stamp genKey frameKey ticketKey).1.mem = s.mem := by
  unfold State.takeAt
  (repeat' split) <;> simp -implicitDefEqProofs
@[simp] theorem State.takeCapture_keeps (s : State) (port : Nat) (stamp : Instant) :
    (State.takeCapture s port stamp).1.pending = s.pending ∧ (State.takeCapture s port stamp).1.part = s.part ∧
    (State.takeCapture s port stamp).1.cycles = s.cycles ∧ (State.takeCapture s port stamp).1.mem = s.mem := by
  simp -implicitDefEqProofs [State.takeCapture]
@[simp] theorem State.takeStream_keeps (s : State) (stream : Nat) (num : Nat) (stamp : Instant) :
    (State.takeStream s stream num stamp).1.pending = s.pending ∧ (State.takeStream s stream num stamp).1.part = s.part ∧
    (State.takeStream s stream num stamp).1.cycles = s.cycles ∧ (State.takeStream s stream num stamp).1.mem = s.mem := by
  unfold State.takeStream
  split <;> simp -implicitDefEqProofs
@[simp] theorem State.holdOther_keeps (s : State) (pipe : Nat) (k : Nat) :
    (State.holdOther s pipe k).pending = s.pending ∧ (State.holdOther s pipe k).part = s.part ∧
    (State.holdOther s pipe k).cycles = s.cycles ∧ (State.holdOther s pipe k).mem = s.mem := by
  simp -implicitDefEqProofs [State.holdOther]
@[simp] theorem State.soleInput_keeps (s : State) (pipe : Nat) :
    (State.soleInput s pipe).pending = s.pending ∧ (State.soleInput s pipe).part = s.part ∧
    (State.soleInput s pipe).cycles = s.cycles ∧ (State.soleInput s pipe).mem = s.mem := by
  simp -implicitDefEqProofs [State.soleInput]
@[simp] theorem State.takePipe_keeps (s : State) (pipe : Nat) (k : Nat) (num : Nat) (stamp : Instant) :
    (State.takePipe s pipe k num stamp).1.pending = s.pending ∧ (State.takePipe s pipe k num stamp).1.part = s.part ∧
    (State.takePipe s pipe k num stamp).1.cycles = s.cycles ∧ (State.takePipe s pipe k num stamp).1.mem = s.mem := by
  simp only [State.takePipe]
  (repeat' split) <;> simp -implicitDefEqProofs
@[simp] theorem State.noteStamp_keeps (s : State) (pipe : Nat) (k : Nat) (num : Nat) (stamp : Instant) :
    (State.noteStamp s pipe k num stamp).pending = s.pending ∧ (State.noteStamp s pipe k num stamp).part = s.part ∧
    (State.noteStamp s pipe k num stamp).cycles = s.cycles ∧ (State.noteStamp s pipe k num stamp).mem = s.mem := by
  unfold State.noteStamp
  split <;> simp -implicitDefEqProofs
@[simp] theorem State.discardAt_keeps (s : State) (scope : Nat) (unit : Nat) (reason : Nat) :
    (State.discardAt s scope unit reason).pending = s.pending ∧ (State.discardAt s scope unit reason).part = s.part ∧
    (State.discardAt s scope unit reason).cycles = s.cycles ∧ (State.discardAt s scope unit reason).mem = s.mem := by
  unfold State.discardAt
  split <;> simp -implicitDefEqProofs
@[simp] theorem State.discardForPort_keeps (s : State) (port : Nat) :
    (State.discardForPort s port).pending = s.pending ∧ (State.discardForPort s port).part = s.part ∧
    (State.discardForPort s port).cycles = s.cycles ∧ (State.discardForPort s port).mem = s.mem := by
  simp only [State.discardForPort]
  (repeat' split) <;> simp -implicitDefEqProofs
@[simp] theorem State.launchCommit_keeps (s : State) (scope : Nat) (unit : Nat) (t : Instant) :
    (State.launchCommit s scope unit t).pending = s.pending ∧ (State.launchCommit s scope unit t).part = s.part ∧
    (State.launchCommit s scope unit t).cycles = s.cycles ∧ (State.launchCommit s scope unit t).mem = s.mem := by
  simp -implicitDefEqProofs [State.launchCommit]
@[simp] theorem State.updFrame_keeps (s : State) (fid : Nat) (f : Frame → Frame) :
    (State.updFrame s fid f).pending = s.pending ∧ (State.updFrame s fid f).part = s.part ∧
    (State.updFrame s fid f).cycles = s.cycles ∧ (State.updFrame s fid f).mem = s.mem := by
  simp -implicitDefEqProofs [State.updFrame]
@[simp] theorem State.updOut_keeps (s : State) (oid : Nat) (f : OutFrame → OutFrame) :
    (State.updOut s oid f).pending = s.pending ∧ (State.updOut s oid f).part = s.part ∧
    (State.updOut s oid f).cycles = s.cycles ∧ (State.updOut s oid f).mem = s.mem := by
  simp -implicitDefEqProofs [State.updOut]
@[simp] theorem State.pushPacket_keeps (s : State) (out : Nat) (b : Bytes) :
    (State.pushPacket s out b).pending = s.pending ∧ (State.pushPacket s out b).part = s.part ∧
    (State.pushPacket s out b).cycles = s.cycles ∧ (State.pushPacket s out b).mem = s.mem := by
  simp -implicitDefEqProofs [State.pushPacket]
@[simp] theorem State.countTile_keeps (s : State) (oid : Nat) (out : Nat) (card : Nat) (absent : Nat) (payload : Bytes) :
    (State.countTile s oid out card absent payload).pending = s.pending ∧
    (State.countTile s oid out card absent payload).part = s.part ∧
    (State.countTile s oid out card absent payload).cycles = s.cycles ∧
    (State.countTile s oid out card absent payload).mem = s.mem := by
  simp -implicitDefEqProofs [State.countTile]
@[simp] theorem State.emitAbsent_keeps (s : State) (o : OutFrame) (out : Nat) (row : Nat) (col : Nat) (reason : Nat) :
    (State.emitAbsent s o out row col reason).pending = s.pending ∧ (State.emitAbsent s o out row col reason).part = s.part ∧
    (State.emitAbsent s o out row col reason).cycles = s.cycles ∧ (State.emitAbsent s o out row col reason).mem = s.mem := by
  simp -implicitDefEqProofs [State.emitAbsent]
@[simp] theorem State.emitPresent_keeps (s : State) (o : OutFrame) (out : Nat) (row : Nat) (col : Nat) (payload : Bytes) :
    (State.emitPresent s o out row col payload).pending = s.pending ∧
    (State.emitPresent s o out row col payload).part = s.part ∧
    (State.emitPresent s o out row col payload).cycles = s.cycles ∧
    (State.emitPresent s o out row col payload).mem = s.mem := by
  simp -implicitDefEqProofs [State.emitPresent]
@[simp] theorem State.emitTile_keeps (s : State) (e : Entry) (row : Nat) (col : Nat) :
    (State.emitTile s e row col).pending = s.pending ∧ (State.emitTile s e row col).part = s.part ∧
    (State.emitTile s e row col).cycles = s.cycles ∧ (State.emitTile s e row col).mem = s.mem := by
  simp only [State.emitTile]
  (repeat' split) <;> simp -implicitDefEqProofs
@[simp] theorem State.goldenCheck_keeps (s : State) (out : Nat) (stream : Nat) (num : Nat) (card : Nat) (sig : Nat) :
    (State.goldenCheck s out stream num card sig).pending = s.pending ∧
    (State.goldenCheck s out stream num card sig).part = s.part ∧
    (State.goldenCheck s out stream num card sig).cycles = s.cycles ∧
    (State.goldenCheck s out stream num card sig).mem = s.mem := by
  simp -implicitDefEqProofs [State.goldenCheck]
@[simp] theorem State.emitEnd_keeps (s : State) (oid : Nat) (out : Nat) :
    (State.emitEnd s oid out).pending = s.pending ∧ (State.emitEnd s oid out).part = s.part ∧
    (State.emitEnd s oid out).cycles = s.cycles ∧ (State.emitEnd s oid out).mem = s.mem := by
  unfold State.emitEnd
  split <;> simp -implicitDefEqProofs
@[simp] theorem State.noteMissing_keeps (s : State) (o : OutFrame) :
    (State.noteMissing s o).pending = s.pending ∧ (State.noteMissing s o).part = s.part ∧
    (State.noteMissing s o).cycles = s.cycles ∧ (State.noteMissing s o).mem = s.mem := by
  simp -implicitDefEqProofs [State.noteMissing]
@[simp] theorem State.viewEnded_keeps (s : State) (o : OutFrame) :
    (State.viewEnded s o).pending = s.pending ∧ (State.viewEnded s o).part = s.part ∧
    (State.viewEnded s o).cycles = s.cycles ∧ (State.viewEnded s o).mem = s.mem := by
  simp -implicitDefEqProofs [State.viewEnded]
@[simp] theorem State.emitEntry_keeps (s : State) (e : Entry) :
    (State.emitEntry s e).pending = s.pending ∧ (State.emitEntry s e).part = s.part ∧
    (State.emitEntry s e).cycles = s.cycles ∧ (State.emitEntry s e).mem = s.mem := by
  simp only [State.emitEntry]
  (repeat' split) <;> simp -implicitDefEqProofs
@[simp] theorem State.emitFirst_keeps (s : State) (l : List Entry) :
    (State.emitFirst s l).pending = s.pending ∧ (State.emitFirst s l).part = s.part ∧
    (State.emitFirst s l).cycles = s.cycles ∧ (State.emitFirst s l).mem = s.mem := by
  unfold State.emitFirst
  split <;> simp -implicitDefEqProofs
@[simp] theorem emitWhile_keeps (p : State → Entry → Bool) (n : Nat) (s : State) :
    (emitWhile p n s).pending = s.pending ∧ (emitWhile p n s).part = s.part ∧ (emitWhile p n s).cycles = s.cycles ∧
    (emitWhile p n s).mem = s.mem := by
  induction n generalizing s with
  | zero => simp [emitWhile]
  | succ n ih =>
    unfold emitWhile
    simp only []
    split <;> simp [ih]
@[simp] theorem State.enqueue_keeps (s : State) (l : List Entry) :
    (State.enqueue s l).pending = s.pending ∧ (State.enqueue s l).part = s.part ∧ (State.enqueue s l).cycles = s.cycles ∧
    (State.enqueue s l).mem = s.mem := by
  simp -implicitDefEqProofs [State.enqueue]
@[simp] theorem State.queueFrame_keeps (s : State) (oid : Nat) (tiles : List (Nat × Nat × Instant)) :
    (State.queueFrame s oid tiles).pending = s.pending ∧ (State.queueFrame s oid tiles).part = s.part ∧
    (State.queueFrame s oid tiles).cycles = s.cycles ∧ (State.queueFrame s oid tiles).mem = s.mem := by
  unfold State.queueFrame
  split <;> simp -implicitDefEqProofs
@[simp] theorem State.queueMarker_keeps (s : State) (stream : Nat) (arg : Nat) (entry : Nat) (act : Instant) :
    (State.queueMarker s stream arg entry act).pending = s.pending ∧
    (State.queueMarker s stream arg entry act).part = s.part ∧ (State.queueMarker s stream arg entry act).cycles = s.cycles ∧
    (State.queueMarker s stream arg entry act).mem = s.mem := by
  simp -implicitDefEqProofs [State.queueMarker]
@[simp] theorem State.withdrawMarker_keeps (s : State) (stream : Nat) (entry : Nat) (act : Instant) :
    (State.withdrawMarker s stream entry act).pending = s.pending ∧ (State.withdrawMarker s stream entry act).part = s.part ∧
    (State.withdrawMarker s stream entry act).cycles = s.cycles ∧ (State.withdrawMarker s stream entry act).mem = s.mem := by
  simp -implicitDefEqProofs [State.withdrawMarker]
@[simp] theorem State.prune_keeps (s : State) :
    (State.prune s).pending = s.pending ∧ (State.prune s).part = s.part ∧ (State.prune s).cycles = s.cycles ∧
    (State.prune s).mem = s.mem := by
  simp -implicitDefEqProofs [State.prune]
@[simp] theorem mergeRelease_keeps (s : State) :
    (mergeRelease s).pending = s.pending ∧ (mergeRelease s).part = s.part ∧ (mergeRelease s).cycles = s.cycles ∧
    (mergeRelease s).mem = s.mem := by
  simp -implicitDefEqProofs [mergeRelease]
@[simp] theorem State.landTile_keeps (s : State) (oid : Nat) (row : Nat) (col : Nat) (b : Bytes) :
    (State.landTile s oid row col b).pending = s.pending ∧ (State.landTile s oid row col b).part = s.part ∧
    (State.landTile s oid row col b).cycles = s.cycles ∧ (State.landTile s oid row col b).mem = s.mem := by
  unfold State.landTile
  split <;> simp -implicitDefEqProofs
@[simp] theorem State.landRow_keeps (s : State) (oid : Nat) (row : Nat) (tiles : List Bytes) :
    (State.landRow s oid row tiles).pending = s.pending ∧ (State.landRow s oid row tiles).part = s.part ∧
    (State.landRow s oid row tiles).cycles = s.cycles ∧ (State.landRow s oid row tiles).mem = s.mem := by
  simp -implicitDefEqProofs [State.landRow]
@[simp] theorem codecSliceComplete_keeps (engine : Nat) (s : State) :
    (codecSliceComplete engine s).pending = s.pending ∧ (codecSliceComplete engine s).part = s.part ∧
    (codecSliceComplete engine s).cycles = s.cycles ∧ (codecSliceComplete engine s).mem = s.mem := by
  unfold codecSliceComplete
  (repeat' split) <;> simp -implicitDefEqProofs
@[simp] theorem State.moveStream_keeps (s : State) (stream : Nat) :
    (State.moveStream s stream).pending = s.pending ∧ (State.moveStream s stream).part = s.part ∧
    (State.moveStream s stream).cycles = s.cycles ∧ (State.moveStream s stream).mem = s.mem := by
  simp only [State.moveStream]
  (repeat' split) <;> simp -implicitDefEqProofs
@[simp] theorem State.remapStream_keeps (s : State) (stream : Nat) :
    (State.remapStream s stream).pending = s.pending ∧ (State.remapStream s stream).part = s.part ∧
    (State.remapStream s stream).cycles = s.cycles ∧ (State.remapStream s stream).mem = s.mem := by
  simp -implicitDefEqProofs [State.remapStream]
@[simp] theorem State.handStream_keeps (s : State) (stream : Nat) (num : Nat) (stamp : Instant) :
    (State.handStream s stream num stamp).1.pending = s.pending ∧ (State.handStream s stream num stamp).1.part = s.part ∧
    (State.handStream s stream num stamp).1.cycles = s.cycles ∧ (State.handStream s stream num stamp).1.mem = s.mem := by
  simp only [State.handStream]
  (repeat' split) <;> simp -implicitDefEqProofs
@[simp] theorem codecFenceWrite_keeps (engine : Nat) (value : Nat) (s : State) :
    (codecFenceWrite engine value s).pending = s.pending ∧ (codecFenceWrite engine value s).part = s.part ∧
    (codecFenceWrite engine value s).cycles = s.cycles ∧ (codecFenceWrite engine value s).mem = s.mem := by
  simp -implicitDefEqProofs [codecFenceWrite]
@[simp] theorem State.snapshot_keeps (s : State) (pipe : Nat) (act : Instant) :
    (State.snapshot s pipe act).pending = s.pending ∧ (State.snapshot s pipe act).part = s.part ∧
    (State.snapshot s pipe act).cycles = s.cycles ∧ (State.snapshot s pipe act).mem = s.mem := by
  simp -implicitDefEqProofs [State.snapshot]
@[simp] theorem State.viewRaise_keeps (s : State) (v : Nat) (cause : Nat) (d : Bytes) :
    (State.viewRaise s v cause d).pending = s.pending ∧ (State.viewRaise s v cause d).part = s.part ∧
    (State.viewRaise s v cause d).cycles = s.cycles ∧ (State.viewRaise s v cause d).mem = s.mem := by
  simp -implicitDefEqProofs [State.viewRaise]
@[simp] theorem State.setMatch_keeps (s : State) (oid : Nat) (slot : Nat) (m : Match) :
    (State.setMatch s oid slot m).pending = s.pending ∧ (State.setMatch s oid slot m).part = s.part ∧
    (State.setMatch s oid slot m).cycles = s.cycles ∧ (State.setMatch s oid slot m).mem = s.mem := by
  simp -implicitDefEqProofs [State.setMatch]
@[simp] theorem State.rejectShape_keeps (s : State) (oid : Nat) (slot : Nat) :
    (State.rejectShape s oid slot).pending = s.pending ∧ (State.rejectShape s oid slot).part = s.part ∧
    (State.rejectShape s oid slot).cycles = s.cycles ∧ (State.rejectShape s oid slot).mem = s.mem := by
  unfold State.rejectShape
  (repeat' split) <;> simp -implicitDefEqProofs
@[simp] theorem State.decideSlot_keeps (s : State) (o : OutFrame) (slot : Nat) (pastD : Bool) :
    (State.decideSlot s o slot pastD).pending = s.pending ∧ (State.decideSlot s o slot pastD).part = s.part ∧
    (State.decideSlot s o slot pastD).cycles = s.cycles ∧ (State.decideSlot s o slot pastD).mem = s.mem := by
  simp only [State.decideSlot]
  (repeat' split) <;> simp -implicitDefEqProofs
@[simp] theorem State.fixReleases_keeps (s : State) (o : OutFrame) :
    (State.fixReleases s o).pending = s.pending ∧ (State.fixReleases s o).part = s.part ∧
    (State.fixReleases s o).cycles = s.cycles ∧ (State.fixReleases s o).mem = s.mem := by
  simp -implicitDefEqProofs [State.fixReleases]
@[simp] theorem State.tryQueueView_keeps (s : State) (oid : Nat) :
    (State.tryQueueView s oid).pending = s.pending ∧ (State.tryQueueView s oid).part = s.part ∧
    (State.tryQueueView s oid).cycles = s.cycles ∧ (State.tryQueueView s oid).mem = s.mem := by
  unfold State.tryQueueView
  split <;> simp -implicitDefEqProofs
@[simp] theorem State.settleViews_keeps (s : State) :
    (s.settleViews).pending = s.pending ∧ (s.settleViews).part = s.part ∧ (s.settleViews).cycles = s.cycles ∧
    (s.settleViews).mem = s.mem := by
  have h : s.settleViews.kept = s.kept := by
    unfold State.settleViews
    refine State.foldl_field State.kept _ (fun t o => ?_) _ _
    simp only [State.kept, State.tryQueueView_keeps]
    refine State.foldl_field State.kept _ (fun u m => ?_) _ _
    split <;> simp [State.kept]
  simpa [State.kept] using h
@[simp] theorem warpMatchDeadline_keeps (v : Nat) (s : State) :
    (warpMatchDeadline v s).pending = s.pending ∧ (warpMatchDeadline v s).part = s.part ∧
    (warpMatchDeadline v s).cycles = s.cycles ∧ (warpMatchDeadline v s).mem = s.mem := by
  have h : (warpMatchDeadline v s).kept = s.kept := by
    unfold Machine.warpMatchDeadline
    refine State.foldl_field State.kept _ (fun t o => ?_) _ _
    simp only [State.kept, State.tryQueueView_keeps]
    refine State.foldl_field State.kept _ (fun u m => ?_) _ _
    split <;> simp [State.kept]
  simpa [State.kept] using h
@[simp] theorem State.viewHandOver_keeps (s : State) (v : Nat) (f : Frame) :
    (State.viewHandOver s v f).pending = s.pending ∧ (State.viewHandOver s v f).part = s.part ∧
    (State.viewHandOver s v f).cycles = s.cycles ∧ (State.viewHandOver s v f).mem = s.mem := by
  simp -implicitDefEqProofs [State.viewHandOver]
@[simp] theorem State.viewsHandOver_keeps (s : State) (pipe : Nat) (input : Nat) (f : Frame) :
    (State.viewsHandOver s pipe input f).pending = s.pending ∧ (State.viewsHandOver s pipe input f).part = s.part ∧
    (State.viewsHandOver s pipe input f).cycles = s.cycles ∧ (State.viewsHandOver s pipe input f).mem = s.mem := by
  simp -implicitDefEqProofs [State.viewsHandOver]
@[simp] theorem State.countBlocks_keeps (s : State) :
    (State.countBlocks s).pending = s.pending ∧ (State.countBlocks s).part = s.part ∧
    (State.countBlocks s).cycles = s.cycles ∧ (State.countBlocks s).mem = s.mem := by
  simp -implicitDefEqProofs [State.countBlocks]
@[simp] theorem warpTileIssue_keeps (engine : Nat) (s : State) :
    (warpTileIssue engine s).pending = s.pending ∧ (warpTileIssue engine s).part = s.part ∧
    (warpTileIssue engine s).cycles = s.cycles ∧ (warpTileIssue engine s).mem = s.mem := by
  simp only [warpTileIssue]
  (repeat' split) <;> simp -implicitDefEqProofs
@[simp] theorem warpTileComplete_keeps (core : Nat) (s : State) :
    (warpTileComplete core s).pending = s.pending ∧ (warpTileComplete core s).part = s.part ∧
    (warpTileComplete core s).cycles = s.cycles ∧ (warpTileComplete core s).mem = s.mem := by
  simp only [warpTileComplete]
  (repeat' split) <;> simp -implicitDefEqProofs
@[simp] theorem State.dropTile_keeps (s : State) (core : Nat) :
    (State.dropTile s core).pending = s.pending ∧ (State.dropTile s core).part = s.part ∧
    (State.dropTile s core).cycles = s.cycles ∧ (State.dropTile s core).mem = s.mem := by
  simp -implicitDefEqProofs [State.dropTile]
@[simp] theorem warpFenceWrite_keeps (core : Nat) (value : Nat) (s : State) :
    (warpFenceWrite core value s).pending = s.pending ∧ (warpFenceWrite core value s).part = s.part ∧
    (warpFenceWrite core value s).cycles = s.cycles ∧ (warpFenceWrite core value s).mem = s.mem := by
  simp -implicitDefEqProofs [warpFenceWrite]
@[simp] theorem State.coreRestart_keeps (s : State) (core : Nat) :
    (State.coreRestart s core).pending = s.pending ∧ (State.coreRestart s core).part = s.part ∧
    (State.coreRestart s core).cycles = s.cycles ∧ (State.coreRestart s core).mem = s.mem := by
  simp -implicitDefEqProofs [State.coreRestart]
theorem warpPartitionWrite_tame (engine : Nat) (value : Nat) (s : State) : ResTame s (warpPartitionWrite engine value s) := by
  unfold warpPartitionWrite
  (repeat' (first | exact .error _ _ | refine .ok ?_ | refine .bind _ _ (fun _ => ?_) | refine .ite _ ?_ ?_ | split)) <;>
      simp -implicitDefEqProofs [State.Tame]
@[simp] theorem State.openStream_keeps (s : State) (f : Frame) (j : Nat) (c : CropCtrl) (skip : Nat) :
    (State.openStream s f j c skip).pending = s.pending ∧ (State.openStream s f j c skip).part = s.part ∧
    (State.openStream s f j c skip).cycles = s.cycles ∧ (State.openStream s f j c skip).mem = s.mem := by
  simp -implicitDefEqProofs [State.openStream]
@[simp] theorem State.produceRow_keeps (s : State) (p : PxParams) (st : Stages) (g : List (List (List Nat))) (oid : Nat) (row
    : Nat) (lines : Nat) :
    (State.produceRow s p st g oid row lines).pending = s.pending ∧ (State.produceRow s p st g oid row lines).part = s.part ∧
    (State.produceRow s p st g oid row lines).cycles = s.cycles ∧ (State.produceRow s p st g oid row lines).mem = s.mem := by
  unfold State.produceRow
  split <;> simp -implicitDefEqProofs
@[simp] theorem State.produceReady_keeps (s : State) (fid : Nat) :
    (State.produceReady s fid).pending = s.pending ∧ (State.produceReady s fid).part = s.part ∧
    (State.produceReady s fid).cycles = s.cycles ∧ (State.produceReady s fid).mem = s.mem := by
  unfold State.produceReady
  split <;> simp -implicitDefEqProofs
@[simp] theorem State.startRecord_keeps (s : State) (f : Frame) (p : PxParams) (st : Stages) :
    (State.startRecord s f p st).pending = s.pending ∧ (State.startRecord s f p st).part = s.part ∧
    (State.startRecord s f p st).cycles = s.cycles ∧ (State.startRecord s f p st).mem = s.mem := by
  simp -implicitDefEqProofs [State.startRecord]
@[simp] theorem State.leaveHistory_keeps (s : State) (f : Frame) (p : PxParams) (st : Stages) :
    (State.leaveHistory s f p st).pending = s.pending ∧ (State.leaveHistory s f p st).part = s.part ∧
    (State.leaveHistory s f p st).cycles = s.cycles ∧ (State.leaveHistory s f p st).mem = s.mem := by
  simp -implicitDefEqProofs [State.leaveHistory]
@[simp] theorem State.closeHanded_keeps (s : State) (f : Frame) :
    (State.closeHanded s f).pending = s.pending ∧ (State.closeHanded s f).part = s.part ∧
    (State.closeHanded s f).cycles = s.cycles ∧ (State.closeHanded s f).mem = s.mem := by
  simp -implicitDefEqProofs [State.closeHanded]
@[simp] theorem State.reportClose_keeps (s : State) (f : Frame) :
    (State.reportClose s f).pending = s.pending ∧ (State.reportClose s f).part = s.part ∧
    (State.reportClose s f).cycles = s.cycles ∧ (State.reportClose s f).mem = s.mem := by
  simp -implicitDefEqProofs [State.reportClose]
@[simp] theorem State.endInjection_keeps (s : State) (p : Nat) (reason : Nat) :
    (State.endInjection s p reason).pending = s.pending ∧ (State.endInjection s p reason).part = s.part ∧
    (State.endInjection s p reason).cycles = s.cycles ∧ (State.endInjection s p reason).mem = s.mem := by
  simp -implicitDefEqProofs [State.endInjection]
@[simp] theorem State.injectSettle_keeps (s : State) (p : Nat) :
    (State.injectSettle s p).pending = s.pending ∧ (State.injectSettle s p).part = s.part ∧
    (State.injectSettle s p).cycles = s.cycles ∧ (State.injectSettle s p).mem = s.mem := by
  unfold State.injectSettle
  split <;> simp -implicitDefEqProofs
@[simp] theorem State.closeFrame_keeps (s : State) (fid : Nat) :
    (State.closeFrame s fid).pending = s.pending ∧ (State.closeFrame s fid).part = s.part ∧
    (State.closeFrame s fid).cycles = s.cycles ∧ (State.closeFrame s fid).mem = s.mem := by
  unfold State.closeFrame
  split <;> simp -implicitDefEqProofs
@[simp] theorem State.tryClose_keeps (s : State) (fid : Nat) :
    (State.tryClose s fid).pending = s.pending ∧ (State.tryClose s fid).part = s.part ∧
    (State.tryClose s fid).cycles = s.cycles ∧ (State.tryClose s fid).mem = s.mem := by
  unfold State.tryClose
  split <;> simp -implicitDefEqProofs
@[simp] theorem State.handOver_keeps (s : State) (f : Frame) :
    (State.handOver s f).pending = s.pending ∧ (State.handOver s f).part = s.part ∧ (State.handOver s f).cycles = s.cycles ∧
    (State.handOver s f).mem = s.mem := by
  simp -implicitDefEqProofs [State.handOver]
@[simp] theorem State.watchPipes_keeps (s : State) :
    (State.watchPipes s).pending = s.pending ∧ (State.watchPipes s).part = s.part ∧ (State.watchPipes s).cycles = s.cycles ∧
    (State.watchPipes s).mem = s.mem := by
  simp -implicitDefEqProofs [State.watchPipes]
@[simp] theorem fsAccepted_keeps (pipe : Nat) (input : Nat) (s : State) :
    (fsAccepted pipe input s).pending = s.pending ∧ (fsAccepted pipe input s).part = s.part ∧
    (fsAccepted pipe input s).cycles = s.cycles ∧ (fsAccepted pipe input s).mem = s.mem := by
  unfold fsAccepted
  split <;> simp -implicitDefEqProofs
@[simp] theorem lineGroupTake_keeps (pipe : Nat) (s : State) :
    (lineGroupTake pipe s).pending = s.pending ∧ (lineGroupTake pipe s).part = s.part ∧
    (lineGroupTake pipe s).cycles = s.cycles ∧ (lineGroupTake pipe s).mem = s.mem := by
  simp only [lineGroupTake]
  (repeat' split) <;> simp -implicitDefEqProofs
@[simp] theorem lineCreditGain_keeps (port : Nat) (s : State) :
    (lineCreditGain port s).pending = s.pending ∧ (lineCreditGain port s).part = s.part ∧
    (lineCreditGain port s).cycles = s.cycles ∧ (lineCreditGain port s).mem = s.mem := by
  unfold lineCreditGain
  split <;> simp -implicitDefEqProofs
@[simp] theorem State.updExp_keeps (s : State) (port : Nat) (f : ExpSt → ExpSt) :
    (State.updExp s port f).pending = s.pending ∧ (State.updExp s port f).part = s.part ∧
    (State.updExp s port f).cycles = s.cycles ∧ (State.updExp s port f).mem = s.mem := by
  simp -implicitDefEqProofs [State.updExp]
@[simp] theorem State.acknowledge_keeps (s : State) (port : Nat) (c : Change) :
    (State.acknowledge s port c).pending = s.pending ∧ (State.acknowledge s port c).part = s.part ∧
    (State.acknowledge s port c).cycles = s.cycles ∧ (State.acknowledge s port c).mem = s.mem := by
  simp -implicitDefEqProofs [State.acknowledge]
@[simp] theorem State.changeFailed_keeps (s : State) (port : Nat) (c : Change) (reason : Nat) :
    (State.changeFailed s port c reason).pending = s.pending ∧ (State.changeFailed s port c reason).part = s.part ∧
    (State.changeFailed s port c reason).cycles = s.cycles ∧ (State.changeFailed s port c reason).mem = s.mem := by
  simp -implicitDefEqProofs [State.changeFailed]
@[simp] theorem State.changeLost_keeps (s : State) (port : Nat) :
    (State.changeLost s port).pending = s.pending ∧ (State.changeLost s port).part = s.part ∧
    (State.changeLost s port).cycles = s.cycles ∧ (State.changeLost s port).mem = s.mem := by
  unfold State.changeLost
  split <;> simp -implicitDefEqProofs
@[simp] theorem State.clearSensor_keeps (s : State) (port : Nat) (tag : Nat) :
    (State.clearSensor s port tag).pending = s.pending ∧ (State.clearSensor s port tag).part = s.part ∧
    (State.clearSensor s port tag).cycles = s.cycles ∧ (State.clearSensor s port tag).mem = s.mem := by
  simp -implicitDefEqProofs [State.clearSensor]
@[simp] theorem writeAck_keeps (port : Nat) (tag : Nat) (code : Nat) (s : State) :
    (writeAck port tag code s).pending = s.pending ∧ (writeAck port tag code s).part = s.part ∧
    (writeAck port tag code s).cycles = s.cycles ∧ (writeAck port tag code s).mem = s.mem := by
  unfold writeAck State.whenever
  (try simp only [])
  (repeat' split) <;> simp -implicitDefEqProofs
@[simp] theorem readData_keeps (port : Nat) (tag : Nat) (s : State) :
    (readData port tag s).pending = s.pending ∧ (readData port tag s).part = s.part ∧
    (readData port tag s).cycles = s.cycles ∧ (readData port tag s).mem = s.mem := by
  simp -implicitDefEqProofs [readData]
@[simp] theorem State.changeRefused_keeps (s : State) (port : Nat) (tag : Nat) :
    (State.changeRefused s port tag).pending = s.pending ∧ (State.changeRefused s port tag).part = s.part ∧
    (State.changeRefused s port tag).cycles = s.cycles ∧ (State.changeRefused s port tag).mem = s.mem := by
  unfold State.changeRefused
  split <;> simp -implicitDefEqProofs
theorem expApply_tame (port : Nat) (value : Nat) (s : State) : ResTame s (expApply port value s) := by
  unfold expApply
  (repeat' (first | exact .error _ _ | refine .ok ?_ | refine .bind _ _ (fun _ => ?_) | refine .ite _ ?_ ?_ | split)) <;>
      simp -implicitDefEqProofs [State.Tame]
@[simp] theorem State.checkIdle_keeps (s : State) (port : Nat) :
    (State.checkIdle s port).pending = s.pending ∧ (State.checkIdle s port).part = s.part ∧
    (State.checkIdle s port).cycles = s.cycles ∧ (State.checkIdle s port).mem = s.mem := by
  simp -implicitDefEqProofs [State.checkIdle]
theorem expAeMode_tame (port : Nat) (value : Nat) (s : State) : ResTame s (expAeMode port value s) := by
  unfold expAeMode
  (repeat' (first | exact .error _ _ | refine .ok ?_ | refine .bind _ _ (fun _ => ?_) | refine .ite _ ?_ ?_ | split)) <;>
      simp -implicitDefEqProofs [State.Tame]
@[simp] theorem State.aeControl_keeps (s : State) (j : StatJob) :
    (State.aeControl s j).pending = s.pending ∧ (State.aeControl s j).part = s.part ∧
    (State.aeControl s j).cycles = s.cycles ∧ (State.aeControl s j).mem = s.mem := by
  simp only [State.aeControl]
  (repeat' split) <;> simp -implicitDefEqProofs
@[simp] theorem statRecordComplete_keeps (pipe : Nat) (input : Nat) (s : State) :
    (statRecordComplete pipe input s).pending = s.pending ∧ (statRecordComplete pipe input s).part = s.part ∧
    (statRecordComplete pipe input s).cycles = s.cycles ∧ (statRecordComplete pipe input s).mem = s.mem := by
  simp only [statRecordComplete]
  (repeat' split) <;> simp -implicitDefEqProofs
@[simp] theorem State.takeEcho_keeps (s : State) (f : Frame) (payload : Bytes) :
    (State.takeEcho s f payload).pending = s.pending ∧ (State.takeEcho s f payload).part = s.part ∧
    (State.takeEcho s f payload).cycles = s.cycles ∧ (State.takeEcho s f payload).mem = s.mem := by
  simp -implicitDefEqProofs [State.takeEcho]
@[simp] theorem State.echoOver_keeps (s : State) (f : Frame) :
    (State.echoOver s f).pending = s.pending ∧ (State.echoOver s f).part = s.part ∧ (State.echoOver s f).cycles = s.cycles ∧
    (State.echoOver s f).mem = s.mem := by
  simp -implicitDefEqProofs [State.echoOver]
@[simp] theorem State.expPortReset_keeps (s : State) (port : Nat) :
    (State.expPortReset s port).pending = s.pending ∧ (State.expPortReset s port).part = s.part ∧
    (State.expPortReset s port).cycles = s.cycles ∧ (State.expPortReset s port).mem = s.mem := by
  simp -implicitDefEqProofs [State.expPortReset]
@[simp] theorem State.settleOwed_keeps (s : State) (port : Nat) :
    (State.settleOwed s port).pending = s.pending ∧ (State.settleOwed s port).part = s.part ∧
    (State.settleOwed s port).cycles = s.cycles ∧ (State.settleOwed s port).mem = s.mem := by
  simp -implicitDefEqProofs [State.settleOwed]
@[simp] theorem State.dropOwed_keeps (s : State) (port : Nat) :
    (State.dropOwed s port).pending = s.pending ∧ (State.dropOwed s port).part = s.part ∧
    (State.dropOwed s port).cycles = s.cycles ∧ (State.dropOwed s port).mem = s.mem := by
  simp -implicitDefEqProofs [State.dropOwed]
@[simp] theorem expWriteSlot_keeps (port : Nat) (s : State) :
    (expWriteSlot port s).pending = s.pending ∧ (expWriteSlot port s).part = s.part ∧
    (expWriteSlot port s).cycles = s.cycles ∧ (expWriteSlot port s).mem = s.mem := by
  simp only [expWriteSlot]
  (repeat' split) <;> simp -implicitDefEqProofs
@[simp] theorem State.updPort_keeps (s : State) (n : Nat) (f : PortSt → PortSt) :
    (State.updPort s n f).pending = s.pending ∧ (State.updPort s n f).part = s.part ∧
    (State.updPort s n f).cycles = s.cycles ∧ (State.updPort s n f).mem = s.mem := by
  simp -implicitDefEqProofs [State.updPort]
@[simp] theorem State.capRaise_keeps (s : State) (port : Nat) (cause : Nat) (cls : Nat) (d : Bytes) :
    (State.capRaise s port cause cls d).pending = s.pending ∧ (State.capRaise s port cause cls d).part = s.part ∧
    (State.capRaise s port cause cls d).cycles = s.cycles ∧ (State.capRaise s port cause cls d).mem = s.mem := by
  simp -implicitDefEqProofs [State.capRaise]
@[simp] theorem State.triggerUnmatched_keeps (s : State) (port : Nat) :
    (State.triggerUnmatched s port).pending = s.pending ∧ (State.triggerUnmatched s port).part = s.part ∧
    (State.triggerUnmatched s port).cycles = s.cycles ∧ (State.triggerUnmatched s port).mem = s.mem := by
  simp -implicitDefEqProofs [State.triggerUnmatched]
@[simp] theorem State.noteTrigger_keeps (s : State) (port : Nat) (t : Instant) :
    (State.noteTrigger s port t).pending = s.pending ∧ (State.noteTrigger s port t).part = s.part ∧
    (State.noteTrigger s port t).cycles = s.cycles ∧ (State.noteTrigger s port t).mem = s.mem := by
  simp -implicitDefEqProofs [State.noteTrigger]
@[simp] theorem State.captureTime_keeps (s : State) (port : Nat) (stamp : Instant) :
    (State.captureTime s port stamp).1.pending = s.pending ∧ (State.captureTime s port stamp).1.part = s.part ∧
    (State.captureTime s port stamp).1.cycles = s.cycles ∧ (State.captureTime s port stamp).1.mem = s.mem := by
  simp only [State.captureTime]
  (repeat' split) <;> simp -implicitDefEqProofs
@[simp] theorem State.endFrame_keeps (s : State) (f : Frame) (flags : Nat) (reason : Nat) :
    (State.endFrame s f flags reason).pending = s.pending ∧ (State.endFrame s f flags reason).part = s.part ∧
    (State.endFrame s f flags reason).cycles = s.cycles ∧ (State.endFrame s f flags reason).mem = s.mem := by
  simp -implicitDefEqProofs [State.endFrame]
@[simp] theorem State.closeAtEnd_keeps (s : State) (f : Frame) (missing : Bool) :
    (State.closeAtEnd s f missing).pending = s.pending ∧ (State.closeAtEnd s f missing).part = s.part ∧
    (State.closeAtEnd s f missing).cycles = s.cycles ∧ (State.closeAtEnd s f missing).mem = s.mem := by
  simp -implicitDefEqProofs [State.closeAtEnd]
@[simp] theorem State.dropFrame_keeps (s : State) (f : Frame) (reason : Nat) :
    (State.dropFrame s f reason).pending = s.pending ∧ (State.dropFrame s f reason).part = s.part ∧
    (State.dropFrame s f reason).cycles = s.cycles ∧ (State.dropFrame s f reason).mem = s.mem := by
  simp -implicitDefEqProofs [State.dropFrame]
@[simp] theorem State.overflow_keeps (s : State) (f : Frame) (line : Nat) :
    (State.overflow s f line).pending = s.pending ∧ (State.overflow s f line).part = s.part ∧
    (State.overflow s f line).cycles = s.cycles ∧ (State.overflow s f line).mem = s.mem := by
  simp -implicitDefEqProofs [State.overflow]
@[simp] theorem State.cutFrame_keeps (s : State) (f : Frame) (reason : Nat) :
    (State.cutFrame s f reason).pending = s.pending ∧ (State.cutFrame s f reason).part = s.part ∧
    (State.cutFrame s f reason).cycles = s.cycles ∧ (State.cutFrame s f reason).mem = s.mem := by
  simp -implicitDefEqProofs [State.cutFrame]
@[simp] theorem State.acceptFs_keeps (s : State) (port : Nat) (sframe : Nat) (stamp : Instant) :
    (State.acceptFs s port sframe stamp).pending = s.pending ∧ (State.acceptFs s port sframe stamp).part = s.part ∧
    (State.acceptFs s port sframe stamp).cycles = s.cycles ∧ (State.acceptFs s port sframe stamp).mem = s.mem := by
  simp only [State.acceptFs]
  (repeat' split) <;> simp -implicitDefEqProofs
@[simp] theorem State.noteArrival_keeps (s : State) (port : Nat) (stamp : Instant) :
    (State.noteArrival s port stamp).pending = s.pending ∧ (State.noteArrival s port stamp).part = s.part ∧
    (State.noteArrival s port stamp).cycles = s.cycles ∧ (State.noteArrival s port stamp).mem = s.mem := by
  simp -implicitDefEqProofs [State.noteArrival]
@[simp] theorem State.onPacket_pending (s : State) (port : Nat) (start : Byte) (x : Line) (f : Body → Bytes → State → State)
    (h : ∀ a b t, (f a b t).pending = t.pending) :
    (s.onPacket port start x f).pending = s.pending := by
  unfold State.onPacket
  refine State.whenever_pending _ _ _ fun t => State.onLine_pending _ _ _ _ fun u => ?_
  have k := State.receiveLine_keeps u (.camera port) start x
  split
  · next e => rw [e] at k; simpa using k.1
  · next e =>
    rw [e] at k
    have k1 := k.1
    simpa [h] using k1
@[simp] theorem State.onPacket_part (s : State) (port : Nat) (start : Byte) (x : Line) (f : Body → Bytes → State → State) (h
    : ∀ a b t, (f a b t).part = t.part) :
    (s.onPacket port start x f).part = s.part := by
  unfold State.onPacket
  refine State.whenever_part _ _ _ fun t => State.onLine_part _ _ _ _ fun u => ?_
  have k := State.receiveLine_keeps u (.camera port) start x
  split
  · next e => rw [e] at k; simpa using k.2.1
  · next e =>
    rw [e] at k
    have k1 := k.2.1
    simpa [h] using k1
@[simp] theorem State.onPacket_cycles (s : State) (port : Nat) (start : Byte) (x : Line) (f : Body → Bytes → State → State)
    (h : ∀ a b t, (f a b t).cycles = t.cycles) :
    (s.onPacket port start x f).cycles = s.cycles := by
  unfold State.onPacket
  refine State.whenever_cycles _ _ _ fun t => State.onLine_cycles _ _ _ _ fun u => ?_
  have k := State.receiveLine_keeps u (.camera port) start x
  split
  · next e => rw [e] at k; simpa using k.2.2.1
  · next e =>
    rw [e] at k
    have k1 := k.2.2.1
    simpa [h] using k1
@[simp] theorem State.onPacket_mem (s : State) (port : Nat) (start : Byte) (x : Line) (f : Body → Bytes → State → State) (h :
    ∀ a b t, (f a b t).mem = t.mem) :
    (s.onPacket port start x f).mem = s.mem := by
  unfold State.onPacket
  refine State.whenever_mem _ _ _ fun t => State.onLine_mem _ _ _ _ fun u => ?_
  have k := State.receiveLine_keeps u (.camera port) start x
  split
  · next e => rw [e] at k; simpa using k.2.2.2
  · next e =>
    rw [e] at k
    have k1 := k.2.2.2
    simpa [h] using k1
@[simp] theorem fsReceived_keeps (port : Nat) (b : Bytes) (s : State) :
    (fsReceived port b s).pending = s.pending ∧ (fsReceived port b s).part = s.part ∧
    (fsReceived port b s).cycles = s.cycles ∧ (fsReceived port b s).mem = s.mem := by
  unfold fsReceived
  split <;> simp -implicitDefEqProofs
@[simp] theorem fsArrival_keeps (port : Nat) (x : Line) (s : State) :
    (fsArrival port x s).pending = s.pending ∧ (fsArrival port x s).part = s.part ∧ (fsArrival port x s).cycles = s.cycles ∧
    (fsArrival port x s).mem = s.mem := by
  simp -implicitDefEqProofs [fsArrival]
@[simp] theorem State.storeLine_keeps (s : State) (f : Frame) (exp : Nat) (line : Nat) (payload : Bytes) (good : Bool) :
    (State.storeLine s f exp line payload good).pending = s.pending ∧
    (State.storeLine s f exp line payload good).part = s.part ∧
    (State.storeLine s f exp line payload good).cycles = s.cycles ∧
    (State.storeLine s f exp line payload good).mem = s.mem := by
  simp -implicitDefEqProofs [State.storeLine]
@[simp] theorem State.repairLine_keeps (s : State) (fid : Nat) (exp : Nat) (line : Nat) (seen : Nat) :
    (State.repairLine s fid exp line seen).1.pending = s.pending ∧ (State.repairLine s fid exp line seen).1.part = s.part ∧
    (State.repairLine s fid exp line seen).1.cycles = s.cycles ∧ (State.repairLine s fid exp line seen).1.mem = s.mem := by
  unfold State.repairLine
  (repeat' split) <;> simp -implicitDefEqProofs
@[simp] theorem State.repairLines_keeps (fid exp seen n line : Nat) (s : State) :
    (State.repairLines fid exp seen n line s).1.pending = s.pending ∧
    (State.repairLines fid exp seen n line s).1.part = s.part ∧
    (State.repairLines fid exp seen n line s).1.cycles = s.cycles ∧
    (State.repairLines fid exp seen n line s).1.mem = s.mem := by
  induction n generalizing line s with
  | zero => simp [State.repairLines]
  | succ n ih =>
    unfold State.repairLines
    simp only []
    split <;> simp [ih]
@[simp] theorem State.discardPacket_keeps (s : State) (port : Nat) :
    (State.discardPacket s port).pending = s.pending ∧ (State.discardPacket s port).part = s.part ∧
    (State.discardPacket s port).cycles = s.cycles ∧ (State.discardPacket s port).mem = s.mem := by
  simp -implicitDefEqProofs [State.discardPacket]
@[simp] theorem State.takeLine_keeps (s : State) (f : Frame) (x : Body) (b : Bytes) :
    (State.takeLine s f x b).pending = s.pending ∧ (State.takeLine s f x b).part = s.part ∧
    (State.takeLine s f x b).cycles = s.cycles ∧ (State.takeLine s f x b).mem = s.mem := by
  simp -implicitDefEqProofs [State.takeLine]
@[simp] theorem lineReceived_keeps (port : Nat) (x : Body) (b : Bytes) (s : State) :
    (lineReceived port x b s).pending = s.pending ∧ (lineReceived port x b s).part = s.part ∧
    (lineReceived port x b s).cycles = s.cycles ∧ (lineReceived port x b s).mem = s.mem := by
  simp only [lineReceived]
  (repeat' split) <;> simp -implicitDefEqProofs
@[simp] theorem linePacket_keeps (port : Nat) (x : Line) (s : State) :
    (linePacket port x s).pending = s.pending ∧ (linePacket port x s).part = s.part ∧
    (linePacket port x s).cycles = s.cycles ∧ (linePacket port x s).mem = s.mem := by
  simp -implicitDefEqProofs [linePacket]
@[simp] theorem embeddedReceived_keeps (port : Nat) (x : Body) (b : Bytes) (s : State) :
    (embeddedReceived port x b s).pending = s.pending ∧ (embeddedReceived port x b s).part = s.part ∧
    (embeddedReceived port x b s).cycles = s.cycles ∧ (embeddedReceived port x b s).mem = s.mem := by
  unfold embeddedReceived
  split <;> simp -implicitDefEqProofs
@[simp] theorem embeddedPacket_keeps (port : Nat) (x : Line) (s : State) :
    (embeddedPacket port x s).pending = s.pending ∧ (embeddedPacket port x s).part = s.part ∧
    (embeddedPacket port x s).cycles = s.cycles ∧ (embeddedPacket port x s).mem = s.mem := by
  simp -implicitDefEqProofs [embeddedPacket]
@[simp] theorem feReceived_keeps (port : Nat) (b : Bytes) (s : State) :
    (feReceived port b s).pending = s.pending ∧ (feReceived port b s).part = s.part ∧
    (feReceived port b s).cycles = s.cycles ∧ (feReceived port b s).mem = s.mem := by
  unfold feReceived State.whenever
  (try simp only [])
  (repeat' split) <;> simp -implicitDefEqProofs
@[simp] theorem fePacket_keeps (port : Nat) (x : Line) (s : State) :
    (fePacket port x s).pending = s.pending ∧ (fePacket port x s).part = s.part ∧ (fePacket port x s).cycles = s.cycles ∧
    (fePacket port x s).mem = s.mem := by
  simp -implicitDefEqProofs [fePacket]
@[simp] theorem feWatchdog_keeps (port : Nat) (s : State) :
    (feWatchdog port s).pending = s.pending ∧ (feWatchdog port s).part = s.part ∧ (feWatchdog port s).cycles = s.cycles ∧
    (feWatchdog port s).mem = s.mem := by
  unfold feWatchdog
  split <;> simp -implicitDefEqProofs
@[simp] theorem cadenceMiss_keeps (port : Nat) (s : State) :
    (cadenceMiss port s).pending = s.pending ∧ (cadenceMiss port s).part = s.part ∧ (cadenceMiss port s).cycles = s.cycles ∧
    (cadenceMiss port s).mem = s.mem := by
  unfold cadenceMiss
  split <;> simp -implicitDefEqProofs
@[simp] theorem State.portLeft_keeps (s : State) (port : Nat) :
    (State.portLeft s port).pending = s.pending ∧ (State.portLeft s port).part = s.part ∧
    (State.portLeft s port).cycles = s.cycles ∧ (State.portLeft s port).mem = s.mem := by
  simp only [State.portLeft]
  (repeat' split) <;> simp -implicitDefEqProofs
@[simp] theorem State.inputCleared_keeps (s : State) (pipe : Nat) (k : Nat) :
    (State.inputCleared s pipe k).pending = s.pending ∧ (State.inputCleared s pipe k).part = s.part ∧
    (State.inputCleared s pipe k).cycles = s.cycles ∧ (State.inputCleared s pipe k).mem = s.mem := by
  simp -implicitDefEqProofs [State.inputCleared]
@[simp] theorem State.portReset_keeps (s : State) (port : Nat) :
    (State.portReset s port).pending = s.pending ∧ (State.portReset s port).part = s.part ∧
    (State.portReset s port).cycles = s.cycles ∧ (State.portReset s port).mem = s.mem := by
  simp only [State.portReset]
  (repeat' split) <;> simp -implicitDefEqProofs
@[simp] theorem State.updNx_keeps (s : State) (n : Nat) (f : NxPort → NxPort) :
    (State.updNx s n f).pending = s.pending ∧ (State.updNx s n f).part = s.part ∧ (State.updNx s n f).cycles = s.cycles ∧
    (State.updNx s n f).mem = s.mem := by
  simp -implicitDefEqProofs [State.updNx]
@[simp] theorem State.nxDrop_keeps (s : State) (n : Nat) :
    (State.nxDrop s n).pending = s.pending ∧ (State.nxDrop s n).part = s.part ∧ (State.nxDrop s n).cycles = s.cycles ∧
    (State.nxDrop s n).mem = s.mem := by
  simp -implicitDefEqProofs [State.nxDrop]
@[simp] theorem State.nxLearn_keeps (s : State) (p : Nat) (vid : Nat) (mac : Nat) :
    (State.nxLearn s p vid mac).pending = s.pending ∧ (State.nxLearn s p vid mac).part = s.part ∧
    (State.nxLearn s p vid mac).cycles = s.cycles ∧ (State.nxLearn s p vid mac).mem = s.mem := by
  simp -implicitDefEqProofs [State.nxLearn]
@[simp] theorem State.ageOut_keeps (s : State) :
    (State.ageOut s).pending = s.pending ∧ (State.ageOut s).part = s.part ∧ (State.ageOut s).cycles = s.cycles ∧
    (State.ageOut s).mem = s.mem := by
  simp -implicitDefEqProofs [State.ageOut]
@[simp] theorem addressAging_keeps (vid : Nat) (mac : Nat) (s : State) :
    (addressAging vid mac s).pending = s.pending ∧ (addressAging vid mac s).part = s.part ∧
    (addressAging vid mac s).cycles = s.cycles ∧ (addressAging vid mac s).mem = s.mem := by
  simp -implicitDefEqProofs [addressAging]
@[simp] theorem State.updFlow_keeps (s : State) (f : Nat) (g : Flow → Flow) :
    (State.updFlow s f g).pending = s.pending ∧ (State.updFlow s f g).part = s.part ∧
    (State.updFlow s f g).cycles = s.cycles ∧ (State.updFlow s f g).mem = s.mem := by
  simp -implicitDefEqProofs [State.updFlow]
@[simp] theorem State.flowAccess_keeps (s : State) :
    (State.flowAccess s).pending = s.pending ∧ (State.flowAccess s).part = s.part ∧ (State.flowAccess s).cycles = s.cycles ∧
    (State.flowAccess s).mem = s.mem := by
  simp -implicitDefEqProofs [State.flowAccess]
@[simp] theorem State.nxEnqueue_keeps (s : State) (n : Nat) (x : NxParsed) :
    (State.nxEnqueue s n x).pending = s.pending ∧ (State.nxEnqueue s n x).part = s.part ∧
    (State.nxEnqueue s n x).cycles = s.cycles ∧ (State.nxEnqueue s n x).mem = s.mem := by
  simp -implicitDefEqProofs [State.nxEnqueue]
@[simp] theorem State.nxOffer_keeps (s : State) (n : Nat) (x : NxParsed) :
    (State.nxOffer s n x).pending = s.pending ∧ (State.nxOffer s n x).part = s.part ∧
    (State.nxOffer s n x).cycles = s.cycles ∧ (State.nxOffer s n x).mem = s.mem := by
  simp -implicitDefEqProofs [State.nxOffer]
@[simp] theorem State.trapPtp_keeps (s : State) (p : Nat) (frame : Bytes) :
    (State.trapPtp s p frame).pending = s.pending ∧ (State.trapPtp s p frame).part = s.part ∧
    (State.trapPtp s p frame).cycles = s.cycles ∧ (State.trapPtp s p frame).mem = s.mem := by
  unfold State.trapPtp
  (repeat' split) <;> simp -implicitDefEqProofs
@[simp] theorem State.nxForward_keeps (s : State) (p : Nat) (b : Bytes) :
    (State.nxForward s p b).1.pending = s.pending ∧ (State.nxForward s p b).1.part = s.part ∧
    (State.nxForward s p b).1.cycles = s.cycles ∧ (State.nxForward s p b).1.mem = s.mem := by
  simp only [State.nxForward]
  (repeat' split) <;> simp -implicitDefEqProofs
@[simp] theorem ethFrameReceive_keeps (p : Nat) (frame : Bytes) (s : State) :
    (ethFrameReceive p frame s).pending = s.pending ∧ (ethFrameReceive p frame s).part = s.part ∧
    (ethFrameReceive p frame s).cycles = s.cycles ∧ (ethFrameReceive p frame s).mem = s.mem := by
  simp -implicitDefEqProofs [ethFrameReceive]
@[simp] theorem ptpRelayDatagram_keeps (src : Source) (data : Bytes) (s : State) :
    (ptpRelayDatagram src data s).pending = s.pending ∧ (ptpRelayDatagram src data s).part = s.part ∧
    (ptpRelayDatagram src data s).cycles = s.cycles ∧ (ptpRelayDatagram src data s).mem = s.mem := by
  simp -implicitDefEqProofs [ptpRelayDatagram]
theorem gateConfigChange_tame (n : Nat) (s : State) : ResTame s (gateConfigChange n s) := by
  unfold gateConfigChange
  (repeat' (first | exact .error _ _ | refine .ok ?_ | refine .bind _ _ (fun _ => ?_) | refine .ite _ ?_ ?_ | split)) <;>
      simp -implicitDefEqProofs [State.Tame]
@[simp] theorem gateChangeInstant_keeps (n : Nat) (s : State) :
    (gateChangeInstant n s).pending = s.pending ∧ (gateChangeInstant n s).part = s.part ∧
    (gateChangeInstant n s).cycles = s.cycles ∧ (gateChangeInstant n s).mem = s.mem := by
  unfold gateChangeInstant
  split <;> simp -implicitDefEqProofs
@[simp] theorem State.preemptSettle_keeps (s : State) (n : Nat) :
    (State.preemptSettle s n).pending = s.pending ∧ (State.preemptSettle s n).part = s.part ∧
    (State.preemptSettle s n).cycles = s.cycles ∧ (State.preemptSettle s n).mem = s.mem := by
  simp -implicitDefEqProofs [State.preemptSettle]
@[simp] theorem preemptVerify_keeps (n : Nat) (ok : Bool) (s : State) :
    (preemptVerify n ok s).pending = s.pending ∧ (preemptVerify n ok s).part = s.part ∧
    (preemptVerify n ok s).cycles = s.cycles ∧ (preemptVerify n ok s).mem = s.mem := by
  simp -implicitDefEqProofs [preemptVerify]
@[simp] theorem State.preempt_keeps (s : State) (n : Nat) :
    (State.preempt s n).pending = s.pending ∧ (State.preempt s n).part = s.part ∧ (State.preempt s n).cycles = s.cycles ∧
    (State.preempt s n).mem = s.mem := by
  unfold State.preempt
  split <;> simp -implicitDefEqProofs
@[simp] theorem gateIntervalEnd_keeps (n : Nat) (s : State) :
    (gateIntervalEnd n s).pending = s.pending ∧ (gateIntervalEnd n s).part = s.part ∧
    (gateIntervalEnd n s).cycles = s.cycles ∧ (gateIntervalEnd n s).mem = s.mem := by
  unfold gateIntervalEnd
  split <;> simp -implicitDefEqProofs
theorem serveFlows_keeps (n k : Nat) (s : State) (r : NxFrame × State) (h : serveFlows n k s = some r) :
    (r.2).pending = s.pending ∧ (r.2).part = s.part ∧ (r.2).cycles = s.cycles ∧ (r.2).mem = s.mem := by
  induction k generalizing s with
  | zero => simp [serveFlows] at h
  | succ k ih =>
    unfold serveFlows at h
    split at h
    · simp at h
    · next f r heq =>
      have hu : ∀ u : State, u = (if (s.flowAccess.flow f).fresh then
            s.flowAccess.updFlow f fun w =>
              { w with deficit := w.deficit + 64 * leAt (s.flowAccess.dom Key.nxFlowWeight) f 1, fresh := false }
          else s.flowAccess) → (u).pending = s.pending ∧ (u).part = s.part ∧ (u).cycles = s.cycles ∧ (u).mem = s.mem := by
        intro u hu; subst hu; split <;> simp
      simp only [] at h
      generalize hg : (if (s.flowAccess.flow f).fresh = true then _ else _) = u at h
      have hk := hu u hg.symm
      split at h
      · have := ih _ h
        simpa [hk] using this
      · split at h
        · simp only [Option.some.injEq] at h
          subst h
          simp [hk]
        · have := ih _ h
          simpa [hk] using this
theorem State.classHead_keeps (s : State) (n c : Nat) (r : NxFrame × State) (h : s.classHead n c = some r) :
    (r.2).pending = s.pending ∧ (r.2).part = s.part ∧ (r.2).cycles = s.cycles ∧ (r.2).mem = s.mem := by
  unfold State.classHead at h
  split at h
  · exact serveFlows_keeps _ _ _ _ h
  · split at h
    · simp at h
    · simp only [Option.some.injEq] at h
      subst h
      simp
theorem State.nxPick_keeps (s : State) (n c : Nat) (r : NxFrame × State) (h : s.nxPick n = some (c, some r)) :
    (r.2).pending = s.pending ∧ (r.2).part = s.part ∧ (r.2).cycles = s.cycles ∧ (r.2).mem = s.mem := by
  unfold State.nxPick at h
  obtain ⟨c', -, hc⟩ := List.exists_of_findSome?_eq_some h
  have k : ∀ c, s.startable n c = some r → (r.2).pending = s.pending ∧ (r.2).part = s.part ∧ (r.2).cycles = s.cycles ∧
    (r.2).mem = s.mem := by
    intro c hs
    unfold State.startable at hs
    split at hs
    · simp at hs
    · next f t he =>
      split at hs
      · simp only [Option.some.injEq] at hs
        subst hs
        exact State.classHead_keeps _ _ _ _ he
      · simp at hs
  split at hc
  · split at hc
    · split at hc <;> simp at hc
    · split at hc
      · simp at hc
      · simp only [Option.map_eq_some_iff, Prod.mk.injEq, Option.some.injEq] at hc
        obtain ⟨a, ha, -, rfl⟩ := hc
        exact k _ ha
  · simp only [Option.map_eq_some_iff, Prod.mk.injEq, Option.some.injEq] at hc
    obtain ⟨a, ha, -, rfl⟩ := hc
    exact k _ ha
@[simp] theorem State.unsent_keeps (s : State) (n c : Nat) (f : NxFrame) :
    (s.unsent n c f).pending = s.pending ∧ (s.unsent n c f).part = s.part ∧ (s.unsent n c f).cycles = s.cycles ∧
    (s.unsent n c f).mem = s.mem := by
  unfold State.unsent
  split
  · split <;> simp -implicitDefEqProofs
  · simp
@[simp] theorem State.discardTooBig_keeps (s : State) (n c : Nat) :
    (s.discardTooBig n c).pending = s.pending ∧ (s.discardTooBig n c).part = s.part ∧
    (s.discardTooBig n c).cycles = s.cycles ∧ (s.discardTooBig n c).mem = s.mem := by
  unfold State.discardTooBig
  split
  · simp
  · next f t h =>
    have := State.classHead_keeps _ _ _ _ h
    simp only [] at this ⊢
    split <;> simp [this]
@[simp] theorem State.nxSend_keeps (s : State) (n : Nat) (f : NxFrame) :
    (State.nxSend s n f).pending = s.pending ∧ (State.nxSend s n f).part = s.part ∧ (State.nxSend s n f).cycles = s.cycles ∧
    (State.nxSend s n f).mem = s.mem := by
  simp -implicitDefEqProofs [State.nxSend]
@[simp] theorem State.tunnelFrame_keeps (s : State) (f : NxFrame) :
    (State.tunnelFrame s f).pending = s.pending ∧ (State.tunnelFrame s f).part = s.part ∧
    (State.tunnelFrame s f).cycles = s.cycles ∧ (State.tunnelFrame s f).mem = s.mem := by
  simp -implicitDefEqProofs [State.tunnelFrame]
@[simp] theorem ethEgressSelect_keeps (n : Nat) (s : State) :
    (ethEgressSelect n s).pending = s.pending ∧ (ethEgressSelect n s).part = s.part ∧
    (ethEgressSelect n s).cycles = s.cycles ∧ (ethEgressSelect n s).mem = s.mem := by
  have h : (ethEgressSelect n s).kept = s.kept := by
    unfold ethEgressSelect State.whenever
    split
    · simp only []
      split
      · split <;> simp [State.kept]
      · generalize hu : (List.range 8).foldl (fun st c => st.discardTooBig n c) s = u
        have hk : (u).pending = s.pending ∧ (u).part = s.part ∧ (u).cycles = s.cycles ∧
        (u).mem = s.mem := by subst hu; simp -implicitDefEqProofs
        split
        · simp [State.kept, hk]
        · simp [State.kept, hk]
        · rename_i hp
          have ht := State.nxPick_keeps _ _ _ _ hp
          simp only [hk] at ht
          (repeat' split) <;> simp [State.kept, hk, ht]
    · rfl
  simpa [State.kept] using h
@[simp] theorem evFrameAccept_keeps (s : State) :
    (evFrameAccept s).pending = s.pending ∧ (evFrameAccept s).part = s.part ∧ (evFrameAccept s).cycles = s.cycles ∧
    (evFrameAccept s).mem = s.mem := by
  unfold evFrameAccept
  split <;> simp -implicitDefEqProofs
@[simp] theorem State.nxPortDown_keeps (s : State) (n : Nat) :
    (State.nxPortDown s n).pending = s.pending ∧ (State.nxPortDown s n).part = s.part ∧
    (State.nxPortDown s n).cycles = s.cycles ∧ (State.nxPortDown s n).mem = s.mem := by
  simp -implicitDefEqProofs [State.nxPortDown]
@[simp] theorem ethLaneStateChange_keeps (n : Nat) (active : Bool) (s : State) :
    (ethLaneStateChange n active s).pending = s.pending ∧ (ethLaneStateChange n active s).part = s.part ∧
    (ethLaneStateChange n active s).cycles = s.cycles ∧ (ethLaneStateChange n active s).mem = s.mem := by
  simp -implicitDefEqProofs [ethLaneStateChange]
@[simp] theorem State.flowLost_keeps (s : State) (f : Nat) :
    (State.flowLost s f).pending = s.pending ∧ (State.flowLost s f).part = s.part ∧ (State.flowLost s f).cycles = s.cycles ∧
    (State.flowLost s f).mem = s.mem := by
  simp -implicitDefEqProofs [State.flowLost]
@[simp] theorem State.memWrite_keeps (s : State) (addr : Nat) (b : Bytes) :
    (State.memWrite s addr b).pending = s.pending ∧ (State.memWrite s addr b).part = s.part ∧
    (State.memWrite s addr b).cycles = s.cycles := by
  simp -implicitDefEqProofs [State.memWrite]
@[simp] theorem State.memWrite_wf (s : State) (addr : Nat) (b : Bytes) (hw : Memory.wf s.mem = true) :
    Memory.wf (State.memWrite s addr b).mem = true := by
  simp -implicitDefEqProofs [State.memWrite, hw]
@[simp] theorem State.poisonWord_keeps (s : State) (addr : Nat) :
    (State.poisonWord s addr).pending = s.pending ∧ (State.poisonWord s addr).part = s.part ∧
    (State.poisonWord s addr).cycles = s.cycles ∧ (State.poisonWord s addr).mem = s.mem := by
  simp -implicitDefEqProofs [State.poisonWord]
@[simp] theorem State.spoilWord_keeps (s : State) (addr : Nat) :
    (State.spoilWord s addr).pending = s.pending ∧ (State.spoilWord s addr).part = s.part ∧
    (State.spoilWord s addr).cycles = s.cycles := by
  simp -implicitDefEqProofs [State.spoilWord]
@[simp] theorem State.spoilWord_wf (s : State) (addr : Nat) (hw : Memory.wf s.mem = true) :
    Memory.wf (State.spoilWord s addr).mem = true := by
  unfold State.spoilWord
  (repeat' split) <;> simp -implicitDefEqProofs [*]
@[simp] theorem State.noteCorrected_keeps (s : State) (m : Nat) (addr : Nat) :
    (State.noteCorrected s m addr).pending = s.pending ∧ (State.noteCorrected s m addr).part = s.part ∧
    (State.noteCorrected s m addr).cycles = s.cycles ∧ (State.noteCorrected s m addr).mem = s.mem := by
  simp -implicitDefEqProofs [State.noteCorrected]
@[simp] theorem State.noteUncorrected_keeps (s : State) (m : Nat) (addr : Nat) :
    (State.noteUncorrected s m addr).pending = s.pending ∧ (State.noteUncorrected s m addr).part = s.part ∧
    (State.noteUncorrected s m addr).cycles = s.cycles ∧ (State.noteUncorrected s m addr).mem = s.mem := by
  simp -implicitDefEqProofs [State.noteUncorrected]
@[simp] theorem State.holderOf_keeps (s : State) (addr : Nat) (n : Nat) :
    (State.holderOf s addr n).2.pending = s.pending ∧ (State.holderOf s addr n).2.part = s.part ∧
    (State.holderOf s addr n).2.cycles = s.cycles ∧ (State.holderOf s addr n).2.mem = s.mem := by
  simp -implicitDefEqProofs [State.holderOf]
@[simp] theorem State.poisonHub_keeps (s : State) (hub : Nat) (addr : Nat) :
    (State.poisonHub s hub addr).pending = s.pending ∧ (State.poisonHub s hub addr).part = s.part ∧
    (State.poisonHub s hub addr).cycles = s.cycles ∧ (State.poisonHub s hub addr).mem = s.mem := by
  simp only [State.poisonHub]
  (repeat' split) <;> simp -implicitDefEqProofs
@[simp] theorem State.poisonQueue_keeps (s : State) (addr : Nat) :
    (State.poisonQueue s addr).pending = s.pending ∧ (State.poisonQueue s addr).part = s.part ∧
    (State.poisonQueue s addr).cycles = s.cycles ∧ (State.poisonQueue s addr).mem = s.mem := by
  simp only [State.poisonQueue]
  (repeat' split) <;> simp -implicitDefEqProofs
@[simp] theorem State.poisonClassQueue_keeps (s : State) (addr : Nat) :
    (State.poisonClassQueue s addr).pending = s.pending ∧ (State.poisonClassQueue s addr).part = s.part ∧
    (State.poisonClassQueue s addr).cycles = s.cycles ∧ (State.poisonClassQueue s addr).mem = s.mem := by
  simp only [State.poisonClassQueue]
  (repeat' split) <;> simp -implicitDefEqProofs
@[simp] theorem State.poisonStore_keeps (s : State) (addr : Nat) :
    (State.poisonStore s addr).pending = s.pending ∧ (State.poisonStore s addr).part = s.part ∧
    (State.poisonStore s addr).cycles = s.cycles ∧ (State.poisonStore s addr).mem = s.mem := by
  simp only [State.poisonStore]
  (repeat' split) <;> simp -implicitDefEqProofs
@[simp] theorem State.poisonAt_keeps (s : State) (m : Nat) (addr : Nat) :
    (State.poisonAt s m addr).pending = s.pending ∧ (State.poisonAt s m addr).part = s.part ∧
    (State.poisonAt s m addr).cycles = s.cycles := by
  simp -implicitDefEqProofs [State.poisonAt]
@[simp] theorem State.poisonAt_wf (s : State) (m : Nat) (addr : Nat) (hw : Memory.wf s.mem = true) :
    Memory.wf (State.poisonAt s m addr).mem = true := by
  unfold State.poisonAt
  simp only []
  (repeat' split) <;> simp -implicitDefEqProofs [*]
@[simp] theorem State.chGo_keeps (s : State) (e : Nat) (ch : Nat) (st : Nat) :
    (State.chGo s e ch st).pending = s.pending ∧ (State.chGo s e ch st).part = s.part ∧
    (State.chGo s e ch st).cycles = s.cycles ∧ (State.chGo s e ch st).mem = s.mem := by
  simp -implicitDefEqProofs [State.chGo]
@[simp] theorem State.updXfer_keeps (s : State) (e : Nat) (ch : Nat) (f : Xfer → Xfer) :
    (State.updXfer s e ch f).pending = s.pending ∧ (State.updXfer s e ch f).part = s.part ∧
    (State.updXfer s e ch f).cycles = s.cycles ∧ (State.updXfer s e ch f).mem = s.mem := by
  simp -implicitDefEqProofs [State.updXfer]
@[simp] theorem State.dropXfer_keeps (s : State) (e : Nat) (ch : Nat) :
    (State.dropXfer s e ch).pending = s.pending ∧ (State.dropXfer s e ch).part = s.part ∧
    (State.dropXfer s e ch).cycles = s.cycles ∧ (State.dropXfer s e ch).mem = s.mem := by
  simp -implicitDefEqProofs [State.dropXfer]
@[simp] theorem State.updEng_keeps (s : State) (e : Nat) (f : DmaEngine → DmaEngine) :
    (State.updEng s e f).pending = s.pending ∧ (State.updEng s e f).part = s.part ∧ (State.updEng s e f).cycles = s.cycles ∧
    (State.updEng s e f).mem = s.mem := by
  simp -implicitDefEqProofs [State.updEng]
@[simp] theorem State.startChannel_keeps (s : State) (e : Nat) (ch : Nat) :
    (State.startChannel s e ch).pending = s.pending ∧ (State.startChannel s e ch).part = s.part ∧
    (State.startChannel s e ch).cycles = s.cycles ∧ (State.startChannel s e ch).mem = s.mem := by
  simp -implicitDefEqProofs [State.startChannel]
theorem dmaStart_tame (e : Nat) (ch : Nat) (s : State) : ResTame s (dmaStart e ch s) := by
  unfold dmaStart
  (repeat' (first | exact .error _ _ | refine .ok ?_ | refine .bind _ _ (fun _ => ?_) | refine .ite _ ?_ ?_ | split)) <;>
      simp -implicitDefEqProofs [State.Tame]
@[simp] theorem State.fireStart_keeps (s : State) (e : Nat) (ch : Nat) :
    (State.fireStart s e ch).pending = s.pending ∧ (State.fireStart s e ch).part = s.part ∧
    (State.fireStart s e ch).cycles = s.cycles ∧ (State.fireStart s e ch).mem = s.mem := by
  unfold State.fireStart
  split <;> simp -implicitDefEqProofs
@[simp] theorem State.landedSync_keeps (s : State) (e : Nat) :
    (State.landedSync s e).pending = s.pending ∧ (State.landedSync s e).part = s.part ∧
    (State.landedSync s e).cycles = s.cycles ∧ (State.landedSync s e).mem = s.mem := by
  simp -implicitDefEqProofs [State.landedSync]
@[simp] theorem State.ringAppend_keeps (s : State) (e : Nat) (seq : Nat) (rec : Bytes) :
    (State.ringAppend s e seq rec).pending = s.pending ∧ (State.ringAppend s e seq rec).part = s.part ∧
    (State.ringAppend s e seq rec).cycles = s.cycles := by
  simp -implicitDefEqProofs [State.ringAppend]
@[simp] theorem State.ringAppend_wf (s : State) (e : Nat) (seq : Nat) (rec : Bytes) (hw : Memory.wf s.mem = true) :
    Memory.wf (State.ringAppend s e seq rec).mem = true := by
  unfold State.ringAppend
  simp only []
  (repeat' split) <;> simp -implicitDefEqProofs [*]
@[simp] theorem State.dmaEvent_keeps (s : State) (e : Nat) (ch : Nat) (seq : Nat) (status : Nat) :
    (State.dmaEvent s e ch seq status).pending = s.pending ∧ (State.dmaEvent s e ch seq status).part = s.part ∧
    (State.dmaEvent s e ch seq status).cycles = s.cycles ∧ (State.dmaEvent s e ch seq status).mem = s.mem := by
  simp -implicitDefEqProofs [State.dmaEvent]
@[simp] theorem State.dmaEnd_keeps (s : State) (e : Nat) (ch : Nat) (status : Nat) (landed : Bool) :
    (State.dmaEnd s e ch status landed).pending = s.pending ∧ (State.dmaEnd s e ch status landed).part = s.part ∧
    (State.dmaEnd s e ch status landed).cycles = s.cycles := by
  simp -implicitDefEqProofs [State.dmaEnd]
@[simp] theorem State.dmaEnd_wf (s : State) (e : Nat) (ch : Nat) (status : Nat) (landed : Bool) (hw : Memory.wf s.mem = true)
    :
    Memory.wf (State.dmaEnd s e ch status landed).mem = true := by
  unfold State.dmaEnd
  simp only []
  (repeat' split) <;> simp -implicitDefEqProofs [*]
@[simp] theorem State.dmaIdleNow_keeps (s : State) (e : Nat) (ch : Nat) :
    (State.dmaIdleNow s e ch).pending = s.pending ∧ (State.dmaIdleNow s e ch).part = s.part ∧
    (State.dmaIdleNow s e ch).cycles = s.cycles ∧ (State.dmaIdleNow s e ch).mem = s.mem := by
  simp -implicitDefEqProofs [State.dmaIdleNow]
@[simp] theorem State.enterLanding_keeps (s : State) (e : Nat) (ch : Nat) :
    (State.enterLanding s e ch).pending = s.pending ∧ (State.enterLanding s e ch).part = s.part ∧
    (State.enterLanding s e ch).cycles = s.cycles := by
  simp -implicitDefEqProofs [State.enterLanding]
@[simp] theorem State.enterLanding_wf (s : State) (e : Nat) (ch : Nat) (hw : Memory.wf s.mem = true) :
    Memory.wf (State.enterLanding s e ch).mem = true := by
  unfold State.enterLanding
  simp only []
  (repeat' split) <;> simp -implicitDefEqProofs [*]
@[simp] theorem State.lastLeft_keeps (s : State) (e : Nat) (ch : Nat) :
    (State.lastLeft s e ch).pending = s.pending ∧ (State.lastLeft s e ch).part = s.part ∧
    (State.lastLeft s e ch).cycles = s.cycles := by
  simp -implicitDefEqProofs [State.lastLeft]
@[simp] theorem State.lastLeft_wf (s : State) (e : Nat) (ch : Nat) (hw : Memory.wf s.mem = true) :
    Memory.wf (State.lastLeft s e ch).mem = true := by
  unfold State.lastLeft
  (repeat' split) <;> simp -implicitDefEqProofs [*]
@[simp] theorem State.repace_keeps (s : State) (e : Nat) (ch : Nat) :
    (State.repace s e ch).pending = s.pending ∧ (State.repace s e ch).part = s.part ∧
    (State.repace s e ch).cycles = s.cycles := by
  simp -implicitDefEqProofs [State.repace]
@[simp] theorem State.repace_wf (s : State) (e : Nat) (ch : Nat) (hw : Memory.wf s.mem = true) :
    Memory.wf (State.repace s e ch).mem = true := by
  unfold State.repace
  simp only []
  (repeat' split) <;> simp -implicitDefEqProofs [*]
@[simp] theorem State.repaceAll_keeps (s : State) :
    (State.repaceAll s).pending = s.pending ∧ (State.repaceAll s).part = s.part ∧ (State.repaceAll s).cycles = s.cycles := by
  simp -implicitDefEqProofs [State.repaceAll]
@[simp] theorem State.repaceAll_wf (s : State) (hw : Memory.wf s.mem = true) : Memory.wf s.repaceAll.mem = true :=
  State.foldl_wf _ _ _ (fun t a ht => State.repace_wf t a.1 a.2 ht) hw
@[simp] theorem State.storeBurst_keeps (s : State) (b : Burst) :
    (State.storeBurst s b).pending = s.pending ∧ (State.storeBurst s b).part = s.part ∧
    (State.storeBurst s b).cycles = s.cycles := by
  simp -implicitDefEqProofs [State.storeBurst]
@[simp] theorem State.storeBurst_wf (s : State) (b : Burst) (hw : Memory.wf s.mem = true) :
    Memory.wf (State.storeBurst s b).mem = true := by
  simp -implicitDefEqProofs [State.storeBurst, hw]
@[simp] theorem State.burstDone_keeps (s : State) (e : Nat) (ch : Nat) (b : Burst) :
    (State.burstDone s e ch b).pending = s.pending ∧ (State.burstDone s e ch b).part = s.part ∧
    (State.burstDone s e ch b).cycles = s.cycles := by
  simp -implicitDefEqProofs [State.burstDone]
@[simp] theorem State.burstDone_wf (s : State) (e : Nat) (ch : Nat) (b : Burst) (hw : Memory.wf s.mem = true) :
    Memory.wf (State.burstDone s e ch b).mem = true := by
  simp -implicitDefEqProofs [State.burstDone, hw]
@[simp] theorem State.pauseChannel_keeps (s : State) (e : Nat) (ch : Nat) :
    (State.pauseChannel s e ch).pending = s.pending ∧ (State.pauseChannel s e ch).part = s.part ∧
    (State.pauseChannel s e ch).cycles = s.cycles := by
  simp -implicitDefEqProofs [State.pauseChannel]
@[simp] theorem State.pauseChannel_wf (s : State) (e ch : Nat) (hw : Memory.wf s.mem = true) :
    Memory.wf (s.pauseChannel e ch).mem = true := by
  unfold State.pauseChannel
  simp only []
  split
  · simpa using hw
  · simp only [State.chGo_keeps]
    exact State.foldl_wf _ _ _ (fun t a ht => State.burstDone_wf t e ch a ht) (by simpa using hw)
theorem dmaPause_tame (e : Nat) (ch : Nat) (s : State) : ResTame s (dmaPause e ch s) := by
  unfold dmaPause
  (repeat' (first | exact .error _ _ | refine .ok ?_ | refine .bind _ _ (fun _ => ?_) | refine .ite _ ?_ ?_ | split)) <;>
      simp -implicitDefEqProofs +contextual [State.Tame]
@[simp] theorem State.goOn_keeps (s : State) (e : Nat) (ch : Nat) (st : Nat) :
    (State.goOn s e ch st).pending = s.pending ∧ (State.goOn s e ch st).part = s.part ∧
    (State.goOn s e ch st).cycles = s.cycles := by
  simp -implicitDefEqProofs [State.goOn]
@[simp] theorem State.goOn_wf (s : State) (e : Nat) (ch : Nat) (st : Nat) (hw : Memory.wf s.mem = true) :
    Memory.wf (State.goOn s e ch st).mem = true := by
  unfold State.goOn
  simp only []
  (repeat' split) <;> simp -implicitDefEqProofs [*]
theorem dmaResume_tame (e : Nat) (ch : Nat) (s : State) : ResTame s (dmaResume e ch s) := by
  unfold dmaResume
  (repeat' (first | exact .error _ _ | refine .ok ?_ | refine .bind _ _ (fun _ => ?_) | refine .ite _ ?_ ?_ | split)) <;>
      simp -implicitDefEqProofs +contextual [State.Tame]
@[simp] theorem State.abortChannel_keeps (s : State) (e : Nat) (ch : Nat) (status : Nat) :
    (State.abortChannel s e ch status).pending = s.pending ∧ (State.abortChannel s e ch status).part = s.part ∧
    (State.abortChannel s e ch status).cycles = s.cycles := by
  simp -implicitDefEqProofs [State.abortChannel]
@[simp] theorem State.abortChannel_wf (s : State) (e : Nat) (ch : Nat) (status : Nat) (hw : Memory.wf s.mem = true) :
    Memory.wf (State.abortChannel s e ch status).mem = true := by
  simp -implicitDefEqProofs [State.abortChannel, hw]
theorem dmaAbort_tame (e : Nat) (ch : Nat) (s : State) : ResTame s (dmaAbort e ch s) := by
  unfold dmaAbort
  (repeat' (first | exact .error _ _ | refine .ok ?_ | refine .bind _ _ (fun _ => ?_) | refine .ite _ ?_ ?_ | split)) <;>
      simp -implicitDefEqProofs +contextual [State.Tame]
@[simp] theorem State.bufferLine_keeps (s : State) (e : Nat) (ch : Nat) (i : Nat) :
    (State.bufferLine s e ch i).pending = s.pending ∧ (State.bufferLine s e ch i).part = s.part ∧
    (State.bufferLine s e ch i).cycles = s.cycles ∧ (State.bufferLine s e ch i).mem = s.mem := by
  simp -implicitDefEqProofs [State.bufferLine]
@[simp] theorem State.noteCopied_keeps (s : State) (e : Nat) (ch : Nat) (addrs : List Nat) :
    (State.noteCopied s e ch addrs).pending = s.pending ∧ (State.noteCopied s e ch addrs).part = s.part ∧
    (State.noteCopied s e ch addrs).cycles = s.cycles ∧ (State.noteCopied s e ch addrs).mem = s.mem := by
  simp -implicitDefEqProofs [State.noteCopied]
@[simp] theorem State.grantBurst_keeps (s : State) (e : Nat) (ch : Nat) :
    (State.grantBurst s e ch).pending = s.pending ∧ (State.grantBurst s e ch).part = s.part ∧
    (State.grantBurst s e ch).cycles = s.cycles ∧ (State.grantBurst s e ch).mem = s.mem := by
  simp -implicitDefEqProofs [State.grantBurst]
@[simp] theorem dmaBurstGrant_keeps (e : Nat) (s : State) :
    (dmaBurstGrant e s).pending = s.pending ∧ (dmaBurstGrant e s).part = s.part ∧ (dmaBurstGrant e s).cycles = s.cycles := by
  simp only [dmaBurstGrant]
  (repeat' split) <;> simp -implicitDefEqProofs
@[simp] theorem dmaBurstGrant_wf (e : Nat) (s : State) (hw : Memory.wf s.mem = true) :
    Memory.wf (dmaBurstGrant e s).mem = true := by
  unfold dmaBurstGrant
  split
  · exact hw
  · have k := State.foldl_wf (fun s ch => s.repace e ch) (s.engineChannels e) s (fun t a ht => State.repace_wf t e a ht) hw
    simp only []
    split
    · exact k
    · simpa using k
@[simp] theorem dmaWriteAck_keeps (e : Nat) (ch : Nat) (s : State) :
    (dmaWriteAck e ch s).pending = s.pending ∧ (dmaWriteAck e ch s).part = s.part ∧
    (dmaWriteAck e ch s).cycles = s.cycles := by
  unfold dmaWriteAck
  split <;> simp -implicitDefEqProofs
@[simp] theorem dmaWriteAck_wf (e : Nat) (ch : Nat) (s : State) (hw : Memory.wf s.mem = true) :
    Memory.wf (dmaWriteAck e ch s).mem = true := by
  unfold dmaWriteAck
  simp only []
  (repeat' split) <;> simp -implicitDefEqProofs [*]
@[simp] theorem dmaDrained_keeps (e : Nat) (ch : Nat) (s : State) :
    (dmaDrained e ch s).pending = s.pending ∧ (dmaDrained e ch s).part = s.part ∧ (dmaDrained e ch s).cycles = s.cycles ∧
    (dmaDrained e ch s).mem = s.mem := by
  simp -implicitDefEqProofs [dmaDrained]
@[simp] theorem dmaLanded_keeps (e : Nat) (ch : Nat) (s : State) :
    (dmaLanded e ch s).pending = s.pending ∧ (dmaLanded e ch s).part = s.part ∧ (dmaLanded e ch s).cycles = s.cycles := by
  unfold dmaLanded
  (repeat' split) <;> simp -implicitDefEqProofs
@[simp] theorem dmaLanded_wf (e : Nat) (ch : Nat) (s : State) (hw : Memory.wf s.mem = true) :
    Memory.wf (dmaLanded e ch s).mem = true := by
  unfold dmaLanded
  (repeat' split) <;> simp -implicitDefEqProofs [*]
@[simp] theorem State.haltChannel_keeps (s : State) (e : Nat) (addr : Nat) (ch : Nat) :
    (State.haltChannel s e addr ch).pending = s.pending ∧ (State.haltChannel s e addr ch).part = s.part ∧
    (State.haltChannel s e addr ch).cycles = s.cycles ∧ (State.haltChannel s e addr ch).mem = s.mem := by
  simp -implicitDefEqProofs [State.haltChannel]
@[simp] theorem State.resumeHeld_keeps (s : State) (e : Nat) (ch : Nat) :
    (State.resumeHeld s e ch).pending = s.pending ∧ (State.resumeHeld s e ch).part = s.part ∧
    (State.resumeHeld s e ch).cycles = s.cycles := by
  unfold State.resumeHeld
  (repeat' split) <;> simp -implicitDefEqProofs
@[simp] theorem State.resumeHeld_wf (s : State) (e : Nat) (ch : Nat) (hw : Memory.wf s.mem = true) :
    Memory.wf (State.resumeHeld s e ch).mem = true := by
  unfold State.resumeHeld
  (repeat' split) <;> simp -implicitDefEqProofs [*]
@[simp] theorem State.engineResume_keeps (s : State) (e : Nat) :
    (State.engineResume s e).pending = s.pending ∧ (State.engineResume s e).part = s.part ∧
    (State.engineResume s e).cycles = s.cycles := by
  simp -implicitDefEqProofs [State.engineResume]
@[simp] theorem State.engineResume_wf (s : State) (e : Nat) (hw : Memory.wf s.mem = true) : Memory.wf (s.engineResume e).mem
    = true := by
  unfold State.engineResume
  simp only [State.raise_keeps]
  exact State.foldl_wf _ _ _ (fun t a ht => State.resumeHeld_wf t e a ht) (by simpa using hw)
@[simp] theorem dmaBusError_keeps (e : Nat) (addr : Nat) (s : State) :
    (dmaBusError e addr s).pending = s.pending ∧ (dmaBusError e addr s).part = s.part ∧
    (dmaBusError e addr s).cycles = s.cycles ∧ (dmaBusError e addr s).mem = s.mem := by
  simp -implicitDefEqProofs [dmaBusError]
@[simp] theorem dmaHoldoffEnd_keeps (e : Nat) (s : State) :
    (dmaHoldoffEnd e s).pending = s.pending ∧ (dmaHoldoffEnd e s).part = s.part ∧ (dmaHoldoffEnd e s).cycles = s.cycles := by
  simp -implicitDefEqProofs [dmaHoldoffEnd]
@[simp] theorem dmaHoldoffEnd_wf (e : Nat) (s : State) (hw : Memory.wf s.mem = true) :
    Memory.wf (dmaHoldoffEnd e s).mem = true := by
  unfold dmaHoldoffEnd State.whenever
  (try simp only [])
  (repeat' split) <;> simp -implicitDefEqProofs [*]
theorem dmaEngineCommand_tame (e : Nat) (s : State) : ResTame s (dmaEngineCommand e s) := by
  unfold dmaEngineCommand
  (repeat' (first | exact .error _ _ | refine .ok ?_ | refine .bind _ _ (fun _ => ?_) | refine .ite _ ?_ ?_ | split)) <;>
      simp -implicitDefEqProofs +contextual [State.Tame]
@[simp] theorem State.engineRestart_keeps (s : State) (e : Nat) :
    (State.engineRestart s e).pending = s.pending ∧ (State.engineRestart s e).part = s.part ∧
    (State.engineRestart s e).cycles = s.cycles := by
  simp -implicitDefEqProofs [State.engineRestart]
@[simp] theorem State.engineRestart_wf (s : State) (e : Nat) (hw : Memory.wf s.mem = true) : Memory.wf (s.engineRestart
    e).mem = true := by
  unfold State.engineRestart
  exact State.foldl_wf _ _ _ (fun t a ht => State.resumeHeld_wf t e a ht)
    (State.foldl_wf _ _ _ (fun t a ht => by simpa using ht) hw)
@[simp] theorem State.engineReset_keeps (s : State) (e : Nat) :
    (State.engineReset s e).pending = s.pending ∧ (State.engineReset s e).part = s.part ∧
    (State.engineReset s e).cycles = s.cycles := by
  simp -implicitDefEqProofs [State.engineReset]
@[simp] theorem State.engineReset_wf (s : State) (e : Nat) (hw : Memory.wf s.mem = true) :
    Memory.wf (State.engineReset s e).mem = true := by
  unfold State.engineReset
  (try simp only [])
  (repeat' split) <;> simp -implicitDefEqProofs (disch := (first | assumption | (intros; (try simp only []); (repeat' split) <;> simp -implicitDefEqProofs [*]))) [*, State.foldl_wf]
theorem dmaRingRead_tame (e : Nat) (v : Nat) (s : State) : ResTame s (dmaRingRead e v s) := by
  unfold dmaRingRead
  (repeat' (first | exact .error _ _ | refine .ok ?_ | refine .bind _ _ (fun _ => ?_) | refine .ite _ ?_ ?_ | split)) <;>
      simp -implicitDefEqProofs [State.Tame]
theorem dmaRingConfig_tame (e : Nat) (sub : Nat) (v : Nat) (s : State) : ResTame s (dmaRingConfig e sub v s) := by
  unfold dmaRingConfig
  (repeat' (first | exact .error _ _ | refine .ok ?_ | refine .bind _ _ (fun _ => ?_) | refine .ite _ ?_ ?_ | split)) <;>
      simp -implicitDefEqProofs [State.Tame]
@[simp] theorem State.noteLevel_keeps (s : State) (f : Nat) (was : Bool) :
    (State.noteLevel s f was).pending = s.pending ∧ (State.noteLevel s f was).part = s.part ∧
    (State.noteLevel s f was).cycles = s.cycles := by
  simp -implicitDefEqProofs [State.noteLevel]
@[simp] theorem State.noteLevel_wf (s : State) (f : Nat) (was : Bool) (hw : Memory.wf s.mem = true) :
    Memory.wf (State.noteLevel s f was).mem = true := by
  simp -implicitDefEqProofs [State.noteLevel, hw]
@[simp] theorem State.updFifo_keeps (s : State) (f : Nat) (g : FifoSt → FifoSt) :
    (State.updFifo s f g).pending = s.pending ∧ (State.updFifo s f g).part = s.part ∧
    (State.updFifo s f g).cycles = s.cycles := by
  simp -implicitDefEqProofs [State.updFifo]
@[simp] theorem State.updFifo_wf (s : State) (f : Nat) (g : FifoSt → FifoSt) (hw : Memory.wf s.mem = true) :
    Memory.wf (State.updFifo s f g).mem = true := by
  simp -implicitDefEqProofs [State.updFifo, hw]
@[simp] theorem fifoWordTransfer_keeps (f : Nat) (m : FifoMove) (s : State) :
    (fifoWordTransfer f m s).pending = s.pending ∧ (fifoWordTransfer f m s).part = s.part ∧
    (fifoWordTransfer f m s).cycles = s.cycles := by
  unfold fifoWordTransfer
  split <;> simp -implicitDefEqProofs
@[simp] theorem fifoWordTransfer_wf (f : Nat) (m : FifoMove) (s : State) (hw : Memory.wf s.mem = true) :
    Memory.wf (fifoWordTransfer f m s).mem = true := by
  unfold fifoWordTransfer
  (repeat' split) <;> simp -implicitDefEqProofs [*]
theorem fifoCommandWrite_tame (f : Nat) (command : Nat) (s : State) : ResTame s (fifoCommandWrite f command s) := by
  unfold fifoCommandWrite
  (repeat' (first | exact .error _ _ | refine .ok ?_ | refine .bind _ _ (fun _ => ?_) | refine .ite _ ?_ ?_ | split)) <;>
      simp -implicitDefEqProofs +contextual [State.Tame]
theorem fifoWmAck_tame (f : Nat) (v : Nat) (s : State) : ResTame s (fifoWmAck f v s) := by
  unfold fifoWmAck
  (repeat' (first | exact .error _ _ | refine .ok ?_ | refine .bind _ _ (fun _ => ?_) | refine .ite _ ?_ ?_ | split)) <;>
      simp -implicitDefEqProofs [State.Tame]
theorem fifoMarkWrite_tame (f : Nat) (v : Nat) (s : State) : ResTame s (fifoMarkWrite f v s) := by
  unfold fifoMarkWrite
  (repeat' (first | exact .error _ _ | refine .ok ?_ | refine .bind _ _ (fun _ => ?_) | refine .ite _ ?_ ?_ | split)) <;>
      simp -implicitDefEqProofs +contextual [State.Tame]
@[simp] theorem State.fifoReset_keeps (s : State) (f : Nat) :
    (State.fifoReset s f).pending = s.pending ∧ (State.fifoReset s f).part = s.part ∧
    (State.fifoReset s f).cycles = s.cycles ∧ (State.fifoReset s f).mem = s.mem := by
  simp -implicitDefEqProofs [State.fifoReset]
@[simp] theorem crossingWordTransfer_keeps (c : Nat) (m : CrossingMove) (s : State) :
    (crossingWordTransfer c m s).pending = s.pending ∧ (crossingWordTransfer c m s).part = s.part ∧
    (crossingWordTransfer c m s).cycles = s.cycles ∧ (crossingWordTransfer c m s).mem = s.mem := by
  simp -implicitDefEqProofs [crossingWordTransfer]
@[simp] theorem State.updTrk_keeps (s : State) (f : Trunk → Trunk) :
    (State.updTrk s f).pending = s.pending ∧ (State.updTrk s f).part = s.part ∧ (State.updTrk s f).cycles = s.cycles ∧
    (State.updTrk s f).mem = s.mem := by
  simp -implicitDefEqProofs [State.updTrk]
@[simp] theorem State.sendLanes_keeps (s : State) (f : Nat → TxSt → List Chr × TxSt) :
    (State.sendLanes s f).pending = s.pending ∧ (State.sendLanes s f).part = s.part ∧
    (State.sendLanes s f).cycles = s.cycles ∧ (State.sendLanes s f).mem = s.mem := by
  simp -implicitDefEqProofs [State.sendLanes]
@[simp] theorem State.sendIdleGroup_keeps (s : State) :
    (State.sendIdleGroup s).pending = s.pending ∧ (State.sendIdleGroup s).part = s.part ∧
    (State.sendIdleGroup s).cycles = s.cycles ∧ (State.sendIdleGroup s).mem = s.mem := by
  simp -implicitDefEqProofs [State.sendIdleGroup]
@[simp] theorem State.sendColumns_keeps (s : State) (cols : List (List Chr)) :
    (State.sendColumns s cols).pending = s.pending ∧ (State.sendColumns s cols).part = s.part ∧
    (State.sendColumns s cols).cycles = s.cycles ∧ (State.sendColumns s cols).mem = s.mem := by
  simp -implicitDefEqProofs [State.sendColumns]
@[simp] theorem State.sendPacket_keeps (s : State) (chars : List Chr) :
    (State.sendPacket s chars).pending = s.pending ∧ (State.sendPacket s chars).part = s.part ∧
    (State.sendPacket s chars).cycles = s.cycles ∧ (State.sendPacket s chars).mem = s.mem := by
  simp -implicitDefEqProofs [State.sendPacket]
@[simp] theorem State.sendTraining_keeps (s : State) (lane : Nat) (m : List Chr) :
    (State.sendTraining s lane m).pending = s.pending ∧ (State.sendTraining s lane m).part = s.part ∧
    (State.sendTraining s lane m).cycles = s.cycles ∧ (State.sendTraining s lane m).mem = s.mem := by
  simp -implicitDefEqProofs [State.sendTraining]
@[simp] theorem State.cutFlight_keeps (s : State) :
    (State.cutFlight s).pending = s.pending ∧ (State.cutFlight s).part = s.part ∧ (State.cutFlight s).cycles = s.cycles ∧
    (State.cutFlight s).mem = s.mem := by
  unfold State.cutFlight
  split <;> simp -implicitDefEqProofs
@[simp] theorem State.trkGo_keeps (s : State) (new : Nat) :
    (State.trkGo s new).pending = s.pending ∧ (State.trkGo s new).part = s.part ∧ (State.trkGo s new).cycles = s.cycles ∧
    (State.trkGo s new).mem = s.mem := by
  simp -implicitDefEqProofs [State.trkGo]
@[simp] theorem State.trkSetL_keeps (s : State) (l : Nat) :
    (State.trkSetL s l).pending = s.pending ∧ (State.trkSetL s l).part = s.part ∧ (State.trkSetL s l).cycles = s.cycles ∧
    (State.trkSetL s l).mem = s.mem := by
  simp -implicitDefEqProofs [State.trkSetL]
@[simp] theorem State.txLanesGo_keeps (s : State) (st : Nat → Nat) :
    (State.txLanesGo s st).pending = s.pending ∧ (State.txLanesGo s st).part = s.part ∧
    (State.txLanesGo s st).cycles = s.cycles ∧ (State.txLanesGo s st).mem = s.mem := by
  simp -implicitDefEqProofs [State.txLanesGo]
@[simp] theorem State.txRate_keeps (s : State) (rate : Nat) :
    (State.txRate s rate).pending = s.pending ∧ (State.txRate s rate).part = s.part ∧
    (State.txRate s rate).cycles = s.cycles ∧ (State.txRate s rate).mem = s.mem := by
  simp -implicitDefEqProofs [State.txRate]
@[simp] theorem State.trkToDown_keeps (s : State) (seek : Bool) :
    (State.trkToDown s seek).pending = s.pending ∧ (State.trkToDown s seek).part = s.part ∧
    (State.trkToDown s seek).cycles = s.cycles ∧ (State.trkToDown s seek).mem = s.mem := by
  simp -implicitDefEqProofs [State.trkToDown]
@[simp] theorem State.trkToTraining_keeps (s : State) :
    (State.trkToTraining s).pending = s.pending ∧ (State.trkToTraining s).part = s.part ∧
    (State.trkToTraining s).cycles = s.cycles ∧ (State.trkToTraining s).mem = s.mem := by
  simp -implicitDefEqProofs [State.trkToTraining]
@[simp] theorem State.trkFollow_keeps (s : State) (was : Nat) :
    (State.trkFollow s was).pending = s.pending ∧ (State.trkFollow s was).part = s.part ∧
    (State.trkFollow s was).cycles = s.cycles ∧ (State.trkFollow s was).mem = s.mem := by
  simp -implicitDefEqProofs [State.trkFollow]
@[simp] theorem State.noteWiden_keeps (s : State) :
    (State.noteWiden s).pending = s.pending ∧ (State.noteWiden s).part = s.part ∧ (State.noteWiden s).cycles = s.cycles ∧
    (State.noteWiden s).mem = s.mem := by
  simp -implicitDefEqProofs [State.noteWiden]
@[simp] theorem State.noteL_keeps (s : State) :
    (State.noteL s).pending = s.pending ∧ (State.noteL s).part = s.part ∧ (State.noteL s).cycles = s.cycles ∧
    (State.noteL s).mem = s.mem := by
  simp -implicitDefEqProofs [State.noteL]
@[simp] theorem State.trkResize_keeps (s : State) :
    (State.trkResize s).pending = s.pending ∧ (State.trkResize s).part = s.part ∧ (State.trkResize s).cycles = s.cycles ∧
    (State.trkResize s).mem = s.mem := by
  simp -implicitDefEqProofs [State.trkResize]
@[simp] theorem State.lanesWithdrawn_keeps (s : State) (lanes : List Nat) :
    (State.lanesWithdrawn s lanes).pending = s.pending ∧ (State.lanesWithdrawn s lanes).part = s.part ∧
    (State.lanesWithdrawn s lanes).cycles = s.cycles ∧ (State.lanesWithdrawn s lanes).mem = s.mem := by
  simp -implicitDefEqProofs [State.lanesWithdrawn]
@[simp] theorem State.withdrawLanes_keeps (s : State) (p : Nat → Bool) :
    (State.withdrawLanes s p).pending = s.pending ∧ (State.withdrawLanes s p).part = s.part ∧
    (State.withdrawLanes s p).cycles = s.cycles ∧ (State.withdrawLanes s p).mem = s.mem := by
  simp -implicitDefEqProofs [State.withdrawLanes]
@[simp] theorem State.answerPartner_keeps (s : State) (type : Nat) (tag : Nat) (lane : Nat) (answer : Nat) (p : Bytes) :
    (State.answerPartner s type tag lane answer p).pending = s.pending ∧
    (State.answerPartner s type tag lane answer p).part = s.part ∧
    (State.answerPartner s type tag lane answer p).cycles = s.cycles ∧
    (State.answerPartner s type tag lane answer p).mem = s.mem := by
  simp -implicitDefEqProofs [State.answerPartner]
@[simp] theorem State.txLaneGo_keeps (s : State) (i : Nat) (st : Nat) :
    (State.txLaneGo s i st).pending = s.pending ∧ (State.txLaneGo s i st).part = s.part ∧
    (State.txLaneGo s i st).cycles = s.cycles ∧ (State.txLaneGo s i st).mem = s.mem := by
  simp -implicitDefEqProofs [State.txLaneGo]
@[simp] theorem tapAct_keeps (i : Nat) (tag : Nat) (command : Nat) (preset : Nat) (s : State) :
    (tapAct i tag command preset s).pending = s.pending ∧ (tapAct i tag command preset s).part = s.part ∧
    (tapAct i tag command preset s).cycles = s.cycles ∧ (tapAct i tag command preset s).mem = s.mem := by
  simp only [tapAct]
  (repeat' split) <;> simp -implicitDefEqProofs
@[simp] theorem partnerRequest.act_keeps (type tag : Nat) (p : Bytes) (s : State) :
    (partnerRequest.act type tag p s).pending = s.pending ∧ (partnerRequest.act type tag p s).part = s.part ∧
    (partnerRequest.act type tag p s).cycles = s.cycles ∧ (partnerRequest.act type tag p s).mem = s.mem := by
  unfold partnerRequest.act
  split <;> simp
@[simp] theorem partnerRequest_keeps (type tag : Nat) (p : Bytes) (s : State) :
    (partnerRequest type tag p s).pending = s.pending ∧ (partnerRequest type tag p s).part = s.part ∧
    (partnerRequest type tag p s).cycles = s.cycles ∧ (partnerRequest type tag p s).mem = s.mem := by
  unfold partnerRequest
  split
  · split <;> simp
  · simp
@[simp] theorem onRx0_pending (f : State → State) (s : State) (h : ∀ t, (f t).pending = t.pending) :
    (onRx0 f s).pending = s.pending := by
  simp [onRx0, h]
@[simp] theorem onRx0_part (f : State → State) (s : State) (h : ∀ t, (f t).part = t.part) :
    (onRx0 f s).part = s.part := by
  simp [onRx0, h]
@[simp] theorem onRx0_cycles (f : State → State) (s : State) (h : ∀ t, (f t).cycles = t.cycles) :
    (onRx0 f s).cycles = s.cycles := by
  simp [onRx0, h]
@[simp] theorem onRx0_mem (f : State → State) (s : State) (h : ∀ t, (f t).mem = t.mem) :
    (onRx0 f s).mem = s.mem := by
  simp [onRx0, h]
@[simp] theorem tapRequest_keeps (x : Line) (s : State) :
    (tapRequest x s).pending = s.pending ∧ (tapRequest x s).part = s.part ∧ (tapRequest x s).cycles = s.cycles ∧
    (tapRequest x s).mem = s.mem := by
  have k : ∀ t tag p (s : State), ((if t < 128 ∧ t ≠ 8 then partnerRequest t tag p s else s) : State).kept = s.kept := by
    intro t tag p s
    split <;> simp [State.kept]
  simp only [State.kept, Prod.mk.injEq] at k
  unfold tapRequest
  refine ⟨?_, ?_, ?_, ?_⟩
  · exact onRx0_pending _ _ fun u => State.takeMessage_pending _ _ _ _ fun a b c v => (k a b c v).1
  · exact onRx0_part _ _ fun u => State.takeMessage_part _ _ _ _ fun a b c v => (k a b c v).2.1
  · exact onRx0_cycles _ _ fun u => State.takeMessage_cycles _ _ _ _ fun a b c v => (k a b c v).2.2.1
  · exact onRx0_mem _ _ fun u => State.takeMessage_mem _ _ _ _ fun a b c v => (k a b c v).2.2.2
@[simp] theorem linkReset_keeps (s : State) :
    (linkReset s).pending = s.pending ∧ (linkReset s).part = s.part ∧ (linkReset s).cycles = s.cycles ∧
    (linkReset s).mem = s.mem := by
  simp -implicitDefEqProofs [linkReset]
@[simp] theorem trkTrainingDecision_keeps (s : State) :
    (trkTrainingDecision s).pending = s.pending ∧ (trkTrainingDecision s).part = s.part ∧
    (trkTrainingDecision s).cycles = s.cycles ∧ (trkTrainingDecision s).mem = s.mem := by
  simp -implicitDefEqProofs [trkTrainingDecision]
@[simp] theorem State.trkLowered_keeps (s : State) (c : Nat) :
    (State.trkLowered s c).pending = s.pending ∧ (State.trkLowered s c).part = s.part ∧
    (State.trkLowered s c).cycles = s.cycles ∧ (State.trkLowered s c).mem = s.mem := by
  simp -implicitDefEqProofs [State.trkLowered]
@[simp] theorem trkWidenHold_keeps (s : State) :
    (trkWidenHold s).pending = s.pending ∧ (trkWidenHold s).part = s.part ∧ (trkWidenHold s).cycles = s.cycles ∧
    (trkWidenHold s).mem = s.mem := by
  unfold trkWidenHold
  split <;> simp -implicitDefEqProofs
@[simp] theorem trkLaneCountChange_keeps (s : State) :
    (trkLaneCountChange s).pending = s.pending ∧ (trkLaneCountChange s).part = s.part ∧
    (trkLaneCountChange s).cycles = s.cycles ∧ (trkLaneCountChange s).mem = s.mem := by
  simp -implicitDefEqProofs [trkLaneCountChange]
@[simp] theorem returnWidthDetected_keeps (lines : List Line) (s : State) :
    (returnWidthDetected lines s).pending = s.pending ∧ (returnWidthDetected lines s).part = s.part ∧
    (returnWidthDetected lines s).cycles = s.cycles ∧ (returnWidthDetected lines s).mem = s.mem := by
  simp -implicitDefEqProofs [returnWidthDetected]
@[simp] theorem State.countSkew_keeps (s : State) (lines : List Line) :
    (State.countSkew s lines).pending = s.pending ∧ (State.countSkew s lines).part = s.part ∧
    (State.countSkew s lines).cycles = s.cycles ∧ (State.countSkew s lines).mem = s.mem := by
  unfold State.countSkew
  split <;> simp -implicitDefEqProofs
@[simp] theorem State.trunkErrored_keeps (s : State) (kind : Nat) :
    (State.trunkErrored s kind).pending = s.pending ∧ (State.trunkErrored s kind).part = s.part ∧
    (State.trunkErrored s kind).cycles = s.cycles ∧ (State.trunkErrored s kind).mem = s.mem := by
  simp -implicitDefEqProofs [State.trunkErrored]
@[simp] theorem State.takePacket_pending (s : State) (lines : List Line) (f : Nat → Bytes → State → State) (h : ∀ a b t, (f a
    b t).pending = t.pending) :
    (s.takePacket lines f).pending = s.pending := by
  unfold State.takePacket
  split
  · simp
  · split <;> simp [h]
@[simp] theorem State.takePacket_part (s : State) (lines : List Line) (f : Nat → Bytes → State → State) (h : ∀ a b t, (f a b
    t).part = t.part) :
    (s.takePacket lines f).part = s.part := by
  unfold State.takePacket
  split
  · simp
  · split <;> simp [h]
@[simp] theorem State.takePacket_cycles (s : State) (lines : List Line) (f : Nat → Bytes → State → State) (h : ∀ a b t, (f a
    b t).cycles = t.cycles) :
    (s.takePacket lines f).cycles = s.cycles := by
  unfold State.takePacket
  split
  · simp
  · split <;> simp [h]
@[simp] theorem State.takePacket_mem (s : State) (lines : List Line) (f : Nat → Bytes → State → State) (h : ∀ a b t, (f a b
    t).mem = t.mem) :
    (s.takePacket lines f).mem = s.mem := by
  unfold State.takePacket
  split
  · simp
  · split <;> simp [h]
@[simp] theorem State.onTrunk_pending (s : State) (lines : List Line) (f : Nat → Bytes → State → State) (h : ∀ a b t, (f a b
    t).pending = t.pending) :
    (s.onTrunk lines f).pending = s.pending := by
  unfold State.onTrunk
  refine State.whenever_pending _ _ _ fun t => onRx0_pending _ _ fun u => ?_
  have k : ∀ l (v : State), (v.takePacket l f).pending = v.pending := fun l v => State.takePacket_pending v l f h
  split
  · exact State.onLine_pending _ _ _ _ fun v => k _ v
  · split
    · exact State.onLine_pending _ _ _ _ fun v => State.onLine_pending _ _ _ _ fun w => by simp [k]
    · exact State.onLine_pending _ _ _ _ fun v => k _ v
  · rfl
@[simp] theorem State.onTrunk_part (s : State) (lines : List Line) (f : Nat → Bytes → State → State) (h : ∀ a b t, (f a b
    t).part = t.part) :
    (s.onTrunk lines f).part = s.part := by
  unfold State.onTrunk
  refine State.whenever_part _ _ _ fun t => onRx0_part _ _ fun u => ?_
  have k : ∀ l (v : State), (v.takePacket l f).part = v.part := fun l v => State.takePacket_part v l f h
  split
  · exact State.onLine_part _ _ _ _ fun v => k _ v
  · split
    · exact State.onLine_part _ _ _ _ fun v => State.onLine_part _ _ _ _ fun w => by simp [k]
    · exact State.onLine_part _ _ _ _ fun v => k _ v
  · rfl
@[simp] theorem State.onTrunk_cycles (s : State) (lines : List Line) (f : Nat → Bytes → State → State) (h : ∀ a b t, (f a b
    t).cycles = t.cycles) :
    (s.onTrunk lines f).cycles = s.cycles := by
  unfold State.onTrunk
  refine State.whenever_cycles _ _ _ fun t => onRx0_cycles _ _ fun u => ?_
  have k : ∀ l (v : State), (v.takePacket l f).cycles = v.cycles := fun l v => State.takePacket_cycles v l f h
  split
  · exact State.onLine_cycles _ _ _ _ fun v => k _ v
  · split
    · exact State.onLine_cycles _ _ _ _ fun v => State.onLine_cycles _ _ _ _ fun w => by simp [k]
    · exact State.onLine_cycles _ _ _ _ fun v => k _ v
  · rfl
@[simp] theorem State.onTrunk_mem (s : State) (lines : List Line) (f : Nat → Bytes → State → State) (h : ∀ a b t, (f a b
    t).mem = t.mem) :
    (s.onTrunk lines f).mem = s.mem := by
  unfold State.onTrunk
  refine State.whenever_mem _ _ _ fun t => onRx0_mem _ _ fun u => ?_
  have k : ∀ l (v : State), (v.takePacket l f).mem = v.mem := fun l v => State.takePacket_mem v l f h
  split
  · exact State.onLine_mem _ _ _ _ fun v => k _ v
  · split
    · exact State.onLine_mem _ _ _ _ fun v => State.onLine_mem _ _ _ _ fun w => by simp [k]
    · exact State.onLine_mem _ _ _ _ fun v => k _ v
  · rfl
@[simp] theorem State.onTrunkType_pending (s : State) (lines : List Line) (type : Nat) (f : Bytes → State → State) (h : ∀ b
    t, (f b t).pending = t.pending) :
    (s.onTrunkType lines type f).pending = s.pending := by
  unfold State.onTrunkType
  refine State.onTrunk_pending _ _ _ fun _ _ t => ?_
  split <;> simp [h]
@[simp] theorem State.onTrunkType_part (s : State) (lines : List Line) (type : Nat) (f : Bytes → State → State) (h : ∀ b t,
    (f b t).part = t.part) :
    (s.onTrunkType lines type f).part = s.part := by
  unfold State.onTrunkType
  refine State.onTrunk_part _ _ _ fun _ _ t => ?_
  split <;> simp [h]
@[simp] theorem State.onTrunkType_cycles (s : State) (lines : List Line) (type : Nat) (f : Bytes → State → State) (h : ∀ b t,
    (f b t).cycles = t.cycles) :
    (s.onTrunkType lines type f).cycles = s.cycles := by
  unfold State.onTrunkType
  refine State.onTrunk_cycles _ _ _ fun _ _ t => ?_
  split <;> simp [h]
@[simp] theorem State.onTrunkType_mem (s : State) (lines : List Line) (type : Nat) (f : Bytes → State → State) (h : ∀ b t, (f
    b t).mem = t.mem) :
    (s.onTrunkType lines type f).mem = s.mem := by
  unfold State.onTrunkType
  refine State.onTrunk_mem _ _ _ fun _ _ t => ?_
  split <;> simp [h]
@[simp] theorem trkEnableWrite_keeps (value : Nat) (s : State) :
    (trkEnableWrite value s).pending = s.pending ∧ (trkEnableWrite value s).part = s.part ∧
    (trkEnableWrite value s).cycles = s.cycles ∧ (trkEnableWrite value s).mem = s.mem := by
  simp -implicitDefEqProofs [trkEnableWrite]
@[simp] theorem State.takeCredit_keeps (s : State) (limit : Nat) (buffer : Nat) :
    (State.takeCredit s limit buffer).pending = s.pending ∧ (State.takeCredit s limit buffer).part = s.part ∧
    (State.takeCredit s limit buffer).cycles = s.cycles ∧ (State.takeCredit s limit buffer).mem = s.mem := by
  simp -implicitDefEqProofs [State.takeCredit]
@[simp] theorem creditPacket_keeps (lines : List Line) (s : State) :
    (creditPacket lines s).pending = s.pending ∧ (creditPacket lines s).part = s.part ∧
    (creditPacket lines s).cycles = s.cycles ∧ (creditPacket lines s).mem = s.mem := by
  simp -implicitDefEqProofs [creditPacket]
@[simp] theorem trkCreditTimeout_keeps (s : State) :
    (trkCreditTimeout s).pending = s.pending ∧ (trkCreditTimeout s).part = s.part ∧ (trkCreditTimeout s).cycles = s.cycles ∧
    (trkCreditTimeout s).mem = s.mem := by
  unfold trkCreditTimeout
  split <;> simp -implicitDefEqProofs
@[simp] theorem timeBeaconSend_keeps (s : State) :
    (timeBeaconSend s).pending = s.pending ∧ (timeBeaconSend s).part = s.part ∧ (timeBeaconSend s).cycles = s.cycles ∧
    (timeBeaconSend s).mem = s.mem := by
  simp -implicitDefEqProofs [timeBeaconSend]
@[simp] theorem State.sendBeacon_keeps (s : State) :
    (State.sendBeacon s).pending = s.pending ∧ (State.sendBeacon s).part = s.part ∧ (State.sendBeacon s).cycles = s.cycles ∧
    (State.sendBeacon s).mem = s.mem := by
  simp -implicitDefEqProofs [State.sendBeacon]
@[simp] theorem State.takeBeacon_keeps (s : State) (t1 : Nat) (bseq : Nat) (echoSeq : Nat) (turn : Nat) :
    (State.takeBeacon s t1 bseq echoSeq turn).pending = s.pending ∧ (State.takeBeacon s t1 bseq echoSeq turn).part = s.part ∧
    (State.takeBeacon s t1 bseq echoSeq turn).cycles = s.cycles ∧ (State.takeBeacon s t1 bseq echoSeq turn).mem = s.mem := by
  simp only [State.takeBeacon]
  (repeat' split) <;> simp -implicitDefEqProofs
@[simp] theorem timeBeaconReceive_keeps (lines : List Line) (s : State) :
    (timeBeaconReceive lines s).pending = s.pending ∧ (timeBeaconReceive lines s).part = s.part ∧
    (timeBeaconReceive lines s).cycles = s.cycles ∧ (timeBeaconReceive lines s).mem = s.mem := by
  simp -implicitDefEqProofs [timeBeaconReceive]
@[simp] theorem State.startPacket_pending (s : State) (chars : List Chr) (taken : State → State) (h : ∀ t, (taken t).pending
    = t.pending) :
    (s.startPacket chars taken).pending = s.pending := by
  unfold State.startPacket
  simp only []
  split <;> simp [h]
@[simp] theorem State.startPacket_part (s : State) (chars : List Chr) (taken : State → State) (h : ∀ t, (taken t).part =
    t.part) :
    (s.startPacket chars taken).part = s.part := by
  unfold State.startPacket
  simp only []
  split <;> simp [h]
@[simp] theorem State.startPacket_cycles (s : State) (chars : List Chr) (taken : State → State) (h : ∀ t, (taken t).cycles =
    t.cycles) :
    (s.startPacket chars taken).cycles = s.cycles := by
  unfold State.startPacket
  simp only []
  split <;> simp [h]
@[simp] theorem State.startPacket_mem (s : State) (chars : List Chr) (taken : State → State) (h : ∀ t, (taken t).mem = t.mem)
    :
    (s.startPacket chars taken).mem = s.mem := by
  unfold State.startPacket
  simp only []
  split <;> simp [h]
@[simp] theorem State.sendMedia_keeps (s : State) :
    (State.sendMedia s).pending = s.pending ∧ (State.sendMedia s).part = s.part ∧ (State.sendMedia s).cycles = s.cycles ∧
    (State.sendMedia s).mem = s.mem := by
  unfold State.sendMedia
  split <;> simp -implicitDefEqProofs
@[simp] theorem State.sendTunnel_keeps (s : State) (b : Bytes) (r : List Bytes) :
    (State.sendTunnel s b r).pending = s.pending ∧ (State.sendTunnel s b r).part = s.part ∧
    (State.sendTunnel s b r).cycles = s.cycles ∧ (State.sendTunnel s b r).mem = s.mem := by
  simp -implicitDefEqProofs [State.sendTunnel]
@[simp] theorem State.sendNext_keeps (s : State) :
    (State.sendNext s).pending = s.pending ∧ (State.sendNext s).part = s.part ∧ (State.sendNext s).cycles = s.cycles ∧
    (State.sendNext s).mem = s.mem := by
  unfold State.sendNext
  (repeat' split) <;> simp -implicitDefEqProofs
@[simp] theorem State.sendRun_keeps (s : State) :
    (State.sendRun s).pending = s.pending ∧ (State.sendRun s).part = s.part ∧ (State.sendRun s).cycles = s.cycles ∧
    (State.sendRun s).mem = s.mem := by
  simp -implicitDefEqProofs [State.sendRun]
@[simp] theorem trkPacketBoundary_keeps (s : State) :
    (trkPacketBoundary s).pending = s.pending ∧ (trkPacketBoundary s).part = s.part ∧
    (trkPacketBoundary s).cycles = s.cycles ∧ (trkPacketBoundary s).mem = s.mem := by
  unfold trkPacketBoundary State.whenever
  (try simp only [])
  (repeat' split) <;> simp -implicitDefEqProofs
@[simp] theorem State.takeTunnel_keeps (s : State) (frame : Bytes) :
    (State.takeTunnel s frame).pending = s.pending ∧ (State.takeTunnel s frame).part = s.part ∧
    (State.takeTunnel s frame).cycles = s.cycles ∧ (State.takeTunnel s frame).mem = s.mem := by
  simp -implicitDefEqProofs [State.takeTunnel]
@[simp] theorem tunnelPacketReceive_keeps (lines : List Line) (s : State) :
    (tunnelPacketReceive lines s).pending = s.pending ∧ (tunnelPacketReceive lines s).part = s.part ∧
    (tunnelPacketReceive lines s).cycles = s.cycles ∧ (tunnelPacketReceive lines s).mem = s.mem := by
  simp -implicitDefEqProofs [tunnelPacketReceive]
@[simp] theorem trkPacketErrored_keeps (lines : List Line) (s : State) :
    (trkPacketErrored lines s).pending = s.pending ∧ (trkPacketErrored lines s).part = s.part ∧
    (trkPacketErrored lines s).cycles = s.cycles ∧ (trkPacketErrored lines s).mem = s.mem := by
  simp -implicitDefEqProofs [trkPacketErrored]
@[simp] theorem State.setRun_keeps (s : State) (n : Nat) (r : Run) :
    (State.setRun s n r).pending = s.pending ∧ (State.setRun s n r).part = s.part ∧ (State.setRun s n r).cycles = s.cycles ∧
    (State.setRun s n r).mem = s.mem := by
  simp -implicitDefEqProofs [State.setRun]
@[simp] theorem State.dropRun_keeps (s : State) (n : Nat) :
    (State.dropRun s n).pending = s.pending ∧ (State.dropRun s n).part = s.part ∧ (State.dropRun s n).cycles = s.cycles ∧
    (State.dropRun s n).mem = s.mem := by
  simp -implicitDefEqProofs [State.dropRun]
@[simp] theorem State.updRun_keeps (s : State) (n : Nat) (f : Run → Run) :
    (State.updRun s n f).pending = s.pending ∧ (State.updRun s n f).part = s.part ∧ (State.updRun s n f).cycles = s.cycles ∧
    (State.updRun s n f).mem = s.mem := by
  unfold State.updRun
  split <;> simp -implicitDefEqProofs
@[simp] theorem State.armHere_keeps (s : State) (n : Nat) (from_ : Nat) (r : Run) :
    (State.armHere s n from_ r).pending = s.pending ∧ (State.armHere s n from_ r).part = s.part ∧
    (State.armHere s n from_ r).cycles = s.cycles ∧ (State.armHere s n from_ r).mem = s.mem := by
  simp -implicitDefEqProofs [State.armHere]
@[simp] theorem State.cancelRun_keeps (s : State) (n : Nat) (old : Nat) (r : Run) :
    (State.cancelRun s n old r).pending = s.pending ∧ (State.cancelRun s n old r).part = s.part ∧
    (State.cancelRun s n old r).cycles = s.cycles ∧ (State.cancelRun s n old r).mem = s.mem := by
  simp -implicitDefEqProofs [State.cancelRun]
@[simp] theorem State.arm_keeps (s : State) (n : Nat) :
    (State.arm s n).pending = s.pending ∧ (State.arm s n).part = s.part ∧ (State.arm s n).cycles = s.cycles ∧
    (State.arm s n).mem = s.mem := by
  simp -implicitDefEqProofs [State.arm]
@[simp] theorem State.armAll_keeps (s : State) :
    (State.armAll s).pending = s.pending ∧ (State.armAll s).part = s.part ∧ (State.armAll s).cycles = s.cycles ∧
    (State.armAll s).mem = s.mem := by
  simp -implicitDefEqProofs [State.armAll]
@[simp] theorem State.settleRun_keeps (s : State) (n : Nat) :
    (State.settleRun s n).pending = s.pending ∧ (State.settleRun s n).part = s.part ∧
    (State.settleRun s n).cycles = s.cycles ∧ (State.settleRun s n).mem = s.mem := by
  simp -implicitDefEqProofs [State.settleRun]
@[simp] theorem State.freeUnit_keeps (s : State) (u : BellUnit) :
    (State.freeUnit s u).pending = s.pending ∧ (State.freeUnit s u).part = s.part ∧ (State.freeUnit s u).cycles = s.cycles ∧
    (State.freeUnit s u).mem = s.mem := by
  simp -implicitDefEqProofs [State.freeUnit]
@[simp] theorem State.withdrawUnits_keeps (s : State) (n : Nat) (e : TtEntry) :
    (State.withdrawUnits s n e).pending = s.pending ∧ (State.withdrawUnits s n e).part = s.part ∧
    (State.withdrawUnits s n e).cycles = s.cycles ∧ (State.withdrawUnits s n e).mem = s.mem := by
  simp -implicitDefEqProofs [State.withdrawUnits]
@[simp] theorem State.ttWrite_keeps (s : State) (new : Bytes) :
    (State.ttWrite s new).pending = s.pending ∧ (State.ttWrite s new).part = s.part ∧
    (State.ttWrite s new).cycles = s.cycles ∧ (State.ttWrite s new).mem = s.mem := by
  simp -implicitDefEqProofs [State.ttWrite]
@[simp] theorem State.sampleUnit_keeps (s : State) (u : BellUnit) :
    (State.sampleUnit s u).pending = s.pending ∧ (State.sampleUnit s u).part = s.part ∧
    (State.sampleUnit s u).cycles = s.cycles ∧ (State.sampleUnit s u).mem = s.mem := by
  simp -implicitDefEqProofs [State.sampleUnit]
@[simp] theorem State.sampleDue_keeps (s : State) :
    (State.sampleDue s).pending = s.pending ∧ (State.sampleDue s).part = s.part ∧ (State.sampleDue s).cycles = s.cycles ∧
    (State.sampleDue s).mem = s.mem := by
  simp -implicitDefEqProofs [State.sampleDue]
@[simp] theorem bellLoad_keeps (s : State) :
    (bellLoad s).pending = s.pending ∧ (bellLoad s).part = s.part ∧ (bellLoad s).cycles = s.cycles ∧
    (bellLoad s).mem = s.mem := by
  unfold bellLoad
  split <;> simp -implicitDefEqProofs
@[simp] theorem State.countSkip_keeps (s : State) (e : TtEntry) :
    (State.countSkip s e).pending = s.pending ∧ (State.countSkip s e).part = s.part ∧
    (State.countSkip s e).cycles = s.cycles ∧ (State.countSkip s e).mem = s.mem := by
  simp -implicitDefEqProofs [State.countSkip]
@[simp] theorem bellStarved_keeps (s : State) :
    (bellStarved s).pending = s.pending ∧ (bellStarved s).part = s.part ∧ (bellStarved s).cycles = s.cycles ∧
    (bellStarved s).mem = s.mem := by
  unfold bellStarved
  split <;> simp -implicitDefEqProofs
@[simp] theorem State.pulsePin_keeps (s : State) (pin : Nat) (width : Nat) (trim : Int) :
    (State.pulsePin s pin width trim).pending = s.pending ∧ (State.pulsePin s pin width trim).part = s.part ∧
    (State.pulsePin s pin width trim).cycles = s.cycles ∧ (State.pulsePin s pin width trim).mem = s.mem := by
  unfold State.pulsePin
  split <;> simp -implicitDefEqProofs
@[simp] theorem State.fireTrigger_keeps (s : State) (port : Nat) (act : Instant) :
    (State.fireTrigger s port act).pending = s.pending ∧ (State.fireTrigger s port act).part = s.part ∧
    (State.fireTrigger s port act).cycles = s.cycles ∧ (State.fireTrigger s port act).mem = s.mem := by
  simp -implicitDefEqProofs [State.fireTrigger]
@[simp] theorem State.fireEvent_keeps (s : State) (n : Nat) (arg : Nat) :
    (State.fireEvent s n arg).pending = s.pending ∧ (State.fireEvent s n arg).part = s.part ∧
    (State.fireEvent s n arg).cycles = s.cycles ∧ (State.fireEvent s n arg).mem = s.mem := by
  simp -implicitDefEqProofs [State.fireEvent]
@[simp] theorem State.fireAction_keeps (s : State) (n : Nat) (e : TtEntry) (act : Instant) :
    (State.fireAction s n e act).pending = s.pending ∧ (State.fireAction s n e act).part = s.part ∧
    (State.fireAction s n e act).cycles = s.cycles ∧ (State.fireAction s n e act).mem = s.mem := by
  unfold State.fireAction
  split <;> simp -implicitDefEqProofs
@[simp] theorem State.fire_keeps (s : State) (u : BellUnit) :
    (State.fire s u).pending = s.pending ∧ (State.fire s u).part = s.part ∧ (State.fire s u).cycles = s.cycles ∧
    (State.fire s u).mem = s.mem := by
  simp -implicitDefEqProofs [State.fire]
@[simp] theorem bellFire_keeps (s : State) :
    (bellFire s).pending = s.pending ∧ (bellFire s).part = s.part ∧ (bellFire s).cycles = s.cycles ∧
    (bellFire s).mem = s.mem := by
  simp only [bellFire]
  (repeat' split) <;> simp -implicitDefEqProofs
@[simp] theorem bellPulseEnd_keeps (pin : Nat) (s : State) :
    (bellPulseEnd pin s).pending = s.pending ∧ (bellPulseEnd pin s).part = s.part ∧ (bellPulseEnd pin s).cycles = s.cycles ∧
    (bellPulseEnd pin s).mem = s.mem := by
  unfold bellPulseEnd
  split <;> simp -implicitDefEqProofs
@[simp] theorem State.fireCommit_keeps (s : State) (c : Commit) :
    (State.fireCommit s c).pending = s.pending ∧ (State.fireCommit s c).part = s.part ∧
    (State.fireCommit s c).cycles = s.cycles ∧ (State.fireCommit s c).mem = s.mem := by
  simp -implicitDefEqProofs [State.fireCommit]
@[simp] theorem commitUnitFire_keeps (s : State) :
    (commitUnitFire s).pending = s.pending ∧ (commitUnitFire s).part = s.part ∧ (commitUnitFire s).cycles = s.cycles ∧
    (commitUnitFire s).mem = s.mem := by
  unfold commitUnitFire
  split <;> simp -implicitDefEqProofs
@[simp] theorem loadDue_keeps (n : Nat) (s : State) :
    (loadDue n s).pending = s.pending ∧ (loadDue n s).part = s.part ∧ (loadDue n s).cycles = s.cycles ∧
    (loadDue n s).mem = s.mem := by
  induction n generalizing s with
  | zero => simp [loadDue]
  | succ n ih =>
    unfold loadDue
    split
    · simp
    · split
      · simp
      · split <;> simp [ih]
@[simp] theorem State.endCycle_keeps (s : State) :
    (State.endCycle s).pending = s.pending ∧ (State.endCycle s).part = s.part ∧ (State.endCycle s).cycles = s.cycles ∧
    (State.endCycle s).mem = s.mem := by
  simp -implicitDefEqProofs [State.endCycle]
@[simp] theorem State.beat_keeps (s : State) :
    (State.beat s).pending = s.pending ∧ (State.beat s).part = s.part ∧ (State.beat s).mem = s.mem := by
  simp -implicitDefEqProofs [State.beat]
@[simp] theorem State.rephase_keeps (s : State) (old : Nat) (n : Nat) (r : Run) :
    (State.rephase s old n r).pending = s.pending ∧ (State.rephase s old n r).part = s.part ∧
    (State.rephase s old n r).cycles = s.cycles ∧ (State.rephase s old n r).mem = s.mem := by
  simp -implicitDefEqProofs [State.rephase]
@[simp] theorem State.rephaseCommit_keeps (s : State) (old : Nat) (ts : Int) (c : Commit) :
    (State.rephaseCommit s old ts c).pending = s.pending ∧ (State.rephaseCommit s old ts c).part = s.part ∧
    (State.rephaseCommit s old ts c).cycles = s.cycles ∧ (State.rephaseCommit s old ts c).mem = s.mem := by
  simp -implicitDefEqProofs [State.rephaseCommit]
@[simp] theorem reepoch_keeps (s : State) :
    (reepoch s).pending = s.pending ∧ (reepoch s).part = s.part ∧ (reepoch s).cycles = s.cycles ∧
    (reepoch s).mem = s.mem := by
  unfold reepoch
  split <;> simp -implicitDefEqProofs
@[simp] theorem State.loadSet_keeps (s : State) (l : LiveSet) :
    (State.loadSet s l).pending = s.pending ∧ (State.loadSet s l).part = s.part ∧ (State.loadSet s l).cycles = s.cycles ∧
    (State.loadSet s l).mem = s.mem := by
  simp -implicitDefEqProofs [State.loadSet]
@[simp] theorem State.liveFromShadow_keeps (s : State) :
    (State.liveFromShadow s).pending = s.pending ∧ (State.liveFromShadow s).part = s.part ∧
    (State.liveFromShadow s).cycles = s.cycles ∧ (State.liveFromShadow s).mem = s.mem := by
  simp -implicitDefEqProofs [State.liveFromShadow]
@[simp] theorem State.setSlot_keeps (s : State) (n : Nat) (b : Bytes) :
    (State.setSlot s n b).pending = s.pending ∧ (State.setSlot s n b).part = s.part ∧
    (State.setSlot s n b).cycles = s.cycles ∧ (State.setSlot s n b).mem = s.mem := by
  simp -implicitDefEqProofs [State.setSlot]
@[simp] theorem State.measureInto_keeps (s : State) (n : Nat) (m : Bytes) :
    (State.measureInto s n m).pending = s.pending ∧ (State.measureInto s n m).part = s.part ∧
    (State.measureInto s n m).cycles = s.cycles ∧ (State.measureInto s n m).mem = s.mem := by
  simp -implicitDefEqProofs [State.measureInto]
@[simp] theorem State.laneFollow_keeps (s : State) (l : Lane) (was : Nat) :
    (State.laneFollow s l was).pending = s.pending ∧ (State.laneFollow s l was).part = s.part ∧
    (State.laneFollow s l was).cycles = s.cycles ∧ (State.laneFollow s l was).mem = s.mem := by
  unfold State.laneFollow
  split <;> simp -implicitDefEqProofs
@[simp] theorem onLane_pending (l : Lane) (f : State → State) (s : State) (h : ∀ t, (f t).pending = t.pending) :
    (onLane l f s).pending = s.pending := by simp [onLane, h]
@[simp] theorem onLane_part (l : Lane) (f : State → State) (s : State) (h : ∀ t, (f t).part = t.part) :
    (onLane l f s).part = s.part := by simp [onLane, h]
@[simp] theorem onLane_cycles (l : Lane) (f : State → State) (s : State) (h : ∀ t, (f t).cycles = t.cycles) :
    (onLane l f s).cycles = s.cycles := by simp [onLane, h]
@[simp] theorem onLane_mem (l : Lane) (f : State → State) (s : State) (h : ∀ t, (f t).mem = t.mem) :
    (onLane l f s).mem = s.mem := by simp [onLane, h]
@[simp] theorem messageResponseTimeout_keeps (l : Lane) (tag : Nat) (s : State) :
    (messageResponseTimeout l tag s).pending = s.pending ∧ (messageResponseTimeout l tag s).part = s.part ∧
    (messageResponseTimeout l tag s).cycles = s.cycles ∧ (messageResponseTimeout l tag s).mem = s.mem := by
  simp only [messageResponseTimeout]
  (repeat' split) <;> simp -implicitDefEqProofs
@[simp] theorem rateAckRow_keeps (l : Lane) (tag : Nat) (s : State) :
    (rateAckRow l tag s).pending = s.pending ∧ (rateAckRow l tag s).part = s.part ∧ (rateAckRow l tag s).cycles = s.cycles ∧
    (rateAckRow l tag s).mem = s.mem := by
  unfold rateAckRow
  split <;> simp -implicitDefEqProofs
@[simp] theorem refusedRow_keeps (l : Lane) (tag : Nat) (kind : Nat) (s : State) :
    (refusedRow l tag kind s).pending = s.pending ∧ (refusedRow l tag kind s).part = s.part ∧
    (refusedRow l tag kind s).cycles = s.cycles ∧ (refusedRow l tag kind s).mem = s.mem := by
  unfold refusedRow
  (repeat' split) <;> simp -implicitDefEqProofs
theorem laneCommand_tame (l : Lane) (value : Nat) (s : State) : ResTame s (laneCommand l value s) := by
  unfold laneCommand
  (repeat' (first | exact .error _ _ | refine .ok ?_ | refine .bind _ _ (fun _ => ?_) | refine .ite _ ?_ ?_ | split)) <;>
      simp -implicitDefEqProofs [State.Tame]
theorem laneEnableWrite_tame (l : Lane) (value : Nat) (s : State) : ResTame s (laneEnableWrite l value s) := by
  unfold laneEnableWrite
  (repeat' (first | exact .error _ _ | refine .ok ?_ | refine .bind _ _ (fun _ => ?_) | refine .ite _ ?_ ?_ | split)) <;>
      simp -implicitDefEqProofs [State.Tame]
theorem laneTestModeWrite_tame (l : Lane) (v : Nat) (s : State) : ResTame s (laneTestModeWrite l v s) := by
  unfold laneTestModeWrite
  exact ResTame.andThen _ _ (laneTestMode_tame l v s) fun t => ResTame.ok (by simp [State.Tame])
@[simp] theorem State.restartFrame_keeps (s : State) (f : Frame) :
    (State.restartFrame s f).pending = s.pending ∧ (State.restartFrame s f).part = s.part ∧
    (State.restartFrame s f).cycles = s.cycles ∧ (State.restartFrame s f).mem = s.mem := by
  simp only [State.restartFrame]
  (repeat' split) <;> simp -implicitDefEqProofs
@[simp] theorem State.clearPipe_keeps (s : State) (p : Nat) :
    (State.clearPipe s p).pending = s.pending ∧ (State.clearPipe s p).part = s.part ∧
    (State.clearPipe s p).cycles = s.cycles ∧ (State.clearPipe s p).mem = s.mem := by
  simp -implicitDefEqProofs [State.clearPipe]
@[simp] theorem State.pipeOff_keeps (s : State) (p : Nat) :
    (State.pipeOff s p).pending = s.pending ∧ (State.pipeOff s p).part = s.part ∧ (State.pipeOff s p).cycles = s.cycles ∧
    (State.pipeOff s p).mem = s.mem := by
  simp -implicitDefEqProofs [State.pipeOff]
@[simp] theorem State.domainOff_keeps (s : State) (d : Nat) :
    (State.domainOff s d).pending = s.pending ∧ (State.domainOff s d).part = s.part ∧
    (State.domainOff s d).cycles = s.cycles ∧ (State.domainOff s d).mem = s.mem := by
  simp -implicitDefEqProofs [State.domainOff]
@[simp] theorem State.domainOn__keeps (s : State) (d : Nat) :
    (State.domainOn_ s d).pending = s.pending ∧ (State.domainOn_ s d).part = s.part ∧
    (State.domainOn_ s d).cycles = s.cycles ∧ (State.domainOn_ s d).mem = s.mem := by
  simp -implicitDefEqProofs [State.domainOn_]
@[simp] theorem State.dropDomain_keeps (s : State) (off : Nat) (d : Nat) :
    (State.dropDomain s off d).pending = s.pending ∧ (State.dropDomain s off d).part = s.part ∧
    (State.dropDomain s off d).cycles = s.cycles ∧ (State.dropDomain s off d).mem = s.mem := by
  simp -implicitDefEqProofs [State.dropDomain]
@[simp] theorem State.liftDomain_keeps (s : State) (d : Nat) :
    (State.liftDomain s d).pending = s.pending ∧ (State.liftDomain s d).part = s.part ∧
    (State.liftDomain s d).cycles = s.cycles ∧ (State.liftDomain s d).mem = s.mem := by
  simp -implicitDefEqProofs [State.liftDomain]
@[simp] theorem State.startDomain_keeps (s : State) (d : Nat) :
    (State.startDomain s d).pending = s.pending ∧ (State.startDomain s d).part = s.part ∧
    (State.startDomain s d).cycles = s.cycles ∧ (State.startDomain s d).mem = s.mem := by
  simp -implicitDefEqProofs [State.startDomain]
@[simp] theorem State.domainsUp_keeps (s : State) :
    (State.domainsUp s).pending = s.pending ∧ (State.domainsUp s).part = s.part ∧ (State.domainsUp s).cycles = s.cycles ∧
    (State.domainsUp s).mem = s.mem := by
  simp -implicitDefEqProofs [State.domainsUp]
theorem pwrDomainWrite_tame (d : Nat) (value : Nat) (s : State) : ResTame s (pwrDomainWrite d value s) := by
  unfold pwrDomainWrite
  (repeat' (first | exact .error _ _ | refine .ok ?_ | refine .bind _ _ (fun _ => ?_) | refine .ite _ ?_ ?_ | split)) <;>
      simp -implicitDefEqProofs [State.Tame]
@[simp] theorem domainSwitchDone_keeps (d : Nat) (s : State) :
    (domainSwitchDone d s).pending = s.pending ∧ (domainSwitchDone d s).part = s.part ∧
    (domainSwitchDone d s).cycles = s.cycles ∧ (domainSwitchDone d s).mem = s.mem := by
  unfold domainSwitchDone
  split <;> simp -implicitDefEqProofs
@[simp] theorem State.cutCal_keeps (s : State) :
    (State.cutCal s).pending = s.pending ∧ (State.cutCal s).part = s.part ∧ (State.cutCal s).cycles = s.cycles ∧
    (State.cutCal s).mem = s.mem := by
  unfold State.cutCal
  split <;> simp -implicitDefEqProofs
@[simp] theorem State.holdAll_keeps (s : State) (kind : Nat) :
    (State.holdAll s kind).pending = s.pending ∧ (State.holdAll s kind).part = s.part := by
  simp -implicitDefEqProofs [State.holdAll]
@[simp] theorem State.holdAll_wf (s : State) (kind : Nat) : Memory.wf (s.holdAll kind).mem = true := by
  simp [State.holdAll, State.reset, Memory.wf, Memory.wfFrom]
@[simp] theorem State.holdDevice_keeps (s : State) (kind : Nat) :
    (State.holdDevice s kind).pending = s.pending ∧ (State.holdDevice s kind).part = s.part ∧
    (State.holdDevice s kind).cycles = s.cycles := by
  simp -implicitDefEqProofs [State.holdDevice]
@[simp] theorem State.holdDevice_wf (s : State) (kind : Nat) : Memory.wf (s.holdDevice kind).mem = true := by
  simp [State.holdDevice, State.reset, Memory.wf, Memory.wfFrom]
@[simp] theorem State.truncateAll_keeps (s : State) :
    (State.truncateAll s).pending = s.pending ∧ (State.truncateAll s).part = s.part ∧
    (State.truncateAll s).cycles = s.cycles ∧ (State.truncateAll s).mem = s.mem := by
  simp -implicitDefEqProofs [State.truncateAll]
@[simp] theorem State.deviceReset_keeps (s : State) (kind : Nat) :
    (State.deviceReset s kind).pending = s.pending ∧ (State.deviceReset s kind).part = s.part ∧
    (State.deviceReset s kind).cycles = s.cycles := by
  unfold State.deviceReset
  split <;> simp -implicitDefEqProofs
@[simp] theorem State.deviceReset_wf (s : State) (kind : Nat) (hw : Memory.wf s.mem = true) :
    Memory.wf (State.deviceReset s kind).mem = true := by
  unfold State.deviceReset
  (repeat' split) <;> simp -implicitDefEqProofs [*]
@[simp] theorem powerOnReset_keeps (s : State) :
    (powerOnReset s).pending = s.pending ∧ (powerOnReset s).part = s.part := by
  simp -implicitDefEqProofs [powerOnReset]
@[simp] theorem powerOnReset_wf (s : State) :
    Memory.wf (powerOnReset s).mem = true := by
  simp -implicitDefEqProofs [powerOnReset]
@[simp] theorem supplyReset_keeps (s : State) :
    (supplyReset s).pending = s.pending ∧ (supplyReset s).part = s.part := by
  simp -implicitDefEqProofs [supplyReset]
@[simp] theorem supplyReset_wf (s : State) (hw : Memory.wf s.mem = true) :
    Memory.wf (supplyReset s).mem = true := by
  unfold supplyReset
  (repeat' split) <;> simp -implicitDefEqProofs [*]
@[simp] theorem supplyResetRelease_keeps (s : State) :
    (supplyResetRelease s).pending = s.pending ∧ (supplyResetRelease s).part = s.part ∧
    (supplyResetRelease s).cycles = s.cycles ∧ (supplyResetRelease s).mem = s.mem := by
  simp -implicitDefEqProofs [supplyResetRelease]
@[simp] theorem State.runImage_keeps (s : State) (k : Nat) :
    (State.runImage s k).pending = s.pending ∧ (State.runImage s k).part = s.part ∧ (State.runImage s k).cycles = s.cycles ∧
    (State.runImage s k).mem = s.mem := by
  simp -implicitDefEqProofs [State.runImage]
@[simp] theorem State.rebuild_keeps (s : State) :
    (State.rebuild s).pending = s.pending ∧ (State.rebuild s).part = s.part ∧ (State.rebuild s).cycles = s.cycles ∧
    (State.rebuild s).mem = s.mem := by
  unfold State.rebuild
  split <;> simp -implicitDefEqProofs
@[simp] theorem State.findTorn_keeps (s : State) :
    (State.findTorn s).pending = s.pending ∧ (State.findTorn s).part = s.part ∧ (State.findTorn s).cycles = s.cycles ∧
    (State.findTorn s).mem = s.mem := by
  simp -implicitDefEqProofs [State.findTorn]
@[simp] theorem State.loadTrims_keeps (s : State) :
    (State.loadTrims s).pending = s.pending ∧ (State.loadTrims s).part = s.part ∧ (State.loadTrims s).cycles = s.cycles ∧
    (State.loadTrims s).mem = s.mem := by
  simp -implicitDefEqProofs [State.loadTrims]
@[simp] theorem State.bootBist_keeps (s : State) :
    (State.bootBist s).pending = s.pending ∧ (State.bootBist s).part = s.part ∧ (State.bootBist s).cycles = s.cycles ∧
    (State.bootBist s).mem = s.mem := by
  simp -implicitDefEqProofs [State.bootBist]
@[simp] theorem State.bootTime_keeps (s : State) :
    (State.bootTime s).pending = s.pending ∧ (State.bootTime s).part = s.part ∧ (State.bootTime s).cycles = s.cycles ∧
    (State.bootTime s).mem = s.mem := by
  simp -implicitDefEqProofs [State.bootTime]
@[simp] theorem State.bootDomains_keeps (s : State) :
    (State.bootDomains s).pending = s.pending ∧ (State.bootDomains s).part = s.part ∧
    (State.bootDomains s).cycles = s.cycles ∧ (State.bootDomains s).mem = s.mem := by
  simp -implicitDefEqProofs [State.bootDomains]
@[simp] theorem State.answerDap_keeps (s : State) :
    (State.answerDap s).pending = s.pending ∧ (State.answerDap s).part = s.part ∧ (State.answerDap s).cycles = s.cycles ∧
    (State.answerDap s).mem = s.mem := by
  simp -implicitDefEqProofs [State.answerDap]
@[simp] theorem State.endReset_keeps (s : State) (kind : Nat) :
    (State.endReset s kind).pending = s.pending ∧ (State.endReset s kind).part = s.part ∧
    (State.endReset s kind).cycles = s.cycles ∧ (State.endReset s kind).mem = s.mem := by
  simp -implicitDefEqProofs [State.endReset]
@[simp] theorem State.loaderOnly_keeps (s : State) (kind : Nat) :
    (State.loaderOnly s kind).pending = s.pending ∧ (State.loaderOnly s kind).part = s.part ∧
    (State.loaderOnly s kind).cycles = s.cycles ∧ (State.loaderOnly s kind).mem = s.mem := by
  simp -implicitDefEqProofs [State.loaderOnly]
@[simp] theorem State.bootFirmware_keeps (s : State) (kind : Nat) (sel : Nat) (k : Nat) :
    (State.bootFirmware s kind sel k).pending = s.pending ∧ (State.bootFirmware s kind sel k).part = s.part ∧
    (State.bootFirmware s kind sel k).cycles = s.cycles ∧ (State.bootFirmware s kind sel k).mem = s.mem := by
  simp -implicitDefEqProofs [State.bootFirmware]
@[simp] theorem State.bootImage_keeps (s : State) (kind : Nat) (sel : Nat) :
    (State.bootImage s kind sel).pending = s.pending ∧ (State.bootImage s kind sel).part = s.part ∧
    (State.bootImage s kind sel).cycles = s.cycles ∧ (State.bootImage s kind sel).mem = s.mem := by
  simp only [State.bootImage]
  (repeat' split) <;> simp -implicitDefEqProofs
@[simp] theorem State.startXspi_keeps (s : State) :
    (State.startXspi s).pending = s.pending ∧ (State.startXspi s).part = s.part ∧ (State.startXspi s).cycles = s.cycles ∧
    (State.startXspi s).mem = s.mem := by
  simp -implicitDefEqProofs [State.startXspi]
@[simp] theorem resetRelease_keeps (node : Nat) (sel : Nat) (s : State) :
    (resetRelease node sel s).pending = s.pending ∧ (resetRelease node sel s).part = s.part ∧
    (resetRelease node sel s).cycles = s.cycles ∧ (resetRelease node sel s).mem = s.mem := by
  simp only [resetRelease]
  (repeat' split) <;> simp -implicitDefEqProofs
@[simp] theorem State.trainAt_keeps (l : List Nat) (s : State) (r : Nat) :
    (s.trainAt r l).1.pending = s.pending ∧ (s.trainAt r l).1.part = s.part ∧ (s.trainAt r l).1.cycles = s.cycles ∧
    (s.trainAt r l).1.mem = s.mem := by
  induction l generalizing s r with
  | nil => simp [State.trainAt]
  | cons c l ih =>
    unfold State.trainAt
    split <;> simp [ih]
@[simp] theorem State.dramTrained_keeps (s : State) (density : Nat) (rate : Nat) :
    (State.dramTrained s density rate).pending = s.pending ∧ (State.dramTrained s density rate).part = s.part ∧
    (State.dramTrained s density rate).cycles = s.cycles ∧ (State.dramTrained s density rate).mem = s.mem := by
  simp -implicitDefEqProofs [State.dramTrained]
@[simp] theorem State.discardTargets_keeps (s : State) (scope : Nat) (units : List Nat) :
    (State.discardTargets s scope units).pending = s.pending ∧ (State.discardTargets s scope units).part = s.part ∧
    (State.discardTargets s scope units).cycles = s.cycles ∧ (State.discardTargets s scope units).mem = s.mem := by
  simp -implicitDefEqProofs [State.discardTargets]
@[simp] theorem State.resetKeys_keeps (s : State) (l : List Nat) :
    (State.resetKeys s l).pending = s.pending ∧ (State.resetKeys s l).part = s.part ∧
    (State.resetKeys s l).cycles = s.cycles ∧ (State.resetKeys s l).mem = s.mem := by
  simp -implicitDefEqProofs [State.resetKeys]
@[simp] theorem State.resetLane_keeps (s : State) (l : Lane) :
    (State.resetLane s l).pending = s.pending ∧ (State.resetLane s l).part = s.part ∧
    (State.resetLane s l).cycles = s.cycles ∧ (State.resetLane s l).mem = s.mem := by
  simp -implicitDefEqProofs [State.resetLane]
@[simp] theorem State.resetFifos_keeps (s : State) (lo : Nat) (hi : Nat) :
    (State.resetFifos s lo hi).pending = s.pending ∧ (State.resetFifos s lo hi).part = s.part ∧
    (State.resetFifos s lo hi).cycles = s.cycles ∧ (State.resetFifos s lo hi).mem = s.mem := by
  simp -implicitDefEqProofs [State.resetFifos]
@[simp] theorem State.resetSram_keeps (s : State) (m : Nat) :
    (State.resetSram s m).pending = s.pending ∧ (State.resetSram s m).part = s.part ∧
    (State.resetSram s m).cycles = s.cycles := by
  simp -implicitDefEqProofs [State.resetSram]
@[simp] theorem State.resetSram_wf (s : State) (m : Nat) (hw : Memory.wf s.mem = true) :
    Memory.wf (State.resetSram s m).mem = true := by
  simp -implicitDefEqProofs [State.resetSram, hw]
@[simp] theorem State.resetHub_keeps (s : State) (h : Nat) :
    (State.resetHub s h).pending = s.pending ∧ (State.resetHub s h).part = s.part ∧
    (State.resetHub s h).cycles = s.cycles := by
  simp -implicitDefEqProofs [State.resetHub]
@[simp] theorem State.resetHub_wf (s : State) (h : Nat) (hw : Memory.wf s.mem = true) :
    Memory.wf (State.resetHub s h).mem = true := by
  simp -implicitDefEqProofs [State.resetHub, hw]
@[simp] theorem State.resetMx_keeps (s : State) :
    (State.resetMx s).pending = s.pending ∧ (State.resetMx s).part = s.part ∧ (State.resetMx s).cycles = s.cycles := by
  simp -implicitDefEqProofs [State.resetMx]
@[simp] theorem State.resetMx_wf (s : State) (hw : Memory.wf s.mem = true) : Memory.wf s.resetMx.mem = true := by
  unfold State.resetMx
  simp -implicitDefEqProofs
  refine State.resetSram_wf _ _ ?_
  simp only [State.resetFifos_keeps]
  refine State.engineReset_wf _ _ (State.engineReset_wf _ _ ?_)
  simpa using hw
@[simp] theorem State.resetNx_keeps (s : State) :
    (State.resetNx s).pending = s.pending ∧ (State.resetNx s).part = s.part ∧ (State.resetNx s).cycles = s.cycles := by
  simp -implicitDefEqProofs [State.resetNx]
@[simp] theorem State.resetNx_wf (s : State) (hw : Memory.wf s.mem = true) :
    Memory.wf (State.resetNx s).mem = true := by
  simp -implicitDefEqProofs [State.resetNx, hw]
@[simp] theorem State.clusterReset_keeps (s : State) (c : Nat) (cause : Nat) :
    (State.clusterReset s c cause).pending = s.pending ∧ (State.clusterReset s c cause).part = s.part ∧
    (State.clusterReset s c cause).cycles = s.cycles := by
  simp -implicitDefEqProofs [State.clusterReset]
@[simp] theorem State.clusterReset_wf (s : State) (c : Nat) (cause : Nat) (hw : Memory.wf s.mem = true) :
    Memory.wf (State.clusterReset s c cause).mem = true := by
  unfold State.clusterReset
  (repeat' split) <;> simp -implicitDefEqProofs [*]
@[simp] theorem clusterResetComplete_keeps (c : Nat) (s : State) :
    (clusterResetComplete c s).pending = s.pending ∧ (clusterResetComplete c s).part = s.part ∧
    (clusterResetComplete c s).cycles = s.cycles ∧ (clusterResetComplete c s).mem = s.mem := by
  simp -implicitDefEqProofs [clusterResetComplete]
@[simp] theorem State.withPwr_keeps (s : State) (f : PowerSt → PowerSt) :
    (State.withPwr s f).pending = s.pending ∧ (State.withPwr s f).part = s.part ∧ (State.withPwr s f).cycles = s.cycles ∧
    (State.withPwr s f).mem = s.mem := by
  simp -implicitDefEqProofs [State.withPwr]
@[simp] theorem State.beginEntry_keeps (s : State) (target : Nat) (limit : Nat) :
    (State.beginEntry s target limit).pending = s.pending ∧ (State.beginEntry s target limit).part = s.part ∧
    (State.beginEntry s target limit).cycles = s.cycles ∧ (State.beginEntry s target limit).mem = s.mem := by
  simp -implicitDefEqProofs [State.beginEntry]
@[simp] theorem State.enterCritical_keeps (s : State) :
    (State.enterCritical s).pending = s.pending ∧ (State.enterCritical s).part = s.part ∧
    (State.enterCritical s).cycles = s.cycles ∧ (State.enterCritical s).mem = s.mem := by
  simp -implicitDefEqProofs [State.enterCritical]
@[simp] theorem State.domainsDown_keeps (s : State) :
    (State.domainsDown s).pending = s.pending ∧ (State.domainsDown s).part = s.part ∧
    (State.domainsDown s).cycles = s.cycles ∧ (State.domainsDown s).mem = s.mem := by
  simp -implicitDefEqProofs [State.domainsDown]
@[simp] theorem State.finishWake_keeps (s : State) :
    (State.finishWake s).pending = s.pending ∧ (State.finishWake s).part = s.part ∧ (State.finishWake s).cycles = s.cycles ∧
    (State.finishWake s).mem = s.mem := by
  simp -implicitDefEqProofs [State.finishWake]
@[simp] theorem State.wakeUp_keeps (s : State) (code : Nat) :
    (State.wakeUp s code).pending = s.pending ∧ (State.wakeUp s code).part = s.part ∧
    (State.wakeUp s code).cycles = s.cycles ∧ (State.wakeUp s code).mem = s.mem := by
  simp -implicitDefEqProofs [State.wakeUp]
@[simp] theorem wake_keeps (s : State) :
    (wake s).pending = s.pending ∧ (wake s).part = s.part ∧ (wake s).cycles = s.cycles ∧ (wake s).mem = s.mem := by
  simp -implicitDefEqProofs [wake]
@[simp] theorem State.closeSessions_keeps (s : State) (p : Session → Bool) :
    (State.closeSessions s p).pending = s.pending ∧ (State.closeSessions s p).part = s.part ∧
    (State.closeSessions s p).cycles = s.cycles ∧ (State.closeSessions s p).mem = s.mem := by
  simp -implicitDefEqProofs [State.closeSessions]
@[simp] theorem State.loseDram_keeps (s : State) :
    (State.loseDram s).pending = s.pending ∧ (State.loseDram s).part = s.part ∧ (State.loseDram s).cycles = s.cycles := by
  simp -implicitDefEqProofs [State.loseDram]
@[simp] theorem State.loseDram_wf (s : State) (hw : Memory.wf s.mem = true) :
    Memory.wf (State.loseDram s).mem = true := by
  simp -implicitDefEqProofs [State.loseDram, hw]
@[simp] theorem State.loseTraining_keeps (s : State) :
    (State.loseTraining s).pending = s.pending ∧ (State.loseTraining s).part = s.part ∧
    (State.loseTraining s).cycles = s.cycles ∧ (State.loseTraining s).mem = s.mem := by
  simp -implicitDefEqProofs [State.loseTraining]
@[simp] theorem State.finishEntry_keeps (s : State) (target : Nat) :
    (State.finishEntry s target).pending = s.pending ∧ (State.finishEntry s target).part = s.part ∧
    (State.finishEntry s target).cycles = s.cycles := by
  simp -implicitDefEqProofs [State.finishEntry]
@[simp] theorem State.finishEntry_wf (s : State) (target : Nat) (hw : Memory.wf s.mem = true) :
    Memory.wf (State.finishEntry s target).mem = true := by
  unfold State.finishEntry
  simp only []
  (repeat' split) <;> simp -implicitDefEqProofs [*]
@[simp] theorem State.drainOutputs_keeps (s : State) :
    (State.drainOutputs s).pending = s.pending ∧ (State.drainOutputs s).part = s.part ∧
    (State.drainOutputs s).cycles = s.cycles ∧ (State.drainOutputs s).mem = s.mem := by
  simp -implicitDefEqProofs [State.drainOutputs]
@[simp] theorem pwrDrainLimit_keeps (s : State) :
    (pwrDrainLimit s).pending = s.pending ∧ (pwrDrainLimit s).part = s.part ∧ (pwrDrainLimit s).cycles = s.cycles ∧
    (pwrDrainLimit s).mem = s.mem := by
  unfold pwrDrainLimit
  split <;> simp -implicitDefEqProofs
@[simp] theorem outputDrainTimeout_keeps (s : State) :
    (outputDrainTimeout s).pending = s.pending ∧ (outputDrainTimeout s).part = s.part ∧
    (outputDrainTimeout s).cycles = s.cycles := by
  unfold outputDrainTimeout
  split <;> simp -implicitDefEqProofs
@[simp] theorem outputDrainTimeout_wf (s : State) (hw : Memory.wf s.mem = true) :
    Memory.wf (outputDrainTimeout s).mem = true := by
  unfold outputDrainTimeout State.whenever
  (try simp only [])
  (repeat' split) <;> simp -implicitDefEqProofs [*]
@[simp] theorem State.powerCommand_keeps (s : State) (c : Nat) :
    (State.powerCommand s c).pending = s.pending ∧ (State.powerCommand s c).part = s.part ∧
    (State.powerCommand s c).cycles = s.cycles := by
  simp -implicitDefEqProofs [State.powerCommand]
@[simp] theorem State.powerCommand_wf (s : State) (c : Nat) (hw : Memory.wf s.mem = true) :
    Memory.wf (State.powerCommand s c).mem = true := by
  unfold State.powerCommand
  (repeat' split) <;> simp -implicitDefEqProofs [*]
@[simp] theorem State.powerProgress_keeps (s : State) :
    (State.powerProgress s).pending = s.pending ∧ (State.powerProgress s).part = s.part ∧
    (State.powerProgress s).cycles = s.cycles := by
  unfold State.powerProgress
  (repeat' split) <;> simp -implicitDefEqProofs
@[simp] theorem State.powerProgress_wf (s : State) (hw : Memory.wf s.mem = true) :
    Memory.wf (State.powerProgress s).mem = true := by
  unfold State.powerProgress
  (repeat' split) <;> simp -implicitDefEqProofs [*]
theorem pwrCommandCheck_tame (c : Nat) (s : State) : ResTame s (pwrCommandCheck c s) := by
  unfold pwrCommandCheck
  (repeat' (first | exact .error _ _ | refine .ok ?_ | refine .bind _ _ (fun _ => ?_) | refine .ite _ ?_ ?_ | split)) <;>
      simp -implicitDefEqProofs [State.Tame]
@[simp] theorem pwrCommandAct_keeps (c : Nat) (s : State) :
    (pwrCommandAct c s).pending = s.pending ∧ (pwrCommandAct c s).part = s.part ∧ (pwrCommandAct c s).cycles = s.cycles := by
  simp -implicitDefEqProofs [pwrCommandAct]
@[simp] theorem pwrCommandAct_wf (c : Nat) (s : State) (hw : Memory.wf s.mem = true) :
    Memory.wf (pwrCommandAct c s).mem = true := by
  unfold pwrCommandAct
  (repeat' split) <;> simp -implicitDefEqProofs [*]
@[simp] theorem dramTrainingComplete_keeps (density : Nat) (failures : List Nat) (s : State) :
    (dramTrainingComplete density failures s).pending = s.pending ∧ (dramTrainingComplete density failures s).part = s.part ∧
    (dramTrainingComplete density failures s).cycles = s.cycles := by
  simp -implicitDefEqProofs [dramTrainingComplete]
@[simp] theorem dramTrainingComplete_wf (density : Nat) (failures : List Nat) (s : State) (hw : Memory.wf s.mem = true) :
    Memory.wf (dramTrainingComplete density failures s).mem = true := by
  unfold dramTrainingComplete State.whenever
  (try simp only [])
  (repeat' split) <;> simp -implicitDefEqProofs [*]
@[simp] theorem avsWrite_keeps (mv : Nat) (ok : Bool) (s : State) :
    (avsWrite mv ok s).pending = s.pending ∧ (avsWrite mv ok s).part = s.part ∧ (avsWrite mv ok s).cycles = s.cycles ∧
    (avsWrite mv ok s).mem = s.mem := by
  simp -implicitDefEqProofs [avsWrite]
@[simp] theorem State.noteTj_keeps (s : State) (t : Int) :
    (State.noteTj s t).pending = s.pending ∧ (State.noteTj s t).part = s.part ∧ (State.noteTj s t).cycles = s.cycles ∧
    (State.noteTj s t).mem = s.mem := by
  simp -implicitDefEqProofs [State.noteTj]
@[simp] theorem tjThrottle_keeps (t : Int) (s : State) :
    (tjThrottle t s).pending = s.pending ∧ (tjThrottle t s).part = s.part ∧ (tjThrottle t s).cycles = s.cycles ∧
    (tjThrottle t s).mem = s.mem := by
  simp -implicitDefEqProofs [tjThrottle]
@[simp] theorem tjThrottleRelease_keeps (t : Int) (s : State) :
    (tjThrottleRelease t s).pending = s.pending ∧ (tjThrottleRelease t s).part = s.part ∧
    (tjThrottleRelease t s).cycles = s.cycles ∧ (tjThrottleRelease t s).mem = s.mem := by
  simp -implicitDefEqProofs [tjThrottleRelease]
@[simp] theorem tjCritical_keeps (t : Int) (s : State) :
    (tjCritical t s).pending = s.pending ∧ (tjCritical t s).part = s.part ∧ (tjCritical t s).cycles = s.cycles ∧
    (tjCritical t s).mem = s.mem := by
  simp -implicitDefEqProofs [tjCritical]
theorem measExtendWrite_tame (b : Bytes) (s : State) : ResTame s (measExtendWrite b s) := by
  unfold measExtendWrite
  (repeat' (first | exact .error _ _ | refine .ok ?_ | refine .bind _ _ (fun _ => ?_) | refine .ite _ ?_ ?_ | split)) <;>
      simp -implicitDefEqProofs [State.Tame]
theorem rollcallNonceWrite_tame (sid : Nat) (b : Bytes) (s : State) : ResTame s (rollcallNonceWrite sid b s) := by
  unfold rollcallNonceWrite
  (repeat' (first | exact .error _ _ | refine .ok ?_ | refine .bind _ _ (fun _ => ?_) | refine .ite _ ?_ ?_ | split)) <;>
      simp -implicitDefEqProofs [State.Tame]
@[simp] theorem State.makeReport_keeps (s : State) (nonce : Bytes) :
    (State.makeReport s nonce).2.pending = s.pending ∧ (State.makeReport s nonce).2.part = s.part ∧
    (State.makeReport s nonce).2.cycles = s.cycles ∧ (State.makeReport s nonce).2.mem = s.mem := by
  simp -implicitDefEqProofs [State.makeReport]
@[simp] theorem rollcallSigned_keeps (sid : Nat) (s : State) :
    (rollcallSigned sid s).pending = s.pending ∧ (rollcallSigned sid s).part = s.part ∧
    (rollcallSigned sid s).cycles = s.cycles ∧ (rollcallSigned sid s).mem = s.mem := by
  unfold rollcallSigned
  split <;> simp -implicitDefEqProofs
@[simp] theorem State.applyRwp_keeps (s : State) (o : Obj) (i : Nat) (b : Bytes) :
    (State.applyRwp s o i b).pending = s.pending ∧ (State.applyRwp s o i b).part = s.part ∧
    (State.applyRwp s o i b).cycles = s.cycles ∧ (State.applyRwp s o i b).mem = s.mem := by
  simp -implicitDefEqProofs [State.applyRwp]
theorem rwpWrite_tame (role : Nat) (o : Obj) (i : Nat) (b : Bytes) (s : State) : ResTame s (rwpWrite role o i b s) := by
  unfold rwpWrite
  (repeat' (first | exact .error _ _ | refine .ok ?_ | refine .bind _ _ (fun _ => ?_) | refine .ite _ ?_ ?_ | split)) <;>
      simp -implicitDefEqProofs [State.Tame]
@[simp] theorem State.afterRwp_keeps (s : State) (o : Obj) (i : Nat) (sid : Nat) :
    (State.afterRwp s o i sid).pending = s.pending ∧ (State.afterRwp s o i sid).part = s.part ∧
    (State.afterRwp s o i sid).cycles = s.cycles ∧ (State.afterRwp s o i sid).mem = s.mem := by
  simp -implicitDefEqProofs [State.afterRwp]
theorem enrolSealWrite_tame  (s : State) : ResTame s (enrolSealWrite  s) := by
  unfold enrolSealWrite
  (repeat' (first | exact .error _ _ | refine .ok ?_ | refine .bind _ _ (fun _ => ?_) | refine .ite _ ?_ ?_ | split)) <;>
      simp -implicitDefEqProofs [State.Tame]
theorem tandemProposalWrite_tame (b : Bytes) (s : State) : ResTame s (tandemProposalWrite b s) := by
  unfold tandemProposalWrite
  (repeat' (first | exact .error _ _ | refine .ok ?_ | refine .bind _ _ (fun _ => ?_) | refine .ite _ ?_ ?_ | split)) <;>
      simp -implicitDefEqProofs [State.Tame]
@[simp] theorem State.dropProposal_keeps (s : State) (reason : Nat) :
    (State.dropProposal s reason).pending = s.pending ∧ (State.dropProposal s reason).part = s.part ∧
    (State.dropProposal s reason).cycles = s.cycles ∧ (State.dropProposal s reason).mem = s.mem := by
  simp -implicitDefEqProofs [State.dropProposal]
@[simp] theorem State.applyTandem_keeps (s : State) (p : Proposal) :
    (State.applyTandem s p).pending = s.pending ∧ (State.applyTandem s p).part = s.part ∧
    (State.applyTandem s p).cycles = s.cycles ∧ (State.applyTandem s p).mem = s.mem := by
  simp -implicitDefEqProofs (disch := (intros; (try simp only []); (repeat' split) <;> simp -implicitDefEqProofs)) [State.applyTandem]
@[simp] theorem State.closeChanged_keeps (s : State) (before : List Bytes) :
    (State.closeChanged s before).pending = s.pending ∧ (State.closeChanged s before).part = s.part ∧
    (State.closeChanged s before).cycles = s.cycles ∧ (State.closeChanged s before).mem = s.mem := by
  simp -implicitDefEqProofs [State.closeChanged]
@[simp] theorem State.carryTandem_keeps (s : State) (p : Proposal) :
    (State.carryTandem s p).pending = s.pending ∧ (State.carryTandem s p).part = s.part ∧
    (State.carryTandem s p).cycles = s.cycles ∧ (State.carryTandem s p).mem = s.mem := by
  simp -implicitDefEqProofs [State.carryTandem]
@[simp] theorem tandemSignWrite_keeps (b : Bytes) (s : State) :
    (tandemSignWrite b s).1.pending = s.pending ∧ (tandemSignWrite b s).1.part = s.part ∧
    (tandemSignWrite b s).1.cycles = s.cycles ∧ (tandemSignWrite b s).1.mem = s.mem := by
  simp only [tandemSignWrite]
  (repeat' split) <;> simp -implicitDefEqProofs
theorem tandemDiscard_tame  (s : State) : ResTame s (tandemDiscard  s) := by
  unfold tandemDiscard
  (repeat' (first | exact .error _ _ | refine .ok ?_ | refine .bind _ _ (fun _ => ?_) | refine .ite _ ?_ ?_ | split)) <;>
      simp -implicitDefEqProofs [State.Tame]
@[simp] theorem tandemWindowExpiry_keeps (s : State) :
    (tandemWindowExpiry s).pending = s.pending ∧ (tandemWindowExpiry s).part = s.part ∧
    (tandemWindowExpiry s).cycles = s.cycles ∧ (tandemWindowExpiry s).mem = s.mem := by
  unfold tandemWindowExpiry
  split <;> simp -implicitDefEqProofs
theorem fwActivateWrite_tame  (s : State) : ResTame s (fwActivateWrite  s) := by
  unfold fwActivateWrite
  (repeat' (first | exact .error _ _ | refine .ok ?_ | refine .bind _ _ (fun _ => ?_) | refine .ite _ ?_ ?_ | split)) <;>
      simp -implicitDefEqProofs [State.Tame]
theorem fwConfirmWrite_tame  (s : State) : ResTame s (fwConfirmWrite  s) := by
  unfold fwConfirmWrite
  (repeat' (first | exact .error _ _ | refine .ok ?_ | refine .bind _ _ (fun _ => ?_) | refine .ite _ ?_ ?_ | split)) <;>
      simp -implicitDefEqProofs [State.Tame]
@[simp] theorem fwTrialTimeout_keeps (s : State) :
    (fwTrialTimeout s).pending = s.pending ∧ (fwTrialTimeout s).part = s.part ∧ (fwTrialTimeout s).cycles = s.cycles := by
  simp -implicitDefEqProofs [fwTrialTimeout]
@[simp] theorem fwTrialTimeout_wf (s : State) (hw : Memory.wf s.mem = true) :
    Memory.wf (fwTrialTimeout s).mem = true := by
  unfold fwTrialTimeout State.whenever
  (try simp only [])
  (repeat' split) <;> simp -implicitDefEqProofs [*]
@[simp] theorem State.setTrims_keeps (s : State) (r : Bytes) (source : Nat) :
    (State.setTrims s r source).pending = s.pending ∧ (State.setTrims s r source).part = s.part ∧
    (State.setTrims s r source).cycles = s.cycles ∧ (State.setTrims s r source).mem = s.mem := by
  simp -implicitDefEqProofs [State.setTrims]
theorem calTrimsContent_tame (b : Bytes) (s : State) : ResTame s (calTrimsContent b s) := by
  unfold calTrimsContent
  (repeat' (first | exact .error _ _ | refine .ok ?_ | refine .bind _ _ (fun _ => ?_) | refine .ite _ ?_ ?_ | split)) <;>
      simp -implicitDefEqProofs [State.Tame]
@[simp] theorem calSaveComplete_keeps (s : State) :
    (calSaveComplete s).pending = s.pending ∧ (calSaveComplete s).part = s.part ∧ (calSaveComplete s).cycles = s.cycles ∧
    (calSaveComplete s).mem = s.mem := by
  unfold calSaveComplete
  split <;> simp -implicitDefEqProofs
@[simp] theorem State.calOver_keeps (s : State) (c : Nat) (target : Nat) (status : Nat) (reason : Nat) :
    (State.calOver s c target status reason).pending = s.pending ∧ (State.calOver s c target status reason).part = s.part ∧
    (State.calOver s c target status reason).cycles = s.cycles ∧ (State.calOver s c target status reason).mem = s.mem := by
  simp -implicitDefEqProofs [State.calOver]
@[simp] theorem State.calFail_keeps (s : State) (reason : Nat) :
    (State.calFail s reason).pending = s.pending ∧ (State.calFail s reason).part = s.part ∧
    (State.calFail s reason).cycles = s.cycles ∧ (State.calFail s reason).mem = s.mem := by
  unfold State.calFail
  split <;> simp -implicitDefEqProofs
@[simp] theorem State.calWatch_keeps (s : State) :
    (State.calWatch s).pending = s.pending ∧ (State.calWatch s).part = s.part ∧ (State.calWatch s).cycles = s.cycles ∧
    (State.calWatch s).mem = s.mem := by
  unfold State.calWatch
  split <;> simp -implicitDefEqProofs
theorem calStart_tame (c : Nat) (s : State) : ResTame s (calStart c s) := by
  unfold calStart
  (repeat' (first | exact .error _ _ | refine .ok ?_ | refine .bind _ _ (fun _ => ?_) | refine .ite _ ?_ ?_ | split)) <;>
      simp -implicitDefEqProofs [State.Tame]
theorem calSaveWrite_tame  (s : State) : ResTame s (calSaveWrite  s) := by
  unfold calSaveWrite
  (repeat' (first | exact .error _ _ | refine .ok ?_ | refine .bind _ _ (fun _ => ?_) | refine .ite _ ?_ ?_ | split)) <;>
      simp -implicitDefEqProofs [State.Tame]
theorem calRevertWrite_tame  (s : State) : ResTame s (calRevertWrite  s) := by
  unfold calRevertWrite
  (repeat' (first | exact .error _ _ | refine .ok ?_ | refine .bind _ _ (fun _ => ?_) | refine .ite _ ?_ ?_ | split)) <;>
      simp -implicitDefEqProofs [State.Tame]
theorem calAbortWrite_tame  (s : State) : ResTame s (calAbortWrite  s) := by
  unfold calAbortWrite
  (repeat' (first | exact .error _ _ | refine .ok ?_ | refine .bind _ _ (fun _ => ?_) | refine .ite _ ?_ ?_ | split)) <;>
      simp -implicitDefEqProofs [State.Tame]
theorem calCommandWrite_tame (c : Nat) (s : State) : ResTame s (calCommandWrite c s) := by
  unfold calCommandWrite
  (repeat' (first | exact .error _ _ | refine .ok ?_ | refine .bind _ _ (fun _ => ?_) | refine .ite _ ?_ ?_ | split)) <;>
      simp -implicitDefEqProofs [State.Tame]
@[simp] theorem State.calPulses_keeps (s : State) (pin : Nat) :
    (State.calPulses s pin).pending = s.pending ∧ (State.calPulses s pin).part = s.part ∧
    (State.calPulses s pin).cycles = s.cycles ∧ (State.calPulses s pin).mem = s.mem := by
  simp -implicitDefEqProofs [State.calPulses]
@[simp] theorem State.writeTrims_keeps (s : State) (l : List (Nat × Nat × Nat)) :
    (State.writeTrims s l).pending = s.pending ∧ (State.writeTrims s l).part = s.part ∧
    (State.writeTrims s l).cycles = s.cycles ∧ (State.writeTrims s l).mem = s.mem := by
  simp -implicitDefEqProofs [State.writeTrims]
@[simp] theorem State.calEnd_keeps (s : State) (c : Nat) (target : Nat) (r : CalOutcome) :
    (State.calEnd s c target r).pending = s.pending ∧ (State.calEnd s c target r).part = s.part ∧
    (State.calEnd s c target r).cycles = s.cycles ∧ (State.calEnd s c target r).mem = s.mem := by
  unfold State.calEnd
  split <;> simp -implicitDefEqProofs
theorem State.calOutcome_keeps (s : State) (c t : Nat) (m : CalMeasurement) (r : CalOutcome × State) (h : s.calOutcome c t m
    = some r) :
    (r.2).pending = s.pending ∧ (r.2).part = s.part ∧ (r.2).cycles = s.cycles ∧ (r.2).mem = s.mem := by
  unfold State.calOutcome at h
  (repeat' split at h) <;> simp at h <;> (try subst h) <;> simp
@[simp] theorem calProcedureComplete_keeps (m : CalMeasurement) (s : State) :
    (calProcedureComplete m s).pending = s.pending ∧ (calProcedureComplete m s).part = s.part ∧
    (calProcedureComplete m s).cycles = s.cycles ∧ (calProcedureComplete m s).mem = s.mem := by
  unfold calProcedureComplete
  split
  · simp
  · split
    · simp
    · simp
    · split
      · simp
      · next r u hu =>
        have := State.calOutcome_keeps _ _ _ _ _ hu
        simp only [] at this
        unfold State.whenever
        split
        · split <;> simp [this]
        · simp
theorem testPipeFenceWrite_tame (p : Nat) (v : Nat) (s : State) : ResTame s (testPipeFenceWrite p v s) := by
  unfold testPipeFenceWrite
  (repeat' (first | exact .error _ _ | refine .ok ?_ | refine .bind _ _ (fun _ => ?_) | refine .ite _ ?_ ?_ | split)) <;>
      simp -implicitDefEqProofs [State.Tame]
theorem injectStartWrite_tame (p : Nat) (s : State) : ResTame s (injectStartWrite p s) := by
  unfold injectStartWrite
  (repeat' (first | exact .error _ _ | refine .ok ?_ | refine .bind _ _ (fun _ => ?_) | refine .ite _ ?_ ?_ | split)) <;>
      simp -implicitDefEqProofs [State.Tame]
theorem injectStopWrite_tame (p : Nat) (s : State) : ResTame s (injectStopWrite p s) := by
  unfold injectStopWrite
  (repeat' (first | exact .error _ _ | refine .ok ?_ | refine .bind _ _ (fun _ => ?_) | refine .ite _ ?_ ?_ | split)) <;>
      simp -implicitDefEqProofs [State.Tame]
@[simp] theorem injectFrameStart_keeps (p : Nat) (s : State) :
    (injectFrameStart p s).pending = s.pending ∧ (injectFrameStart p s).part = s.part ∧
    (injectFrameStart p s).cycles = s.cycles ∧ (injectFrameStart p s).mem = s.mem := by
  unfold injectFrameStart
  split <;> simp -implicitDefEqProofs
theorem testGoldenSpecWrite_tame (k : Nat) (v : Nat) (s : State) : ResTame s (testGoldenSpecWrite k v s) := by
  unfold testGoldenSpecWrite
  (repeat' (first | exact .error _ _ | refine .ok ?_ | refine .bind _ _ (fun _ => ?_) | refine .ite _ ?_ ?_ | split)) <;>
      simp -implicitDefEqProofs [State.Tame]
theorem testBistWrite_tame (m : Nat) (s : State) : ResTame s (testBistWrite m s) := by
  unfold testBistWrite
  (repeat' (first | exact .error _ _ | refine .ok ?_ | refine .bind _ _ (fun _ => ?_) | refine .ite _ ?_ ?_ | split)) <;>
      simp -implicitDefEqProofs [State.Tame]
@[simp] theorem State.bistEnd_keeps (s : State) (m : Nat) (result : Nat) (fails : Nat) (first : Nat) :
    (State.bistEnd s m result fails first).pending = s.pending ∧ (State.bistEnd s m result fails first).part = s.part ∧
    (State.bistEnd s m result fails first).cycles = s.cycles := by
  simp -implicitDefEqProofs [State.bistEnd]
@[simp] theorem State.bistEnd_wf (s : State) (m : Nat) (result : Nat) (fails : Nat) (first : Nat) (hw : Memory.wf s.mem =
    true) :
    Memory.wf (State.bistEnd s m result fails first).mem = true := by
  simp -implicitDefEqProofs [State.bistEnd, hw]
@[simp] theorem bistComplete_keeps (m : Nat) (fails : Nat) (first : Nat) (s : State) :
    (bistComplete m fails first s).pending = s.pending ∧ (bistComplete m fails first s).part = s.part ∧
    (bistComplete m fails first s).cycles = s.cycles := by
  simp -implicitDefEqProofs [bistComplete]
@[simp] theorem bistComplete_wf (m : Nat) (fails : Nat) (first : Nat) (s : State) (hw : Memory.wf s.mem = true) :
    Memory.wf (bistComplete m fails first s).mem = true := by
  unfold bistComplete State.whenever
  (try simp only [])
  (repeat' split) <;> simp -implicitDefEqProofs [*]
theorem testDramRetrainWrite_tame  (s : State) : ResTame s (testDramRetrainWrite  s) := by
  unfold testDramRetrainWrite
  (repeat' (first | exact .error _ _ | refine .ok ?_ | refine .bind _ _ (fun _ => ?_) | refine .ite _ ?_ ?_ | split)) <;>
      simp -implicitDefEqProofs [State.Tame]
@[simp] theorem State.report_keeps (s : State) (level : Nat) (path : String) :
    (State.report s level path).pending = s.pending ∧ (State.report s level path).part = s.part ∧
    (State.report s level path).cycles = s.cycles ∧ (State.report s level path).mem = s.mem := by
  simp -implicitDefEqProofs [State.report]
@[simp] theorem State.unitFifos_keeps (s : State) (k : Nat) :
    (State.unitFifos s k).pending = s.pending ∧ (State.unitFifos s k).part = s.part ∧
    (State.unitFifos s k).cycles = s.cycles := by
  simp -implicitDefEqProofs [State.unitFifos]
@[simp] theorem State.unitFifos_wf (s : State) (k : Nat) (hw : Memory.wf s.mem = true) :
    Memory.wf (s.unitFifos k).mem = true := by
  unfold State.unitFifos
  refine State.foldl_wf _ _ _ (fun t a ht => ?_) hw
  simp only []
  (repeat' split) <;> simp [ht]
@[simp] theorem State.unitRestart_keeps (s : State) (a1 : Owner) :
    (State.unitRestart s a1).pending = s.pending ∧ (State.unitRestart s a1).part = s.part ∧
    (State.unitRestart s a1).cycles = s.cycles := by
  unfold State.unitRestart
  split <;> simp -implicitDefEqProofs
@[simp] theorem State.unitRestart_wf (s : State) (a1 : Owner) (hw : Memory.wf s.mem = true) :
    Memory.wf (State.unitRestart s a1).mem = true := by
  unfold State.unitRestart
  (repeat' split) <;> simp -implicitDefEqProofs [*]
@[simp] theorem State.updCrossing_keeps (s : State) (n : Nat) (f : CrossSt → CrossSt) :
    (State.updCrossing s n f).pending = s.pending ∧ (State.updCrossing s n f).part = s.part ∧
    (State.updCrossing s n f).cycles = s.cycles ∧ (State.updCrossing s n f).mem = s.mem := by
  simp -implicitDefEqProofs [State.updCrossing]
@[simp] theorem crossingWatchdog_keeps (n : Nat) (s : State) :
    (crossingWatchdog n s).pending = s.pending ∧ (crossingWatchdog n s).part = s.part ∧
    (crossingWatchdog n s).cycles = s.cycles := by
  unfold crossingWatchdog
  split <;> simp -implicitDefEqProofs
@[simp] theorem crossingWatchdog_wf (n : Nat) (s : State) (hw : Memory.wf s.mem = true) :
    Memory.wf (crossingWatchdog n s).mem = true := by
  unfold crossingWatchdog State.whenever
  (try simp only [])
  (repeat' split) <;> simp -implicitDefEqProofs [*]
@[simp] theorem islandClockChange_keeps (kind : Nat) (inst : Nat) (hertz : Nat) (s : State) :
    (islandClockChange kind inst hertz s).pending = s.pending ∧ (islandClockChange kind inst hertz s).part = s.part ∧
    (islandClockChange kind inst hertz s).cycles = s.cycles ∧ (islandClockChange kind inst hertz s).mem = s.mem := by
  simp -implicitDefEqProofs [islandClockChange]
@[simp] theorem pipeWatchdog_keeps (p : Nat) (stage : Nat) (s : State) :
    (pipeWatchdog p stage s).pending = s.pending ∧ (pipeWatchdog p stage s).part = s.part ∧
    (pipeWatchdog p stage s).cycles = s.cycles ∧ (pipeWatchdog p stage s).mem = s.mem := by
  unfold pipeWatchdog
  split <;> simp -implicitDefEqProofs
@[simp] theorem pipelineRestart_keeps (p : Nat) (s : State) :
    (pipelineRestart p s).pending = s.pending ∧ (pipelineRestart p s).part = s.part ∧
    (pipelineRestart p s).cycles = s.cycles ∧ (pipelineRestart p s).mem = s.mem := by
  unfold pipelineRestart
  split <;> simp -implicitDefEqProofs
@[simp] theorem State.quarantine_keeps (s : State) (h : Nat) :
    (State.quarantine s h).pending = s.pending ∧ (State.quarantine s h).part = s.part ∧
    (State.quarantine s h).cycles = s.cycles ∧ (State.quarantine s h).mem = s.mem := by
  simp -implicitDefEqProofs [State.quarantine]
@[simp] theorem State.hubRetime_keeps (s : State) (h : Nat) (cause : Nat) (ch : Nat) :
    (State.hubRetime s h cause ch).pending = s.pending ∧ (State.hubRetime s h cause ch).part = s.part ∧
    (State.hubRetime s h cause ch).cycles = s.cycles ∧ (State.hubRetime s h cause ch).mem = s.mem := by
  simp -implicitDefEqProofs [State.hubRetime]
@[simp] theorem hubWatchdog_keeps (h : Nat) (cause : Nat) (ch : Nat) (s : State) :
    (hubWatchdog h cause ch s).pending = s.pending ∧ (hubWatchdog h cause ch s).part = s.part ∧
    (hubWatchdog h cause ch s).cycles = s.cycles := by
  simp -implicitDefEqProofs [hubWatchdog]
@[simp] theorem hubWatchdog_wf (h : Nat) (cause : Nat) (ch : Nat) (s : State) (hw : Memory.wf s.mem = true) :
    Memory.wf (hubWatchdog h cause ch s).mem = true := by
  unfold hubWatchdog State.whenever
  (try simp only [])
  (repeat' split) <;> simp -implicitDefEqProofs [*]
@[simp] theorem fwWatchdog_keeps (s : State) :
    (fwWatchdog s).pending = s.pending ∧ (fwWatchdog s).part = s.part ∧ (fwWatchdog s).cycles = s.cycles := by
  simp -implicitDefEqProofs [fwWatchdog]
@[simp] theorem fwWatchdog_wf (s : State) (hw : Memory.wf s.mem = true) :
    Memory.wf (fwWatchdog s).mem = true := by
  unfold fwWatchdog State.whenever
  (try simp only [])
  (repeat' split) <;> simp -implicitDefEqProofs [*]
theorem rcvClearWrite_tame  (s : State) : ResTame s (rcvClearWrite  s) := by
  unfold rcvClearWrite
  (repeat' (first | exact .error _ _ | refine .ok ?_ | refine .bind _ _ (fun _ => ?_) | refine .ite _ ?_ ?_ | split)) <;>
      simp -implicitDefEqProofs [State.Tame]
@[simp] theorem State.scrubFinding_keeps (s : State) (m : Nat) (x : ScrubFinding) :
    (State.scrubFinding s m x).pending = s.pending ∧ (State.scrubFinding s m x).part = s.part ∧
    (State.scrubFinding s m x).cycles = s.cycles := by
  unfold State.scrubFinding
  split <;> simp -implicitDefEqProofs
@[simp] theorem State.scrubFinding_wf (s : State) (m : Nat) (x : ScrubFinding) (hw : Memory.wf s.mem = true) :
    Memory.wf (State.scrubFinding s m x).mem = true := by
  unfold State.scrubFinding
  (repeat' split) <;> simp -implicitDefEqProofs [*]
@[simp] theorem scrubPass_keeps (m : Nat) (l : List ScrubFinding) (s : State) :
    (scrubPass m l s).pending = s.pending ∧ (scrubPass m l s).part = s.part ∧ (scrubPass m l s).cycles = s.cycles := by
  simp -implicitDefEqProofs [scrubPass]
@[simp] theorem scrubPass_wf (m : Nat) (l : List ScrubFinding) (s : State) (hw : Memory.wf s.mem = true) :
    Memory.wf (scrubPass m l s).mem = true :=
  State.whenever_wf _ _ _ (fun _ ht => State.foldl_wf _ _ _ (fun u a hu => State.scrubFinding_wf u m a hu) ht) hw
@[simp] theorem State.flagDip_keeps (s : State) :
    (State.flagDip s).pending = s.pending ∧ (State.flagDip s).part = s.part ∧ (State.flagDip s).cycles = s.cycles ∧
    (State.flagDip s).mem = s.mem := by
  simp -implicitDefEqProofs [State.flagDip]
@[simp] theorem State.pauseSave_keeps (s : State) :
    (State.pauseSave s).pending = s.pending ∧ (State.pauseSave s).part = s.part ∧ (State.pauseSave s).cycles = s.cycles ∧
    (State.pauseSave s).mem = s.mem := by
  simp -implicitDefEqProofs [State.pauseSave]
@[simp] theorem State.spoilBist_keeps (s : State) :
    (State.spoilBist s).pending = s.pending ∧ (State.spoilBist s).part = s.part ∧ (State.spoilBist s).cycles = s.cycles := by
  simp -implicitDefEqProofs [State.spoilBist]
@[simp] theorem State.spoilBist_wf (s : State) (hw : Memory.wf s.mem = true) : Memory.wf s.spoilBist.mem = true :=
  State.foldl_wf _ _ _ (fun t a ht => State.bistEnd_wf t a 4 0 0 ht) hw
@[simp] theorem supplyDipBegin_keeps (rail : Nat) (mv : Nat) (s : State) :
    (supplyDipBegin rail mv s).pending = s.pending ∧ (supplyDipBegin rail mv s).part = s.part ∧
    (supplyDipBegin rail mv s).cycles = s.cycles := by
  simp -implicitDefEqProofs [supplyDipBegin]
@[simp] theorem supplyDipBegin_wf (rail : Nat) (mv : Nat) (s : State) (hw : Memory.wf s.mem = true) :
    Memory.wf (supplyDipBegin rail mv s).mem = true := by
  unfold supplyDipBegin State.whenever
  (try simp only [])
  (repeat' split) <;> simp -implicitDefEqProofs [*]
@[simp] theorem State.freeCommits_keeps (s : State) :
    (State.freeCommits s).pending = s.pending ∧ (State.freeCommits s).part = s.part ∧
    (State.freeCommits s).cycles = s.cycles ∧ (State.freeCommits s).mem = s.mem := by
  simp -implicitDefEqProofs [State.freeCommits]
@[simp] theorem State.lateTandem_keeps (s : State) :
    (State.lateTandem s).pending = s.pending ∧ (State.lateTandem s).part = s.part ∧ (State.lateTandem s).cycles = s.cycles ∧
    (State.lateTandem s).mem = s.mem := by
  unfold State.lateTandem
  split <;> simp -implicitDefEqProofs
@[simp] theorem State.freshScrubs_keeps (s : State) :
    (State.freshScrubs s).pending = s.pending ∧ (State.freshScrubs s).part = s.part ∧
    (State.freshScrubs s).cycles = s.cycles ∧ (State.freshScrubs s).mem = s.mem := by
  simp -implicitDefEqProofs [State.freshScrubs]
@[simp] theorem State.dipEvaluations_keeps (s : State) :
    (State.dipEvaluations s).pending = s.pending ∧ (State.dipEvaluations s).part = s.part ∧
    (State.dipEvaluations s).cycles = s.cycles ∧ (State.dipEvaluations s).mem = s.mem := by
  simp -implicitDefEqProofs [State.dipEvaluations]
@[simp] theorem supplyDipEnd_keeps (rail : Nat) (mv : Nat) (s : State) :
    (supplyDipEnd rail mv s).pending = s.pending ∧ (supplyDipEnd rail mv s).part = s.part ∧
    (supplyDipEnd rail mv s).cycles = s.cycles ∧ (supplyDipEnd rail mv s).mem = s.mem := by
  simp -implicitDefEqProofs [supplyDipEnd]
@[simp] theorem State.watch_keeps (s : State) :
    (State.watch s).pending = s.pending ∧ (State.watch s).part = s.part ∧ (State.watch s).cycles = s.cycles ∧
    (State.watch s).mem = s.mem := by
  simp -implicitDefEqProofs [State.watch]
@[simp] theorem State.idle_keeps (s : State) :
    (State.idle s).pending = s.pending ∧ (State.idle s).part = s.part := by
  unfold State.idle
  split <;> simp -implicitDefEqProofs
@[simp] theorem State.idle_wf (s : State) (hw : Memory.wf s.mem = true) :
    Memory.wf (State.idle s).mem = true := by
  unfold State.idle
  (repeat' split) <;> simp -implicitDefEqProofs [*]
@[simp] theorem State.readNumber_keeps (s : State) (o : Obj) (i : Nat) (live : Bool) :
    (State.readNumber s o i live).2.pending = s.pending ∧ (State.readNumber s o i live).2.part = s.part ∧
    (State.readNumber s o i live).2.cycles = s.cycles ∧ (State.readNumber s o i live).2.mem = s.mem := by
  unfold State.readNumber
  (repeat' split) <;> simp -implicitDefEqProofs
theorem laneWrite_tame (o : Obj) (i v : Nat) (s : State) : ResTame s (laneWrite o i v s) := by
  unfold laneWrite
  exact ResTame.bind _ _ fun _ => ResTame.ite _ (laneEnableWrite_tame _ _ _) (ResTame.ite _ (laneCommand_tame _ _ _)
    (ResTame.ite _ (laneTestModeWrite_tame _ _ _) (ResTame.ok (by simp [State.Tame]))))
theorem dmaCommand_tame (e : Nat) (ch : Nat) (v : Nat) (s : State) : ResTame s (dmaCommand e ch v s) := by
  unfold dmaCommand
  (repeat' (first | exact .error _ _ | refine .ok ?_ | refine .bind _ _ (fun _ => ?_) | refine .ite _ ?_ ?_ | split)) <;>
      simp -implicitDefEqProofs +contextual [State.Tame]
theorem descriptorWrite_tame (o : Obj) (i : Nat) (v : Nat) (s : State) : ResTame s (descriptorWrite o i v s) := by
  unfold descriptorWrite
  (repeat' (first | exact .error _ _ | refine .ok ?_ | refine .bind _ _ (fun _ => ?_) | refine .ite _ ?_ ?_ | split)) <;>
      simp -implicitDefEqProofs [State.Tame]
theorem nxAdminWrite_tame (o : Obj) (i : Nat) (v : Nat) (s : State) : ResTame s (nxAdminWrite o i v s) := by
  unfold nxAdminWrite
  (repeat' (first | exact .error _ _ | refine .ok ?_ | refine .bind _ _ (fun _ => ?_) | refine .ite _ ?_ ?_ | split)) <;>
      simp -implicitDefEqProofs [State.Tame]
theorem nxPreemptWrite_tame (o : Obj) (i : Nat) (v : Nat) (s : State) : ResTame s (nxPreemptWrite o i v s) := by
  unfold nxPreemptWrite
  (repeat' (first | exact .error _ _ | refine .ok ?_ | refine .bind _ _ (fun _ => ?_) | refine .ite _ ?_ ?_ | split)) <;>
      simp -implicitDefEqProofs [State.Tame]
@[simp] theorem ptpPortWrite_keeps (n : Nat) (v : Nat) (s : State) :
    (ptpPortWrite n v s).pending = s.pending ∧ (ptpPortWrite n v s).part = s.part ∧ (ptpPortWrite n v s).cycles = s.cycles ∧
    (ptpPortWrite n v s).mem = s.mem := by
  simp -implicitDefEqProofs [ptpPortWrite]
theorem clusterCheck_tame (c : Nat) (s : State) : ResTame s (clusterCheck c s) := by
  unfold clusterCheck
  (repeat' (first | exact .error _ _ | refine .ok ?_ | refine .bind _ _ (fun _ => ?_) | refine .ite _ ?_ ?_ | split)) <;>
      simp -implicitDefEqProofs [State.Tame]
theorem smWrite_tame (o : Obj) (i : Nat) (v : Int) (s : State) : ResTame s (smWrite o i v s) := by
  unfold smWrite
  (repeat' (first | exact .error _ _ | refine .ok ?_ | refine .bind _ _ (fun _ => ?_) | refine .ite _ ?_ ?_ | split)) <;>
      simp -implicitDefEqProofs [State.Tame]
theorem plainWrite_tame (o : Obj) (i : Nat) (v : Int) (s : State) : ResTame s (plainWrite o i v s) := by
  unfold plainWrite
  (repeat' (first | exact .error _ _ | refine .ok ?_ | refine .bind _ _ (fun _ => ?_) | refine .ite _ ?_ ?_ | split)) <;>
      simp -implicitDefEqProofs [State.Tame]
theorem timeWrite_tame (o : Obj) (i : Nat) (v : Int) : OptTame (timeWrite o i v) := by
  unfold timeWrite
  simp only []
  split
  · exact .some (always_tame _ fun s => by simp [State.Tame])
  · exact .some (tbRateAdjWrite_tame _)
  · split
    · exact .some tbActionSlew_tame
    · exact .some tbActionReepoch_tame
  · exact .some (always_tame _ fun s => by simp [State.Tame])
  · exact .some (always_tame _ fun s => by simp [State.Tame])
  · exact .some (always_tame _ fun s => by simp [State.Tame])
  · exact .some (always_tame _ fun s => by simp [State.Tame])
  · exact .some (always_tame _ fun s => by simp [State.Tame])
  · exact .some (txtsPopWrite_tame _ _)
  · exact .none
theorem imageWrite_tame (o : Obj) (i v : Nat) : OptTame (imageWrite o i v) := by
  unfold imageWrite
  split
  · exact .some (always_tame _ fun s => by simp [State.Tame])
  · exact .some (warpPartitionWrite_tame _ _)
  · exact .some (always_tame _ fun s => by simp [State.Tame])
  · exact .some fun s => .bind _ _ fun _ => .ok (by simp [State.Tame])
  · exact .some fun s => .bind _ _ fun _ => .ok (by simp [State.Tame])
  · exact .some (expApply_tame _ _)
  · exact .some (expAeMode_tame _ _)
  · split
    · exact .some (always_tame _ fun s => by simp [State.Tame])
    · exact .none
  · exact .none
theorem moveWrite_tame (o : Obj) (i v : Nat) : OptTame (moveWrite o i v) := by
  unfold moveWrite
  split
  · exact .some (nxAdminWrite_tame _ _ _)
  · exact .some (nxAdminWrite_tame _ _ _)
  · exact .some (nxAdminWrite_tame _ _ _)
  · exact .some (nxAdminWrite_tame _ _ _)
  · exact .some (nxAdminWrite_tame _ _ _)
  · exact .some (gateConfigChange_tame _)
  · exact .some (nxPreemptWrite_tame _ _ _)
  · exact .some (nxPreemptWrite_tame _ _ _)
  · exact .some (dmaCommand_tame _ _ _)
  · split
    · exact .some (dmaEngineCommand_tame _)
    · exact .none
  · split
    · exact .some (dmaRingConfig_tame _ _ _)
    · split
      · exact .some (dmaRingRead_tame _ _)
      · exact .none
  · exact .some (fifoMarkWrite_tame _ _)
  · exact .some (fifoWmAck_tame _ _)
  · exact .some (fifoCommandWrite_tame _ _)
  · split
    · exact .some (descriptorWrite_tame _ _ _)
    · exact .none
theorem serviceWrite_tame (o : Obj) (i : Nat) (v : Int) : OptTame (serviceWrite o i v) := by
  unfold serviceWrite
  simp only []
  split
  · exact .some (pwrDomainWrite_tame _ _)
  · exact .some (smWrite_tame _ _ _)
  · exact .some (smWrite_tame _ _ _)
  · split
    · exact .some (calCommandWrite_tame _)
    · exact .some fun s => .bind _ _ fun _ => .ok (by simp [State.Tame])
  · exact .some (testPipeFenceWrite_tame _ _)
  · split
    · exact .some (injectStartWrite_tame _)
    · exact .some (injectStopWrite_tame _)
  · exact .some (testGoldenSpecWrite_tame _ _)
  · exact .some (testBistWrite_tame _)
  · exact .some testDramRetrainWrite_tame
  · split
    · exact .some rcvClearWrite_tame
    · exact .none
  · exact .none
theorem unitEffect_tame (o : Obj) (i : Nat) (v : Int) (s : State) : ResTame s (unitEffect o i v s) := by
  unfold unitEffect
  split
  · exact laneWrite_tame _ _ _ s
  · exact OptTame.getD (.or (.or (timeWrite_tame o i v) (imageWrite_tame o i _)) (.or (moveWrite_tame o i _)
      (serviceWrite_tame o i v)))
      (plainWrite_tame o i v) s
theorem State.loadNumber_tame (s : State) (k : Nat) (v : Int) : State.Tame s (s.loadNumber k v) := by
  unfold State.loadNumber
  split
  · exact State.Tame.rfl s
  · split
    · split
      · next h => exact unitEffect_tame _ _ _ s _ h
      · simp [State.Tame]
    · exact State.Tame.rfl s
@[simp] theorem State.fitAddrs_keeps (s : State) :
    (State.fitAddrs s).pending = s.pending ∧ (State.fitAddrs s).part = s.part ∧ (State.fitAddrs s).cycles = s.cycles ∧
    (State.fitAddrs s).mem = s.mem := by
  simp -implicitDefEqProofs [State.fitAddrs]
@[simp] theorem State.takeContent_keeps (s : State) (k : Nat) (b : Bytes) :
    (State.takeContent s k b).pending = s.pending ∧ (State.takeContent s k b).part = s.part ∧
    (State.takeContent s k b).cycles = s.cycles ∧ (State.takeContent s k b).mem = s.mem := by
  simp -implicitDefEqProofs [State.takeContent]
theorem State.foldl_tame {α : Type} (g : State → α → State) (h : ∀ t a, State.Tame t (g t a)) (l : List α) (s : State) :
    State.Tame s (l.foldl g s) := by
  induction l generalizing s with
  | nil => exact State.Tame.rfl s
  | cons a r ih => exact (h s a).trans (ih _)
theorem State.loadStored_tame (s : State) (l : LiveSet) : State.Tame s (s.loadStored l) := by
  unfold State.loadStored
  refine State.Tame.trans ?_ (State.Tame.trans (State.foldl_tame _ (fun t a => State.loadNumber_tame t _ _) _ _)
    (State.foldl_tame _ (fun t a => by simp [State.Tame]) _ _))
  simp [State.Tame]
theorem storeCommand_tame (c : Nat) (s : State) : ResTame s (storeCommand c s) := by
  unfold storeCommand
  refine .bind _ _ fun _ => .bind _ _ fun _ => .ite _ (.ok ?_) (.ite _ (.ok ?_) (.ite _ (.ok ?_) (.ok ?_)))
  · split <;> simp [State.Tame]
  · exact State.loadStored_tame s _
  · exact State.loadStored_tame s _
  · simp [State.Tame]
@[simp] theorem storeSaveComplete_keeps (verified : Bool) (s : State) :
    (storeSaveComplete verified s).pending = s.pending ∧ (storeSaveComplete verified s).part = s.part ∧
    (storeSaveComplete verified s).cycles = s.cycles ∧ (storeSaveComplete verified s).mem = s.mem := by
  unfold storeSaveComplete
  split <;> simp -implicitDefEqProofs
theorem controlWrite_tame (o : Obj) (v : Nat) : OptTame (controlWrite o v) := by
  unfold controlWrite
  split
  · exact .some (pwrCommandCheck_tame _)
  · exact .some (always_tame _ fun s => State.Tame.rfl s)
  · exact .some (clusterCheck_tame _)
  · exact .some (storeCommand_tame _)
  · exact .some enrolSealWrite_tame
  · exact .some tandemDiscard_tame
  · split
    · exact .some fwActivateWrite_tame
    · exact .some fwConfirmWrite_tame
  · exact .none
theorem numberEffect_tame (o : Obj) (i : Nat) (v : Int) (s : State) : ResTame s (numberEffect o i v s) := by
  unfold numberEffect
  exact OptTame.getD (controlWrite_tame o _) (unitEffect_tame o i v) s
theorem writeNumber_tame (role : Nat) (o : Obj) (i : Nat) (b : Bytes) (s : State) : ResTame s (writeNumber role o i b s) := by
  unfold writeNumber
  exact .bind _ _ fun _ => .bind _ _ fun _ => .ite _ (rwpWrite_tame _ _ _ _ s) (numberEffect_tame o i _ s)
theorem contentEffect_tame (sid : Nat) (role : Nat) (o : Obj) (i : Nat) (b : Bytes) (s : State) : ResTame s (contentEffect
    sid role o i b s) := by
  unfold contentEffect
  (repeat' (first | exact .error _ _ | refine .ok ?_ | refine .bind _ _ (fun _ => ?_) | refine .ite _ ?_ ?_ | split)) <;>
      simp -implicitDefEqProofs [State.Tame]
@[simp] theorem State.learnStamps_keeps (s : State) (units : List Nat) :
    (State.learnStamps s units).pending = s.pending ∧ (State.learnStamps s units).part = s.part ∧
    (State.learnStamps s units).cycles = s.cycles ∧ (State.learnStamps s units).mem = s.mem := by
  simp -implicitDefEqProofs (disch := (intros; (try simp only []); (repeat' split) <;> simp -implicitDefEqProofs)) [State.learnStamps]
@[simp] theorem State.acceptCommit_keeps (s : State) (c : CommitFields) :
    (State.acceptCommit s c).pending = s.pending ∧ (State.acceptCommit s c).part = s.part ∧
    (State.acceptCommit s c).cycles = s.cycles ∧ (State.acceptCommit s c).mem = s.mem := by
  simp -implicitDefEqProofs [State.acceptCommit]
@[simp] theorem State.canWake_keeps (s : State) :
    (State.canWake s).pending = s.pending ∧ (State.canWake s).part = s.part ∧ (State.canWake s).cycles = s.cycles ∧
    (State.canWake s).mem = s.mem := by
  simp -implicitDefEqProofs [State.canWake]
@[simp] theorem State.unheard_keeps (s : State) (a1 : Source) :
    (State.unheard s a1).pending = s.pending ∧ (State.unheard s a1).part = s.part ∧ (State.unheard s a1).cycles = s.cycles ∧
    (State.unheard s a1).mem = s.mem := by
  unfold State.unheard
  split <;> simp -implicitDefEqProofs
@[simp] theorem State.setTransfers_keeps (s : State) (l : List Transfer) :
    (State.setTransfers s l).pending = s.pending ∧ (State.setTransfers s l).part = s.part ∧
    (State.setTransfers s l).cycles = s.cycles ∧ (State.setTransfers s l).mem = s.mem := by
  simp -implicitDefEqProofs [State.setTransfers]
@[simp] theorem State.updTransfer_keeps (s : State) (handle : Nat) (f : Transfer → Transfer) :
    (State.updTransfer s handle f).pending = s.pending ∧ (State.updTransfer s handle f).part = s.part ∧
    (State.updTransfer s handle f).cycles = s.cycles ∧ (State.updTransfer s handle f).mem = s.mem := by
  simp -implicitDefEqProofs [State.updTransfer]
@[simp] theorem State.dropTransfer_keeps (s : State) (handle : Nat) :
    (State.dropTransfer s handle).pending = s.pending ∧ (State.dropTransfer s handle).part = s.part ∧
    (State.dropTransfer s handle).cycles = s.cycles ∧ (State.dropTransfer s handle).mem = s.mem := by
  simp -implicitDefEqProofs [State.dropTransfer]
@[simp] theorem State.startImage_keeps (s : State) (mode : Nat) :
    (State.startImage s mode).pending = s.pending ∧ (State.startImage s mode).part = s.part ∧
    (State.startImage s mode).cycles = s.cycles ∧ (State.startImage s mode).mem = s.mem := by
  simp -implicitDefEqProofs [State.startImage]
@[simp] theorem State.endImage_keeps (s : State) (b : Bytes) :
    (State.endImage s b).pending = s.pending ∧ (State.endImage s b).part = s.part ∧ (State.endImage s b).cycles = s.cycles ∧
    (State.endImage s b).mem = s.mem := by
  simp -implicitDefEqProofs [State.endImage]
@[simp] theorem State.respond_keeps (s : State) (sid : Nat) (service : Nat) (payload : Bytes) :
    (State.respond s sid service payload).pending = s.pending ∧ (State.respond s sid service payload).part = s.part ∧
    (State.respond s sid service payload).cycles = s.cycles ∧ (State.respond s sid service payload).mem = s.mem := by
  unfold State.respond
  split <;> simp -implicitDefEqProofs
@[simp] theorem State.openedSession_keeps (s : State) (x : Session) :
    (State.openedSession s x).pending = s.pending ∧ (State.openedSession s x).part = s.part ∧
    (State.openedSession s x).cycles = s.cycles ∧ (State.openedSession s x).mem = s.mem := by
  simp -implicitDefEqProofs [State.openedSession]
@[simp] theorem After.run_keeps (x : Session) (s : State) (a2 : After) :
    (After.run x s a2).pending = s.pending ∧ (After.run x s a2).part = s.part ∧ (After.run x s a2).cycles = s.cycles := by
  unfold After.run
  split <;> simp -implicitDefEqProofs
@[simp] theorem After.run_wf (x : Session) (s : State) (a2 : After) (hw : Memory.wf s.mem = true) :
    Memory.wf (After.run x s a2).mem = true := by
  unfold After.run
  (repeat' split) <;> simp -implicitDefEqProofs [*]
@[simp] theorem State.touched_keeps (s : State) (x : Session) (seq : Nat) :
    (State.touched s x seq).pending = s.pending ∧ (State.touched s x seq).part = s.part ∧
    (State.touched s x seq).cycles = s.cycles ∧ (State.touched s x seq).mem = s.mem := by
  simp -implicitDefEqProofs [State.touched]
@[simp] theorem Answer.reply_keeps (a : Answer) (sid service seq : Nat) :
    (a.reply sid service seq).pending = a.st.pending ∧ (a.reply sid service seq).part = a.st.part ∧
    (a.reply sid service seq).cycles = a.st.cycles ∧ (a.reply sid service seq).mem = a.st.mem := by
  unfold Answer.reply
  split <;> simp
theorem verdict_tame {e : Effect} (s : State) (h : ResTame s (e s)) : State.Tame s (verdict e s).1 := by
  unfold verdict
  split
  · next t k => exact h t k
  · exact State.Tame.rfl s
theorem writeContent_tame (sid role : Nat) (o : Obj) (i : Nat) (b : Bytes) (s : State) :
    State.Tame s (writeContent sid role o i b s).1 := by
  unfold writeContent
  simp only []
  split
  · exact State.Tame.rfl s
  · split
    · simp [State.Tame]
    · split
      · unfold ttTableContent
        split <;> simp [State.Tame]
      · exact verdict_tame s (contentEffect_tame _ _ _ _ _ s)
/-- A result with bytes is tame from s. -/
def PairTame (s : State) (r : Except Nat (State × Bytes)) : Prop := ∀ t b, r = .ok (t, b) → State.Tame s t
theorem PairTame.error (s : State) (c : Nat) : PairTame s (.error c) := fun _ _ h => by cases h
theorem PairTame.ok {s t : State} {b : Bytes} (h : State.Tame s t) : PairTame s (.ok (t, b)) := by
  intro _ _ k
  cases k
  exact h
theorem PairTame.bind {α : Type} {s : State} (m : Except Nat α) (f : α → Except Nat (State × Bytes)) (h : ∀ u, PairTame s (f
    u)) :
    PairTame s (m >>= f) := by
  cases m with
  | error c => exact PairTame.error s c
  | ok u => exact h u
theorem PairTame.ite {s : State} (c : Prop) [Decidable c] {a b : Except Nat (State × Bytes)} (h : PairTame s a) (k : PairTame
    s b) :
    PairTame s (if c then a else b) := by split <;> assumption
theorem State.readEntry_tame (s : State) (sid index : Nat) (e : Named) : PairTame s (s.readEntry sid index e) := by
  unfold State.readEntry
  split
  · exact .bind _ _ fun _ => .ok (State.Tame.rfl s)
  · exact .bind _ _ fun _ => .ite _ (.bind _ _ fun _ => .ok (State.Tame.rfl s)) (.ok (by simp [State.Tame]))
theorem commitRequest_tame (role : Nat) (b : Bytes) (s : State) : PairTame s (commitRequest role b s) := by
  unfold commitRequest
  exact .bind _ _ fun _ => .ok (by simp [State.Tame])
theorem withdrawRequest_tame (role : Nat) (p : Bytes) (s : State) : PairTame s (withdrawRequest role p s) := by
  unfold withdrawRequest
  simp only []
  split
  · exact .ite _ (.error s _) (.ok (by simp [State.Tame]))
  · split
    · exact .ite _ (.ok (State.Tame.rfl s)) (.error s _)
    · exact .error s _
theorem Answer.ofExcept_tame (s : State) (r : Except Nat (State × Bytes)) (h : PairTame s r) :
    State.Tame s (Answer.ofExcept s r).st := by
  unfold Answer.ofExcept
  split
  · exact h _ _ rfl
  · exact State.Tame.rfl s
theorem readRequest_tame (x : Session) (p : Bytes) (s : State) : State.Tame s (readRequest x p s).st := by
  unfold readRequest
  simp only []
  split
  · next t v h =>
    exact PairTame.bind _ _ (fun _ => PairTame.bind _ _ fun e => PairTame.bind _ _ fun _ => State.readEntry_tame s _ _ e) t v
        h
  · exact State.Tame.rfl s
theorem writeRequest_tame (x : Session) (p : Bytes) (s : State) : State.Tame s (writeRequest x p s).st := by
  unfold writeRequest
  simp only []
  split
  · exact State.Tame.rfl s
  · split
    · exact State.Tame.rfl s
    · split
      · exact State.Tame.rfl s
      · split
        · exact State.Tame.rfl s
        · split
          · exact State.Tame.rfl s
          · next t h =>
            have k := writeNumber_tame _ _ _ _ s t h
            split
            · exact State.Tame.rfl s
            · exact k
theorem blockOpenRequest_tame (x : Session) (p : Bytes) (s : State) : State.Tame s (blockOpenRequest x p s).st := by
  unfold blockOpenRequest
  simp only []
  split
  · next t v h =>
    refine PairTame.bind _ _ (fun _ => PairTame.bind _ _ fun e => ?_) t v h
    split
    · exact .error s _
    · refine .bind _ _ fun _ => .bind _ _ fun _ => .bind _ _ fun _ => .bind _ _ fun _ => ?_
      split
      · exact .error s _
      · exact .ok (by split <;> simp [State.Tame])
  · exact State.Tame.rfl s
theorem blockDataRequest_tame (x : Session) (p : Bytes) (s : State) : State.Tame s (blockDataRequest x p s).st := by
  unfold blockDataRequest
  simp only []
  (repeat' split) <;> simp [State.Tame, refusedWith, refusedAt, accepted, State.lateTransfer]
theorem blockEndRequest_tame (x : Session) (p : Bytes) (s : State) : State.Tame s (blockEndRequest x p s).st := by
  unfold blockEndRequest
  simp only []
  repeat' (first | exact State.Tame.rfl s | split)
  all_goals (first
    | exact writeContent_tame _ _ _ _ _ s
    | (refine (writeContent_tame x.sid x.role _ _ _ s).trans ?_; simp [State.Tame, accepted]; done)
    | (simp [State.Tame, refusedWith, refusedAt, accepted, State.lateTransfer]; done))
theorem subscribeRequest_tame (x : Session) (p : Bytes) (s : State) : State.Tame s (subscribeRequest x p s).st := by
  unfold subscribeRequest
  simp only []
  (repeat' split) <;> simp [State.Tame, refusedWith, accepted]
theorem eventAckRequest_tame (x : Session) (p : Bytes) (s : State) : State.Tame s (eventAckRequest x p s).st := by
  unfold eventAckRequest
  simp only []
  (repeat' split) <;> simp [State.Tame, refusedWith, accepted]
theorem plainService_tame (p : Bytes) (a : After) (s : State) : State.Tame s (plainService p a s).st := by
  unfold plainService
  split <;> exact State.Tame.rfl s
/-- What carrying out a request can do. -/
theorem serve_tame (x : Session) (service : Nat) (p : Bytes) (s : State) : State.Tame s (serve x service p s).st := by
  unfold serve
  split
  · exact plainService_tame _ _ s
  · exact plainService_tame _ _ s
  · exact plainService_tame _ _ s
  · exact readRequest_tame x p s
  · exact writeRequest_tame x p s
  · exact blockOpenRequest_tame x p s
  · exact blockDataRequest_tame x p s
  · exact blockEndRequest_tame x p s
  · exact Answer.ofExcept_tame s _ (commitRequest_tame _ _ s)
  · exact Answer.ofExcept_tame s _ (withdrawRequest_tame _ _ s)
  · exact subscribeRequest_tame x p s
  · exact eventAckRequest_tame x p s
  · exact State.Tame.rfl s
theorem State.act_tame (s : State) (x : Session) (service seq : Nat) (p : Bytes) : State.Tame s (s.act x service seq p) := by
  unfold State.act
  simp only []
  have h : State.Tame s (s.touched x seq) := by simp [State.Tame]
  have k := serve_tame x service p (s.touched x seq)
  refine h.trans (k.trans ?_)
  generalize serve x service p (s.touched x seq) = a
  have hr := Answer.reply_keeps a x.sid service seq
  have ha := After.run_keeps x (a.reply x.sid service seq) a.after
  exact ⟨ha.1.trans hr.1, ha.2.1.trans hr.2.1, ha.2.2.trans hr.2.2.1,
    fun w => After.run_wf x (a.reply x.sid service seq) a.after (by rw [hr.2.2.2]; exact w)⟩
@[simp] theorem State.tagFailure_keeps (s : State) (x : Session) :
    (State.tagFailure s x).pending = s.pending ∧ (State.tagFailure s x).part = s.part ∧
    (State.tagFailure s x).cycles = s.cycles ∧ (State.tagFailure s x).mem = s.mem := by
  simp -implicitDefEqProofs [State.tagFailure]
/-- What a request that arrives can do to the queue, the part, the clock and device memory. -/
theorem State.request_tame (s : State) (src : Source) (service sid seq : Nat) (p tag : Bytes) :
    State.Tame s (s.request src service sid seq p tag) := by
  unfold State.request
  repeat' (first | exact State.Tame.rfl s | exact State.act_tame s _ _ _ _ | split)
  all_goals simp [State.Tame]
@[simp] theorem State.request_keeps (s : State) (src : Source) (service sid seq : Nat) (p tag : Bytes) :
    (s.request src service sid seq p tag).pending = s.pending ∧ (s.request src service sid seq p tag).part = s.part ∧
    (s.request src service sid seq p tag).cycles = s.cycles :=
  have h := State.request_tame s src service sid seq p tag
  ⟨h.1, h.2.1, h.2.2.1⟩
@[simp] theorem State.request_wf (s : State) (src : Source) (service sid seq : Nat) (p tag : Bytes) (hw : Memory.wf s.mem =
    true) :
    Memory.wf (s.request src service sid seq p tag).mem = true := (State.request_tame s src service sid seq p tag).2.2.2 hw
@[simp] theorem State.halfOpen_keeps (s : State) (src : Source) (seq : Nat) (p : Bytes) :
    (State.halfOpen s src seq p).pending = s.pending ∧ (State.halfOpen s src seq p).part = s.part ∧
    (State.halfOpen s src seq p).cycles = s.cycles ∧ (State.halfOpen s src seq p).mem = s.mem := by
  simp -implicitDefEqProofs [State.halfOpen]
@[simp] theorem State.openRequest_keeps (s : State) (src : Source) (seq : Nat) (p : Bytes) :
    (State.openRequest s src seq p).pending = s.pending ∧ (State.openRequest s src seq p).part = s.part ∧
    (State.openRequest s src seq p).cycles = s.cycles ∧ (State.openRequest s src seq p).mem = s.mem := by
  simp -implicitDefEqProofs [State.openRequest]
@[simp] theorem State.receive_keeps (s : State) (src : Source) (exact_ : Bool) (b : Bytes) :
    (s.receive src exact_ b).pending = s.pending ∧ (s.receive src exact_ b).part = s.part ∧
    (s.receive src exact_ b).cycles = s.cycles := by
  unfold State.receive
  (repeat' split) <;> simp
@[simp] theorem State.receive_wf (s : State) (src : Source) (exact_ : Bool) (b : Bytes) (hw : Memory.wf s.mem = true) :
    Memory.wf (s.receive src exact_ b).mem = true := by
  unfold State.receive
  (repeat' split) <;> simp [hw]
@[simp] theorem State.setPartials_keeps (s : State) (l : List CanPartial) :
    (State.setPartials s l).pending = s.pending ∧ (State.setPartials s l).part = s.part ∧
    (State.setPartials s l).cycles = s.cycles ∧ (State.setPartials s l).mem = s.mem := by
  simp -implicitDefEqProofs [State.setPartials]
@[simp] theorem State.segment_keeps (s : State) (h : Nat) (data : Bytes) :
    (State.segment s h data).pending = s.pending ∧ (State.segment s h data).part = s.part ∧
    (State.segment s h data).cycles = s.cycles := by
  simp only [State.segment]
  (repeat' split) <;> simp -implicitDefEqProofs
@[simp] theorem State.segment_wf (s : State) (h : Nat) (data : Bytes) (hw : Memory.wf s.mem = true) :
    Memory.wf (State.segment s h data).mem = true := by
  unfold State.segment
  simp only []
  (repeat' split) <;> simp -implicitDefEqProofs [*]
@[simp] theorem canFdFrame_keeps (ident : Nat) (data : Bytes) (s : State) :
    (canFdFrame ident data s).pending = s.pending ∧ (canFdFrame ident data s).part = s.part ∧
    (canFdFrame ident data s).cycles = s.cycles := by
  simp -implicitDefEqProofs [canFdFrame]
@[simp] theorem canFdFrame_wf (ident : Nat) (data : Bytes) (s : State) (hw : Memory.wf s.mem = true) :
    Memory.wf (canFdFrame ident data s).mem = true := by
  unfold canFdFrame
  simp only []
  (repeat' split) <;> simp -implicitDefEqProofs [*]
@[simp] theorem canFdSegmentTimeout_keeps (host : Nat) (s : State) :
    (canFdSegmentTimeout host s).pending = s.pending ∧ (canFdSegmentTimeout host s).part = s.part ∧
    (canFdSegmentTimeout host s).cycles = s.cycles ∧ (canFdSegmentTimeout host s).mem = s.mem := by
  simp -implicitDefEqProofs [canFdSegmentTimeout]
@[simp] theorem arpRequest_keeps (target : Nat) (senderMac : Nat) (senderAddr : Nat) (s : State) :
    (arpRequest target senderMac senderAddr s).pending = s.pending ∧
    (arpRequest target senderMac senderAddr s).part = s.part ∧ (arpRequest target senderMac senderAddr s).cycles = s.cycles ∧
    (arpRequest target senderMac senderAddr s).mem = s.mem := by
  simp -implicitDefEqProofs [arpRequest]
@[simp] theorem udpDatagram_keeps (src : Source) (dst : Nat) (vlan : Nat) (port : Nat) (msg : Bytes) (s : State) :
    (udpDatagram src dst vlan port msg s).pending = s.pending ∧ (udpDatagram src dst vlan port msg s).part = s.part ∧
    (udpDatagram src dst vlan port msg s).cycles = s.cycles := by
  simp -implicitDefEqProofs [udpDatagram]
@[simp] theorem udpDatagram_wf (src : Source) (dst : Nat) (vlan : Nat) (port : Nat) (msg : Bytes) (s : State) (hw : Memory.wf
    s.mem = true) :
    Memory.wf (udpDatagram src dst vlan port msg s).mem = true := by
  unfold udpDatagram
  (repeat' split) <;> simp -implicitDefEqProofs [*]
@[simp] theorem neighbourSolicitation_keeps (target : Nat) (senderMac : Nat) (senderAddr : Nat) (s : State) :
    (neighbourSolicitation target senderMac senderAddr s).pending = s.pending ∧
    (neighbourSolicitation target senderMac senderAddr s).part = s.part ∧
    (neighbourSolicitation target senderMac senderAddr s).cycles = s.cycles ∧
    (neighbourSolicitation target senderMac senderAddr s).mem = s.mem := by
  simp -implicitDefEqProofs [neighbourSolicitation]
@[simp] theorem blockTransferAbandon_keeps (session : Nat) (handle : Nat) (s : State) :
    (blockTransferAbandon session handle s).pending = s.pending ∧ (blockTransferAbandon session handle s).part = s.part ∧
    (blockTransferAbandon session handle s).cycles = s.cycles ∧ (blockTransferAbandon session handle s).mem = s.mem := by
  simp -implicitDefEqProofs [blockTransferAbandon]
@[simp] theorem halfOpenTimeout_keeps (session : Nat) (s : State) :
    (halfOpenTimeout session s).pending = s.pending ∧ (halfOpenTimeout session s).part = s.part ∧
    (halfOpenTimeout session s).cycles = s.cycles ∧ (halfOpenTimeout session s).mem = s.mem := by
  simp -implicitDefEqProofs [halfOpenTimeout]
@[simp] theorem sessionIdleTimeout_keeps (session : Nat) (s : State) :
    (sessionIdleTimeout session s).pending = s.pending ∧ (sessionIdleTimeout session s).part = s.part ∧
    (sessionIdleTimeout session s).cycles = s.cycles ∧ (sessionIdleTimeout session s).mem = s.mem := by
  unfold sessionIdleTimeout
  split <;> simp -implicitDefEqProofs
@[simp] theorem evtResendInterval_keeps (s : State) :
    (evtResendInterval s).pending = s.pending ∧ (evtResendInterval s).part = s.part ∧
    (evtResendInterval s).cycles = s.cycles ∧ (evtResendInterval s).mem = s.mem := by
  simp -implicitDefEqProofs [evtResendInterval]
end Sys2Proof.Machine
end

