-- ==== Sys2Proof/Laws/Reads.lean ====
section
/-! SUPPORT. What the readers of the state answer after a named update of a field that they do not read. -/
namespace Sys2Proof.Machine

variable (s : State)

/-! setObj. -/
@[simp] theorem State.setObj_dom (k : Nat) (v : Int) (k' : Nat) : (s.setObj k v).dom k' = s.dom k' := rfl
@[simp] theorem State.setObj_now (k : Nat) (v : Int)  : (s.setObj k v).now = s.now := rfl
@[simp] theorem State.setObj_since (k : Nat) (v : Int) (c' : Nat) : (s.setObj k v).since c' = s.since c' := rfl
@[simp] theorem State.setObj_lane (k : Nat) (v : Int) (x' : Lane) : (s.setObj k v).lane x' = s.lane x' := rfl
@[simp] theorem State.setObj_port (k : Nat) (v : Int) (p' : Nat) : (s.setObj k v).port p' = s.port p' := rfl
@[simp] theorem State.setObj_exp (k : Nat) (v : Int) (p' : Nat) : (s.setObj k v).exp p' = s.exp p' := rfl
@[simp] theorem State.setObj_input (k : Nat) (v : Int) (p' : Nat) : (s.setObj k v).input p' = s.input p' := rfl
@[simp] theorem State.setObj_pipe (k : Nat) (v : Int) (p' : Nat) : (s.setObj k v).pipe p' = s.pipe p' := rfl
@[simp] theorem State.setObj_fifo (k : Nat) (v : Int) (p' : Nat) : (s.setObj k v).fifo p' = s.fifo p' := rfl
@[simp] theorem State.setObj_frameOf (k : Nat) (v : Int) (p' : Nat) : (s.setObj k v).frameOf p' = s.frameOf p' := rfl
@[simp] theorem State.setObj_openFrame (k : Nat) (v : Int) (p' : Nat) : (s.setObj k v).openFrame p' = s.openFrame p' := rfl
@[simp] theorem State.setObj_nxPort (k : Nat) (v : Int) (p' : Nat) : (s.setObj k v).nxPort p' = s.nxPort p' := rfl
@[simp] theorem State.setObj_session (k : Nat) (v : Int) (p' : Nat) : (s.setObj k v).session p' = s.session p' := rfl
@[simp] theorem State.setObj_xfer (k : Nat) (v : Int) (e' c' : Nat) : (s.setObj k v).xfer e' c' = s.xfer e' c' := rfl

/-! resetObj. -/
@[simp] theorem State.resetObj_dom (k : Nat) (k' : Nat) : (s.resetObj k).dom k' = s.dom k' := rfl
@[simp] theorem State.resetObj_now (k : Nat)  : (s.resetObj k).now = s.now := rfl
@[simp] theorem State.resetObj_since (k : Nat) (c' : Nat) : (s.resetObj k).since c' = s.since c' := rfl
@[simp] theorem State.resetObj_lane (k : Nat) (x' : Lane) : (s.resetObj k).lane x' = s.lane x' := rfl
@[simp] theorem State.resetObj_port (k : Nat) (p' : Nat) : (s.resetObj k).port p' = s.port p' := rfl
@[simp] theorem State.resetObj_exp (k : Nat) (p' : Nat) : (s.resetObj k).exp p' = s.exp p' := rfl
@[simp] theorem State.resetObj_input (k : Nat) (p' : Nat) : (s.resetObj k).input p' = s.input p' := rfl
@[simp] theorem State.resetObj_pipe (k : Nat) (p' : Nat) : (s.resetObj k).pipe p' = s.pipe p' := rfl
@[simp] theorem State.resetObj_fifo (k : Nat) (p' : Nat) : (s.resetObj k).fifo p' = s.fifo p' := rfl
@[simp] theorem State.resetObj_frameOf (k : Nat) (p' : Nat) : (s.resetObj k).frameOf p' = s.frameOf p' := rfl
@[simp] theorem State.resetObj_openFrame (k : Nat) (p' : Nat) : (s.resetObj k).openFrame p' = s.openFrame p' := rfl
@[simp] theorem State.resetObj_nxPort (k : Nat) (p' : Nat) : (s.resetObj k).nxPort p' = s.nxPort p' := rfl
@[simp] theorem State.resetObj_session (k : Nat) (p' : Nat) : (s.resetObj k).session p' = s.session p' := rfl
@[simp] theorem State.resetObj_xfer (k : Nat) (e' c' : Nat) : (s.resetObj k).xfer e' c' = s.xfer e' c' := rfl

/-! setFlag. -/
@[simp] theorem State.setFlag_dom (k : Nat) (b : Bool) (k' : Nat) : (s.setFlag k b).dom k' = s.dom k' := rfl
@[simp] theorem State.setFlag_now (k : Nat) (b : Bool)  : (s.setFlag k b).now = s.now := rfl
@[simp] theorem State.setFlag_since (k : Nat) (b : Bool) (c' : Nat) : (s.setFlag k b).since c' = s.since c' := rfl
@[simp] theorem State.setFlag_lane (k : Nat) (b : Bool) (x' : Lane) : (s.setFlag k b).lane x' = s.lane x' := rfl
@[simp] theorem State.setFlag_port (k : Nat) (b : Bool) (p' : Nat) : (s.setFlag k b).port p' = s.port p' := rfl
@[simp] theorem State.setFlag_exp (k : Nat) (b : Bool) (p' : Nat) : (s.setFlag k b).exp p' = s.exp p' := rfl
@[simp] theorem State.setFlag_input (k : Nat) (b : Bool) (p' : Nat) : (s.setFlag k b).input p' = s.input p' := rfl
@[simp] theorem State.setFlag_pipe (k : Nat) (b : Bool) (p' : Nat) : (s.setFlag k b).pipe p' = s.pipe p' := rfl
@[simp] theorem State.setFlag_fifo (k : Nat) (b : Bool) (p' : Nat) : (s.setFlag k b).fifo p' = s.fifo p' := rfl
@[simp] theorem State.setFlag_frameOf (k : Nat) (b : Bool) (p' : Nat) : (s.setFlag k b).frameOf p' = s.frameOf p' := rfl
@[simp] theorem State.setFlag_openFrame (k : Nat) (b : Bool) (p' : Nat) : (s.setFlag k b).openFrame p' = s.openFrame p' := rfl
@[simp] theorem State.setFlag_nxPort (k : Nat) (b : Bool) (p' : Nat) : (s.setFlag k b).nxPort p' = s.nxPort p' := rfl
@[simp] theorem State.setFlag_session (k : Nat) (b : Bool) (p' : Nat) : (s.setFlag k b).session p' = s.session p' := rfl
@[simp] theorem State.setFlag_xfer (k : Nat) (b : Bool) (e' c' : Nat) : (s.setFlag k b).xfer e' c' = s.xfer e' c' := rfl

/-! addTo. -/
@[simp] theorem State.addTo_dom (k w d : Nat) (k' : Nat) : (s.addTo k w d).dom k' = s.dom k' := rfl
@[simp] theorem State.addTo_now (k w d : Nat)  : (s.addTo k w d).now = s.now := rfl
@[simp] theorem State.addTo_since (k w d : Nat) (c' : Nat) : (s.addTo k w d).since c' = s.since c' := rfl
@[simp] theorem State.addTo_lane (k w d : Nat) (x' : Lane) : (s.addTo k w d).lane x' = s.lane x' := rfl
@[simp] theorem State.addTo_port (k w d : Nat) (p' : Nat) : (s.addTo k w d).port p' = s.port p' := rfl
@[simp] theorem State.addTo_exp (k w d : Nat) (p' : Nat) : (s.addTo k w d).exp p' = s.exp p' := rfl
@[simp] theorem State.addTo_input (k w d : Nat) (p' : Nat) : (s.addTo k w d).input p' = s.input p' := rfl
@[simp] theorem State.addTo_pipe (k w d : Nat) (p' : Nat) : (s.addTo k w d).pipe p' = s.pipe p' := rfl
@[simp] theorem State.addTo_fifo (k w d : Nat) (p' : Nat) : (s.addTo k w d).fifo p' = s.fifo p' := rfl
@[simp] theorem State.addTo_frameOf (k w d : Nat) (p' : Nat) : (s.addTo k w d).frameOf p' = s.frameOf p' := rfl
@[simp] theorem State.addTo_openFrame (k w d : Nat) (p' : Nat) : (s.addTo k w d).openFrame p' = s.openFrame p' := rfl
@[simp] theorem State.addTo_nxPort (k w d : Nat) (p' : Nat) : (s.addTo k w d).nxPort p' = s.nxPort p' := rfl
@[simp] theorem State.addTo_session (k w d : Nat) (p' : Nat) : (s.addTo k w d).session p' = s.session p' := rfl
@[simp] theorem State.addTo_xfer (k w d : Nat) (e' c' : Nat) : (s.addTo k w d).xfer e' c' = s.xfer e' c' := rfl

/-! bump. -/
@[simp] theorem State.bump_dom (k : Nat) (k' : Nat) : (s.bump k).dom k' = s.dom k' := rfl
@[simp] theorem State.bump_now (k : Nat)  : (s.bump k).now = s.now := rfl
@[simp] theorem State.bump_since (k : Nat) (c' : Nat) : (s.bump k).since c' = s.since c' := rfl
@[simp] theorem State.bump_lane (k : Nat) (x' : Lane) : (s.bump k).lane x' = s.lane x' := rfl
@[simp] theorem State.bump_port (k : Nat) (p' : Nat) : (s.bump k).port p' = s.port p' := rfl
@[simp] theorem State.bump_exp (k : Nat) (p' : Nat) : (s.bump k).exp p' = s.exp p' := rfl
@[simp] theorem State.bump_input (k : Nat) (p' : Nat) : (s.bump k).input p' = s.input p' := rfl
@[simp] theorem State.bump_pipe (k : Nat) (p' : Nat) : (s.bump k).pipe p' = s.pipe p' := rfl
@[simp] theorem State.bump_fifo (k : Nat) (p' : Nat) : (s.bump k).fifo p' = s.fifo p' := rfl
@[simp] theorem State.bump_frameOf (k : Nat) (p' : Nat) : (s.bump k).frameOf p' = s.frameOf p' := rfl
@[simp] theorem State.bump_openFrame (k : Nat) (p' : Nat) : (s.bump k).openFrame p' = s.openFrame p' := rfl
@[simp] theorem State.bump_nxPort (k : Nat) (p' : Nat) : (s.bump k).nxPort p' = s.nxPort p' := rfl
@[simp] theorem State.bump_session (k : Nat) (p' : Nat) : (s.bump k).session p' = s.session p' := rfl
@[simp] theorem State.bump_xfer (k : Nat) (e' c' : Nat) : (s.bump k).xfer e' c' = s.xfer e' c' := rfl

/-! setDom. -/
@[simp] theorem State.setDom_obj (k : Nat) (b : Bytes) (k' : Nat) : (s.setDom k b).obj k' = s.obj k' := rfl
@[simp] theorem State.setDom_nat (k : Nat) (b : Bytes) (k' : Nat) : (s.setDom k b).nat k' = s.nat k' := rfl
@[simp] theorem State.setDom_flag (k : Nat) (b : Bytes) (k' : Nat) : (s.setDom k b).flag k' = s.flag k' := rfl
@[simp] theorem State.setDom_live (k : Nat) (b : Bytes) (k' : Nat) : (s.setDom k b).live k' = s.live k' := rfl
@[simp] theorem State.setDom_liveNat (k : Nat) (b : Bytes) (k' : Nat) : (s.setDom k b).liveNat k' = s.liveNat k' := rfl
@[simp] theorem State.setDom_now (k : Nat) (b : Bytes)  : (s.setDom k b).now = s.now := rfl
@[simp] theorem State.setDom_epoch (k : Nat) (b : Bytes)  : (s.setDom k b).epoch = s.epoch := rfl
@[simp] theorem State.setDom_instant (k : Nat) (b : Bytes)  : (s.setDom k b).instant = s.instant := rfl
@[simp] theorem State.setDom_since (k : Nat) (b : Bytes) (c' : Nat) : (s.setDom k b).since c' = s.since c' := rfl
@[simp] theorem State.setDom_lane (k : Nat) (b : Bytes) (x' : Lane) : (s.setDom k b).lane x' = s.lane x' := rfl
@[simp] theorem State.setDom_laneNat (k : Nat) (b : Bytes) (x' : Lane) (o' : Nat) : (s.setDom k b).laneNat x' o' = s.laneNat x' o' := rfl
@[simp] theorem State.setDom_laneState (k : Nat) (b : Bytes) (x' : Lane) : (s.setDom k b).laneState x' = s.laneState x' := rfl
@[simp] theorem State.setDom_laneUp (k : Nat) (b : Bytes) (x' : Lane) : (s.setDom k b).laneUp x' = s.laneUp x' := rfl
@[simp] theorem State.setDom_tbState (k : Nat) (b : Bytes)  : (s.setDom k b).tbState = s.tbState := rfl
@[simp] theorem State.setDom_tbSource (k : Nat) (b : Bytes)  : (s.setDom k b).tbSource = s.tbSource := rfl
@[simp] theorem State.setDom_tbFreq (k : Nat) (b : Bytes)  : (s.setDom k b).tbFreq = s.tbFreq := rfl
@[simp] theorem State.setDom_domainOn (k : Nat) (b : Bytes) (d' : Nat) : (s.setDom k b).domainOn d' = s.domainOn d' := rfl
@[simp] theorem State.setDom_chState (k : Nat) (b : Bytes) (e' c' : Nat) : (s.setDom k b).chState e' c' = s.chState e' c' := rfl
@[simp] theorem State.setDom_chCtrl (k : Nat) (b : Bytes) (e' c' : Nat) : (s.setDom k b).chCtrl e' c' = s.chCtrl e' c' := rfl
@[simp] theorem State.setDom_feeds (k : Nat) (b : Bytes) (p' : Nat) : (s.setDom k b).feeds p' = s.feeds p' := rfl
@[simp] theorem State.setDom_livePipe (k : Nat) (b : Bytes) (p' : Nat) : (s.setDom k b).livePipe p' = s.livePipe p' := rfl
@[simp] theorem State.setDom_port (k : Nat) (b : Bytes) (p' : Nat) : (s.setDom k b).port p' = s.port p' := rfl
@[simp] theorem State.setDom_exp (k : Nat) (b : Bytes) (p' : Nat) : (s.setDom k b).exp p' = s.exp p' := rfl
@[simp] theorem State.setDom_input (k : Nat) (b : Bytes) (p' : Nat) : (s.setDom k b).input p' = s.input p' := rfl
@[simp] theorem State.setDom_pipe (k : Nat) (b : Bytes) (p' : Nat) : (s.setDom k b).pipe p' = s.pipe p' := rfl
@[simp] theorem State.setDom_fifo (k : Nat) (b : Bytes) (p' : Nat) : (s.setDom k b).fifo p' = s.fifo p' := rfl
@[simp] theorem State.setDom_frameOf (k : Nat) (b : Bytes) (p' : Nat) : (s.setDom k b).frameOf p' = s.frameOf p' := rfl
@[simp] theorem State.setDom_openFrame (k : Nat) (b : Bytes) (p' : Nat) : (s.setDom k b).openFrame p' = s.openFrame p' := rfl
@[simp] theorem State.setDom_nxPort (k : Nat) (b : Bytes) (p' : Nat) : (s.setDom k b).nxPort p' = s.nxPort p' := rfl
@[simp] theorem State.setDom_session (k : Nat) (b : Bytes) (p' : Nat) : (s.setDom k b).session p' = s.session p' := rfl
@[simp] theorem State.setDom_xfer (k : Nat) (b : Bytes) (e' c' : Nat) : (s.setDom k b).xfer e' c' = s.xfer e' c' := rfl
@[simp] theorem State.setDom_isRing (k : Nat) (b : Bytes) (p' : Nat) : (s.setDom k b).isRing p' = s.isRing p' := rfl
@[simp] theorem State.setDom_steerPort (k : Nat) (b : Bytes)  : (s.setDom k b).steerPort = s.steerPort := rfl
@[simp] theorem State.setDom_trkState (k : Nat) (b : Bytes)  : (s.setDom k b).trkState = s.trkState := rfl
@[simp] theorem State.setDom_trkL (k : Nat) (b : Bytes)  : (s.setDom k b).trkL = s.trkL := rfl

/-! send. -/
@[simp] theorem State.send_obj (o : Out) (k' : Nat) : (s.send o).obj k' = s.obj k' := rfl
@[simp] theorem State.send_nat (o : Out) (k' : Nat) : (s.send o).nat k' = s.nat k' := rfl
@[simp] theorem State.send_flag (o : Out) (k' : Nat) : (s.send o).flag k' = s.flag k' := rfl
@[simp] theorem State.send_live (o : Out) (k' : Nat) : (s.send o).live k' = s.live k' := rfl
@[simp] theorem State.send_liveNat (o : Out) (k' : Nat) : (s.send o).liveNat k' = s.liveNat k' := rfl
@[simp] theorem State.send_dom (o : Out) (k' : Nat) : (s.send o).dom k' = s.dom k' := rfl
@[simp] theorem State.send_now (o : Out)  : (s.send o).now = s.now := rfl
@[simp] theorem State.send_epoch (o : Out)  : (s.send o).epoch = s.epoch := rfl
@[simp] theorem State.send_instant (o : Out)  : (s.send o).instant = s.instant := rfl
@[simp] theorem State.send_since (o : Out) (c' : Nat) : (s.send o).since c' = s.since c' := rfl
@[simp] theorem State.send_lane (o : Out) (x' : Lane) : (s.send o).lane x' = s.lane x' := rfl
@[simp] theorem State.send_laneNat (o : Out) (x' : Lane) (o' : Nat) : (s.send o).laneNat x' o' = s.laneNat x' o' := rfl
@[simp] theorem State.send_laneState (o : Out) (x' : Lane) : (s.send o).laneState x' = s.laneState x' := rfl
@[simp] theorem State.send_laneUp (o : Out) (x' : Lane) : (s.send o).laneUp x' = s.laneUp x' := rfl
@[simp] theorem State.send_tbState (o : Out)  : (s.send o).tbState = s.tbState := rfl
@[simp] theorem State.send_tbSource (o : Out)  : (s.send o).tbSource = s.tbSource := rfl
@[simp] theorem State.send_tbFreq (o : Out)  : (s.send o).tbFreq = s.tbFreq := rfl
@[simp] theorem State.send_domainOn (o : Out) (d' : Nat) : (s.send o).domainOn d' = s.domainOn d' := rfl
@[simp] theorem State.send_chState (o : Out) (e' c' : Nat) : (s.send o).chState e' c' = s.chState e' c' := rfl
@[simp] theorem State.send_chCtrl (o : Out) (e' c' : Nat) : (s.send o).chCtrl e' c' = s.chCtrl e' c' := rfl
@[simp] theorem State.send_feeds (o : Out) (p' : Nat) : (s.send o).feeds p' = s.feeds p' := rfl
@[simp] theorem State.send_livePipe (o : Out) (p' : Nat) : (s.send o).livePipe p' = s.livePipe p' := rfl
@[simp] theorem State.send_port (o : Out) (p' : Nat) : (s.send o).port p' = s.port p' := rfl
@[simp] theorem State.send_exp (o : Out) (p' : Nat) : (s.send o).exp p' = s.exp p' := rfl
@[simp] theorem State.send_input (o : Out) (p' : Nat) : (s.send o).input p' = s.input p' := rfl
@[simp] theorem State.send_pipe (o : Out) (p' : Nat) : (s.send o).pipe p' = s.pipe p' := rfl
@[simp] theorem State.send_fifo (o : Out) (p' : Nat) : (s.send o).fifo p' = s.fifo p' := rfl
@[simp] theorem State.send_frameOf (o : Out) (p' : Nat) : (s.send o).frameOf p' = s.frameOf p' := rfl
@[simp] theorem State.send_openFrame (o : Out) (p' : Nat) : (s.send o).openFrame p' = s.openFrame p' := rfl
@[simp] theorem State.send_nxPort (o : Out) (p' : Nat) : (s.send o).nxPort p' = s.nxPort p' := rfl
@[simp] theorem State.send_session (o : Out) (p' : Nat) : (s.send o).session p' = s.session p' := rfl
@[simp] theorem State.send_xfer (o : Out) (e' c' : Nat) : (s.send o).xfer e' c' = s.xfer e' c' := rfl
@[simp] theorem State.send_isRing (o : Out) (p' : Nat) : (s.send o).isRing p' = s.isRing p' := rfl
@[simp] theorem State.send_steerPort (o : Out)  : (s.send o).steerPort = s.steerPort := rfl
@[simp] theorem State.send_trkState (o : Out)  : (s.send o).trkState = s.trkState := rfl
@[simp] theorem State.send_trkL (o : Out)  : (s.send o).trkL = s.trkL := rfl

/-! updSession. -/
@[simp] theorem State.updSession_obj (n : Nat) (f : Session → Session) (k' : Nat) : (s.updSession n f).obj k' = s.obj k' := rfl
@[simp] theorem State.updSession_nat (n : Nat) (f : Session → Session) (k' : Nat) : (s.updSession n f).nat k' = s.nat k' := rfl
@[simp] theorem State.updSession_flag (n : Nat) (f : Session → Session) (k' : Nat) : (s.updSession n f).flag k' = s.flag k' := rfl
@[simp] theorem State.updSession_live (n : Nat) (f : Session → Session) (k' : Nat) : (s.updSession n f).live k' = s.live k' := rfl
@[simp] theorem State.updSession_liveNat (n : Nat) (f : Session → Session) (k' : Nat) : (s.updSession n f).liveNat k' = s.liveNat k' := rfl
@[simp] theorem State.updSession_dom (n : Nat) (f : Session → Session) (k' : Nat) : (s.updSession n f).dom k' = s.dom k' := rfl
@[simp] theorem State.updSession_now (n : Nat) (f : Session → Session)  : (s.updSession n f).now = s.now := rfl
@[simp] theorem State.updSession_epoch (n : Nat) (f : Session → Session)  : (s.updSession n f).epoch = s.epoch := rfl
@[simp] theorem State.updSession_instant (n : Nat) (f : Session → Session)  : (s.updSession n f).instant = s.instant := rfl
@[simp] theorem State.updSession_since (n : Nat) (f : Session → Session) (c' : Nat) : (s.updSession n f).since c' = s.since c' := rfl
@[simp] theorem State.updSession_lane (n : Nat) (f : Session → Session) (x' : Lane) : (s.updSession n f).lane x' = s.lane x' := rfl
@[simp] theorem State.updSession_laneNat (n : Nat) (f : Session → Session) (x' : Lane) (o' : Nat) : (s.updSession n f).laneNat x' o' = s.laneNat x' o' := rfl
@[simp] theorem State.updSession_laneState (n : Nat) (f : Session → Session) (x' : Lane) : (s.updSession n f).laneState x' = s.laneState x' := rfl
@[simp] theorem State.updSession_laneUp (n : Nat) (f : Session → Session) (x' : Lane) : (s.updSession n f).laneUp x' = s.laneUp x' := rfl
@[simp] theorem State.updSession_tbState (n : Nat) (f : Session → Session)  : (s.updSession n f).tbState = s.tbState := rfl
@[simp] theorem State.updSession_tbSource (n : Nat) (f : Session → Session)  : (s.updSession n f).tbSource = s.tbSource := rfl
@[simp] theorem State.updSession_tbFreq (n : Nat) (f : Session → Session)  : (s.updSession n f).tbFreq = s.tbFreq := rfl
@[simp] theorem State.updSession_domainOn (n : Nat) (f : Session → Session) (d' : Nat) : (s.updSession n f).domainOn d' = s.domainOn d' := rfl
@[simp] theorem State.updSession_chState (n : Nat) (f : Session → Session) (e' c' : Nat) : (s.updSession n f).chState e' c' = s.chState e' c' := rfl
@[simp] theorem State.updSession_chCtrl (n : Nat) (f : Session → Session) (e' c' : Nat) : (s.updSession n f).chCtrl e' c' = s.chCtrl e' c' := rfl
@[simp] theorem State.updSession_feeds (n : Nat) (f : Session → Session) (p' : Nat) : (s.updSession n f).feeds p' = s.feeds p' := rfl
@[simp] theorem State.updSession_livePipe (n : Nat) (f : Session → Session) (p' : Nat) : (s.updSession n f).livePipe p' = s.livePipe p' := rfl
@[simp] theorem State.updSession_port (n : Nat) (f : Session → Session) (p' : Nat) : (s.updSession n f).port p' = s.port p' := rfl
@[simp] theorem State.updSession_exp (n : Nat) (f : Session → Session) (p' : Nat) : (s.updSession n f).exp p' = s.exp p' := rfl
@[simp] theorem State.updSession_input (n : Nat) (f : Session → Session) (p' : Nat) : (s.updSession n f).input p' = s.input p' := rfl
@[simp] theorem State.updSession_pipe (n : Nat) (f : Session → Session) (p' : Nat) : (s.updSession n f).pipe p' = s.pipe p' := rfl
@[simp] theorem State.updSession_fifo (n : Nat) (f : Session → Session) (p' : Nat) : (s.updSession n f).fifo p' = s.fifo p' := rfl
@[simp] theorem State.updSession_frameOf (n : Nat) (f : Session → Session) (p' : Nat) : (s.updSession n f).frameOf p' = s.frameOf p' := rfl
@[simp] theorem State.updSession_openFrame (n : Nat) (f : Session → Session) (p' : Nat) : (s.updSession n f).openFrame p' = s.openFrame p' := rfl
@[simp] theorem State.updSession_nxPort (n : Nat) (f : Session → Session) (p' : Nat) : (s.updSession n f).nxPort p' = s.nxPort p' := rfl
@[simp] theorem State.updSession_xfer (n : Nat) (f : Session → Session) (e' c' : Nat) : (s.updSession n f).xfer e' c' = s.xfer e' c' := rfl
@[simp] theorem State.updSession_isRing (n : Nat) (f : Session → Session) (p' : Nat) : (s.updSession n f).isRing p' = s.isRing p' := rfl
@[simp] theorem State.updSession_steerPort (n : Nat) (f : Session → Session)  : (s.updSession n f).steerPort = s.steerPort := rfl
@[simp] theorem State.updSession_trkState (n : Nat) (f : Session → Session)  : (s.updSession n f).trkState = s.trkState := rfl
@[simp] theorem State.updSession_trkL (n : Nat) (f : Session → Session)  : (s.updSession n f).trkL = s.trkL := rfl

/-! setLane. -/
@[simp] theorem State.setLane_dom (l : Lane) (o v : Nat) (k' : Nat) : (s.setLane l o v).dom k' = s.dom k' := rfl
@[simp] theorem State.setLane_now (l : Lane) (o v : Nat)  : (s.setLane l o v).now = s.now := rfl
@[simp] theorem State.setLane_since (l : Lane) (o v : Nat) (c' : Nat) : (s.setLane l o v).since c' = s.since c' := rfl
@[simp] theorem State.setLane_lane (l : Lane) (o v : Nat) (x' : Lane) : (s.setLane l o v).lane x' = s.lane x' := rfl
@[simp] theorem State.setLane_port (l : Lane) (o v : Nat) (p' : Nat) : (s.setLane l o v).port p' = s.port p' := rfl
@[simp] theorem State.setLane_exp (l : Lane) (o v : Nat) (p' : Nat) : (s.setLane l o v).exp p' = s.exp p' := rfl
@[simp] theorem State.setLane_input (l : Lane) (o v : Nat) (p' : Nat) : (s.setLane l o v).input p' = s.input p' := rfl
@[simp] theorem State.setLane_pipe (l : Lane) (o v : Nat) (p' : Nat) : (s.setLane l o v).pipe p' = s.pipe p' := rfl
@[simp] theorem State.setLane_fifo (l : Lane) (o v : Nat) (p' : Nat) : (s.setLane l o v).fifo p' = s.fifo p' := rfl
@[simp] theorem State.setLane_frameOf (l : Lane) (o v : Nat) (p' : Nat) : (s.setLane l o v).frameOf p' = s.frameOf p' := rfl
@[simp] theorem State.setLane_openFrame (l : Lane) (o v : Nat) (p' : Nat) : (s.setLane l o v).openFrame p' = s.openFrame p' := rfl
@[simp] theorem State.setLane_nxPort (l : Lane) (o v : Nat) (p' : Nat) : (s.setLane l o v).nxPort p' = s.nxPort p' := rfl
@[simp] theorem State.setLane_session (l : Lane) (o v : Nat) (p' : Nat) : (s.setLane l o v).session p' = s.session p' := rfl
@[simp] theorem State.setLane_xfer (l : Lane) (o v : Nat) (e' c' : Nat) : (s.setLane l o v).xfer e' c' = s.xfer e' c' := rfl

/-! updLane. -/
@[simp] theorem State.updLane_obj (l : Lane) (f : LaneSt → LaneSt) (k' : Nat) : (s.updLane l f).obj k' = s.obj k' := rfl
@[simp] theorem State.updLane_nat (l : Lane) (f : LaneSt → LaneSt) (k' : Nat) : (s.updLane l f).nat k' = s.nat k' := rfl
@[simp] theorem State.updLane_flag (l : Lane) (f : LaneSt → LaneSt) (k' : Nat) : (s.updLane l f).flag k' = s.flag k' := rfl
@[simp] theorem State.updLane_live (l : Lane) (f : LaneSt → LaneSt) (k' : Nat) : (s.updLane l f).live k' = s.live k' := rfl
@[simp] theorem State.updLane_liveNat (l : Lane) (f : LaneSt → LaneSt) (k' : Nat) : (s.updLane l f).liveNat k' = s.liveNat k' := rfl
@[simp] theorem State.updLane_dom (l : Lane) (f : LaneSt → LaneSt) (k' : Nat) : (s.updLane l f).dom k' = s.dom k' := rfl
@[simp] theorem State.updLane_now (l : Lane) (f : LaneSt → LaneSt)  : (s.updLane l f).now = s.now := rfl
@[simp] theorem State.updLane_epoch (l : Lane) (f : LaneSt → LaneSt)  : (s.updLane l f).epoch = s.epoch := rfl
@[simp] theorem State.updLane_instant (l : Lane) (f : LaneSt → LaneSt)  : (s.updLane l f).instant = s.instant := rfl
@[simp] theorem State.updLane_since (l : Lane) (f : LaneSt → LaneSt) (c' : Nat) : (s.updLane l f).since c' = s.since c' := rfl
@[simp] theorem State.updLane_laneNat (l : Lane) (f : LaneSt → LaneSt) (x' : Lane) (o' : Nat) : (s.updLane l f).laneNat x' o' = s.laneNat x' o' := rfl
@[simp] theorem State.updLane_laneState (l : Lane) (f : LaneSt → LaneSt) (x' : Lane) : (s.updLane l f).laneState x' = s.laneState x' := rfl
@[simp] theorem State.updLane_laneUp (l : Lane) (f : LaneSt → LaneSt) (x' : Lane) : (s.updLane l f).laneUp x' = s.laneUp x' := rfl
@[simp] theorem State.updLane_tbState (l : Lane) (f : LaneSt → LaneSt)  : (s.updLane l f).tbState = s.tbState := rfl
@[simp] theorem State.updLane_tbSource (l : Lane) (f : LaneSt → LaneSt)  : (s.updLane l f).tbSource = s.tbSource := rfl
@[simp] theorem State.updLane_tbFreq (l : Lane) (f : LaneSt → LaneSt)  : (s.updLane l f).tbFreq = s.tbFreq := rfl
@[simp] theorem State.updLane_domainOn (l : Lane) (f : LaneSt → LaneSt) (d' : Nat) : (s.updLane l f).domainOn d' = s.domainOn d' := rfl
@[simp] theorem State.updLane_chState (l : Lane) (f : LaneSt → LaneSt) (e' c' : Nat) : (s.updLane l f).chState e' c' = s.chState e' c' := rfl
@[simp] theorem State.updLane_chCtrl (l : Lane) (f : LaneSt → LaneSt) (e' c' : Nat) : (s.updLane l f).chCtrl e' c' = s.chCtrl e' c' := rfl
@[simp] theorem State.updLane_feeds (l : Lane) (f : LaneSt → LaneSt) (p' : Nat) : (s.updLane l f).feeds p' = s.feeds p' := rfl
@[simp] theorem State.updLane_livePipe (l : Lane) (f : LaneSt → LaneSt) (p' : Nat) : (s.updLane l f).livePipe p' = s.livePipe p' := rfl
@[simp] theorem State.updLane_port (l : Lane) (f : LaneSt → LaneSt) (p' : Nat) : (s.updLane l f).port p' = s.port p' := rfl
@[simp] theorem State.updLane_exp (l : Lane) (f : LaneSt → LaneSt) (p' : Nat) : (s.updLane l f).exp p' = s.exp p' := rfl
@[simp] theorem State.updLane_input (l : Lane) (f : LaneSt → LaneSt) (p' : Nat) : (s.updLane l f).input p' = s.input p' := rfl
@[simp] theorem State.updLane_pipe (l : Lane) (f : LaneSt → LaneSt) (p' : Nat) : (s.updLane l f).pipe p' = s.pipe p' := rfl
@[simp] theorem State.updLane_fifo (l : Lane) (f : LaneSt → LaneSt) (p' : Nat) : (s.updLane l f).fifo p' = s.fifo p' := rfl
@[simp] theorem State.updLane_frameOf (l : Lane) (f : LaneSt → LaneSt) (p' : Nat) : (s.updLane l f).frameOf p' = s.frameOf p' := rfl
@[simp] theorem State.updLane_openFrame (l : Lane) (f : LaneSt → LaneSt) (p' : Nat) : (s.updLane l f).openFrame p' = s.openFrame p' := rfl
@[simp] theorem State.updLane_nxPort (l : Lane) (f : LaneSt → LaneSt) (p' : Nat) : (s.updLane l f).nxPort p' = s.nxPort p' := rfl
@[simp] theorem State.updLane_session (l : Lane) (f : LaneSt → LaneSt) (p' : Nat) : (s.updLane l f).session p' = s.session p' := rfl
@[simp] theorem State.updLane_xfer (l : Lane) (f : LaneSt → LaneSt) (e' c' : Nat) : (s.updLane l f).xfer e' c' = s.xfer e' c' := rfl
@[simp] theorem State.updLane_isRing (l : Lane) (f : LaneSt → LaneSt) (p' : Nat) : (s.updLane l f).isRing p' = s.isRing p' := rfl
@[simp] theorem State.updLane_steerPort (l : Lane) (f : LaneSt → LaneSt)  : (s.updLane l f).steerPort = s.steerPort := rfl
@[simp] theorem State.updLane_trkState (l : Lane) (f : LaneSt → LaneSt)  : (s.updLane l f).trkState = s.trkState := rfl
@[simp] theorem State.updLane_trkL (l : Lane) (f : LaneSt → LaneSt)  : (s.updLane l f).trkL = s.trkL := rfl

/-! updFrame. -/
@[simp] theorem State.updFrame_obj (n : Nat) (f : Frame → Frame) (k' : Nat) : (s.updFrame n f).obj k' = s.obj k' := rfl
@[simp] theorem State.updFrame_nat (n : Nat) (f : Frame → Frame) (k' : Nat) : (s.updFrame n f).nat k' = s.nat k' := rfl
@[simp] theorem State.updFrame_flag (n : Nat) (f : Frame → Frame) (k' : Nat) : (s.updFrame n f).flag k' = s.flag k' := rfl
@[simp] theorem State.updFrame_live (n : Nat) (f : Frame → Frame) (k' : Nat) : (s.updFrame n f).live k' = s.live k' := rfl
@[simp] theorem State.updFrame_liveNat (n : Nat) (f : Frame → Frame) (k' : Nat) : (s.updFrame n f).liveNat k' = s.liveNat k' := rfl
@[simp] theorem State.updFrame_dom (n : Nat) (f : Frame → Frame) (k' : Nat) : (s.updFrame n f).dom k' = s.dom k' := rfl
@[simp] theorem State.updFrame_now (n : Nat) (f : Frame → Frame)  : (s.updFrame n f).now = s.now := rfl
@[simp] theorem State.updFrame_epoch (n : Nat) (f : Frame → Frame)  : (s.updFrame n f).epoch = s.epoch := rfl
@[simp] theorem State.updFrame_instant (n : Nat) (f : Frame → Frame)  : (s.updFrame n f).instant = s.instant := rfl
@[simp] theorem State.updFrame_since (n : Nat) (f : Frame → Frame) (c' : Nat) : (s.updFrame n f).since c' = s.since c' := rfl
@[simp] theorem State.updFrame_lane (n : Nat) (f : Frame → Frame) (x' : Lane) : (s.updFrame n f).lane x' = s.lane x' := rfl
@[simp] theorem State.updFrame_laneNat (n : Nat) (f : Frame → Frame) (x' : Lane) (o' : Nat) : (s.updFrame n f).laneNat x' o' = s.laneNat x' o' := rfl
@[simp] theorem State.updFrame_laneState (n : Nat) (f : Frame → Frame) (x' : Lane) : (s.updFrame n f).laneState x' = s.laneState x' := rfl
@[simp] theorem State.updFrame_laneUp (n : Nat) (f : Frame → Frame) (x' : Lane) : (s.updFrame n f).laneUp x' = s.laneUp x' := rfl
@[simp] theorem State.updFrame_tbState (n : Nat) (f : Frame → Frame)  : (s.updFrame n f).tbState = s.tbState := rfl
@[simp] theorem State.updFrame_tbSource (n : Nat) (f : Frame → Frame)  : (s.updFrame n f).tbSource = s.tbSource := rfl
@[simp] theorem State.updFrame_tbFreq (n : Nat) (f : Frame → Frame)  : (s.updFrame n f).tbFreq = s.tbFreq := rfl
@[simp] theorem State.updFrame_domainOn (n : Nat) (f : Frame → Frame) (d' : Nat) : (s.updFrame n f).domainOn d' = s.domainOn d' := rfl
@[simp] theorem State.updFrame_chState (n : Nat) (f : Frame → Frame) (e' c' : Nat) : (s.updFrame n f).chState e' c' = s.chState e' c' := rfl
@[simp] theorem State.updFrame_chCtrl (n : Nat) (f : Frame → Frame) (e' c' : Nat) : (s.updFrame n f).chCtrl e' c' = s.chCtrl e' c' := rfl
@[simp] theorem State.updFrame_feeds (n : Nat) (f : Frame → Frame) (p' : Nat) : (s.updFrame n f).feeds p' = s.feeds p' := rfl
@[simp] theorem State.updFrame_livePipe (n : Nat) (f : Frame → Frame) (p' : Nat) : (s.updFrame n f).livePipe p' = s.livePipe p' := rfl
@[simp] theorem State.updFrame_port (n : Nat) (f : Frame → Frame) (p' : Nat) : (s.updFrame n f).port p' = s.port p' := rfl
@[simp] theorem State.updFrame_exp (n : Nat) (f : Frame → Frame) (p' : Nat) : (s.updFrame n f).exp p' = s.exp p' := rfl
@[simp] theorem State.updFrame_input (n : Nat) (f : Frame → Frame) (p' : Nat) : (s.updFrame n f).input p' = s.input p' := rfl
@[simp] theorem State.updFrame_pipe (n : Nat) (f : Frame → Frame) (p' : Nat) : (s.updFrame n f).pipe p' = s.pipe p' := rfl
@[simp] theorem State.updFrame_fifo (n : Nat) (f : Frame → Frame) (p' : Nat) : (s.updFrame n f).fifo p' = s.fifo p' := rfl
@[simp] theorem State.updFrame_nxPort (n : Nat) (f : Frame → Frame) (p' : Nat) : (s.updFrame n f).nxPort p' = s.nxPort p' := rfl
@[simp] theorem State.updFrame_session (n : Nat) (f : Frame → Frame) (p' : Nat) : (s.updFrame n f).session p' = s.session p' := rfl
@[simp] theorem State.updFrame_xfer (n : Nat) (f : Frame → Frame) (e' c' : Nat) : (s.updFrame n f).xfer e' c' = s.xfer e' c' := rfl
@[simp] theorem State.updFrame_isRing (n : Nat) (f : Frame → Frame) (p' : Nat) : (s.updFrame n f).isRing p' = s.isRing p' := rfl
@[simp] theorem State.updFrame_steerPort (n : Nat) (f : Frame → Frame)  : (s.updFrame n f).steerPort = s.steerPort := rfl
@[simp] theorem State.updFrame_trkState (n : Nat) (f : Frame → Frame)  : (s.updFrame n f).trkState = s.trkState := rfl
@[simp] theorem State.updFrame_trkL (n : Nat) (f : Frame → Frame)  : (s.updFrame n f).trkL = s.trkL := rfl

/-! updOut. -/
@[simp] theorem State.updOut_obj (n : Nat) (f : OutFrame → OutFrame) (k' : Nat) : (s.updOut n f).obj k' = s.obj k' := rfl
@[simp] theorem State.updOut_nat (n : Nat) (f : OutFrame → OutFrame) (k' : Nat) : (s.updOut n f).nat k' = s.nat k' := rfl
@[simp] theorem State.updOut_flag (n : Nat) (f : OutFrame → OutFrame) (k' : Nat) : (s.updOut n f).flag k' = s.flag k' := rfl
@[simp] theorem State.updOut_live (n : Nat) (f : OutFrame → OutFrame) (k' : Nat) : (s.updOut n f).live k' = s.live k' := rfl
@[simp] theorem State.updOut_liveNat (n : Nat) (f : OutFrame → OutFrame) (k' : Nat) : (s.updOut n f).liveNat k' = s.liveNat k' := rfl
@[simp] theorem State.updOut_dom (n : Nat) (f : OutFrame → OutFrame) (k' : Nat) : (s.updOut n f).dom k' = s.dom k' := rfl
@[simp] theorem State.updOut_now (n : Nat) (f : OutFrame → OutFrame)  : (s.updOut n f).now = s.now := rfl
@[simp] theorem State.updOut_epoch (n : Nat) (f : OutFrame → OutFrame)  : (s.updOut n f).epoch = s.epoch := rfl
@[simp] theorem State.updOut_instant (n : Nat) (f : OutFrame → OutFrame)  : (s.updOut n f).instant = s.instant := rfl
@[simp] theorem State.updOut_since (n : Nat) (f : OutFrame → OutFrame) (c' : Nat) : (s.updOut n f).since c' = s.since c' := rfl
@[simp] theorem State.updOut_lane (n : Nat) (f : OutFrame → OutFrame) (x' : Lane) : (s.updOut n f).lane x' = s.lane x' := rfl
@[simp] theorem State.updOut_laneNat (n : Nat) (f : OutFrame → OutFrame) (x' : Lane) (o' : Nat) : (s.updOut n f).laneNat x' o' = s.laneNat x' o' := rfl
@[simp] theorem State.updOut_laneState (n : Nat) (f : OutFrame → OutFrame) (x' : Lane) : (s.updOut n f).laneState x' = s.laneState x' := rfl
@[simp] theorem State.updOut_laneUp (n : Nat) (f : OutFrame → OutFrame) (x' : Lane) : (s.updOut n f).laneUp x' = s.laneUp x' := rfl
@[simp] theorem State.updOut_tbState (n : Nat) (f : OutFrame → OutFrame)  : (s.updOut n f).tbState = s.tbState := rfl
@[simp] theorem State.updOut_tbSource (n : Nat) (f : OutFrame → OutFrame)  : (s.updOut n f).tbSource = s.tbSource := rfl
@[simp] theorem State.updOut_tbFreq (n : Nat) (f : OutFrame → OutFrame)  : (s.updOut n f).tbFreq = s.tbFreq := rfl
@[simp] theorem State.updOut_domainOn (n : Nat) (f : OutFrame → OutFrame) (d' : Nat) : (s.updOut n f).domainOn d' = s.domainOn d' := rfl
@[simp] theorem State.updOut_chState (n : Nat) (f : OutFrame → OutFrame) (e' c' : Nat) : (s.updOut n f).chState e' c' = s.chState e' c' := rfl
@[simp] theorem State.updOut_chCtrl (n : Nat) (f : OutFrame → OutFrame) (e' c' : Nat) : (s.updOut n f).chCtrl e' c' = s.chCtrl e' c' := rfl
@[simp] theorem State.updOut_feeds (n : Nat) (f : OutFrame → OutFrame) (p' : Nat) : (s.updOut n f).feeds p' = s.feeds p' := rfl
@[simp] theorem State.updOut_livePipe (n : Nat) (f : OutFrame → OutFrame) (p' : Nat) : (s.updOut n f).livePipe p' = s.livePipe p' := rfl
@[simp] theorem State.updOut_port (n : Nat) (f : OutFrame → OutFrame) (p' : Nat) : (s.updOut n f).port p' = s.port p' := rfl
@[simp] theorem State.updOut_exp (n : Nat) (f : OutFrame → OutFrame) (p' : Nat) : (s.updOut n f).exp p' = s.exp p' := rfl
@[simp] theorem State.updOut_input (n : Nat) (f : OutFrame → OutFrame) (p' : Nat) : (s.updOut n f).input p' = s.input p' := rfl
@[simp] theorem State.updOut_pipe (n : Nat) (f : OutFrame → OutFrame) (p' : Nat) : (s.updOut n f).pipe p' = s.pipe p' := rfl
@[simp] theorem State.updOut_fifo (n : Nat) (f : OutFrame → OutFrame) (p' : Nat) : (s.updOut n f).fifo p' = s.fifo p' := rfl
@[simp] theorem State.updOut_frameOf (n : Nat) (f : OutFrame → OutFrame) (p' : Nat) : (s.updOut n f).frameOf p' = s.frameOf p' := rfl
@[simp] theorem State.updOut_openFrame (n : Nat) (f : OutFrame → OutFrame) (p' : Nat) : (s.updOut n f).openFrame p' = s.openFrame p' := rfl
@[simp] theorem State.updOut_nxPort (n : Nat) (f : OutFrame → OutFrame) (p' : Nat) : (s.updOut n f).nxPort p' = s.nxPort p' := rfl
@[simp] theorem State.updOut_session (n : Nat) (f : OutFrame → OutFrame) (p' : Nat) : (s.updOut n f).session p' = s.session p' := rfl
@[simp] theorem State.updOut_xfer (n : Nat) (f : OutFrame → OutFrame) (e' c' : Nat) : (s.updOut n f).xfer e' c' = s.xfer e' c' := rfl
@[simp] theorem State.updOut_isRing (n : Nat) (f : OutFrame → OutFrame) (p' : Nat) : (s.updOut n f).isRing p' = s.isRing p' := rfl
@[simp] theorem State.updOut_steerPort (n : Nat) (f : OutFrame → OutFrame)  : (s.updOut n f).steerPort = s.steerPort := rfl
@[simp] theorem State.updOut_trkState (n : Nat) (f : OutFrame → OutFrame)  : (s.updOut n f).trkState = s.trkState := rfl
@[simp] theorem State.updOut_trkL (n : Nat) (f : OutFrame → OutFrame)  : (s.updOut n f).trkL = s.trkL := rfl

/-! updPort. -/
@[simp] theorem State.updPort_obj (n : Nat) (f : PortSt → PortSt) (k' : Nat) : (s.updPort n f).obj k' = s.obj k' := rfl
@[simp] theorem State.updPort_nat (n : Nat) (f : PortSt → PortSt) (k' : Nat) : (s.updPort n f).nat k' = s.nat k' := rfl
@[simp] theorem State.updPort_flag (n : Nat) (f : PortSt → PortSt) (k' : Nat) : (s.updPort n f).flag k' = s.flag k' := rfl
@[simp] theorem State.updPort_live (n : Nat) (f : PortSt → PortSt) (k' : Nat) : (s.updPort n f).live k' = s.live k' := rfl
@[simp] theorem State.updPort_liveNat (n : Nat) (f : PortSt → PortSt) (k' : Nat) : (s.updPort n f).liveNat k' = s.liveNat k' := rfl
@[simp] theorem State.updPort_dom (n : Nat) (f : PortSt → PortSt) (k' : Nat) : (s.updPort n f).dom k' = s.dom k' := rfl
@[simp] theorem State.updPort_now (n : Nat) (f : PortSt → PortSt)  : (s.updPort n f).now = s.now := rfl
@[simp] theorem State.updPort_epoch (n : Nat) (f : PortSt → PortSt)  : (s.updPort n f).epoch = s.epoch := rfl
@[simp] theorem State.updPort_instant (n : Nat) (f : PortSt → PortSt)  : (s.updPort n f).instant = s.instant := rfl
@[simp] theorem State.updPort_since (n : Nat) (f : PortSt → PortSt) (c' : Nat) : (s.updPort n f).since c' = s.since c' := rfl
@[simp] theorem State.updPort_lane (n : Nat) (f : PortSt → PortSt) (x' : Lane) : (s.updPort n f).lane x' = s.lane x' := rfl
@[simp] theorem State.updPort_laneNat (n : Nat) (f : PortSt → PortSt) (x' : Lane) (o' : Nat) : (s.updPort n f).laneNat x' o' = s.laneNat x' o' := rfl
@[simp] theorem State.updPort_laneState (n : Nat) (f : PortSt → PortSt) (x' : Lane) : (s.updPort n f).laneState x' = s.laneState x' := rfl
@[simp] theorem State.updPort_laneUp (n : Nat) (f : PortSt → PortSt) (x' : Lane) : (s.updPort n f).laneUp x' = s.laneUp x' := rfl
@[simp] theorem State.updPort_tbState (n : Nat) (f : PortSt → PortSt)  : (s.updPort n f).tbState = s.tbState := rfl
@[simp] theorem State.updPort_tbSource (n : Nat) (f : PortSt → PortSt)  : (s.updPort n f).tbSource = s.tbSource := rfl
@[simp] theorem State.updPort_tbFreq (n : Nat) (f : PortSt → PortSt)  : (s.updPort n f).tbFreq = s.tbFreq := rfl
@[simp] theorem State.updPort_domainOn (n : Nat) (f : PortSt → PortSt) (d' : Nat) : (s.updPort n f).domainOn d' = s.domainOn d' := rfl
@[simp] theorem State.updPort_chState (n : Nat) (f : PortSt → PortSt) (e' c' : Nat) : (s.updPort n f).chState e' c' = s.chState e' c' := rfl
@[simp] theorem State.updPort_chCtrl (n : Nat) (f : PortSt → PortSt) (e' c' : Nat) : (s.updPort n f).chCtrl e' c' = s.chCtrl e' c' := rfl
@[simp] theorem State.updPort_feeds (n : Nat) (f : PortSt → PortSt) (p' : Nat) : (s.updPort n f).feeds p' = s.feeds p' := rfl
@[simp] theorem State.updPort_livePipe (n : Nat) (f : PortSt → PortSt) (p' : Nat) : (s.updPort n f).livePipe p' = s.livePipe p' := rfl
@[simp] theorem State.updPort_exp (n : Nat) (f : PortSt → PortSt) (p' : Nat) : (s.updPort n f).exp p' = s.exp p' := rfl
@[simp] theorem State.updPort_input (n : Nat) (f : PortSt → PortSt) (p' : Nat) : (s.updPort n f).input p' = s.input p' := rfl
@[simp] theorem State.updPort_pipe (n : Nat) (f : PortSt → PortSt) (p' : Nat) : (s.updPort n f).pipe p' = s.pipe p' := rfl
@[simp] theorem State.updPort_fifo (n : Nat) (f : PortSt → PortSt) (p' : Nat) : (s.updPort n f).fifo p' = s.fifo p' := rfl
@[simp] theorem State.updPort_frameOf (n : Nat) (f : PortSt → PortSt) (p' : Nat) : (s.updPort n f).frameOf p' = s.frameOf p' := rfl
@[simp] theorem State.updPort_openFrame (n : Nat) (f : PortSt → PortSt) (p' : Nat) : (s.updPort n f).openFrame p' = s.openFrame p' := rfl
@[simp] theorem State.updPort_nxPort (n : Nat) (f : PortSt → PortSt) (p' : Nat) : (s.updPort n f).nxPort p' = s.nxPort p' := rfl
@[simp] theorem State.updPort_session (n : Nat) (f : PortSt → PortSt) (p' : Nat) : (s.updPort n f).session p' = s.session p' := rfl
@[simp] theorem State.updPort_xfer (n : Nat) (f : PortSt → PortSt) (e' c' : Nat) : (s.updPort n f).xfer e' c' = s.xfer e' c' := rfl
@[simp] theorem State.updPort_isRing (n : Nat) (f : PortSt → PortSt) (p' : Nat) : (s.updPort n f).isRing p' = s.isRing p' := rfl
@[simp] theorem State.updPort_steerPort (n : Nat) (f : PortSt → PortSt)  : (s.updPort n f).steerPort = s.steerPort := rfl
@[simp] theorem State.updPort_trkState (n : Nat) (f : PortSt → PortSt)  : (s.updPort n f).trkState = s.trkState := rfl
@[simp] theorem State.updPort_trkL (n : Nat) (f : PortSt → PortSt)  : (s.updPort n f).trkL = s.trkL := rfl

/-! updExp. -/
@[simp] theorem State.updExp_obj (n : Nat) (f : ExpSt → ExpSt) (k' : Nat) : (s.updExp n f).obj k' = s.obj k' := rfl
@[simp] theorem State.updExp_nat (n : Nat) (f : ExpSt → ExpSt) (k' : Nat) : (s.updExp n f).nat k' = s.nat k' := rfl
@[simp] theorem State.updExp_flag (n : Nat) (f : ExpSt → ExpSt) (k' : Nat) : (s.updExp n f).flag k' = s.flag k' := rfl
@[simp] theorem State.updExp_live (n : Nat) (f : ExpSt → ExpSt) (k' : Nat) : (s.updExp n f).live k' = s.live k' := rfl
@[simp] theorem State.updExp_liveNat (n : Nat) (f : ExpSt → ExpSt) (k' : Nat) : (s.updExp n f).liveNat k' = s.liveNat k' := rfl
@[simp] theorem State.updExp_dom (n : Nat) (f : ExpSt → ExpSt) (k' : Nat) : (s.updExp n f).dom k' = s.dom k' := rfl
@[simp] theorem State.updExp_now (n : Nat) (f : ExpSt → ExpSt)  : (s.updExp n f).now = s.now := rfl
@[simp] theorem State.updExp_epoch (n : Nat) (f : ExpSt → ExpSt)  : (s.updExp n f).epoch = s.epoch := rfl
@[simp] theorem State.updExp_instant (n : Nat) (f : ExpSt → ExpSt)  : (s.updExp n f).instant = s.instant := rfl
@[simp] theorem State.updExp_since (n : Nat) (f : ExpSt → ExpSt) (c' : Nat) : (s.updExp n f).since c' = s.since c' := rfl
@[simp] theorem State.updExp_lane (n : Nat) (f : ExpSt → ExpSt) (x' : Lane) : (s.updExp n f).lane x' = s.lane x' := rfl
@[simp] theorem State.updExp_laneNat (n : Nat) (f : ExpSt → ExpSt) (x' : Lane) (o' : Nat) : (s.updExp n f).laneNat x' o' = s.laneNat x' o' := rfl
@[simp] theorem State.updExp_laneState (n : Nat) (f : ExpSt → ExpSt) (x' : Lane) : (s.updExp n f).laneState x' = s.laneState x' := rfl
@[simp] theorem State.updExp_laneUp (n : Nat) (f : ExpSt → ExpSt) (x' : Lane) : (s.updExp n f).laneUp x' = s.laneUp x' := rfl
@[simp] theorem State.updExp_tbState (n : Nat) (f : ExpSt → ExpSt)  : (s.updExp n f).tbState = s.tbState := rfl
@[simp] theorem State.updExp_tbSource (n : Nat) (f : ExpSt → ExpSt)  : (s.updExp n f).tbSource = s.tbSource := rfl
@[simp] theorem State.updExp_tbFreq (n : Nat) (f : ExpSt → ExpSt)  : (s.updExp n f).tbFreq = s.tbFreq := rfl
@[simp] theorem State.updExp_domainOn (n : Nat) (f : ExpSt → ExpSt) (d' : Nat) : (s.updExp n f).domainOn d' = s.domainOn d' := rfl
@[simp] theorem State.updExp_chState (n : Nat) (f : ExpSt → ExpSt) (e' c' : Nat) : (s.updExp n f).chState e' c' = s.chState e' c' := rfl
@[simp] theorem State.updExp_chCtrl (n : Nat) (f : ExpSt → ExpSt) (e' c' : Nat) : (s.updExp n f).chCtrl e' c' = s.chCtrl e' c' := rfl
@[simp] theorem State.updExp_feeds (n : Nat) (f : ExpSt → ExpSt) (p' : Nat) : (s.updExp n f).feeds p' = s.feeds p' := rfl
@[simp] theorem State.updExp_livePipe (n : Nat) (f : ExpSt → ExpSt) (p' : Nat) : (s.updExp n f).livePipe p' = s.livePipe p' := rfl
@[simp] theorem State.updExp_port (n : Nat) (f : ExpSt → ExpSt) (p' : Nat) : (s.updExp n f).port p' = s.port p' := rfl
@[simp] theorem State.updExp_input (n : Nat) (f : ExpSt → ExpSt) (p' : Nat) : (s.updExp n f).input p' = s.input p' := rfl
@[simp] theorem State.updExp_pipe (n : Nat) (f : ExpSt → ExpSt) (p' : Nat) : (s.updExp n f).pipe p' = s.pipe p' := rfl
@[simp] theorem State.updExp_fifo (n : Nat) (f : ExpSt → ExpSt) (p' : Nat) : (s.updExp n f).fifo p' = s.fifo p' := rfl
@[simp] theorem State.updExp_frameOf (n : Nat) (f : ExpSt → ExpSt) (p' : Nat) : (s.updExp n f).frameOf p' = s.frameOf p' := rfl
@[simp] theorem State.updExp_openFrame (n : Nat) (f : ExpSt → ExpSt) (p' : Nat) : (s.updExp n f).openFrame p' = s.openFrame p' := rfl
@[simp] theorem State.updExp_nxPort (n : Nat) (f : ExpSt → ExpSt) (p' : Nat) : (s.updExp n f).nxPort p' = s.nxPort p' := rfl
@[simp] theorem State.updExp_session (n : Nat) (f : ExpSt → ExpSt) (p' : Nat) : (s.updExp n f).session p' = s.session p' := rfl
@[simp] theorem State.updExp_xfer (n : Nat) (f : ExpSt → ExpSt) (e' c' : Nat) : (s.updExp n f).xfer e' c' = s.xfer e' c' := rfl
@[simp] theorem State.updExp_isRing (n : Nat) (f : ExpSt → ExpSt) (p' : Nat) : (s.updExp n f).isRing p' = s.isRing p' := rfl
@[simp] theorem State.updExp_steerPort (n : Nat) (f : ExpSt → ExpSt)  : (s.updExp n f).steerPort = s.steerPort := rfl
@[simp] theorem State.updExp_trkState (n : Nat) (f : ExpSt → ExpSt)  : (s.updExp n f).trkState = s.trkState := rfl
@[simp] theorem State.updExp_trkL (n : Nat) (f : ExpSt → ExpSt)  : (s.updExp n f).trkL = s.trkL := rfl

/-! updInput. -/
@[simp] theorem State.updInput_obj (n : Nat) (f : InputSt → InputSt) (k' : Nat) : (s.updInput n f).obj k' = s.obj k' := rfl
@[simp] theorem State.updInput_nat (n : Nat) (f : InputSt → InputSt) (k' : Nat) : (s.updInput n f).nat k' = s.nat k' := rfl
@[simp] theorem State.updInput_flag (n : Nat) (f : InputSt → InputSt) (k' : Nat) : (s.updInput n f).flag k' = s.flag k' := rfl
@[simp] theorem State.updInput_live (n : Nat) (f : InputSt → InputSt) (k' : Nat) : (s.updInput n f).live k' = s.live k' := rfl
@[simp] theorem State.updInput_liveNat (n : Nat) (f : InputSt → InputSt) (k' : Nat) : (s.updInput n f).liveNat k' = s.liveNat k' := rfl
@[simp] theorem State.updInput_dom (n : Nat) (f : InputSt → InputSt) (k' : Nat) : (s.updInput n f).dom k' = s.dom k' := rfl
@[simp] theorem State.updInput_now (n : Nat) (f : InputSt → InputSt)  : (s.updInput n f).now = s.now := rfl
@[simp] theorem State.updInput_epoch (n : Nat) (f : InputSt → InputSt)  : (s.updInput n f).epoch = s.epoch := rfl
@[simp] theorem State.updInput_instant (n : Nat) (f : InputSt → InputSt)  : (s.updInput n f).instant = s.instant := rfl
@[simp] theorem State.updInput_since (n : Nat) (f : InputSt → InputSt) (c' : Nat) : (s.updInput n f).since c' = s.since c' := rfl
@[simp] theorem State.updInput_lane (n : Nat) (f : InputSt → InputSt) (x' : Lane) : (s.updInput n f).lane x' = s.lane x' := rfl
@[simp] theorem State.updInput_laneNat (n : Nat) (f : InputSt → InputSt) (x' : Lane) (o' : Nat) : (s.updInput n f).laneNat x' o' = s.laneNat x' o' := rfl
@[simp] theorem State.updInput_laneState (n : Nat) (f : InputSt → InputSt) (x' : Lane) : (s.updInput n f).laneState x' = s.laneState x' := rfl
@[simp] theorem State.updInput_laneUp (n : Nat) (f : InputSt → InputSt) (x' : Lane) : (s.updInput n f).laneUp x' = s.laneUp x' := rfl
@[simp] theorem State.updInput_tbState (n : Nat) (f : InputSt → InputSt)  : (s.updInput n f).tbState = s.tbState := rfl
@[simp] theorem State.updInput_tbSource (n : Nat) (f : InputSt → InputSt)  : (s.updInput n f).tbSource = s.tbSource := rfl
@[simp] theorem State.updInput_tbFreq (n : Nat) (f : InputSt → InputSt)  : (s.updInput n f).tbFreq = s.tbFreq := rfl
@[simp] theorem State.updInput_domainOn (n : Nat) (f : InputSt → InputSt) (d' : Nat) : (s.updInput n f).domainOn d' = s.domainOn d' := rfl
@[simp] theorem State.updInput_chState (n : Nat) (f : InputSt → InputSt) (e' c' : Nat) : (s.updInput n f).chState e' c' = s.chState e' c' := rfl
@[simp] theorem State.updInput_chCtrl (n : Nat) (f : InputSt → InputSt) (e' c' : Nat) : (s.updInput n f).chCtrl e' c' = s.chCtrl e' c' := rfl
@[simp] theorem State.updInput_feeds (n : Nat) (f : InputSt → InputSt) (p' : Nat) : (s.updInput n f).feeds p' = s.feeds p' := rfl
@[simp] theorem State.updInput_livePipe (n : Nat) (f : InputSt → InputSt) (p' : Nat) : (s.updInput n f).livePipe p' = s.livePipe p' := rfl
@[simp] theorem State.updInput_port (n : Nat) (f : InputSt → InputSt) (p' : Nat) : (s.updInput n f).port p' = s.port p' := rfl
@[simp] theorem State.updInput_exp (n : Nat) (f : InputSt → InputSt) (p' : Nat) : (s.updInput n f).exp p' = s.exp p' := rfl
@[simp] theorem State.updInput_pipe (n : Nat) (f : InputSt → InputSt) (p' : Nat) : (s.updInput n f).pipe p' = s.pipe p' := rfl
@[simp] theorem State.updInput_fifo (n : Nat) (f : InputSt → InputSt) (p' : Nat) : (s.updInput n f).fifo p' = s.fifo p' := rfl
@[simp] theorem State.updInput_frameOf (n : Nat) (f : InputSt → InputSt) (p' : Nat) : (s.updInput n f).frameOf p' = s.frameOf p' := rfl
@[simp] theorem State.updInput_openFrame (n : Nat) (f : InputSt → InputSt) (p' : Nat) : (s.updInput n f).openFrame p' = s.openFrame p' := rfl
@[simp] theorem State.updInput_nxPort (n : Nat) (f : InputSt → InputSt) (p' : Nat) : (s.updInput n f).nxPort p' = s.nxPort p' := rfl
@[simp] theorem State.updInput_session (n : Nat) (f : InputSt → InputSt) (p' : Nat) : (s.updInput n f).session p' = s.session p' := rfl
@[simp] theorem State.updInput_xfer (n : Nat) (f : InputSt → InputSt) (e' c' : Nat) : (s.updInput n f).xfer e' c' = s.xfer e' c' := rfl
@[simp] theorem State.updInput_isRing (n : Nat) (f : InputSt → InputSt) (p' : Nat) : (s.updInput n f).isRing p' = s.isRing p' := rfl
@[simp] theorem State.updInput_steerPort (n : Nat) (f : InputSt → InputSt)  : (s.updInput n f).steerPort = s.steerPort := rfl
@[simp] theorem State.updInput_trkState (n : Nat) (f : InputSt → InputSt)  : (s.updInput n f).trkState = s.trkState := rfl
@[simp] theorem State.updInput_trkL (n : Nat) (f : InputSt → InputSt)  : (s.updInput n f).trkL = s.trkL := rfl

/-! updPipe. -/
@[simp] theorem State.updPipe_obj (n : Nat) (f : PipeSt → PipeSt) (k' : Nat) : (s.updPipe n f).obj k' = s.obj k' := rfl
@[simp] theorem State.updPipe_nat (n : Nat) (f : PipeSt → PipeSt) (k' : Nat) : (s.updPipe n f).nat k' = s.nat k' := rfl
@[simp] theorem State.updPipe_flag (n : Nat) (f : PipeSt → PipeSt) (k' : Nat) : (s.updPipe n f).flag k' = s.flag k' := rfl
@[simp] theorem State.updPipe_live (n : Nat) (f : PipeSt → PipeSt) (k' : Nat) : (s.updPipe n f).live k' = s.live k' := rfl
@[simp] theorem State.updPipe_liveNat (n : Nat) (f : PipeSt → PipeSt) (k' : Nat) : (s.updPipe n f).liveNat k' = s.liveNat k' := rfl
@[simp] theorem State.updPipe_dom (n : Nat) (f : PipeSt → PipeSt) (k' : Nat) : (s.updPipe n f).dom k' = s.dom k' := rfl
@[simp] theorem State.updPipe_now (n : Nat) (f : PipeSt → PipeSt)  : (s.updPipe n f).now = s.now := rfl
@[simp] theorem State.updPipe_epoch (n : Nat) (f : PipeSt → PipeSt)  : (s.updPipe n f).epoch = s.epoch := rfl
@[simp] theorem State.updPipe_instant (n : Nat) (f : PipeSt → PipeSt)  : (s.updPipe n f).instant = s.instant := rfl
@[simp] theorem State.updPipe_since (n : Nat) (f : PipeSt → PipeSt) (c' : Nat) : (s.updPipe n f).since c' = s.since c' := rfl
@[simp] theorem State.updPipe_lane (n : Nat) (f : PipeSt → PipeSt) (x' : Lane) : (s.updPipe n f).lane x' = s.lane x' := rfl
@[simp] theorem State.updPipe_laneNat (n : Nat) (f : PipeSt → PipeSt) (x' : Lane) (o' : Nat) : (s.updPipe n f).laneNat x' o' = s.laneNat x' o' := rfl
@[simp] theorem State.updPipe_laneState (n : Nat) (f : PipeSt → PipeSt) (x' : Lane) : (s.updPipe n f).laneState x' = s.laneState x' := rfl
@[simp] theorem State.updPipe_laneUp (n : Nat) (f : PipeSt → PipeSt) (x' : Lane) : (s.updPipe n f).laneUp x' = s.laneUp x' := rfl
@[simp] theorem State.updPipe_tbState (n : Nat) (f : PipeSt → PipeSt)  : (s.updPipe n f).tbState = s.tbState := rfl
@[simp] theorem State.updPipe_tbSource (n : Nat) (f : PipeSt → PipeSt)  : (s.updPipe n f).tbSource = s.tbSource := rfl
@[simp] theorem State.updPipe_tbFreq (n : Nat) (f : PipeSt → PipeSt)  : (s.updPipe n f).tbFreq = s.tbFreq := rfl
@[simp] theorem State.updPipe_domainOn (n : Nat) (f : PipeSt → PipeSt) (d' : Nat) : (s.updPipe n f).domainOn d' = s.domainOn d' := rfl
@[simp] theorem State.updPipe_chState (n : Nat) (f : PipeSt → PipeSt) (e' c' : Nat) : (s.updPipe n f).chState e' c' = s.chState e' c' := rfl
@[simp] theorem State.updPipe_chCtrl (n : Nat) (f : PipeSt → PipeSt) (e' c' : Nat) : (s.updPipe n f).chCtrl e' c' = s.chCtrl e' c' := rfl
@[simp] theorem State.updPipe_feeds (n : Nat) (f : PipeSt → PipeSt) (p' : Nat) : (s.updPipe n f).feeds p' = s.feeds p' := rfl
@[simp] theorem State.updPipe_livePipe (n : Nat) (f : PipeSt → PipeSt) (p' : Nat) : (s.updPipe n f).livePipe p' = s.livePipe p' := rfl
@[simp] theorem State.updPipe_port (n : Nat) (f : PipeSt → PipeSt) (p' : Nat) : (s.updPipe n f).port p' = s.port p' := rfl
@[simp] theorem State.updPipe_exp (n : Nat) (f : PipeSt → PipeSt) (p' : Nat) : (s.updPipe n f).exp p' = s.exp p' := rfl
@[simp] theorem State.updPipe_input (n : Nat) (f : PipeSt → PipeSt) (p' : Nat) : (s.updPipe n f).input p' = s.input p' := rfl
@[simp] theorem State.updPipe_fifo (n : Nat) (f : PipeSt → PipeSt) (p' : Nat) : (s.updPipe n f).fifo p' = s.fifo p' := rfl
@[simp] theorem State.updPipe_frameOf (n : Nat) (f : PipeSt → PipeSt) (p' : Nat) : (s.updPipe n f).frameOf p' = s.frameOf p' := rfl
@[simp] theorem State.updPipe_openFrame (n : Nat) (f : PipeSt → PipeSt) (p' : Nat) : (s.updPipe n f).openFrame p' = s.openFrame p' := rfl
@[simp] theorem State.updPipe_nxPort (n : Nat) (f : PipeSt → PipeSt) (p' : Nat) : (s.updPipe n f).nxPort p' = s.nxPort p' := rfl
@[simp] theorem State.updPipe_session (n : Nat) (f : PipeSt → PipeSt) (p' : Nat) : (s.updPipe n f).session p' = s.session p' := rfl
@[simp] theorem State.updPipe_xfer (n : Nat) (f : PipeSt → PipeSt) (e' c' : Nat) : (s.updPipe n f).xfer e' c' = s.xfer e' c' := rfl
@[simp] theorem State.updPipe_isRing (n : Nat) (f : PipeSt → PipeSt) (p' : Nat) : (s.updPipe n f).isRing p' = s.isRing p' := rfl
@[simp] theorem State.updPipe_steerPort (n : Nat) (f : PipeSt → PipeSt)  : (s.updPipe n f).steerPort = s.steerPort := rfl
@[simp] theorem State.updPipe_trkState (n : Nat) (f : PipeSt → PipeSt)  : (s.updPipe n f).trkState = s.trkState := rfl
@[simp] theorem State.updPipe_trkL (n : Nat) (f : PipeSt → PipeSt)  : (s.updPipe n f).trkL = s.trkL := rfl

/-! updTrk. -/
@[simp] theorem State.updTrk_obj (f : Trunk → Trunk) (k' : Nat) : (s.updTrk f).obj k' = s.obj k' := rfl
@[simp] theorem State.updTrk_nat (f : Trunk → Trunk) (k' : Nat) : (s.updTrk f).nat k' = s.nat k' := rfl
@[simp] theorem State.updTrk_flag (f : Trunk → Trunk) (k' : Nat) : (s.updTrk f).flag k' = s.flag k' := rfl
@[simp] theorem State.updTrk_live (f : Trunk → Trunk) (k' : Nat) : (s.updTrk f).live k' = s.live k' := rfl
@[simp] theorem State.updTrk_liveNat (f : Trunk → Trunk) (k' : Nat) : (s.updTrk f).liveNat k' = s.liveNat k' := rfl
@[simp] theorem State.updTrk_dom (f : Trunk → Trunk) (k' : Nat) : (s.updTrk f).dom k' = s.dom k' := rfl
@[simp] theorem State.updTrk_now (f : Trunk → Trunk)  : (s.updTrk f).now = s.now := rfl
@[simp] theorem State.updTrk_epoch (f : Trunk → Trunk)  : (s.updTrk f).epoch = s.epoch := rfl
@[simp] theorem State.updTrk_instant (f : Trunk → Trunk)  : (s.updTrk f).instant = s.instant := rfl
@[simp] theorem State.updTrk_since (f : Trunk → Trunk) (c' : Nat) : (s.updTrk f).since c' = s.since c' := rfl
@[simp] theorem State.updTrk_lane (f : Trunk → Trunk) (x' : Lane) : (s.updTrk f).lane x' = s.lane x' := rfl
@[simp] theorem State.updTrk_laneNat (f : Trunk → Trunk) (x' : Lane) (o' : Nat) : (s.updTrk f).laneNat x' o' = s.laneNat x' o' := rfl
@[simp] theorem State.updTrk_laneState (f : Trunk → Trunk) (x' : Lane) : (s.updTrk f).laneState x' = s.laneState x' := rfl
@[simp] theorem State.updTrk_laneUp (f : Trunk → Trunk) (x' : Lane) : (s.updTrk f).laneUp x' = s.laneUp x' := rfl
@[simp] theorem State.updTrk_tbState (f : Trunk → Trunk)  : (s.updTrk f).tbState = s.tbState := rfl
@[simp] theorem State.updTrk_tbSource (f : Trunk → Trunk)  : (s.updTrk f).tbSource = s.tbSource := rfl
@[simp] theorem State.updTrk_tbFreq (f : Trunk → Trunk)  : (s.updTrk f).tbFreq = s.tbFreq := rfl
@[simp] theorem State.updTrk_domainOn (f : Trunk → Trunk) (d' : Nat) : (s.updTrk f).domainOn d' = s.domainOn d' := rfl
@[simp] theorem State.updTrk_chState (f : Trunk → Trunk) (e' c' : Nat) : (s.updTrk f).chState e' c' = s.chState e' c' := rfl
@[simp] theorem State.updTrk_chCtrl (f : Trunk → Trunk) (e' c' : Nat) : (s.updTrk f).chCtrl e' c' = s.chCtrl e' c' := rfl
@[simp] theorem State.updTrk_feeds (f : Trunk → Trunk) (p' : Nat) : (s.updTrk f).feeds p' = s.feeds p' := rfl
@[simp] theorem State.updTrk_livePipe (f : Trunk → Trunk) (p' : Nat) : (s.updTrk f).livePipe p' = s.livePipe p' := rfl
@[simp] theorem State.updTrk_port (f : Trunk → Trunk) (p' : Nat) : (s.updTrk f).port p' = s.port p' := rfl
@[simp] theorem State.updTrk_exp (f : Trunk → Trunk) (p' : Nat) : (s.updTrk f).exp p' = s.exp p' := rfl
@[simp] theorem State.updTrk_input (f : Trunk → Trunk) (p' : Nat) : (s.updTrk f).input p' = s.input p' := rfl
@[simp] theorem State.updTrk_pipe (f : Trunk → Trunk) (p' : Nat) : (s.updTrk f).pipe p' = s.pipe p' := rfl
@[simp] theorem State.updTrk_fifo (f : Trunk → Trunk) (p' : Nat) : (s.updTrk f).fifo p' = s.fifo p' := rfl
@[simp] theorem State.updTrk_frameOf (f : Trunk → Trunk) (p' : Nat) : (s.updTrk f).frameOf p' = s.frameOf p' := rfl
@[simp] theorem State.updTrk_openFrame (f : Trunk → Trunk) (p' : Nat) : (s.updTrk f).openFrame p' = s.openFrame p' := rfl
@[simp] theorem State.updTrk_nxPort (f : Trunk → Trunk) (p' : Nat) : (s.updTrk f).nxPort p' = s.nxPort p' := rfl
@[simp] theorem State.updTrk_session (f : Trunk → Trunk) (p' : Nat) : (s.updTrk f).session p' = s.session p' := rfl
@[simp] theorem State.updTrk_xfer (f : Trunk → Trunk) (e' c' : Nat) : (s.updTrk f).xfer e' c' = s.xfer e' c' := rfl
@[simp] theorem State.updTrk_isRing (f : Trunk → Trunk) (p' : Nat) : (s.updTrk f).isRing p' = s.isRing p' := rfl
@[simp] theorem State.updTrk_steerPort (f : Trunk → Trunk)  : (s.updTrk f).steerPort = s.steerPort := rfl
@[simp] theorem State.updTrk_trkState (f : Trunk → Trunk)  : (s.updTrk f).trkState = s.trkState := rfl
@[simp] theorem State.updTrk_trkL (f : Trunk → Trunk)  : (s.updTrk f).trkL = s.trkL := rfl

/-! withTb. -/
@[simp] theorem State.withTb_obj (f : TimeBase → TimeBase) (k' : Nat) : (s.withTb f).obj k' = s.obj k' := rfl
@[simp] theorem State.withTb_nat (f : TimeBase → TimeBase) (k' : Nat) : (s.withTb f).nat k' = s.nat k' := rfl
@[simp] theorem State.withTb_flag (f : TimeBase → TimeBase) (k' : Nat) : (s.withTb f).flag k' = s.flag k' := rfl
@[simp] theorem State.withTb_live (f : TimeBase → TimeBase) (k' : Nat) : (s.withTb f).live k' = s.live k' := rfl
@[simp] theorem State.withTb_liveNat (f : TimeBase → TimeBase) (k' : Nat) : (s.withTb f).liveNat k' = s.liveNat k' := rfl
@[simp] theorem State.withTb_dom (f : TimeBase → TimeBase) (k' : Nat) : (s.withTb f).dom k' = s.dom k' := rfl
@[simp] theorem State.withTb_now (f : TimeBase → TimeBase)  : (s.withTb f).now = s.now := rfl
@[simp] theorem State.withTb_epoch (f : TimeBase → TimeBase)  : (s.withTb f).epoch = s.epoch := rfl
@[simp] theorem State.withTb_instant (f : TimeBase → TimeBase)  : (s.withTb f).instant = s.instant := rfl
@[simp] theorem State.withTb_since (f : TimeBase → TimeBase) (c' : Nat) : (s.withTb f).since c' = s.since c' := rfl
@[simp] theorem State.withTb_lane (f : TimeBase → TimeBase) (x' : Lane) : (s.withTb f).lane x' = s.lane x' := rfl
@[simp] theorem State.withTb_laneNat (f : TimeBase → TimeBase) (x' : Lane) (o' : Nat) : (s.withTb f).laneNat x' o' = s.laneNat x' o' := rfl
@[simp] theorem State.withTb_laneState (f : TimeBase → TimeBase) (x' : Lane) : (s.withTb f).laneState x' = s.laneState x' := rfl
@[simp] theorem State.withTb_laneUp (f : TimeBase → TimeBase) (x' : Lane) : (s.withTb f).laneUp x' = s.laneUp x' := rfl
@[simp] theorem State.withTb_tbState (f : TimeBase → TimeBase)  : (s.withTb f).tbState = s.tbState := rfl
@[simp] theorem State.withTb_tbSource (f : TimeBase → TimeBase)  : (s.withTb f).tbSource = s.tbSource := rfl
@[simp] theorem State.withTb_tbFreq (f : TimeBase → TimeBase)  : (s.withTb f).tbFreq = s.tbFreq := rfl
@[simp] theorem State.withTb_domainOn (f : TimeBase → TimeBase) (d' : Nat) : (s.withTb f).domainOn d' = s.domainOn d' := rfl
@[simp] theorem State.withTb_chState (f : TimeBase → TimeBase) (e' c' : Nat) : (s.withTb f).chState e' c' = s.chState e' c' := rfl
@[simp] theorem State.withTb_chCtrl (f : TimeBase → TimeBase) (e' c' : Nat) : (s.withTb f).chCtrl e' c' = s.chCtrl e' c' := rfl
@[simp] theorem State.withTb_feeds (f : TimeBase → TimeBase) (p' : Nat) : (s.withTb f).feeds p' = s.feeds p' := rfl
@[simp] theorem State.withTb_livePipe (f : TimeBase → TimeBase) (p' : Nat) : (s.withTb f).livePipe p' = s.livePipe p' := rfl
@[simp] theorem State.withTb_port (f : TimeBase → TimeBase) (p' : Nat) : (s.withTb f).port p' = s.port p' := rfl
@[simp] theorem State.withTb_exp (f : TimeBase → TimeBase) (p' : Nat) : (s.withTb f).exp p' = s.exp p' := rfl
@[simp] theorem State.withTb_input (f : TimeBase → TimeBase) (p' : Nat) : (s.withTb f).input p' = s.input p' := rfl
@[simp] theorem State.withTb_pipe (f : TimeBase → TimeBase) (p' : Nat) : (s.withTb f).pipe p' = s.pipe p' := rfl
@[simp] theorem State.withTb_fifo (f : TimeBase → TimeBase) (p' : Nat) : (s.withTb f).fifo p' = s.fifo p' := rfl
@[simp] theorem State.withTb_frameOf (f : TimeBase → TimeBase) (p' : Nat) : (s.withTb f).frameOf p' = s.frameOf p' := rfl
@[simp] theorem State.withTb_openFrame (f : TimeBase → TimeBase) (p' : Nat) : (s.withTb f).openFrame p' = s.openFrame p' := rfl
@[simp] theorem State.withTb_nxPort (f : TimeBase → TimeBase) (p' : Nat) : (s.withTb f).nxPort p' = s.nxPort p' := rfl
@[simp] theorem State.withTb_session (f : TimeBase → TimeBase) (p' : Nat) : (s.withTb f).session p' = s.session p' := rfl
@[simp] theorem State.withTb_xfer (f : TimeBase → TimeBase) (e' c' : Nat) : (s.withTb f).xfer e' c' = s.xfer e' c' := rfl
@[simp] theorem State.withTb_isRing (f : TimeBase → TimeBase) (p' : Nat) : (s.withTb f).isRing p' = s.isRing p' := rfl
@[simp] theorem State.withTb_trkState (f : TimeBase → TimeBase)  : (s.withTb f).trkState = s.trkState := rfl
@[simp] theorem State.withTb_trkL (f : TimeBase → TimeBase)  : (s.withTb f).trkL = s.trkL := rfl

/-! withPwr. -/
@[simp] theorem State.withPwr_obj (f : PowerSt → PowerSt) (k' : Nat) : (s.withPwr f).obj k' = s.obj k' := rfl
@[simp] theorem State.withPwr_nat (f : PowerSt → PowerSt) (k' : Nat) : (s.withPwr f).nat k' = s.nat k' := rfl
@[simp] theorem State.withPwr_flag (f : PowerSt → PowerSt) (k' : Nat) : (s.withPwr f).flag k' = s.flag k' := rfl
@[simp] theorem State.withPwr_live (f : PowerSt → PowerSt) (k' : Nat) : (s.withPwr f).live k' = s.live k' := rfl
@[simp] theorem State.withPwr_liveNat (f : PowerSt → PowerSt) (k' : Nat) : (s.withPwr f).liveNat k' = s.liveNat k' := rfl
@[simp] theorem State.withPwr_dom (f : PowerSt → PowerSt) (k' : Nat) : (s.withPwr f).dom k' = s.dom k' := rfl
@[simp] theorem State.withPwr_now (f : PowerSt → PowerSt)  : (s.withPwr f).now = s.now := rfl
@[simp] theorem State.withPwr_epoch (f : PowerSt → PowerSt)  : (s.withPwr f).epoch = s.epoch := rfl
@[simp] theorem State.withPwr_instant (f : PowerSt → PowerSt)  : (s.withPwr f).instant = s.instant := rfl
@[simp] theorem State.withPwr_since (f : PowerSt → PowerSt) (c' : Nat) : (s.withPwr f).since c' = s.since c' := rfl
@[simp] theorem State.withPwr_lane (f : PowerSt → PowerSt) (x' : Lane) : (s.withPwr f).lane x' = s.lane x' := rfl
@[simp] theorem State.withPwr_laneNat (f : PowerSt → PowerSt) (x' : Lane) (o' : Nat) : (s.withPwr f).laneNat x' o' = s.laneNat x' o' := rfl
@[simp] theorem State.withPwr_laneState (f : PowerSt → PowerSt) (x' : Lane) : (s.withPwr f).laneState x' = s.laneState x' := rfl
@[simp] theorem State.withPwr_laneUp (f : PowerSt → PowerSt) (x' : Lane) : (s.withPwr f).laneUp x' = s.laneUp x' := rfl
@[simp] theorem State.withPwr_tbState (f : PowerSt → PowerSt)  : (s.withPwr f).tbState = s.tbState := rfl
@[simp] theorem State.withPwr_tbSource (f : PowerSt → PowerSt)  : (s.withPwr f).tbSource = s.tbSource := rfl
@[simp] theorem State.withPwr_tbFreq (f : PowerSt → PowerSt)  : (s.withPwr f).tbFreq = s.tbFreq := rfl
@[simp] theorem State.withPwr_domainOn (f : PowerSt → PowerSt) (d' : Nat) : (s.withPwr f).domainOn d' = s.domainOn d' := rfl
@[simp] theorem State.withPwr_chState (f : PowerSt → PowerSt) (e' c' : Nat) : (s.withPwr f).chState e' c' = s.chState e' c' := rfl
@[simp] theorem State.withPwr_chCtrl (f : PowerSt → PowerSt) (e' c' : Nat) : (s.withPwr f).chCtrl e' c' = s.chCtrl e' c' := rfl
@[simp] theorem State.withPwr_feeds (f : PowerSt → PowerSt) (p' : Nat) : (s.withPwr f).feeds p' = s.feeds p' := rfl
@[simp] theorem State.withPwr_livePipe (f : PowerSt → PowerSt) (p' : Nat) : (s.withPwr f).livePipe p' = s.livePipe p' := rfl
@[simp] theorem State.withPwr_port (f : PowerSt → PowerSt) (p' : Nat) : (s.withPwr f).port p' = s.port p' := rfl
@[simp] theorem State.withPwr_exp (f : PowerSt → PowerSt) (p' : Nat) : (s.withPwr f).exp p' = s.exp p' := rfl
@[simp] theorem State.withPwr_input (f : PowerSt → PowerSt) (p' : Nat) : (s.withPwr f).input p' = s.input p' := rfl
@[simp] theorem State.withPwr_pipe (f : PowerSt → PowerSt) (p' : Nat) : (s.withPwr f).pipe p' = s.pipe p' := rfl
@[simp] theorem State.withPwr_fifo (f : PowerSt → PowerSt) (p' : Nat) : (s.withPwr f).fifo p' = s.fifo p' := rfl
@[simp] theorem State.withPwr_frameOf (f : PowerSt → PowerSt) (p' : Nat) : (s.withPwr f).frameOf p' = s.frameOf p' := rfl
@[simp] theorem State.withPwr_openFrame (f : PowerSt → PowerSt) (p' : Nat) : (s.withPwr f).openFrame p' = s.openFrame p' := rfl
@[simp] theorem State.withPwr_nxPort (f : PowerSt → PowerSt) (p' : Nat) : (s.withPwr f).nxPort p' = s.nxPort p' := rfl
@[simp] theorem State.withPwr_session (f : PowerSt → PowerSt) (p' : Nat) : (s.withPwr f).session p' = s.session p' := rfl
@[simp] theorem State.withPwr_xfer (f : PowerSt → PowerSt) (e' c' : Nat) : (s.withPwr f).xfer e' c' = s.xfer e' c' := rfl
@[simp] theorem State.withPwr_isRing (f : PowerSt → PowerSt) (p' : Nat) : (s.withPwr f).isRing p' = s.isRing p' := rfl
@[simp] theorem State.withPwr_steerPort (f : PowerSt → PowerSt)  : (s.withPwr f).steerPort = s.steerPort := rfl
@[simp] theorem State.withPwr_trkState (f : PowerSt → PowerSt)  : (s.withPwr f).trkState = s.trkState := rfl
@[simp] theorem State.withPwr_trkL (f : PowerSt → PowerSt)  : (s.withPwr f).trkL = s.trkL := rfl

/-! updXfer. -/
@[simp] theorem State.updXfer_obj (e c : Nat) (f : Xfer → Xfer) (k' : Nat) : (s.updXfer e c f).obj k' = s.obj k' := rfl
@[simp] theorem State.updXfer_nat (e c : Nat) (f : Xfer → Xfer) (k' : Nat) : (s.updXfer e c f).nat k' = s.nat k' := rfl
@[simp] theorem State.updXfer_flag (e c : Nat) (f : Xfer → Xfer) (k' : Nat) : (s.updXfer e c f).flag k' = s.flag k' := rfl
@[simp] theorem State.updXfer_live (e c : Nat) (f : Xfer → Xfer) (k' : Nat) : (s.updXfer e c f).live k' = s.live k' := rfl
@[simp] theorem State.updXfer_liveNat (e c : Nat) (f : Xfer → Xfer) (k' : Nat) : (s.updXfer e c f).liveNat k' = s.liveNat k' := rfl
@[simp] theorem State.updXfer_dom (e c : Nat) (f : Xfer → Xfer) (k' : Nat) : (s.updXfer e c f).dom k' = s.dom k' := rfl
@[simp] theorem State.updXfer_now (e c : Nat) (f : Xfer → Xfer)  : (s.updXfer e c f).now = s.now := rfl
@[simp] theorem State.updXfer_epoch (e c : Nat) (f : Xfer → Xfer)  : (s.updXfer e c f).epoch = s.epoch := rfl
@[simp] theorem State.updXfer_instant (e c : Nat) (f : Xfer → Xfer)  : (s.updXfer e c f).instant = s.instant := rfl
@[simp] theorem State.updXfer_since (e c : Nat) (f : Xfer → Xfer) (c' : Nat) : (s.updXfer e c f).since c' = s.since c' := rfl
@[simp] theorem State.updXfer_lane (e c : Nat) (f : Xfer → Xfer) (x' : Lane) : (s.updXfer e c f).lane x' = s.lane x' := rfl
@[simp] theorem State.updXfer_laneNat (e c : Nat) (f : Xfer → Xfer) (x' : Lane) (o' : Nat) : (s.updXfer e c f).laneNat x' o' = s.laneNat x' o' := rfl
@[simp] theorem State.updXfer_laneState (e c : Nat) (f : Xfer → Xfer) (x' : Lane) : (s.updXfer e c f).laneState x' = s.laneState x' := rfl
@[simp] theorem State.updXfer_laneUp (e c : Nat) (f : Xfer → Xfer) (x' : Lane) : (s.updXfer e c f).laneUp x' = s.laneUp x' := rfl
@[simp] theorem State.updXfer_tbState (e c : Nat) (f : Xfer → Xfer)  : (s.updXfer e c f).tbState = s.tbState := rfl
@[simp] theorem State.updXfer_tbSource (e c : Nat) (f : Xfer → Xfer)  : (s.updXfer e c f).tbSource = s.tbSource := rfl
@[simp] theorem State.updXfer_tbFreq (e c : Nat) (f : Xfer → Xfer)  : (s.updXfer e c f).tbFreq = s.tbFreq := rfl
@[simp] theorem State.updXfer_domainOn (e c : Nat) (f : Xfer → Xfer) (d' : Nat) : (s.updXfer e c f).domainOn d' = s.domainOn d' := rfl
@[simp] theorem State.updXfer_chState (e c : Nat) (f : Xfer → Xfer) (e' c' : Nat) : (s.updXfer e c f).chState e' c' = s.chState e' c' := rfl
@[simp] theorem State.updXfer_chCtrl (e c : Nat) (f : Xfer → Xfer) (e' c' : Nat) : (s.updXfer e c f).chCtrl e' c' = s.chCtrl e' c' := rfl
@[simp] theorem State.updXfer_feeds (e c : Nat) (f : Xfer → Xfer) (p' : Nat) : (s.updXfer e c f).feeds p' = s.feeds p' := rfl
@[simp] theorem State.updXfer_livePipe (e c : Nat) (f : Xfer → Xfer) (p' : Nat) : (s.updXfer e c f).livePipe p' = s.livePipe p' := rfl
@[simp] theorem State.updXfer_port (e c : Nat) (f : Xfer → Xfer) (p' : Nat) : (s.updXfer e c f).port p' = s.port p' := rfl
@[simp] theorem State.updXfer_exp (e c : Nat) (f : Xfer → Xfer) (p' : Nat) : (s.updXfer e c f).exp p' = s.exp p' := rfl
@[simp] theorem State.updXfer_input (e c : Nat) (f : Xfer → Xfer) (p' : Nat) : (s.updXfer e c f).input p' = s.input p' := rfl
@[simp] theorem State.updXfer_pipe (e c : Nat) (f : Xfer → Xfer) (p' : Nat) : (s.updXfer e c f).pipe p' = s.pipe p' := rfl
@[simp] theorem State.updXfer_fifo (e c : Nat) (f : Xfer → Xfer) (p' : Nat) : (s.updXfer e c f).fifo p' = s.fifo p' := rfl
@[simp] theorem State.updXfer_frameOf (e c : Nat) (f : Xfer → Xfer) (p' : Nat) : (s.updXfer e c f).frameOf p' = s.frameOf p' := rfl
@[simp] theorem State.updXfer_openFrame (e c : Nat) (f : Xfer → Xfer) (p' : Nat) : (s.updXfer e c f).openFrame p' = s.openFrame p' := rfl
@[simp] theorem State.updXfer_nxPort (e c : Nat) (f : Xfer → Xfer) (p' : Nat) : (s.updXfer e c f).nxPort p' = s.nxPort p' := rfl
@[simp] theorem State.updXfer_session (e c : Nat) (f : Xfer → Xfer) (p' : Nat) : (s.updXfer e c f).session p' = s.session p' := rfl
@[simp] theorem State.updXfer_isRing (e c : Nat) (f : Xfer → Xfer) (p' : Nat) : (s.updXfer e c f).isRing p' = s.isRing p' := rfl
@[simp] theorem State.updXfer_steerPort (e c : Nat) (f : Xfer → Xfer)  : (s.updXfer e c f).steerPort = s.steerPort := rfl
@[simp] theorem State.updXfer_trkState (e c : Nat) (f : Xfer → Xfer)  : (s.updXfer e c f).trkState = s.trkState := rfl
@[simp] theorem State.updXfer_trkL (e c : Nat) (f : Xfer → Xfer)  : (s.updXfer e c f).trkL = s.trkL := rfl

/-! updEng. -/
@[simp] theorem State.updEng_obj (e : Nat) (f : DmaEngine → DmaEngine) (k' : Nat) : (s.updEng e f).obj k' = s.obj k' := rfl
@[simp] theorem State.updEng_nat (e : Nat) (f : DmaEngine → DmaEngine) (k' : Nat) : (s.updEng e f).nat k' = s.nat k' := rfl
@[simp] theorem State.updEng_flag (e : Nat) (f : DmaEngine → DmaEngine) (k' : Nat) : (s.updEng e f).flag k' = s.flag k' := rfl
@[simp] theorem State.updEng_live (e : Nat) (f : DmaEngine → DmaEngine) (k' : Nat) : (s.updEng e f).live k' = s.live k' := rfl
@[simp] theorem State.updEng_liveNat (e : Nat) (f : DmaEngine → DmaEngine) (k' : Nat) : (s.updEng e f).liveNat k' = s.liveNat k' := rfl
@[simp] theorem State.updEng_dom (e : Nat) (f : DmaEngine → DmaEngine) (k' : Nat) : (s.updEng e f).dom k' = s.dom k' := rfl
@[simp] theorem State.updEng_now (e : Nat) (f : DmaEngine → DmaEngine)  : (s.updEng e f).now = s.now := rfl
@[simp] theorem State.updEng_epoch (e : Nat) (f : DmaEngine → DmaEngine)  : (s.updEng e f).epoch = s.epoch := rfl
@[simp] theorem State.updEng_instant (e : Nat) (f : DmaEngine → DmaEngine)  : (s.updEng e f).instant = s.instant := rfl
@[simp] theorem State.updEng_since (e : Nat) (f : DmaEngine → DmaEngine) (c' : Nat) : (s.updEng e f).since c' = s.since c' := rfl
@[simp] theorem State.updEng_lane (e : Nat) (f : DmaEngine → DmaEngine) (x' : Lane) : (s.updEng e f).lane x' = s.lane x' := rfl
@[simp] theorem State.updEng_laneNat (e : Nat) (f : DmaEngine → DmaEngine) (x' : Lane) (o' : Nat) : (s.updEng e f).laneNat x' o' = s.laneNat x' o' := rfl
@[simp] theorem State.updEng_laneState (e : Nat) (f : DmaEngine → DmaEngine) (x' : Lane) : (s.updEng e f).laneState x' = s.laneState x' := rfl
@[simp] theorem State.updEng_laneUp (e : Nat) (f : DmaEngine → DmaEngine) (x' : Lane) : (s.updEng e f).laneUp x' = s.laneUp x' := rfl
@[simp] theorem State.updEng_tbState (e : Nat) (f : DmaEngine → DmaEngine)  : (s.updEng e f).tbState = s.tbState := rfl
@[simp] theorem State.updEng_tbSource (e : Nat) (f : DmaEngine → DmaEngine)  : (s.updEng e f).tbSource = s.tbSource := rfl
@[simp] theorem State.updEng_tbFreq (e : Nat) (f : DmaEngine → DmaEngine)  : (s.updEng e f).tbFreq = s.tbFreq := rfl
@[simp] theorem State.updEng_domainOn (e : Nat) (f : DmaEngine → DmaEngine) (d' : Nat) : (s.updEng e f).domainOn d' = s.domainOn d' := rfl
@[simp] theorem State.updEng_chState (e : Nat) (f : DmaEngine → DmaEngine) (e' c' : Nat) : (s.updEng e f).chState e' c' = s.chState e' c' := rfl
@[simp] theorem State.updEng_chCtrl (e : Nat) (f : DmaEngine → DmaEngine) (e' c' : Nat) : (s.updEng e f).chCtrl e' c' = s.chCtrl e' c' := rfl
@[simp] theorem State.updEng_feeds (e : Nat) (f : DmaEngine → DmaEngine) (p' : Nat) : (s.updEng e f).feeds p' = s.feeds p' := rfl
@[simp] theorem State.updEng_livePipe (e : Nat) (f : DmaEngine → DmaEngine) (p' : Nat) : (s.updEng e f).livePipe p' = s.livePipe p' := rfl
@[simp] theorem State.updEng_port (e : Nat) (f : DmaEngine → DmaEngine) (p' : Nat) : (s.updEng e f).port p' = s.port p' := rfl
@[simp] theorem State.updEng_exp (e : Nat) (f : DmaEngine → DmaEngine) (p' : Nat) : (s.updEng e f).exp p' = s.exp p' := rfl
@[simp] theorem State.updEng_input (e : Nat) (f : DmaEngine → DmaEngine) (p' : Nat) : (s.updEng e f).input p' = s.input p' := rfl
@[simp] theorem State.updEng_pipe (e : Nat) (f : DmaEngine → DmaEngine) (p' : Nat) : (s.updEng e f).pipe p' = s.pipe p' := rfl
@[simp] theorem State.updEng_fifo (e : Nat) (f : DmaEngine → DmaEngine) (p' : Nat) : (s.updEng e f).fifo p' = s.fifo p' := rfl
@[simp] theorem State.updEng_frameOf (e : Nat) (f : DmaEngine → DmaEngine) (p' : Nat) : (s.updEng e f).frameOf p' = s.frameOf p' := rfl
@[simp] theorem State.updEng_openFrame (e : Nat) (f : DmaEngine → DmaEngine) (p' : Nat) : (s.updEng e f).openFrame p' = s.openFrame p' := rfl
@[simp] theorem State.updEng_nxPort (e : Nat) (f : DmaEngine → DmaEngine) (p' : Nat) : (s.updEng e f).nxPort p' = s.nxPort p' := rfl
@[simp] theorem State.updEng_session (e : Nat) (f : DmaEngine → DmaEngine) (p' : Nat) : (s.updEng e f).session p' = s.session p' := rfl
@[simp] theorem State.updEng_isRing (e : Nat) (f : DmaEngine → DmaEngine) (p' : Nat) : (s.updEng e f).isRing p' = s.isRing p' := rfl
@[simp] theorem State.updEng_steerPort (e : Nat) (f : DmaEngine → DmaEngine)  : (s.updEng e f).steerPort = s.steerPort := rfl
@[simp] theorem State.updEng_trkState (e : Nat) (f : DmaEngine → DmaEngine)  : (s.updEng e f).trkState = s.trkState := rfl
@[simp] theorem State.updEng_trkL (e : Nat) (f : DmaEngine → DmaEngine)  : (s.updEng e f).trkL = s.trkL := rfl

/-! updNx. -/
@[simp] theorem State.updNx_obj (n : Nat) (f : NxPort → NxPort) (k' : Nat) : (s.updNx n f).obj k' = s.obj k' := rfl
@[simp] theorem State.updNx_nat (n : Nat) (f : NxPort → NxPort) (k' : Nat) : (s.updNx n f).nat k' = s.nat k' := rfl
@[simp] theorem State.updNx_flag (n : Nat) (f : NxPort → NxPort) (k' : Nat) : (s.updNx n f).flag k' = s.flag k' := rfl
@[simp] theorem State.updNx_live (n : Nat) (f : NxPort → NxPort) (k' : Nat) : (s.updNx n f).live k' = s.live k' := rfl
@[simp] theorem State.updNx_liveNat (n : Nat) (f : NxPort → NxPort) (k' : Nat) : (s.updNx n f).liveNat k' = s.liveNat k' := rfl
@[simp] theorem State.updNx_dom (n : Nat) (f : NxPort → NxPort) (k' : Nat) : (s.updNx n f).dom k' = s.dom k' := rfl
@[simp] theorem State.updNx_now (n : Nat) (f : NxPort → NxPort)  : (s.updNx n f).now = s.now := rfl
@[simp] theorem State.updNx_epoch (n : Nat) (f : NxPort → NxPort)  : (s.updNx n f).epoch = s.epoch := rfl
@[simp] theorem State.updNx_instant (n : Nat) (f : NxPort → NxPort)  : (s.updNx n f).instant = s.instant := rfl
@[simp] theorem State.updNx_since (n : Nat) (f : NxPort → NxPort) (c' : Nat) : (s.updNx n f).since c' = s.since c' := rfl
@[simp] theorem State.updNx_lane (n : Nat) (f : NxPort → NxPort) (x' : Lane) : (s.updNx n f).lane x' = s.lane x' := rfl
@[simp] theorem State.updNx_laneNat (n : Nat) (f : NxPort → NxPort) (x' : Lane) (o' : Nat) : (s.updNx n f).laneNat x' o' = s.laneNat x' o' := rfl
@[simp] theorem State.updNx_laneState (n : Nat) (f : NxPort → NxPort) (x' : Lane) : (s.updNx n f).laneState x' = s.laneState x' := rfl
@[simp] theorem State.updNx_laneUp (n : Nat) (f : NxPort → NxPort) (x' : Lane) : (s.updNx n f).laneUp x' = s.laneUp x' := rfl
@[simp] theorem State.updNx_tbState (n : Nat) (f : NxPort → NxPort)  : (s.updNx n f).tbState = s.tbState := rfl
@[simp] theorem State.updNx_tbSource (n : Nat) (f : NxPort → NxPort)  : (s.updNx n f).tbSource = s.tbSource := rfl
@[simp] theorem State.updNx_tbFreq (n : Nat) (f : NxPort → NxPort)  : (s.updNx n f).tbFreq = s.tbFreq := rfl
@[simp] theorem State.updNx_domainOn (n : Nat) (f : NxPort → NxPort) (d' : Nat) : (s.updNx n f).domainOn d' = s.domainOn d' := rfl
@[simp] theorem State.updNx_chState (n : Nat) (f : NxPort → NxPort) (e' c' : Nat) : (s.updNx n f).chState e' c' = s.chState e' c' := rfl
@[simp] theorem State.updNx_chCtrl (n : Nat) (f : NxPort → NxPort) (e' c' : Nat) : (s.updNx n f).chCtrl e' c' = s.chCtrl e' c' := rfl
@[simp] theorem State.updNx_feeds (n : Nat) (f : NxPort → NxPort) (p' : Nat) : (s.updNx n f).feeds p' = s.feeds p' := rfl
@[simp] theorem State.updNx_livePipe (n : Nat) (f : NxPort → NxPort) (p' : Nat) : (s.updNx n f).livePipe p' = s.livePipe p' := rfl
@[simp] theorem State.updNx_port (n : Nat) (f : NxPort → NxPort) (p' : Nat) : (s.updNx n f).port p' = s.port p' := rfl
@[simp] theorem State.updNx_exp (n : Nat) (f : NxPort → NxPort) (p' : Nat) : (s.updNx n f).exp p' = s.exp p' := rfl
@[simp] theorem State.updNx_input (n : Nat) (f : NxPort → NxPort) (p' : Nat) : (s.updNx n f).input p' = s.input p' := rfl
@[simp] theorem State.updNx_pipe (n : Nat) (f : NxPort → NxPort) (p' : Nat) : (s.updNx n f).pipe p' = s.pipe p' := rfl
@[simp] theorem State.updNx_fifo (n : Nat) (f : NxPort → NxPort) (p' : Nat) : (s.updNx n f).fifo p' = s.fifo p' := rfl
@[simp] theorem State.updNx_frameOf (n : Nat) (f : NxPort → NxPort) (p' : Nat) : (s.updNx n f).frameOf p' = s.frameOf p' := rfl
@[simp] theorem State.updNx_openFrame (n : Nat) (f : NxPort → NxPort) (p' : Nat) : (s.updNx n f).openFrame p' = s.openFrame p' := rfl
@[simp] theorem State.updNx_session (n : Nat) (f : NxPort → NxPort) (p' : Nat) : (s.updNx n f).session p' = s.session p' := rfl
@[simp] theorem State.updNx_xfer (n : Nat) (f : NxPort → NxPort) (e' c' : Nat) : (s.updNx n f).xfer e' c' = s.xfer e' c' := rfl
@[simp] theorem State.updNx_isRing (n : Nat) (f : NxPort → NxPort) (p' : Nat) : (s.updNx n f).isRing p' = s.isRing p' := rfl
@[simp] theorem State.updNx_steerPort (n : Nat) (f : NxPort → NxPort)  : (s.updNx n f).steerPort = s.steerPort := rfl
@[simp] theorem State.updNx_trkState (n : Nat) (f : NxPort → NxPort)  : (s.updNx n f).trkState = s.trkState := rfl
@[simp] theorem State.updNx_trkL (n : Nat) (f : NxPort → NxPort)  : (s.updNx n f).trkL = s.trkL := rfl

end Sys2Proof.Machine
end

