-- ==== Sys2Proof/Laws/Request.lean ====
section
/-! SUPPORT. What a session's request does: it reaches `act`; a WRITE of a number has the effect of its entry and is answered. -/
namespace Sys2Proof.Machine

/-- The response to a session changes its sequence number and what was sent. -/
theorem State.talked_respond (s : State) (sid k : Nat) (p : Bytes) : Talked s (s.respond sid k p) := by
  simp only [State.respond]
  split
  · exact Talked.refl s
  · exact (s.sent_updSession _ _).trans (State.sent_transmit _ _ _ _)

/-- R54: a request of an open session, in order and tagged, is acted on. -/
theorem State.request_act {s : State} {x : Session} {seq : Nat} (h : s.awaits x seq = true) (k : Nat) {p : Bytes}
    (hp : p.length ≤ 1382) :
    s.request x.src k x.sid seq p (x.req k seq p).tag = s.act x k seq p := by
  simp only [State.awaits, Bool.and_eq_true, decide_eq_true_eq] at h
  obtain ⟨⟨⟨⟨h1, h2⟩, h3⟩, h4⟩, h5⟩ := h
  have a : ¬ (1382 < p.length) := by omega
  have b : ¬ (2 ^ 32 ≤ seq) := by omega
  have c : seq ≠ x.lastSeq := by omega
  have d : ¬ (seq ≤ x.lastSeq) := by omega
  simp [State.request, Session.req, Session.takes, h1, h2, h3, a, b, c, d] <;> (intro h; omega)

theorem State.asks_next {s : State} {x : Session} {seq : Nat} (h : s.awaits x seq = true) (k : Nat) {p : Bytes}
    (hp : p.length ≤ 1382) : s.asks (x.req k seq p) k p = .next (s.act x k seq p) := by
  have e := State.request_act h k hp
  simp only [State.asks]
  exact congrArg _ e

theorem State.writes_act {s : State} {x : Session} {seq : Nat} (h : s.awaits x seq = true) {present : Bool}
    (hpr : present = true) {o : Obj} {i : Nat} {v : Int} (hp : (writePayload o i v).length ≤ 1382) :
    s.writes (x.req 0x11 seq (writePayload o i v)) present o i v = .next (s.act x 0x11 seq (writePayload o i v)) := by
  have e := State.request_act h 0x11 hp
  simp only [State.writes, onUnit, hpr, if_true]
  exact congrArg _ e

/-- The fields of a WRITE's payload. -/
theorem writePayload_parts {o : Obj} {i : Nat} {v : Int} (hk : o.keyOf i < 2 ^ 24) :
    beAt (writePayload o i v) 0 2 = o.keyOf i / 256 ∧ beAt (writePayload o i v) 2 1 = o.keyOf i % 256 ∧
      (writePayload o i v).drop 4 = o.ty.encode v ∧ 4 ≤ (writePayload o i v).length := by
  have h1 : o.keyOf i / 256 < 256 ^ 2 := by omega
  refine ⟨?_, ?_, ?_, ?_⟩
  · have e : writePayload o i v = [] ++ (beBytes 2 (o.keyOf i / 256) ++ ([byteOf (o.keyOf i % 256), 0] ++ o.ty.encode v)) := by
      simp [writePayload, entryBytes]
    rw [e]
    exact beAt_append [] 2 _ _ h1
  · have e : writePayload o i v = beBytes 2 (o.keyOf i / 256) ++ (beBytes 1 (o.keyOf i % 256) ++ ([0] ++ o.ty.encode v)) := by
      simp [writePayload, entryBytes, beBytes, leBytes]
    rw [e]
    have := beAt_append (beBytes 2 (o.keyOf i / 256)) 1 (o.keyOf i % 256) ([0] ++ o.ty.encode v) (by omega)
    simpa using this
  · simp [writePayload, entryBytes, beBytes, leBytes]
  · simp [writePayload, entryBytes]
    omega

/-- R43, R46, R71: a WRITE that nothing refuses has the effect of its entry; it is answered with the entry's name. -/
theorem State.act_write {s t : State} {x : Session} {seq : Nat} {o : Obj} {i : Nat} {v : Int} (hk : o.keyOf i < 2 ^ 24)
    (hw : (s.touched x seq).mayWriteRow x o i = true) (hm : (s.touched x seq).maskLocked o i = false)
    (he : writeNumber x.role o i (o.ty.encode v) (s.touched x seq) = .ok t) :
    s.act x 0x11 seq (writePayload o i v) =
      (afterWrite o i (beNat (o.ty.encode v))).run x
        (t.respond x.sid 0x91 (beBytes 4 seq ++ entryBytes (o.keyOf i / 256) (o.keyOf i % 256))) := by
  obtain ⟨e1, e2, e3, e4⟩ := writePayload_parts (o := o) (i := i) (v := v) hk
  simp only [State.mayWriteRow, Bool.and_eq_true] at hw
  obtain ⟨w1, w2⟩ := hw
  have w3 : (s.touched x seq).toWrite x.role (o.keyOf i / 256) (o.keyOf i % 256) = .ok (o, i) := by
    revert w1
    split
    · next r h => intro w; rw [h]; simp at w; rw [w]
    · intro w; cases w
  have e5 : ¬ (writePayload o i v).length < 4 := by omega
  have e6 : ¬ (writePayload o i v).length < 3 := by omega
  simp [State.act, serve, writeRequest, e1, e2, e3, e5, e6, w2, w3, hm, he, accepted, Answer.reply]

/-- R43, R46, R71: a WRITE of a number that nothing refuses, in the terms of the statements. -/
theorem State.writes_next {s t : State} {x : Session} {seq : Nat} {o : Obj} {i : Nat} {v : Int} {present : Bool}
    (h : s.writable x seq o i = true) (hpr : present = true) (hk : o.keyOf i < 2 ^ 24) (hd : o.ty ≠ .domain) (ha : o.acc ≠ .rwp)
    (hm : o.idx ≠ 0x5010 ∧ o.idx ≠ 0x5011) (hs : (o.ty.encode v).length = o.ty.size) (hc : o.clean (o.ty.decode (o.ty.encode v)) = v)
    (hl : o.ty.legal v = true) (hr : o.rng.holds s.part v (fifoDepth i) = true)
    (he : numberEffect o i v (s.touched x seq) = .ok t) :
    s.writes (x.writeReq seq o i v) present o i v =
      .next ((afterWrite o i (beNat (o.ty.encode v))).run x (t.written x seq o i)) := by
  simp only [State.writable, Bool.and_eq_true] at h
  have hp : (writePayload o i v).length ≤ 1382 := by
    have : o.ty.size ≤ 12 := by cases o.ty <;> decide
    simp [writePayload, entryBytes]; omega
  have m : (s.touched x seq).maskLocked o i = false := by simp [State.maskLocked, hm.1, hm.2]
  have w : writeNumber x.role o i (o.ty.encode v) (s.touched x seq) = .ok t := by
    have hr' : o.rng.holds (s.touched x seq).part v (fifoDepth i) = true := hr
    simp [writeNumber, refuseIf, hd, hs, hc, hl, hr, hr', ha, he, bind, Except.bind]
  rw [Session.writeReq, State.writes_act h.1 hpr hp, State.act_write hk h.2 m w]
  rfl

end Sys2Proof.Machine
end

