-- ==== Sys2Proof/Laws/Rows.lean ====
section
/-! SUPPORT. The rows of the object lists that commands of their own write. -/
namespace Sys2Proof.Machine

set_option Elab.async false

@[simp] theorem rowAt_1200_2 : rowAt 0x1200 2 = ⟨0x1200, 2, .one, .u8, .wo, (.val 0), (.span 1 3), 0x0, false⟩ := by decide +kernel
@[simp] theorem rowAt_1201_1 : rowAt 0x1201 1 = ⟨0x1201, 1, .one, .u8, .wo, (.val 0), (.oneOf [1]), 0x0, false⟩ := by decide +kernel
@[simp] theorem rowAt_1201_2 : rowAt 0x1201 2 = ⟨0x1201, 2, .one, .u8, .wo, (.val 0), (.span 0 9), 0x0, false⟩ := by decide +kernel
@[simp] theorem rowAt_1300_1 : rowAt 0x1300 1 = ⟨0x1300, 1, .one, .u8, .wo, (.val 0), (.span 1 4), 0x0, false⟩ := by decide +kernel
@[simp] theorem rowAt_1400_1 : rowAt 0x1400 1 = ⟨0x1400, 1, .one, .domain, .rwp, .accessPlan, (.oneOf [64]), 0x0, false⟩ := by decide +kernel
@[simp] theorem rowAt_1400_4 : rowAt 0x1400 4 = ⟨0x1400, 4, .one, .u8, .wo, (.val 0), (.oneOf [1]), 0x0, false⟩ := by decide +kernel
@[simp] theorem rowAt_1401_1 : rowAt 0x1401 1 = ⟨0x1401, 1, .fixed4, .domain, .rwp, (.zeros 32), (.oneOf [129]), 0x0, false⟩ := by decide +kernel
@[simp] theorem rowAt_1410_1 : rowAt 0x1410 1 = ⟨0x1410, 1, .one, .domain, .rw, (.zeros 0), (.span 0 65536), 0x0, false⟩ := by decide +kernel
@[simp] theorem rowAt_1410_3 : rowAt 0x1410 3 = ⟨0x1410, 3, .one, .domain, .wo, (.zeros 0), (.oneOf [97]), 0x0, false⟩ := by decide +kernel
@[simp] theorem rowAt_1410_7 : rowAt 0x1410 7 = ⟨0x1410, 7, .one, .u8, .wo, (.val 0), (.oneOf [1]), 0x0, false⟩ := by decide +kernel
@[simp] theorem rowAt_1420_5 : rowAt 0x1420 5 = ⟨0x1420, 5, .one, .u8, .wo, (.val 0), (.oneOf [1, 2]), 0x0, false⟩ := by decide +kernel
@[simp] theorem rowAt_1501_1 : rowAt 0x1501 1 = ⟨0x1501, 1, .one, .domain, .wo, (.zeros 0), (.oneOf [49]), 0x0, false⟩ := by decide +kernel
@[simp] theorem rowAt_1504_1 : rowAt 0x1504 1 = ⟨0x1504, 1, .one, .domain, .wo, (.zeros 0), (.oneOf [32]), 0x0, false⟩ := by decide +kernel
@[simp] theorem rowAt_2000_4 : rowAt 0x2000 4 = ⟨0x2000, 4, .one, .u8, .rw, .timeSource, .timeSource, 0x0, true⟩ := by decide +kernel
@[simp] theorem rowAt_2000_5 : rowAt 0x2000 5 = ⟨0x2000, 5, .one, .i64, .rw, (.val 0), (.span (-1000000000000) 1000000000000), 0x0, true⟩ := by decide +kernel
@[simp] theorem rowAt_2000_9 : rowAt 0x2000 9 = ⟨0x2000, 9, .one, .u8, .wo, (.val 0), (.oneOf [1, 2]), 0x0, false⟩ := by decide +kernel
@[simp] theorem rowAt_2010_1 : rowAt 0x2010 1 = ⟨0x2010, 1, .one, .u8, .rw, (.val 2), (.span 0 2), 0x0, true⟩ := by decide +kernel
@[simp] theorem rowAt_2010_2 : rowAt 0x2010 2 = ⟨0x2010, 2, .one, .u8, .rw, (.val 0), (.oneOf [0, 1]), 0x0, true⟩ := by decide +kernel
@[simp] theorem rowAt_2010_3 : rowAt 0x2010 3 = ⟨0x2010, 3, .one, .u8, .rw, (.val 0), (.span 0 127), 0x0, true⟩ := by decide +kernel
@[simp] theorem rowAt_2030_6 : rowAt 0x2030 6 = ⟨0x2030, 6, .one, .u8, .rw, (.val 0), (.fields [(2, 0, 0, 0)]), 0x7, false⟩ := by decide +kernel
@[simp] theorem rowAt_2040_6 : rowAt 0x2040 6 = ⟨0x2040, 6, .txts, .u16, .wo, (.val 0), .any, 0x0, false⟩ := by decide +kernel
@[simp] theorem rowAt_2400_1 : rowAt 0x2400 1 = ⟨0x2400, 1, .one, .domain, .rw, (.zeros 196608), (.oneOf [196608]), 0x0, true⟩ := by decide +kernel
@[simp] theorem rowAt_3000_1 : rowAt 0x3000 1 = ⟨0x3000, 1, .port, .bool, .rw, (.val 1), (.span 0 1), 0x0, true⟩ := by decide +kernel
@[simp] theorem rowAt_3009_1 : rowAt 0x3009 1 = ⟨0x3009, 1, .port, .u8, .wo, (.val 0), (.oneOf [1, 2]), 0x0, false⟩ := by decide +kernel
@[simp] theorem rowAt_300A_1 : rowAt 0x300A 1 = ⟨0x300A, 1, .port, .u8, .rw, (.val 0), (.span 0 4), 0x0, false⟩ := by decide +kernel
@[simp] theorem rowAt_3100_1 : rowAt 0x3100 1 = ⟨0x3100, 1, .trunkLane, .bool, .rw, (.val 1), (.span 0 1), 0x0, true⟩ := by decide +kernel
@[simp] theorem rowAt_3109_1 : rowAt 0x3109 1 = ⟨0x3109, 1, .trunkLane, .u8, .wo, (.val 0), (.oneOf [1, 2]), 0x0, false⟩ := by decide +kernel
@[simp] theorem rowAt_310A_1 : rowAt 0x310A 1 = ⟨0x310A, 1, .trunkLane, .u8, .rw, (.val 0), (.span 0 4), 0x0, false⟩ := by decide +kernel
@[simp] theorem rowAt_3200_1 : rowAt 0x3200 1 = ⟨0x3200, 1, .fixed4, .bool, .rw, (.val 1), (.span 0 1), 0x0, true⟩ := by decide +kernel
@[simp] theorem rowAt_3209_1 : rowAt 0x3209 1 = ⟨0x3209, 1, .fixed4, .u8, .wo, (.val 0), (.oneOf [1, 2]), 0x0, false⟩ := by decide +kernel
@[simp] theorem rowAt_320A_1 : rowAt 0x320A 1 = ⟨0x320A, 1, .fixed4, .u8, .rw, (.val 0), (.span 0 4), 0x0, false⟩ := by decide +kernel
@[simp] theorem rowAt_6740_1 : rowAt 0x6740 1 = ⟨0x6740, 1, .core, .bool, .rw, (.val 0), (.span 0 1), 0x0, true⟩ := by decide +kernel
@[simp] theorem rowAt_6743_1 : rowAt 0x6743 1 = ⟨0x6743, 1, .warpEngine, .u32, .rw, .partition, (.mult 0 131072 1024), 0x0, true⟩ := by decide +kernel
@[simp] theorem rowAt_67A0_1 : rowAt 0x67A0 1 = ⟨0x67A0, 1, .codec, .bool, .rw, (.val 0), (.span 0 1), 0x0, true⟩ := by decide +kernel
@[simp] theorem rowAt_7026_1 : rowAt 0x7026 1 = ⟨0x7026, 1, .port, .u8, .wo, (.val 0), (.oneOf [1, 2]), 0x0, false⟩ := by decide +kernel
@[simp] theorem rowAt_7100_1 : rowAt 0x7100 1 = ⟨0x7100, 1, .one, .bool, .rw, (.val 1), (.span 0 1), 0x0, true⟩ := by decide +kernel
@[simp] theorem rowAt_7416_1 : rowAt 0x7416 1 = ⟨0x7416, 1, .fixed4, .u8, .wo, (.val 0), (.oneOf [1]), 0x0, false⟩ := by decide +kernel
@[simp] theorem rowAt_7807_1 : rowAt 0x7807 1 = ⟨0x7807, 1, .dmaChannel, .u8, .wo, (.val 0), (.span 1 4), 0x0, false⟩ := by decide +kernel
@[simp] theorem rowAt_7830_2 : rowAt 0x7830 2 = ⟨0x7830, 2, .dmaEngine, .u8, .wo, (.val 0), (.oneOf [1]), 0x0, false⟩ := by decide +kernel
@[simp] theorem rowAt_7831_1 : rowAt 0x7831 1 = ⟨0x7831, 1, .dmaEngine, .u64, .rw, (.val 0), (.mult 0 18446744073709551615 32), 0x0, true⟩ := by decide +kernel
@[simp] theorem rowAt_7831_2 : rowAt 0x7831 2 = ⟨0x7831, 2, .dmaEngine, .u32, .rw, (.val 256), (.oneOf [16, 32, 64, 128, 256, 512, 1024, 2048, 4096, 8192, 16384, 32768, 65536]), 0x0, true⟩ := by decide +kernel
@[simp] theorem rowAt_7831_4 : rowAt 0x7831 4 = ⟨0x7831, 4, .dmaEngine, .u32, .rw, (.val 0), .any, 0x0, false⟩ := by decide +kernel
@[simp] theorem rowAt_7B10_1 : rowAt 0x7B10 1 = ⟨0x7B10, 1, .fifo, .u16, .wo, (.val 0), .any, 0x0, false⟩ := by decide +kernel
@[simp] theorem rowAt_7B14_1 : rowAt 0x7B14 1 = ⟨0x7B14, 1, .fifo, .u8, .wo, (.val 0), (.oneOf [1, 2]), 0x0, false⟩ := by decide +kernel
@[simp] theorem rowAt_8000_1 : rowAt 0x8000 1 = ⟨0x8000, 1, .domain, .bool, .rw, (.val 1), (.span 0 1), 0x0, true⟩ := by decide +kernel
@[simp] theorem rowAt_8100_1 : rowAt 0x8100 1 = ⟨0x8100, 1, .one, .domain, .rw, .trims, (.oneOf [164]), 0x0, false⟩ := by decide +kernel
@[simp] theorem rowAt_8101_1 : rowAt 0x8101 1 = ⟨0x8101, 1, .one, .u8, .wo, (.val 0), (.span 1 8), 0x0, false⟩ := by decide +kernel
@[simp] theorem rowAt_9000_1 : rowAt 0x9000 1 = ⟨0x9000, 1, .pipe, .bool, .rw, (.val 0), (.span 0 1), 0x0, false⟩ := by decide +kernel
@[simp] theorem rowAt_9002_1 : rowAt 0x9002 1 = ⟨0x9002, 1, .pipe, .u8, .wo, (.val 0), (.oneOf [1, 2]), 0x0, false⟩ := by decide +kernel
@[simp] theorem rowAt_9010_1 : rowAt 0x9010 1 = ⟨0x9010, 1, .fixed16, .u64, .rw, (.val 0), .golden, 0x3FF0100FFFFFFFF, false⟩ := by decide +kernel
@[simp] theorem rowAt_9020_1 : rowAt 0x9020 1 = ⟨0x9020, 1, .bist, .u8, .wo, (.val 0), (.oneOf [1]), 0x0, false⟩ := by decide +kernel
@[simp] theorem rowAt_9030_1 : rowAt 0x9030 1 = ⟨0x9030, 1, .one, .u8, .wo, (.val 0), (.oneOf [1]), 0x0, false⟩ := by decide +kernel
@[simp] theorem rowAt_A000_7 : rowAt 0xA000 7 = ⟨0xA000, 7, .one, .u8, .wo, (.val 0), (.oneOf [1]), 0x0, false⟩ := by decide +kernel

@[simp] theorem laneEntryRow_camera (off i : Nat) : laneEntryRow off (.camera i) = rowAt (0x3000 + off) 1 := rfl
@[simp] theorem laneEntryRow_trunk (off i : Nat) : laneEntryRow off (.trunk i) = rowAt (0x3100 + off) 1 := rfl
@[simp] theorem laneEntryRow_eth (off i : Nat) : laneEntryRow off (.eth i) = rowAt (0x3200 + off) 1 := rfl

end Sys2Proof.Machine
end

