-- ==== Sys2Proof/Tests/Slice0.lean ====
section
/-! SUPPORT. Tests: for every statement with premises a state that meets them, clause by clause; checks of well-formedness; and
examples of the spec. -/
namespace Sys2Proof.Machine

set_option Elab.async false

/-- From an answer to an equation. -/
theorem okEq {α : Type} [DecidableEq α] {e : Except Nat α} {a : α}
    (h : (match e with | .ok b => decide (b = a) | .error _ => false) = true) : e = .ok a := by
  cases e with
  | ok b => simpa using h
  | error c => cases h

theorem errEq {α : Type} [DecidableEq α] {e : Except Nat α} {c : Nat}
    (h : (match e with | .ok _ => false | .error d => decide (d = c)) = true) : e = .error c := by
  cases e with
  | ok b => cases h
  | error d => simpa using h

/-- From the second part of a pair to an equation. -/
theorem pairEq {α β : Type} {p : α × β} {b : β} (h : p.2 = b) : p = (p.1, b) := by rw [← h]

/-! The states of the tests. -/

/-- A state with entries set. -/
def on (s : State) (l : List (Nat × Int)) : State := { s with dict := l.foldl (fun m e => mapSet e.1 e.2 m) s.dict }

/-- An open session of the Integrator over CAN FD. -/
def host : Session :=
  ⟨1, 3, .can 1, [1, 2, 3], true, 5, 0, [], 0, false, .can 1, 0, 0, 0, 0⟩

/-- A device that runs, every domain on, one session. -/
def up : State :=
  on { State.reset with
    cycles := 100000000000000, time := 9000000000000 * 2 ^ 48,
    boot := { held := none }, dap := { answering := true, canEnabled := true, sessions := [host] } }
    ((List.range 64).map fun d => (Key.pwrDomainState d, 2))

/-- `up` with entries set. -/
def upOn (l : List (Nat × Int)) : State := on up l

/-- `up` with camera port 0 (or another lane) in a state, with what it remembers. -/
def upLane (l : Lane) (st : Nat) (x : LaneSt) : State :=
  { upOn [(laneKey oState l, st)] with lanes := [(laneId l, x)] }

/-- The same with entries set. -/
def upLaneOn (l : Lane) (st : Nat) (x : LaneSt) (e : List (Nat × Int)) : State := on (upLane l st x) e

/-- A write-replace transfer of the session with its content. -/
def xw (index sub : Nat) (b : Bytes) : Transfer := ⟨1, 1, index, sub, 1, b.length, [], [(0, b)], 0, false⟩

/-- `up` with that transfer open. -/
def upWr (w : Transfer) : State := { up with dap := { up.dap with transfers := [w] } }

/-- A frame of 16 by 8 codes of 8 bits, on port 0 toward pipeline 0, handed over. -/
def fr : Frame :=
  { fid := 1, port := 0, num := 7, sframe := 7, stamp := ⟨0, 0⟩, arrived := 0, capture := ⟨0, 0⟩, source := 0, nexp := 1, format := 8,
    width := 16, height := 8, linePeriod := 1000, framePeriod := 1000, fsDelay := 0, pipe := some 0, input := 0, capGen := 0,
    sensorGen := 0, pipeGen := 0, cflags := 0, card := 0, sflags := 0, repaired := 0, link := 0, reason := 0, dropped := false,
    recovered := false, slots := [], nextLine := [1], good := [none], embedded := 0, echo := none, echoLate := false, handed := true,
    taken := [], closed := false, synthetic := false }

/-- An output frame of stream 0. -/
def ofr : OutFrame :=
  { oid := 1, stream := 0, fid := 1, num := 7, capture := ⟨0, 0⟩, width := 64, height := 8, format := 0, tileW := 6, tileH := 3,
    rect := (0, 0, 64, 8), nexp := 1, srcH := 8, irSource := 0, skipped := false, pw := 64, linePeriod := 1000, framePeriod := 1000,
    route := 1, gen := 0, pipeGen := 0, sensorGen := 0, bpp := 0, coded := none, card := 0, rows := 0, tiles := [], slices := [],
    closed := false, recovered := false, refused := false, queued := true, ended := false, emitted := [], out0 := {}, out1 := {},
    matches_ := [], set := {}, decided := ⟨0, 0⟩, fixed := true, missing := false }

/-- A change of settings that waits. -/
def chg : Change := ⟨1000, 256, 0, [1, 2], ⟨1, 0, [1000], 256, 1, 1⟩, none⟩

/-- A release queue entry of that frame. -/
def ent : Entry := ⟨⟨0, 0⟩, 0, 7, 2, 0, 1, false, false, false, 1, 0, 0, ⟨0, 0⟩⟩

/-- A timetable whose entry 0 is enabled: from an instant, every second, for ever, a pulse (or another action). -/
def table (start action width : Nat) : Bytes :=
  leBytes 2 0 ++ leBytes 12 (toTime96 start) ++ leBytes 8 0 ++ leBytes 4 0 ++ [byteOf action, 1] ++ leBytes 2 0 ++ leBytes 4 0 ++
    leBytes 4 width ++ List.replicate 10 0

/-- The firing that the bells load next. -/
def ff (s : State) : Firing :=
  match s.firstFiring with
  | some f => f
  | none => ⟨0, 0, ⟨0, 0, ⟨0, 0⟩, ⟨0, 0⟩, ⟨0, 0⟩, true, none⟩⟩

/-- No cropper and no view of the smallest part serves a stream. -/
def allOff : List (Nat × Int) :=
  (List.range 120).map (fun i => (liveKey (Key.pipeCropCtrl i), 0)) ++ (List.range 64).map fun i => (liveKey (Key.warpViewCtrl i), 0)

/-- No stream of the smallest part is coded. -/
def codecsOff : List (Nat × Int) := (List.range 304).map fun i => (liveKey (Key.codecCtrl (if i < 240 then i else 720 + i)), 0)

/-! A frame that arrives on Ethernet port 0. -/

def rxFrame : Bytes := [2, 0, 0, 0, 0, 1, 2, 0, 0, 0, 0, 2, 8, 0] ++ List.replicate 50 0
def rx0 : State := upLane (.eth 0) lnActive {}
def rx1 : State := rx0.addTo (Key.nxRxFrames 0) 64 1
def rxParsed : NxParsed := rx1.nxParse 0 (rxFrame.take (rxFrame.length - 4))
def rx2 : State := rx1.nxLearn 0 rxParsed.vid (beAt rxParsed.body 6 6)

/-- A transfer that replaces the timetable by zeros. -/
def ttTransfer : Transfer := ⟨1, 1, 0x2400, 1, 1, 196608, [], [], 0, false⟩


/-- The head of a PTP message that the device takes, from port identity 5. -/
def headFor (s : State) : PtpHead := ⟨s.nat Key.ptpDomain, s.ptpTransport, s.nat Key.ptpVlan, 5⟩

/-! Lemmas for the premises that are too large to be computed. -/

theorem result_length (w : Transfer) (b : Bytes) (n : Nat) : (w.result b n).length = n := by simp [Transfer.result]

theorem result_zeros (w : Transfer) (n : Nat) (hw : w.writes = []) (hm : w.mode = 1) : w.result [] n = List.replicate n 0 := by
  simp [Transfer.result, padTo, hw, hm]

theorem leNat_zeros (n : Nat) : leNat (List.replicate n 0) = 0 := by
  induction n with
  | zero => rfl
  | succ n ih =>
    show 0 + 256 * leNat (List.replicate n 0) = 0
    rw [ih]

theorem zeros_at (n i k off : Nat) : leAt (slice (List.replicate n 0) i k) off 1 = 0 := by
  simp only [leAt, slice, List.drop_replicate, List.take_replicate, leNat_zeros]

/-- A table of zeros changes no entry to one that is refused. -/
theorem zeros_ok (s : State) (k : Nat) : s.ttRefused (List.replicate k 0) = none := by
  simp only [State.ttRefused, List.find?_eq_none]
  intro n _
  have h : (Sys2Proof.Machine.ttEntry (List.replicate k 0) n).enabled = false := by
    simp only [TtEntry.enabled, Sys2Proof.Machine.ttEntry, ttBytes]
    rw [zeros_at]
    rfl
  rw [h]
  simp

theorem clean_zeros (m : Bytes) (left : Bytes) (n : Nat) : clearReserved m left (List.replicate n 0) = List.replicate n 0 := by
  induction n generalizing left with
  | zero => cases left <;> rfl
  | succ n ih =>
    show clearReserved m left (0 :: List.replicate n 0) = 0 :: List.replicate n 0
    cases left with
    | nil => rw [clearReserved, ih]; exact congrArg (· :: _) BitVec.zero_and
    | cons k l => rw [clearReserved, ih]; exact congrArg (· :: _) BitVec.zero_and

/-- A transfer that replaces the timetable by zeros changes no entry to one that is refused. -/
theorem clean_ok (s : State) (o : Obj) (w : Transfer) (hw : w.writes = []) (hm : w.mode = 1) :
    s.ttRefused (o.cleanContent (w.result [] w.total)) = none := by
  rw [result_zeros w _ hw hm, Obj.cleanContent]
  split
  · exact zeros_ok _ _
  · rw [clean_zeros]; exact zeros_ok _ _

/-- No crossing of the device holds a request. -/
theorem no_handshake (s : State) (h : s.crossings = []) (kind inst : Nat) : s.betweenHandshakes kind inst = true := by
  simp [State.betweenHandshakes, State.crossing, h, mapGetD, mapGet]

/-- Without a VLAN's members port 4 is not admitted. -/
theorem none_admitted (s : State) (b : Bytes) (h : s.dom Key.nxVlanTable = []) : s.nxAdmits 4 b (s.nxParse 4 b) = false := by
  have : s.vlanMembers (s.nxParse 4 b).vid = 0 := by simp [State.vlanMembers, h, leAt, slice, leNat]
  simp [State.nxAdmits, this]

/-- Nothing holds the owner of a crossing in the running device. -/
theorem owner_free (s : State) (h : s.running = true) (hc : s.rcv.clusters = []) (hp : s.pipes = []) (o : Owner) :
    s.ownerHeld o = false := by
  have hr : ∀ k, s.resetting k = false := by intro k; simp [State.resetting, hc, mapGet]
  cases o <;> simp [State.ownerHeld, h, hr, State.pipe, hp, mapGetD, mapGet]

/-- The premises that the clauses on a session's request share. -/
def talks (c : Instr) (s : State) (x : Session) (r : Req) (k : Nat) (p : Bytes) : Prop :=
  asking c = some (r, k, p) ∧ s.hearsHost r.src = true ∧ p.length ≤ 1382 ∧ r.seq < 2 ^ 32 ∧ s.session r.session = some x ∧ x.src = r.src

/-- `up` with another session in place of its own. -/
def upWith (x : Session) : State := { up with dap := { up.dap with sessions := [x] } }

/-- A request with a tag that is too long to be right. -/
def badReq (x : Session) (seq : Nat) : Req := ⟨x.src, x.sid, seq, List.replicate 17 0⟩

/-- The session with a response kept. -/
def cachedHost : Session := { host with cached := [1] }

/-- An event queue that is full. -/
def fullQueue : State :=
  { up with ev := { up.ev with
    queue := List.replicate 256 ⟨⟨1, ⟨0, 0⟩, 0, 0, 0x1101, [], []⟩, [1], false⟩ } }

theorem req_tag (x : Session) (k n : Nat) (p : Bytes) :
    dapTag x.key (dapBody k (x.req k n p).session (x.req k n p).seq p) = (x.req k n p).tag := rfl

theorem bad_tag (k b : Bytes) (x : Session) (n : Nat) : dapTag k b ≠ (badReq x n).tag := by
  intro h
  have h2 := congrArg List.length h
  simp only [dapTag, badReq, List.length_take, List.length_replicate] at h2
  omega

/-! A state for the premises of each statement, clause by clause. -/

/-- The premises of StepRunsFrontCommand are met. -/
theorem test_premises_StepRunsFrontCommand :
    (∃ (c : Instr) (rest : List Instr) (s : State), s.pending = c :: rest) :=
  ⟨.supplyResetRelease, [], { up with pending := [.supplyResetRelease] }, by decide +kernel⟩

/-- The premises of EmptyQueueTicks are met. -/
theorem test_premises_EmptyQueueTicks :
    (∃ (s : State), s.pending = []) :=
  ⟨up, by decide +kernel⟩

/-- The premises of SessionsAct are met. -/
theorem test_premises_SessionsAct :
    (∃ (s : State) (src : Source) (role : Nat) (nonce : Bytes), s.hearsHost src = true ∧ nonce.length = 16 ∧ role ≤ 3 ∧ s.enrolled role = true ∧ s.admitsRole role src = true ∧ s.dap.sessions.length < 8 ∧ s.recentOpens src < 4) ∧
    (∃ (x : Session) (s : State), s.hearsHost x.src = true ∧ s.session x.sid = some x ∧ x.open_ = false ∧ x.lastSeq = 0 ∧ x.cached = []) ∧
    (∃ (s : State) (x : Session) (seq : Nat), s.awaits x seq = true) ∧
    (∃ (s : State) (x : Session) (seq : Nat), s.awaits x seq = true) :=
  ⟨⟨up, (.can 255), 3, (List.replicate 16 0), by decide +kernel⟩,
    ⟨{ host with open_ := false, lastSeq := 0 }, { up with dap := { up.dap with sessions := [{ host with open_ := false, lastSeq := 0 }] } }, by decide +kernel⟩,
    ⟨up, host, 7, by decide +kernel⟩,
    ⟨up, host, 7, by decide +kernel⟩⟩

/-- The premises of ReadWriteAct are met. -/
theorem test_premises_ReadWriteAct :
    (∃ (s : State) (x : Session) (seq : Nat) (index : Nat) (sub : Nat) (o : Obj) (i : Nat) (live : Bool), (s.awaits x seq = true ∧ index < 65536 ∧ sub < 256 ∧ s.offered index = true ∧ s.imageClosed o = false ∧ o.ty ≠ .domain ∧ o.idx ≠ 0x8012) ∧ s.toRead x.role index sub = .ok (.entry o i live)) ∧
    (∃ (s : State) (x : Session) (seq : Nat) (o : Obj) (i : Nat) (v : Int), s.writable x seq o i = true ∧ plainRow o i v = true ∧ o.keyOf i < 2 ^ 24 ∧ s.maskLocked o i = false ∧ o.clean (o.ty.decode (o.ty.encode v)) = v ∧ o.ty.legal v = true ∧ o.rng.holds s.part v (fifoDepth i) = true ∧ (o.acc = .rws → s.shadowLocked (o.keyOf i) = false) ∧ (o.ty.encode v).length = o.ty.size) :=
  ⟨⟨up, host, 7, 0x1420, 2, (rowAt 0x1420 2), 0, false, by decide +kernel, okEq (by decide +kernel)⟩,
    ⟨up, host, 7, (rowAt 0x1010 1), 0, 127, by decide +kernel⟩⟩

/-- The premises of BlockTransfersAct are met. -/
theorem test_premises_BlockTransfersAct :
    (∃ (s : State) (x : Session) (seq : Nat) (index : Nat) (sub : Nat) (mode : Nat) (total : Nat) (o : Obj) (i : Nat) (h : Nat) (u : State), (s.awaits x seq = true ∧ index < 65536 ∧ sub < 256 ∧ total < 2 ^ 32 ∧ (mode = 1 ∨ mode = 2) ∧ o.ty = .domain ∧ total ≤ o.rng.most ∧ s.offered index = true ∧ s.imageClosed o = false ∧ s.transfersBusy index sub total = false ∧ s.freeHandle = some h) ∧ s.toWrite x.role index sub = .ok (o, i) ∧ u = (s.touched x seq).setTransfers (s.dap.transfers ++ [Transfer.mk x.sid h index sub mode total [] [] s.cycles false])) ∧
    (∃ (s : State) (x : Session) (seq : Nat) (index : Nat) (sub : Nat) (total : Nat) (o : Obj) (i : Nat) (live : Bool) (h : Nat) (c : Bytes), (s.awaits x seq = true ∧ index < 65536 ∧ sub < 256 ∧ total < 2 ^ 32 ∧ o.ty = .domain ∧ s.offered index = true ∧ s.imageClosed o = false ∧ s.readBusy x.sid o i = false ∧ s.freeHandle = some h) ∧ s.toRead x.role index sub = .ok (.entry o i live) ∧ c = (s.touched x seq).content x.sid o i live) ∧
    (∃ (x : Session) (seq : Nat) (off : Nat) (data : Bytes) (w : Transfer) (s : State) (u : State) (r : Option (Obj × Nat × Bool)), (s.awaits x seq = true ∧ off < 2 ^ 32 ∧ 1 ≤ data.length ∧ data.length ≤ 1024 ∧ w.handle < 256 ∧ (s.dap.transfers.find? fun t => t.handle = w.handle && t.sid = x.sid) = some w ∧ (w.mode = 1 ∨ w.mode = 2) ∧ w.abandoned = false ∧ off + data.length ≤ w.total) ∧ s.toMove x.role w.index w.sub w.mode = .ok r ∧ u = ((s.touched x seq).updTransfer w.handle fun t => { t with lastData := s.cycles })) ∧
    (∃ (x : Session) (seq : Nat) (off : Nat) (count : Nat) (w : Transfer) (s : State) (r : Option (Obj × Nat × Bool)), (s.awaits x seq = true ∧ off < 2 ^ 32 ∧ 1 ≤ count ∧ count ≤ 1024 ∧ w.handle < 256 ∧ (s.dap.transfers.find? fun t => t.handle = w.handle && t.sid = x.sid) = some w ∧ w.mode = 0 ∧ w.abandoned = false ∧ (w.image = true → s.imageWriting = false)) ∧ s.toMove x.role w.index w.sub 0 = .ok r) ∧
    (∃ (x : Session) (seq : Nat) (w : Transfer) (s : State) (r : Obj × Nat × Bool), (s.awaits x seq = true ∧ w.handle < 256 ∧ (s.dap.transfers.find? fun t => t.handle = w.handle && t.sid = x.sid) = some w ∧ w.mode = 0 ∧ w.abandoned = false) ∧ s.toMove x.role w.index w.sub 0 = .ok (some r)) ∧
    (∃ (x : Session) (seq : Nat) (w : Transfer) (s : State) (o : Obj) (i : Nat) (live : Bool), (s.awaits x seq = true ∧ w.handle < 256 ∧ w.total < 2 ^ 32 ∧ (s.dap.transfers.find? fun t => t.handle = w.handle && t.sid = x.sid) = some w ∧ w.mode = 1 ∧ w.abandoned = false ∧ w.image = false ∧ o.idx = 0x7022 ∧ (lengthOk s.part o w.total && contentOk o (w.result [] w.total)) = true) ∧ s.toMove x.role w.index w.sub 1 = .ok (some (o, i, live))) ∧
    (∃ (x : Session) (seq : Nat) (n : Nat) (w : Transfer) (s : State) (o : Obj) (i : Nat) (live : Bool) (b : Bytes) (t : State), (s.awaits x seq = true ∧ w.handle < 256 ∧ n ≤ w.total ∧ w.total < 2 ^ 32 ∧ (s.dap.transfers.find? fun t => t.handle = w.handle && t.sid = x.sid) = some w ∧ (w.mode = 1 ∨ w.mode = 2) ∧ w.abandoned = false ∧ w.image = false ∧ s.maskLocked o i = false ∧ o.acc ≠ .rwp ∧ o.idx ≠ 0x1410) ∧ s.toMove x.role w.index w.sub w.mode = .ok (some (o, i, live)) ∧ b = w.result ((s.touched x seq).content x.sid o i live) n ∧ writeContent x.sid x.role o i b (s.touched x seq) = (t, 0)) ∧
    (∃ (x : Session) (seq : Nat) (w : Transfer) (s : State) (n : Nat) (o : Obj) (i : Nat) (live : Bool) (b : Bytes), (s.awaits x seq = true ∧ w.handle < 256 ∧ n ≤ w.total ∧ w.total < 2 ^ 32 ∧ (s.dap.transfers.find? fun t => t.handle = w.handle && t.sid = x.sid) = some w ∧ (w.mode = 1 ∨ w.mode = 2) ∧ w.abandoned = false ∧ w.image = true ∧ s.maskLocked o i = false ∧ lengthOk s.part o n = true) ∧ s.toMove x.role w.index w.sub w.mode = .ok (some (o, i, live)) ∧ b = padTo n ((s.touched x seq).content x.sid o i live)) :=
  ⟨⟨up, host, 7, 0x7022, 1, 2, 32, (rowAt 0x7022 1), 0, 1, _, by decide +kernel, okEq (by decide +kernel), rfl⟩,
    ⟨up, host, 7, 0x7022, 1, 32, (rowAt 0x7022 1), 0, false, 1, _, by decide +kernel, okEq (by decide +kernel), rfl⟩,
    ⟨host, 7, 0, [1, 2], { xw 0x7022 1 [] with total := 2, writes := [] }, (upWr { xw 0x7022 1 [] with total := 2, writes := [] }), _, ((some (rowAt 0x7022 1, 0, false))), by decide +kernel, okEq (by decide +kernel), rfl⟩,
    ⟨host, 7, 0, 1024, { xw 0x7022 1 [] with mode := 0, base := [1, 2] }, (upWr { xw 0x7022 1 [] with mode := 0, base := [1, 2] }), ((some (rowAt 0x7022 1, 0, false))), by decide +kernel, okEq (by decide +kernel)⟩,
    ⟨host, 7, { xw 0x7022 1 [] with mode := 0 }, (upWr { xw 0x7022 1 [] with mode := 0 }), (rowAt 0x7022 1, 0, false), by decide +kernel, okEq (by decide +kernel)⟩,
    ⟨host, 7, (xw 0x7022 1 []), (upWr (xw 0x7022 1 [])), (rowAt 0x7022 1), 0, false, by decide +kernel, okEq (by decide +kernel)⟩,
    ⟨host, 7, 0, (xw 0x7022 1 []), (upWr (xw 0x7022 1 [])), (rowAt 0x7022 1), 0, false, _, _, by decide +kernel, okEq (by decide +kernel), rfl, pairEq (by decide +kernel)⟩,
    ⟨host, 7, (xw 0x1420 1 (List.replicate 64 0)), (upWr (xw 0x1420 1 (List.replicate 64 0))), ((xw 0x1420 1 (List.replicate 64 0)).total), (rowAt 0x1420 1), 0, false, _, by decide +kernel, okEq (by decide +kernel), rfl⟩⟩

/-- The premises of ProtocolTimeoutsAct are met. -/
theorem test_premises_ProtocolTimeoutsAct :
    (∃ (s : State) (sid : Nat) (handle : Nat) (w : Transfer), w ∈ s.dap.transfers ∧ w.sid = sid ∧ w.handle = handle ∧ secCycles 5 ≤ s.since w.lastData) ∧
    (∃ (x : Session) (s : State), s.session x.sid = some x ∧ x.open_ = false ∧ secCycles 1 ≤ s.since x.opened) ∧
    (∃ (s : State) (x : Session), s.session x.sid = some x ∧ x.open_ = true ∧ secCycles (s.nat Key.dapSessionIdleTimeout) ≤ s.since x.lastMsg) ∧
    (∃ (s : State) (x : Session), s.dap.sessions = [x] ∧ msCycles (s.nat Key.evtResendInterval) ≤ s.since s.ev.resent) ∧
    (∃ (x : Session) (r : EventRec) (s : State), s.dap.sessions = [x] ∧ msCycles (s.nat Key.evtResendInterval) ≤ s.since s.ev.resent ∧ s.unacked x = [r]) ∧
    (∃ (host : Nat) (q : CanPartial) (s : State), q ∈ s.dap.partials ∧ q.host = host ∧ msCycles 10 ≤ s.since q.last) :=
  ⟨⟨(upWr (xw 0x7022 1 [])), 1, 1, (xw 0x7022 1 []), by decide +kernel⟩,
    ⟨{ host with open_ := false }, { up with dap := { up.dap with sessions := [{ host with open_ := false }] } }, by decide +kernel⟩,
    ⟨up, host, by decide +kernel⟩,
    ⟨up, host, by decide +kernel⟩,
    ⟨host, (EventRec.mk 1 ⟨0, 0⟩ 0 0 0x1101 [] []), { up with ev := { up.ev with queue := [⟨(EventRec.mk 1 ⟨0, 0⟩ 0 0 0x1101 [] []), [1], false⟩], log := [(EventRec.mk 1 ⟨0, 0⟩ 0 0 0x1101 [] [])] } }, by decide +kernel⟩,
    ⟨1, (CanPartial.mk 1 [1] 5 0), { up with dap := { up.dap with partials := [(CanPartial.mk 1 [1] 5 0)] } }, by decide +kernel⟩⟩

/-- The premises of TransportsAct are met. -/
theorem test_premises_TransportsAct :
    (∃ (s : State) (h : Nat) (data : Bytes), 1 ≤ h ∧ h ≤ 255 ∧ s.hearsHost (.can h) = true ∧ s.nodeId < 256 ∧ data ≠ [] ∧ canLength data.length = data.length ∧ data.length ≤ 64 ∧ beAt data 0 1 = 192) ∧
    (∃ (s : State) (src : Source) (dst : Nat) (msg : Bytes), s.ownAddress src = some dst ∧ msg.length ≤ 1408) ∧
    (∃ (s : State), s.emAnswers = true ∧ s.atReset Key.dapIpv4Address ≠ 0) ∧
    (∃ (s : State), s.emAnswers = true ∧ s.atReset Key.dapIpv6Enable ≠ 0) :=
  ⟨⟨up, 255, [byteOf 192], by decide +kernel⟩,
    ⟨(upOn [(Key.dapIpv4Address, 5)]), (.udp4 1 2), 5, [], by decide +kernel⟩,
    ⟨{ upOn [(Key.dapIpv4Address, 7)] with dap := { up.dap with answering := true } }, by decide +kernel⟩,
    ⟨(upOn [(Key.dapIpv6Enable, 1)]), by decide +kernel⟩⟩

/-- The premises of CommitsAndEventsAct are met. -/
theorem test_premises_CommitsAndEventsAct :
    (∃ (s : State) (x : Session) (seq : Nat) (p : Bytes), s.awaits x seq = true ∧ p.length ≤ 1382 ∧ (s.commitChecks x.role p).all (fun c => !c.1) = true) ∧
    (∃ (x : Session) (seq : Nat) (ticket : Nat) (c : Commit) (s : State) (g : Nat), s.awaits x seq = true ∧ ticket < 65536 ∧ ticket ≠ 0 ∧ (s.commits.pending.find? fun c => c.ticket = ticket && ticket ≠ 0) = some c ∧ scopeGroup c.scope = some g ∧ s.mayWrite x.role g = true) ∧
    (∃ (s : State) (x : Session) (seq : Nat) (mask : Nat), s.awaits x seq = true ∧ mask < 256 ∧ s.mayRead x.role 1 = true ∧ s.ev.queue = []) ∧
    (∃ (s : State) (x : Session) (seq : Nat) (n : Nat), s.awaits x seq = true ∧ n < 2 ^ 32 ∧ s.mayRead x.role 1 = true ∧ s.ev.lostPending = false) :=
  ⟨⟨{ upOn [(liveKey (Key.capPipe 0), 0), (Key.memDramReady, 1), (Key.memDramUsable, 2 ^ 36)] with part := .p12, dict := allOff ++ (upOn [(liveKey (Key.capPipe 0), 0), (Key.memDramReady, 1), (Key.memDramUsable, 2 ^ 36)]).dict }, host, 7, ([byteOf 0x40, 0, 1, 0] ++ beBytes 4 0 ++ beBytes 2 0 ++ beBytes 12 0 ++ beBytes 2 0), by decide +kernel⟩,
    ⟨host, 7, 1, (Commit.mk 1 0x40 0 0 ⟨0, 0⟩ false false false false 0 0 0 [⟨0, none, none, false, none⟩] [] [0]), { up with commits := { up.commits with pending := [(Commit.mk 1 0x40 0 0 ⟨0, 0⟩ false false false false 0 0 0 [⟨0, none, none, false, none⟩] [] [0])] } }, 9, by decide +kernel⟩,
    ⟨up, host, 7, 255, by decide +kernel⟩,
    ⟨{ up with ev := { up.ev with queue := [⟨⟨1, ⟨0, 0⟩, 0, 0, 0x1101, [], []⟩, [1], false⟩] } }, host, 7, 1, by decide +kernel⟩⟩

/-- The premises of LaneBringUpActs are met. -/
theorem test_premises_LaneBringUpActs :
    (∃ (l : Lane) (s : State), s.cendoHere l = true ∧ s.laneState l = lnSeek ∧ (s.lane l).attempt = false ∧ s.mayAttempt l = true ∧ (s.lane l).nextAt ≤ s.cycles) ∧
    (∃ (l : Lane) (s : State) (density : Nat), s.cendoHere l = true ∧ s.laneState l = lnSeek ∧ (s.lane l).attempt = true ∧ s.nat Key.laneTdFloor ≤ density ∧ usCycles 10 ≤ s.since (s.lane l).attemptAt ∧ s.since (s.lane l).attemptAt ≤ msCycles 2) ∧
    (∃ (l : Lane) (s : State), s.cendoHere l = true ∧ s.laneState l = lnSeek ∧ (s.lane l).attempt = true ∧ msCycles 2 ≤ s.since (s.lane l).attemptAt) ∧
    (∃ (l : Lane) (s : State), s.cendoHere l = true ∧ s.laneState l = lnDetect ∧ s.since (s.lane l).entered ≤ msCycles 1) ∧
    (∃ (l : Lane) (s : State), s.cendoHere l = true ∧ s.laneState l = lnDetect ∧ msCycles 1 ≤ s.since (s.lane l).entered) ∧
    (∃ (l : Lane) (s : State) (commas : List Nat), s.cendoHere l = true ∧ s.laneState l = lnAlign ∧ (s.lane l).aligned = false ∧ fourCommas commas = true ∧ s.since (s.lane l).entered ≤ msCycles 2) ∧
    (∃ (l : Lane) (s : State) (commas : List Nat), s.cendoHere l = true ∧ lnAlign < s.laneState l ∧ (s.lane l).aligned = false ∧ fourCommas commas = true) ∧
    (∃ (l : Lane) (s : State), s.cendoHere l = true ∧ s.laneState l = lnAlign ∧ ((s.lane l).aligned = false ∨ (s.lane l).req = none) ∧ msCycles 2 ≤ s.since (s.lane l).entered) :=
  ⟨⟨(.camera 47), { upOn [(laneKey oEnable (.camera 47), 1)] with boot := { up.boot with outOfService := false } }, by decide +kernel⟩,
    ⟨(.camera 47), (upLane (.camera 47) lnSeek { attempt := true, attemptAt := up.cycles - msCycles 2 }), 1000, by decide +kernel⟩,
    ⟨(.camera 47), (upLane (.camera 47) lnSeek { attempt := true, attemptAt := up.cycles - msCycles 2 }), by decide +kernel⟩,
    ⟨(.camera 47), (upLane (.camera 47) lnDetect { entered := up.cycles - msCycles 1 }), by decide +kernel⟩,
    ⟨(.camera 47), (upLane (.camera 47) lnDetect { entered := up.cycles - msCycles 1 }), by decide +kernel⟩,
    ⟨(.camera 47), (upLane (.camera 47) lnAlign { entered := up.cycles - msCycles 2 }), [5, 15, 25, 35], by decide +kernel⟩,
    ⟨(.camera 47), (upLane (.camera 47) lnFallback {}), [7, 17, 27, 37], by decide +kernel⟩,
    ⟨(.camera 47), (upLane (.camera 47) lnAlign { entered := up.cycles - msCycles 2 }), by decide +kernel⟩⟩

/-- The premises of LaneLossesAct are met. -/
theorem test_premises_LaneLossesAct :
    (∃ (l : Lane) (s : State) (x : Line), s.cendoHere l = true ∧ (s.lane l).aligned = true ∧ x.codes.length ≤ 64 ∧ 8 ≤ ((lineViolations (if isTrunk l then trunkKnown else cameraKnown) x).filter id).length) ∧
    (∃ (l : Lane) (s : State), s.laneHere l = true ∧ s.laneState l ≠ lnSeek) :=
  ⟨⟨(.camera 47), (upLane (.camera 47) lnDegraded { aligned := true }), ⟨false, List.replicate 8 0⟩, by decide +kernel⟩,
    ⟨(.camera 47), (upLane (.camera 47) lnFallback {}), by decide +kernel⟩⟩

/-- The premises of LaneAnswersAct are met. -/
theorem test_premises_LaneAnswersAct :
    (∃ (l : Lane) (s : State) (pos : Bool) (tag : Nat) (result : Byte) (pre : Byte) (main : Byte) (post : Byte) (lane : Byte) (x : Line) (h : State), (s.cendoHere l = true ∧ tag < 256 ∧ s.steady l x = true ∧ s.answers l 1 tag = true ∧ s.laneState l = lnTrain ∧ (s.lane l).goal = none) ∧ x = messageLine l pos 0x81 tag [result, pre, main, post, lane] ∧ h = s.heard l x) ∧
    (∃ (l : Lane) (s : State) (pos : Bool) (tag : Nat) (vendor : Nat) (model : Nat) (version : Nat) (rates : Nat) (caps : Nat) (latency : Nat) (x : Line) (h : State) (u : State), (s.cendoHere l = true ∧ tag < 256 ∧ vendor < 65536 ∧ model < 65536 ∧ version < 65536 ∧ rates < 256 ∧ caps < 256 ∧ latency < 65536 ∧ s.steady l x = true ∧ s.answers l 6 tag = true ∧ s.laneState l = lnAlign) ∧ x = messageLine l pos 0x86 tag (beBytes 2 vendor ++ beBytes 2 model ++ beBytes 2 version ++ [byteOf rates, byteOf caps] ++ beBytes 2 latency) ∧ h = s.heard l x ∧ u = (((h.clearReq l).setLane l oPartner (vendor * 2 ^ 48 + model * 2 ^ 32 + version * 65536 + rates * 256 + caps)).updLane l fun y => { y with latency := latency })) ∧
    (∃ (l : Lane) (s : State) (pos : Bool) (tag : Nat) (code : Byte) (x : Line) (h : State), (s.cendoHere l = true ∧ tag < 256 ∧ s.steady l x = true ∧ s.answers l 7 tag = true ∧ s.trk.lowering = none ∧ (s.laneState l = lnAlign ∨ s.laneState l = lnFallback)) ∧ x = messageLine l pos 0x87 tag [code] ∧ h = s.heard l x) ∧
    (∃ (s : State) (pos : Bool) (tag : Nat) (c : Nat) (code : Byte) (x : Line) (h : State), (s.cendoHere (.trunk 8) = true ∧ tag < 256 ∧ s.steady (.trunk 8) x = true ∧ s.answers (.trunk 8) 7 tag = true ∧ s.trk.lowering = some c) ∧ x = messageLine (.trunk 8) pos 0x87 tag [code] ∧ h = s.heard (.trunk 8) x) ∧
    (∃ (l : Lane) (s : State) (pos : Bool) (tag : Nat) (on : Byte) (x : Line) (h : State), (s.cendoHere l = true ∧ tag < 256 ∧ s.steady l x = true ∧ s.answers l 4 tag = true ∧ s.laneNat l oTestMode ≠ 4) ∧ x = messageLine l pos 0x84 tag [on] ∧ h = s.heard l x) ∧
    (∃ (i : Nat) (s : State) (pos : Bool) (tag : Nat) (on : Byte) (x : Line) (h : State), (i < s.part.ports ∧ tag < 256 ∧ s.steady (.camera i) x = true ∧ s.answers (.camera i) 4 tag = true ∧ s.laneNat (.camera i) oTestMode = 4 ∧ s.asked (.camera i) = 1) ∧ x = messageLine (.camera i) pos 0x84 tag [on] ∧ h = s.heard (.camera i) x) ∧
    (∃ (l : Lane) (s : State) (pos : Bool) (tag : Nat) (pattern : Byte) (d1 : Byte) (d0 : Byte) (x : Line) (h : State), (s.cendoHere l = true ∧ tag < 256 ∧ s.steady l x = true ∧ s.answers l 5 tag = true ∧ s.laneState l = lnVerify) ∧ x = messageLine l pos 0x85 tag [pattern, d1, d0] ∧ h = s.heard l x) :=
  ⟨⟨(.camera 47), (upLane (.camera 47) lnTrain { aligned := true, req := some ⟨1, 255, [], 0, 0⟩ }), false, 255, 0, 1, 30, 2, 0, _, _, by decide +kernel, rfl, rfl⟩,
    ⟨(.trunk 8), (upLane (.trunk 8) lnAlign { aligned := true, req := some ⟨6, 255, [], 0, 0⟩ }), true, 255, 65535, 2, 3, 7, 1, 65535, _, _, _, by decide +kernel, rfl, rfl, rfl⟩,
    ⟨(.camera 47), (upLane (.camera 47) lnFallback { aligned := true, req := some ⟨7, 255, [2], 0, 0⟩ }), false, 255, 2, _, _, by decide +kernel, rfl, rfl⟩,
    ⟨{ upLane (.trunk 8) lnAlign { aligned := true, req := some ⟨7, 255, [1], 0, 0⟩ } with trk := { lowering := some 1 } }, false, 255, 1, 1, _, _, by decide +kernel, rfl, rfl⟩,
    ⟨(.camera 47), (upLane (.camera 47) lnActive { aligned := true, req := some ⟨4, 255, [0], 0, 0⟩ }), false, 255, 0, _, _, by decide +kernel, rfl, rfl⟩,
    ⟨47, (upLaneOn (.camera 47) lnActive { aligned := true, req := some ⟨4, 255, [1], 0, 0⟩ } [(laneKey oTestMode (.camera 47), 4)]), false, 255, 1, _, _, by decide +kernel, rfl, rfl⟩,
    ⟨(.camera 47), (upLane (.camera 47) lnVerify { aligned := true, req := some ⟨5, 255, [1], 0, 0⟩ }), false, 255, 1, 0, 1, _, _, by decide +kernel, rfl, rfl⟩⟩

/-- The premises of LaneRequestsEnd are met. -/
theorem test_premises_LaneRequestsEnd :
    (∃ (i : Nat) (tag : Nat) (r : LaneReq) (s : State), i < s.part.ports ∧ (s.lane (.camera i)).req = some r ∧ r.tag = tag ∧ r.type ≠ 1 ∧ r.retries < 3 ∧ msCycles 2 ≤ s.since r.sent ∧ s.sentChange i tag = none) ∧
    (∃ (i : Nat) (pos : Bool) (tag : Nat) (r : LaneReq) (s : State) (x : Line) (h : State), (i < s.part.ports ∧ tag < 256 ∧ r.type < 256 ∧ s.steady (.camera i) x = true ∧ (s.lane (.camera i)).req = some r ∧ r.tag = tag ∧ r.type ≠ 2) ∧ x = messageLine (.camera i) pos 0xFF tag [byteOf r.type] ∧ h = s.heard (.camera i) x) ∧
    (∃ (l : Lane) (tag : Nat) (r : LaneReq) (s : State), (s.cendoHere l = true ∧ (s.lane l).req = some r ∧ r.tag = tag ∧ r.retries = 3 ∧ r.type ≠ 2 ∧ r.type ≠ 3 ∧ msCycles 2 ≤ s.since r.sent) ∧ (∀ i, l = .camera i → s.sentChange i tag = none)) ∧
    (∃ (i : Nat) (pos : Bool) (tag : Nat) (x : Line) (r : LaneReq) (c : Change) (s : State) (h : State), (i < s.part.ports ∧ tag < 256 ∧ s.steady (.camera i) x = true ∧ (s.lane (.camera i)).req = none ∧ (s.lane (.camera i)).sensor = [r] ∧ r.tag = tag ∧ r.type = 2 ∧ (s.exp i).change = some c ∧ c.tag = some tag) ∧ x = messageLine (.camera i) pos 0xFF tag [2] ∧ h = s.heard (.camera i) x) ∧
    (∃ (i : Nat) (pos : Bool) (tag : Nat) (x : Line) (c : Change) (s : State) (h : State), (i < s.part.ports ∧ tag < 256 ∧ s.steady (.camera i) x = true ∧ s.sensorAnswers i 2 tag = true ∧ (s.exp i).change = some c ∧ c.tag = some tag) ∧ x = messageLine (.camera i) pos 0x82 tag [0] ∧ h = s.heard (.camera i) x) ∧
    (∃ (i : Nat) (s : State) (pos : Bool) (tag : Nat) (status : Byte) (v1 : Byte) (v0 : Byte) (x : Line) (h : State), (i < s.part.ports ∧ tag < 256 ∧ s.steady (.camera i) x = true ∧ s.sensorAnswers i 3 tag = true) ∧ x = messageLine (.camera i) pos 0x83 tag [status, v1, v0] ∧ h = s.heard (.camera i) x) :=
  ⟨⟨47, 9, (LaneReq.mk 6 9 [1] 2 0), (upLane (.camera 47) lnAlign { req := some (LaneReq.mk 6 9 [1] 2 0) }), by decide +kernel⟩,
    ⟨47, false, 255, (LaneReq.mk 6 255 [1] 0 0), (upLane (.camera 47) lnAlign { aligned := true, req := some (LaneReq.mk 6 255 [1] 0 0) }), _, _, by decide +kernel, rfl, rfl⟩,
    ⟨(.camera 47), 255, (LaneReq.mk 6 255 [1] 3 0), (upLane (.camera 47) lnAlign { req := some (LaneReq.mk 6 255 [1] 3 0) }), by decide +kernel, fun i h => by cases h; decide +kernel⟩,
    ⟨47, false, 255, _, (LaneReq.mk 2 255 [] 0 0), { chg with tag := some 255 }, { upLane (.camera 47) lnActive { aligned := true, sensor := [(LaneReq.mk 2 255 [] 0 0)] } with exps := [(47, { change := some { chg with tag := some 255 } })] }, _, by decide +kernel, rfl, rfl⟩,
    ⟨47, false, 255, _, { chg with tag := some 255 }, { upLane (.camera 47) lnActive { aligned := true, sensor := [⟨2, 255, [], 0, 0⟩] } with exps := [(47, { change := some { chg with tag := some 255 } })] }, _, by decide +kernel, rfl, rfl⟩,
    ⟨47, (upLane (.camera 47) lnActive { aligned := true, sensor := [⟨3, 255, [], 0, 0⟩] }), false, 255, 0, 0, 1, _, _, by decide +kernel, rfl, rfl⟩⟩

/-- The premises of LaneTrainingActs are met. -/
theorem test_premises_LaneTrainingActs :
    (∃ (l : Lane) (t0 : Nat) (s : State), s.cendoHere l = true ∧ s.laneState l = lnTrain ∧ (s.lane l).tapsAt = some t0 ∧ usCycles 150 ≤ s.since t0) ∧
    (∃ (l : Lane) (s : State), s.cendoHere l = true ∧ s.laneState l = lnTrain ∧ msCycles 500 ≤ s.since (s.lane l).entered) ∧
    (∃ (l : Lane) (s : State) (errors : Nat) (h : Nat) (v : Nat) (u : State), (s.cendoHere l = true ∧ s.laneState l = lnVerify ∧ (s.lane l).pattern = true ∧ msCycles 1 ≤ s.since (s.lane l).entered ∧ errors ≤ u.nat Key.laneVerifyMaxErrors ∧ u.nat Key.laneFomFloor ≤ fomOf h v) ∧ u = (((s.addTo (laneKey oPrbsBits l) 64 (s.millisecondBits l)).addTo (laneKey oPrbsErrors l) 64 errors).setLane l oFom (fomOf h v))) ∧
    (∃ (l : Lane) (s : State) (h : Nat) (v : Nat), s.laneHere l = true ∧ s.receiverOn l = true ∧ s.nat Key.laneFomFloor ≤ fomOf h v ∧ (s.lane l).dipEvals ≠ 1) ∧
    (∃ (l : Lane) (s : State) (h : Nat) (v : Nat), s.cendoHere l = true ∧ s.laneState l = lnActive ∧ fomOf h v < s.nat Key.laneFomFloor ∧ (s.lane l).low = 9 ∧ (s.lane l).dipEvals = 0 ∧ (s.lane l).retrain = none) ∧
    (∃ (l : Lane) (t0 : Nat) (s : State), s.cendoHere l = true ∧ (s.lane l).retrain = some t0 ∧ s.laneUp l = true ∧ msCycles 100 ≤ s.since t0) ∧
    (∃ (l : Lane) (s : State), s.cendoHere l = true ∧ s.laneState l = lnDegraded ∧ s.nat Key.laneDegradedRetry ≠ 0 ∧ secCycles (s.nat Key.laneDegradedRetry) ≤ s.since (s.lane l).degradedAt) :=
  ⟨⟨(.camera 47), (up.cycles - usCycles 150), (upLane (.camera 47) lnTrain { tapsAt := some (up.cycles - usCycles 150) }), by decide +kernel⟩,
    ⟨(.camera 47), (upLane (.camera 47) lnTrain { entered := up.cycles - msCycles 500 }), by decide +kernel⟩,
    ⟨(.camera 47), (upLane (.camera 47) lnVerify { pattern := true }), 0, 64, 128, _, by decide +kernel, rfl⟩,
    ⟨(.camera 47), (upLane (.camera 47) lnActive { dipEvals := 2 }), 64, 128, by decide +kernel⟩,
    ⟨(.camera 47), (upLane (.camera 47) lnActive { low := 9 }), 0, 0, by decide +kernel⟩,
    ⟨(.camera 47), (up.cycles - msCycles 100), (upLane (.camera 47) lnActive { retrain := some (up.cycles - msCycles 100) }), by decide +kernel⟩,
    ⟨(.camera 47), (on (upLane (.camera 47) lnDegraded {}) [(Key.laneDegradedRetry, 1)]), by decide +kernel⟩⟩

/-- The premises of LaneTestsAct are met. -/
theorem test_premises_LaneTestsAct :
    (∃ (l : Lane) (s : State) (bits : List Bool), s.laneHere l = true ∧ (s.lane l).locked = none ∧ s.checkerPattern l ≠ 0 ∧ bits.length = (patternTaps (s.checkerPattern l)).1 + 64 ∧ followsPattern (s.checkerPattern l) bits = true) ∧
    (∃ (l : Lane) (t0 : Nat) (s : State) (window : List Bool), s.laneHere l = true ∧ (s.lane l).locked = some t0 ∧ window.length ≤ 1024 ∧ 64 ≤ (window.filter id).length) ∧
    (∃ (l : Lane) (s : State), s.laneHere l = true ∧ lnAlign ≤ s.laneState l ∧ s.laneState l ≤ lnDegraded ∧ usCycles (s.nat Key.laneIdleFreeze) ≤ s.since (s.lane l).lastStart) ∧
    (∃ (port : Nat) (s : State), s.part.hasNx = true ∧ port < 4 ∧ s.laneState (.eth port) ≠ lnActive ∧ s.mayAttempt (.eth port) = true) ∧
    (∃ (port : Nat) (s : State), s.part.hasNx = true ∧ port < 4 ∧ s.laneState (.eth port) = lnActive) :=
  ⟨⟨(.camera 47), (on (upLane (.camera 47) lnActive {}) [(laneKey oTestMode (.camera 47), 2), (laneKey oPattern (.camera 47), 1)]), (List.replicate 71 false), by decide +kernel⟩,
    ⟨(.camera 47), 0, (upLane (.camera 47) lnActive { locked := some 0 }), (List.replicate 64 true), by decide +kernel⟩,
    ⟨(.camera 47), (upLane (.camera 47) lnAlign {}), by decide +kernel⟩,
    ⟨3, (upOn [(laneKey oEnable (.eth 3), 1)]), by decide +kernel⟩,
    ⟨3, (upLane (.eth 3) lnActive {}), by decide +kernel⟩⟩

/-- The premises of CharactersReadBack are met. -/
theorem test_premises_CharactersReadBack :
    (∃ (l : List Chr), (∀ b, Chr.k b ∈ l → b ∈ specials)) ∧
    (∃ (l : List Chr), (∀ b, Chr.k b ∈ l → b ∈ specials ∧ b ≠ 0xFC)) :=
  ⟨⟨[Chr.k k285, Chr.d 0], by decide +kernel⟩,
    ⟨[Chr.k k285, Chr.d 0], by decide +kernel⟩⟩

/-- The premises of TrunkActs are met. -/
theorem test_premises_TrunkActs :
    (∃ (pos : Bool) (tag : Nat) (i : Nat) (s : State) (command : Nat) (preset : Nat) (x : Line) (h : State) (u : Taps) (r : Nat), (s.cendoHere (.trunk 8) = true ∧ tag < 256 ∧ i < s.part.txLanes ∧ command < 256 ∧ preset < 256 ∧ s.steady (.trunk 8) x = true ∧ s.trk.answered = none ∧ tapAnswer (Taps.ofNat (s.laneNat (.trunk i) oTaps)) command preset = some (u, r) ∧ (preset ≠ 0xFF ∨ r ≠ 0x3F)) ∧ x = messageLine (.trunk 8) pos 1 tag [byteOf command, byteOf preset, byteOf i] ∧ h = s.heard (.trunk 8) x) ∧
    (∃ (pos : Bool) (tag : Nat) (i : Nat) (s : State) (command : Nat) (x : Line) (h : State) (u : Taps), (s.cendoHere (.trunk 8) = true ∧ tag < 256 ∧ i < s.part.txLanes ∧ command < 256 ∧ s.steady (.trunk 8) x = true ∧ s.trk.answered = none ∧ s.trk.accepted.contains i = false ∧ tapAnswer (Taps.ofNat (s.laneNat (.trunk i) oTaps)) command 0xFF = some (u, 0x3F)) ∧ x = messageLine (.trunk 8) pos 1 tag [byteOf command, 0xFF, byteOf i] ∧ h = s.heard (.trunk 8) x) ∧
    (∃ (s : State) (pos : Bool) (tag : Nat) (x : Line) (h : State), (s.cendoHere (.trunk 8) = true ∧ tag < 256 ∧ s.steady (.trunk 8) x = true) ∧ x = messageLine (.trunk 8) pos 8 tag [] ∧ h = s.heard (.trunk 8) x) ∧
    (∃ (s : State), s.trkState = trkTraining ∧ s.trk.lowering = none ∧ s.trk.groups = none ∧ secCycles 1 ≤ s.since s.trk.entered ∧ 2 ≤ s.trkL ∧ s.laneUp (.trunk 8) = true ∧ s.trk.credit = true) ∧
    (∃ (c : Nat) (s : State), s.trkState = trkTraining ∧ s.trk.lowering = none ∧ s.trk.groups = none ∧ secCycles 1 ≤ s.since s.trk.entered ∧ s.trkL < 2 ∧ s.nat Key.trkRateActive = c + 1 ∧ s.nat Key.trkMinRate ≤ c) ∧
    (∃ (t0 : Nat) (s : State), s.trk.widenSince = some t0 ∧ s.trkState = trkUp ∧ msCycles (s.nat Key.trkWidenHold) ≤ s.since t0) ∧
    (∃ (s : State), s.trkState = trkResizing ∧ s.trk.groups = some 8) ∧
    (∃ (s : State) (idle : List Byte), s.cendoHere (.trunk 8) = true ∧ (s.lane (.trunk 8)).aligned = true ∧ idle.length = 7) ∧
    (∃ (s : State) (idle : List Byte) (idle' : List Byte), s.cendoHere (.trunk 8) = true ∧ (s.lane (.trunk 8)).aligned = true ∧ idle.length = 7 ∧ idle'.length = 7) ∧
    (∃ (s : State) (pos : Bool) (idle : List Byte) (limit : Nat) (buffer : Nat) (x : Line) (h : State), (s.laneUp (.trunk 8) = true ∧ s.cendoHere (.trunk 8) = true ∧ idle.length = 7 ∧ limit < 2 ^ 32 ∧ buffer < 2 ^ 32 ∧ s.steady (.trunk 8) x = true ∧ s.trkState ≠ trkDown ∧ atOrAfter32 limit s.trk.limit = true) ∧ x = trunkLine pos idle 0x13 (beBytes 4 limit ++ beBytes 4 buffer) ∧ h = s.heard (.trunk 8) x) ∧
    (∃ (t0 : Nat) (s : State), s.trk.waitSince = some t0 ∧ s.trk.stalled = false ∧ usCycles (s.nat Key.trkCreditTimeout) ≤ s.since t0) ∧
    (∃ (s : State) (pos : Bool) (idle : List Byte) (kind : Nat) (p : Bytes) (x : Line), (s.laneUp (.trunk 8) = true ∧ s.cendoHere (.trunk 8) = true ∧ idle.length = 7 ∧ kind < 256 ∧ knownType kind = false ∧ p.length < 65536 ∧ s.steady (.trunk 8) x = true) ∧ x = trunkLine pos idle kind p) :=
  ⟨⟨false, 255, 7, (on (upLane (.trunk 8) lnActive { aligned := true }) [(laneKey oTaps (.trunk 7), 0x002700)]), 1, 0xFF, _, _, ⟨1, 39, 0⟩, 0x3C, by decide +kernel, rfl, rfl⟩,
    ⟨false, 255, 7, (on (upLane (.trunk 8) lnActive { aligned := true }) [(laneKey oTaps (.trunk 7), 0x002700)]), 0, _, _, ⟨0, 39, 0⟩, by decide +kernel, rfl, rfl⟩,
    ⟨{ upLane (.trunk 8) lnActive { aligned := true } with trk := { accepted := [0, 1] } }, false, 255, _, _, by decide +kernel, rfl, rfl⟩,
    ⟨{ on (upLane (.trunk 8) lnActive { aligned := true }) [(Key.trkState, 1), (Key.trkLanes, 2)] with trk := { accepted := [0, 1], credit := true } }, by decide +kernel⟩,
    ⟨0, { on (upLane (.trunk 8) lnActive { aligned := true }) [(Key.trkState, 1), (Key.trkRateActive, 0 + 1), (Key.trkMinRate, 0)] with trk := {} }, by decide +kernel⟩,
    ⟨0, { upOn [(Key.trkState, 2)] with trk := { widenSince := some 0 } }, by decide +kernel⟩,
    ⟨{ upOn [(Key.trkState, 3)] with trk := { groups := some 8 } }, by decide +kernel⟩,
    ⟨(upLane (.trunk 8) lnActive { aligned := true }), (List.replicate 7 5), by decide +kernel⟩,
    ⟨(upLane (.trunk 8) lnActive { aligned := true }), (List.replicate 7 5), (List.replicate 7 5), by decide +kernel⟩,
    ⟨(on (upLane (.trunk 8) lnActive { aligned := true }) [(Key.trkState, 2)]), false, (List.replicate 7 5), (2 ^ 31 - 1), 100, _, _, by decide +kernel, rfl, rfl⟩,
    ⟨0, { up with trk := { waitSince := some 0 } }, by decide +kernel⟩,
    ⟨(upLane (.trunk 8) lnActive { aligned := true }), false, (List.replicate 7 5), 255, [1, 2], _, by decide +kernel, rfl⟩⟩

/-- The premises of TrunkPacketsAct are met. -/
theorem test_premises_TrunkPacketsAct :
    (∃ (i : Nat) (m : List Chr) (s : State) (r : List (Nat × List Chr)), s.trkState ≠ trkDown ∧ s.trk.training = (i, m) :: r) ∧
    (∃ (s : State), s.trkState = trkUp ∧ 2 ≤ s.trkL ∧ s.trk.training = [] ∧ s.trk.groups = none ∧ s.tb.beaconQueued = true) ∧
    (∃ (p : Packet) (s : State) (r : List Packet), s.trkState = trkUp ∧ 2 ≤ s.trkL ∧ s.trk.training = [] ∧ s.trk.groups = none ∧ s.tb.beaconQueued = false ∧ s.trk.tunnel = [] ∧ s.mrg.trunk = p :: r ∧ s.creditFor (creditCost p.chars.length) = true) ∧
    (∃ (s : State) (pos : Bool) (idle : List Byte) (frame : List Byte) (x : Line) (h : State), (s.laneUp (.trunk 8) = true ∧ s.cendoHere (.trunk 8) = true ∧ idle.length = 7 ∧ frame.length ≤ 9612 ∧ s.steady (.trunk 8) x = true ∧ s.part.hasNx = true ∧ s.nxUp 5 = true ∧ beAt frame 0 6 = s.nat Key.dapMgmtMac) ∧ x = trunkLine pos idle 0x12 frame ∧ h = s.heard (.trunk 8) x) ∧
    (∃ (s : State), s.tb.beaconMs ≠ some (s.now / msUnits)) ∧
    (∃ (s : State) (pos : Bool) (idle : List Byte) (epoch : Nat) (t1 : Nat) (state : Nat) (bseq : Nat) (echoSeq : Nat) (turn : Nat) (x : Line) (h : State), (s.laneUp (.trunk 8) = true ∧ s.cendoHere (.trunk 8) = true ∧ idle.length = 7 ∧ epoch < 65536 ∧ t1 < 2 ^ 48 * secUnits ∧ state < 256 ∧ bseq < 2 ^ 32 ∧ echoSeq < 2 ^ 32 ∧ turn < 2 ^ 64 ∧ s.steady (.trunk 8) x = true ∧ (∀ e ∈ s.tb.beaconsSent, e.1 ≠ echoSeq)) ∧ x = trunkLine pos idle 0x11 (beBytes 2 epoch ++ beBytes 12 (toTime96 t1) ++ [byteOf state, 0] ++ beBytes 4 bseq ++ beBytes 4 echoSeq ++ beBytes 8 turn) ∧ h = s.heard (.trunk 8) x) ∧
    (∃ (pos : Bool) (idle : List Byte) (epoch : Nat) (t1 : Nat) (state : Nat) (bseq : Nat) (echoSeq : Nat) (turn : Nat) (x : Line) (own : Instant) (s : State) (h : State) (r : List (Nat × Instant)), (s.laneUp (.trunk 8) = true ∧ s.cendoHere (.trunk 8) = true ∧ idle.length = 7 ∧ epoch < 65536 ∧ t1 < 2 ^ 48 * secUnits ∧ state < 256 ∧ bseq < 2 ^ 32 ∧ echoSeq < 2 ^ 32 ∧ turn < 2 ^ 64 ∧ s.steady (.trunk 8) x = true ∧ s.tb.beaconsSent = (echoSeq, own) :: r ∧ s.tbSource = 3) ∧ x = trunkLine pos idle 0x11 (beBytes 2 epoch ++ beBytes 12 (toTime96 t1) ++ [byteOf state, 0] ++ beBytes 4 bseq ++ beBytes 4 echoSeq ++ beBytes 8 turn) ∧ h = s.heard (.trunk 8) x) :=
  ⟨⟨7, [Chr.d 0], { upOn [(Key.trkState, 1)] with trk := { training := [(7, [Chr.d 0])] } }, [], by decide +kernel⟩,
    ⟨{ upOn [(Key.trkState, 2), (Key.trkLanes, 2)] with trk := { accepted := [0, 1] }, tb := { beaconQueued := true } }, by decide +kernel⟩,
    ⟨(Packet.mk [1, 2, 3] ⟨0, 0⟩ []), { upOn [(Key.trkState, 2), (Key.trkLanes, 2)] with mrg := { trunk := [(Packet.mk [1, 2, 3] ⟨0, 0⟩ [])] }, trk := { accepted := [0, 1], limit := 10 } }, [], by decide +kernel⟩,
    ⟨(upLane (.trunk 8) lnActive { aligned := true }), false, (List.replicate 7 5), ((beBytes 6 (factoryMac 0) ++ List.replicate 60 0)), _, _, by decide +kernel, rfl, rfl⟩,
    ⟨up, by decide +kernel⟩,
    ⟨(upLane (.trunk 8) lnActive { aligned := true }), false, (List.replicate 7 5), 65535, 0, 2, 1, 1, 0, _, _, by decide +kernel, rfl, rfl⟩,
    ⟨false, (List.replicate 7 5), 0, 0, 2, 1, 1, 0, _, ⟨0, 5⟩, { on (upLane (.trunk 8) lnActive { aligned := true }) [(Key.tbSource, 3)] with tb := { beaconsSent := [(1, ⟨0, 5⟩)] } }, _, [], by decide +kernel, rfl, rfl⟩⟩

/-- The premises of StoreRequestsAct are met. -/
theorem test_premises_StoreRequestsAct :
    (∃ (s : State) (x : Session) (seq : Nat), s.writable x seq (rowAt 0x1300 1) 0 = true ∧ s.store.snapshot = none ∧ s.sup.dip = false) ∧
    (∃ (s : State) (x : Session) (seq : Nat), s.writable x seq (rowAt 0x1300 1) 0 = true ∧ s.store.snapshot = none ∧ s.commits.pending = []) ∧
    (∃ (s : State) (x : Session) (seq : Nat), s.writable x seq (rowAt 0x1300 1) 0 = true ∧ s.store.snapshot = none ∧ s.commits.pending = []) ∧
    (∃ (s : State) (x : Session) (seq : Nat), s.writable x seq (rowAt 0x1300 1) 0 = true ∧ s.store.snapshot = none) ∧
    (∃ (l : LiveSet) (s : State), s.store.snapshot = some l ∧ s.boot.held = none ∧ s.sup.dip = false ∧ s.nat Key.storeBank ≤ 1) ∧
    (∃ (l : LiveSet) (s : State), s.store.snapshot = some l ∧ s.boot.held = none ∧ s.sup.dip = false) :=
  ⟨⟨up, host, 7, by decide +kernel⟩,
    ⟨up, host, 7, by decide +kernel⟩,
    ⟨up, host, 7, by decide +kernel⟩,
    ⟨up, host, 7, by decide +kernel⟩,
    ⟨(({ nums := [(1, 2)] } : LiveSet)), { up with store := { snapshot := some (({ nums := [(1, 2)] } : LiveSet)) } }, by decide +kernel⟩,
    ⟨(({ nums := [(1, 2)] } : LiveSet)), { up with store := { snapshot := some (({ nums := [(1, 2)] } : LiveSet)) } }, by decide +kernel⟩⟩

/-- The premises of TimeRequestsAct are met. -/
theorem test_premises_TimeRequestsAct :
    (∃ (s : State) (x : Session) (seq : Nat) (v : Nat), s.writable x seq (rowAt 0x2000 4) 0 = true ∧ (rowAt 0x2000 4).rng.holds s.part v 0 = true) ∧
    (∃ (s : State) (x : Session) (seq : Nat) (sub : Nat) (v : Nat), (sub = 1 ∨ sub = 2 ∨ sub = 3) ∧ s.writable x seq (rowAt 0x2010 sub) 0 = true ∧ (rowAt 0x2010 sub).rng.holds s.part v 0 = true) ∧
    (∃ (s : State) (x : Session) (seq : Nat), s.writable x seq (rowAt 0x2000 4) 0 = true ∧ s.tbSource ≠ 0 ∧ s.tbState = tbLocked ∧ s.tb.scheduled = none) ∧
    (∃ (s : State) (x : Session) (seq : Nat), s.writable x seq (rowAt 0x2000 9) 0 = true ∧ s.tb.scheduled = none ∧ s.tbSource ≠ 2 ∧ s.tbState = tbDiscont ∧ s.tb.policy = 1 ∧ s.tb.slewing = false ∧ s.tb.slewed = false) ∧
    (∃ (s : State) (x : Session) (seq : Nat), s.writable x seq (rowAt 0x2000 9) 0 = true ∧ s.tb.scheduled = none ∧ s.tbSource ≠ 2 ∧ s.tbState = tbDiscont ∧ s.tb.policy = 1) ∧
    (∃ (s : State) (x : Session) (seq : Nat) (v : Int), s.writable x seq (rowAt 0x2000 5) 0 = true ∧ s.tbSource = 2 ∧ (rowAt 0x2000 5).rng.holds s.part v 0 = true ∧ s.tbState = tbLocked) ∧
    (∃ (s : State) (x : Session) (seq : Nat) (v : Nat), s.writable x seq (rowAt 0x2010 3) 0 = true ∧ v ≤ 127 ∧ s.nat Key.ptpDomain ≠ v ∧ s.tbSource ≠ 2 ∧ s.tbState ≠ tbLocked) ∧
    (∃ (s : State) (x : Session) (seq : Nat), s.writable x seq (rowAt 0x2030 6) 0 = true) ∧
    (∃ (x : Session) (seq : Nat) (port : Nat) (h : TxStamp) (s : State) (r : List TxStamp), port < 4 ∧ s.writable x seq (rowAt 0x2040 6) port = true ∧ mapGetD port [] s.tb.txts = h :: r ∧ h.ident < 65536) :=
  ⟨⟨(upOn [(Key.tbSource, 1), (Key.tbState, 2)]), host, 7, 3, by decide +kernel⟩,
    ⟨(upOn [(Key.tbSource, 1), (Key.tbState, 2)]), host, 7, 2, 1, by decide +kernel⟩,
    ⟨(upOn [(Key.tbSource, 1), (Key.tbState, 2)]), host, 7, by decide +kernel⟩,
    ⟨{ upOn [(Key.tbSource, 1), (Key.tbState, 4), (Key.tbOffset, 100000)] with tb := { policy := 1 } }, host, 7, by decide +kernel⟩,
    ⟨{ upOn [(Key.tbSource, 1), (Key.tbState, 4), (Key.tbOffset, 100000)] with tb := { policy := 1 } }, host, 7, by decide +kernel⟩,
    ⟨(upOn [(Key.tbSource, 2), (Key.tbState, 2)]), host, 7, (-1000), by decide +kernel⟩,
    ⟨(upOn [(Key.tbSource, 1), (Key.tbState, 1)]), host, 7, 127, by decide +kernel⟩,
    ⟨(upOn [(Key.tbSource, 1)]), host, 7, by decide +kernel⟩,
    ⟨host, 7, 3, (TxStamp.mk 65535 ⟨0, 0⟩), { up with tb := { txts := [(3, [(TxStamp.mk 65535 ⟨0, 0⟩)])] } }, [], by decide +kernel⟩⟩

/-- The premises of LaneRequestsAct are met. -/
theorem test_premises_LaneRequestsAct :
    (∃ (x : Session) (seq : Nat) (l : Lane) (s : State), s.writable x seq (laneEntryRow oCommand l) (laneNumber l) = true ∧ s.cendoHere l = true ∧ s.laneUp l = true) ∧
    (∃ (s : State) (x : Session) (seq : Nat) (i : Nat), s.writable x seq (rowAt 0x3009 1) i = true ∧ i < s.part.ports) ∧
    (∃ (x : Session) (seq : Nat) (l : Lane) (s : State), s.writable x seq (laneEntryRow oEnable l) (laneNumber l) = true ∧ lanePresent s.part l = true) ∧
    (∃ (x : Session) (seq : Nat) (l : Lane) (s : State), s.writable x seq (laneEntryRow oEnable l) (laneNumber l) = true ∧ lanePresent s.part l = true ∧ s.laneBist l = false) ∧
    (∃ (x : Session) (seq : Nat) (i : Nat) (s : State) (v : Nat), s.writable x seq (rowAt 0x300A 1) i = true ∧ i < s.part.ports ∧ v ≤ 4 ∧ (v ≠ 0 → s.feeds i = none) ∧ (v = 4 → (s.laneNat (.camera i) oPartner).testBit 0 = true)) ∧
    (∃ (x : Session) (seq : Nat) (i : Nat) (s : State), s.writable x seq (rowAt 0x300A 1) i = true ∧ i < s.part.ports ∧ s.feeds i = none ∧ s.laneNat (.camera i) oTestMode = 0) :=
  ⟨⟨host, 7, (.camera 47), (upLane (.camera 47) lnActive {}), by decide +kernel⟩,
    ⟨up, host, 7, 47, by decide +kernel⟩,
    ⟨host, 7, (.camera 47), (upLane (.camera 47) lnActive {}), by decide +kernel⟩,
    ⟨host, 7, (.camera 47), (upLane (.camera 47) lnSeek {}), by decide +kernel⟩,
    ⟨host, 7, 47, (upOn [(liveKey (Key.capPipe 47), 255), (laneKey oPartner (.camera 47), 1)]), 4, by decide +kernel⟩,
    ⟨host, 7, 47, (upOn [(liveKey (Key.capPipe 47), 255)]), by decide +kernel⟩⟩

/-- The premises of ImageRequestsAct are met. -/
theorem test_premises_ImageRequestsAct :
    (∃ (s : State) (x : Session) (seq : Nat) (port : Nat), s.writable x seq (rowAt 0x7026 1) port = true ∧ port < 48 ∧ s.nat (Key.expAeMode port) ≠ 1 ∧ s.changing port = false ∧ s.dom (Key.expMap port) ≠ []) ∧
    (∃ (s : State) (x : Session) (seq : Nat) (port : Nat), s.writable x seq (rowAt 0x7026 1) port = true ∧ port < 48 ∧ s.nat (Key.expAeMode port) ≠ 1 ∧ s.changing port = false ∧ s.dom (Key.expRawBundle port) ≠ []) ∧
    (∃ (s : State) (x : Session) (seq : Nat) (core : Nat), s.writable x seq (rowAt 0x6740 1) core = true ∧ core < 64 ∧ s.flag (Key.warpCoreFence core) = true) ∧
    (∃ (s : State) (x : Session) (seq : Nat) (core : Nat) (v : Nat), s.writable x seq (rowAt 0x6740 1) core = true ∧ core < 64 ∧ v ≤ 1) ∧
    (∃ (s : State) (x : Session) (seq : Nat) (engine : Nat) (v : Nat), s.writable x seq (rowAt 0x6743 1) engine = true ∧ engine < 4 ∧ v ≤ 131072 ∧ ((List.range 64).any fun w => ctrlEnable (s.liveNat (Key.warpViewCtrl w))) = false ∧ s.scopePending 0x60 = false ∧ v + ((((List.range s.part.warps).filter (· != engine)).map fun e => s.nat (Key.warpPartition e)).foldl (· + ·) 0) ≤ 131072) ∧
    (∃ (s : State) (x : Session) (seq : Nat) (engine : Nat), s.writable x seq (rowAt 0x67A0 1) engine = true ∧ engine < 4 ∧ s.flag (Key.codecEngineFence engine) = false ∧ s.codedStreams = []) ∧
    (∃ (s : State) (x : Session) (seq : Nat) (engine : Nat) (v : Nat), s.writable x seq (rowAt 0x67A0 1) engine = true ∧ engine < 4 ∧ v ≤ 1) ∧
    (∃ (s : State) (x : Session) (seq : Nat) (v : Nat), s.writable x seq (rowAt 0x7100 1) 0 = true ∧ v ≤ 1) ∧
    (∃ (s : State) (x : Session) (seq : Nat), s.writable x seq (rowAt 0x7100 1) 0 = true ∧ s.flag Key.trkEnable = false) ∧
    (∃ (s : State) (x : Session) (seq : Nat) (port : Nat), s.writable x seq (rowAt 0x7416 1) port = true ∧ port < 4 ∧ (s.nxPort port).change = none ∧ s.dom (Key.nxGclAdmin port) ≠ [] ∧ 0 < s.nat (Key.nxAdminCycleTime port)) :=
  ⟨⟨{ upOn [] with doms := [(Key.expMap 47, List.replicate 32 0)], exps := [(47, { owed := false })] }, host, 7, 47, by decide +kernel⟩,
    ⟨{ upOn [] with doms := [(Key.expRawBundle 47, List.replicate 32 0)], exps := [(47, { owed := false })] }, host, 7, 47, by decide +kernel⟩,
    ⟨(upOn [(Key.warpCoreFence 63, 1)]), host, 7, 63, by decide +kernel⟩,
    ⟨up, host, 7, 63, 1, by decide +kernel⟩,
    ⟨(upOn (((List.range 64).map fun e => (liveKey (Key.warpViewCtrl e), 0)) ++ (List.range 4).map fun e => (Key.warpPartition e, 0))), host, 7, 3, 131072, by decide +kernel⟩,
    ⟨{ up with part := .p12, dict := codecsOff ++ up.dict }, host, 7, 0, by decide +kernel⟩,
    ⟨{ up with part := .p12, dict := codecsOff ++ up.dict }, host, 7, 0, 1, by decide +kernel⟩,
    ⟨up, host, 7, 1, by decide +kernel⟩,
    ⟨(upOn [(Key.trkEnable, 0)]), host, 7, by decide +kernel⟩,
    ⟨{ up with doms := [(Key.nxGclAdmin 3, leBytes 4 1)] }, host, 7, 3, by decide +kernel⟩⟩

/-- The premises of MoverRequestsAct are met. -/
theorem test_premises_MoverRequestsAct :
    (∃ (x : Session) (seq : Nat) (e : Nat) (ch : Nat) (s : State), s.writable x seq (rowAt 0x7807 1) (64 * e + ch) = true ∧ e < 11 ∧ ch < 64 ∧ s.bistOn e = false ∧ ownedByDevice ch = false ∧ s.startRefused e ch = none) ∧
    (∃ (x : Session) (seq : Nat) (e : Nat) (ch : Nat) (s : State), s.writable x seq (rowAt 0x7807 1) (64 * e + ch) = true ∧ e < 11 ∧ ch < 64 ∧ ownedByDevice ch = false ∧ (s.chState e ch = dmaRunning ∨ s.chState e ch = dmaWaiting)) ∧
    (∃ (x : Session) (seq : Nat) (e : Nat) (ch : Nat) (s : State), s.writable x seq (rowAt 0x7807 1) (64 * e + ch) = true ∧ e < 11 ∧ ch < 64 ∧ ownedByDevice ch = false ∧ s.chState e ch = dmaFreewheel) ∧
    (∃ (x : Session) (seq : Nat) (e : Nat) (ch : Nat) (s : State), s.writable x seq (rowAt 0x7807 1) (64 * e + ch) = true ∧ e < 11 ∧ ch < 64 ∧ ownedByDevice ch = false ∧ s.chState e ch ≠ dmaIdle ∧ s.chState e ch ≠ dmaLanding) ∧
    (∃ (x : Session) (seq : Nat) (e : Nat) (s : State), s.writable x seq (rowAt 0x7830 2) e = true ∧ e < 11 ∧ s.nat (Key.dmaEngineState e) = 2) ∧
    (∃ (x : Session) (seq : Nat) (e : Nat) (s : State) (v : Nat), s.writable x seq (rowAt 0x7831 4) e = true ∧ e < 11 ∧ v < 2 ^ 32 ∧ s.nat (Key.dmaRingRead e) ≤ v ∧ v ≤ s.nat (Key.dmaRingWritten e)) ∧
    (∃ (s : State) (x : Session) (seq : Nat) (e : Nat), s.writable x seq (rowAt 0x7831 1) e = true ∧ e < 11 ∧ ((s.engineChannels e).any fun ch => ctrlRecord (s.chCtrl e ch)) = false) ∧
    (∃ (s : State) (x : Session) (seq : Nat) (e : Nat) (v : Nat), s.writable x seq (rowAt 0x7831 1) e = true ∧ e < 11 ∧ v % 32 = 0 ∧ v < 2 ^ 64 ∧ s.hostSpan e v (v + 32 * s.nat (Key.dmaRingSize e) - 1) = true ∧ ((s.engineChannels e).any fun ch => ctrlRecord (s.chCtrl e ch)) = false) ∧
    (∃ (s : State) (x : Session) (seq : Nat) (e : Nat) (v : Nat), s.writable x seq (rowAt 0x7831 2) e = true ∧ e < 11 ∧ (rowAt 0x7831 2).rng.holds s.part v (fifoDepth e) = true ∧ s.nat (Key.dmaRingBase e) = 0 ∧ ((s.engineChannels e).any fun ch => ctrlRecord (s.chCtrl e ch)) = false) ∧
    (∃ (s : State) (x : Session) (seq : Nat) (f : Nat), s.writable x seq (rowAt 0x7B14 1) f = true ∧ f < 636) ∧
    (∃ (s : State) (x : Session) (seq : Nat) (f : Nat), s.writable x seq (rowAt 0x7B14 1) f = true ∧ f < 636) ∧
    (∃ (x : Session) (seq : Nat) (f : Nat) (s : State), s.writable x seq (rowAt 0x7B10 1) f = true ∧ f < 636 ∧ (s.fifo f).count < 65536) :=
  ⟨⟨host, 7, 10, 63, (upOn [(Key.memDramReady, 1), (Key.memHostSizeActive, 1024), (Key.dmaChSrcAddr 10 63, 0x1000000000), (Key.dmaChDstAddr 10 63, 0x1000001000), (Key.dmaChSrcShape 10 63, 63 * 2 ^ 48), (Key.dmaChDstShape 10 63, 63 * 2 ^ 48)]), by decide +kernel⟩,
    ⟨host, 7, 10, 63, { upOn [(Key.dmaChState 10 63, dmaRunning)] with dma := { chans := [(64 * 10 + 63, {})] } }, by decide +kernel⟩,
    ⟨host, 7, 10, 63, { upOn [(Key.dmaChState 10 63, dmaFreewheel)] with dma := { chans := [(64 * 10 + 63, {})] } }, by decide +kernel⟩,
    ⟨host, 7, 10, 63, { upOn [(Key.dmaChState 10 63, dmaRunning)] with dma := { chans := [(64 * 10 + 63, {})] } }, by decide +kernel⟩,
    ⟨host, 7, 10, (upOn [(Key.dmaEngineState 10, 2)]), by decide +kernel⟩,
    ⟨host, 7, 10, (upOn [(Key.dmaRingWritten 10, 5)]), 5, by decide +kernel⟩,
    ⟨up, host, 7, 10, by decide +kernel⟩,
    ⟨(upOn [(Key.memDramReady, 1), (Key.memHostSizeActive, 1024)]), host, 7, 10, 0x1000000000, by decide +kernel⟩,
    ⟨up, host, 7, 10, 256, by decide +kernel⟩,
    ⟨up, host, 7, 635, by decide +kernel⟩,
    ⟨up, host, 7, 635, by decide +kernel⟩,
    ⟨host, 7, 635, { up with fifos := [(635, { count := 3 })] }, by decide +kernel⟩⟩

/-- The premises of ProtectRequestsAct are met. -/
theorem test_premises_ProtectRequestsAct :
    (∃ (s : State) (x : Session) (seq : Nat), s.writable x seq (rowAt 0x1420 5) 0 = true ∧ s.nat Key.fwState = 0 ∧ s.flash.imageOk s.spareImage = true) ∧
    (∃ (s : State) (x : Session) (seq : Nat), s.writable x seq (rowAt 0x1420 5) 0 = true ∧ s.nat Key.fwState = 2) ∧
    (∃ (s : State) (x : Session) (seq : Nat), s.writable x seq (rowAt 0x1400 4) 0 = true ∧ s.flag Key.protSealed = false ∧ (s.secret 3).all (· = 0) = false ∧ 2 ≤ ([1, 2, 3].filter fun r => !(s.dom (Key.rolePubkey r)).isEmpty).length) ∧
    (∃ (s : State) (x : Session) (seq : Nat), s.writable x seq (rowAt 0x1410 7) 0 = true ∧ s.prot.proposal ≠ none) :=
  ⟨⟨{ up with flash := { Flash.factory with imageB := minimalImage firmwareMagic } }, host, 7, by decide +kernel⟩,
    ⟨(upOn [(Key.fwState, 2), (Key.fwRunning, 1)]), host, 7, by decide +kernel⟩,
    ⟨{ up with prot := { secrets := List.replicate 4 (List.replicate 32 1) }, doms := [(Key.rolePubkey 1, List.replicate 97 1), (Key.rolePubkey 2, List.replicate 97 1)] }, host, 7, by decide +kernel⟩,
    ⟨{ up with prot := { proposal := some ⟨[], 0, [], 0, false⟩ } }, host, 7, by decide +kernel⟩⟩

/-- The premises of BlockEndsAct are met. -/
theorem test_premises_BlockEndsAct :
    (∃ (x : Session) (seq : Nat) (w : Transfer) (s : State), s.endable x seq w (rowAt 0x2400 1) 0 = true ∧ s.ttRefused ((rowAt 0x2400 1).cleanContent (w.result [] w.total)) = none) ∧
    (∃ (x : Session) (seq : Nat) (w : Transfer) (s : State) (n : Nat), s.endable x seq w (rowAt 0x1501 1) 0 = true ∧ leAt (w.result [] w.total) 0 1 = n ∧ 5 ≤ n ∧ n ≤ 15) ∧
    (∃ (x : Session) (seq : Nat) (w : Transfer) (s : State), s.endable x seq w (rowAt 0x1504 1) 0 = true) ∧
    (∃ (x : Session) (seq : Nat) (w : Transfer) (s : State) (c : Change1) (o : Obj) (i : Nat), s.endable x seq w (rowAt 0x1410 1) 0 = true ∧ s.flag Key.protSealed = true ∧ s.prot.proposal = none ∧ parseProposal (w.result [] w.total) = ([c], true) ∧ s.rwpEntry c.index c.sub = some (o, i) ∧ rwpLength o i c.value.length = true ∧ rwpRange o i c.value = true) ∧
    (∃ (x : Session) (seq : Nat) (w : Transfer) (p : Proposal) (s : State), s.endable x seq w (rowAt 0x1410 3) 0 = true ∧ s.prot.proposal = some p ∧ p.deferred = false ∧ p.signed = [] ∧ p.bad < 2 ∧ 1 ≤ leAt (w.result [] w.total) 0 1 ∧ leAt (w.result [] w.total) 0 1 ≤ 3 ∧ s.dom (Key.rolePubkey (leAt (w.result [] w.total) 0 1)) ≠ []) ∧
    (∃ (x : Session) (seq : Nat) (w : Transfer) (s : State) (r : Nat), s.endable x seq w (rowAt 0x1401 1) r = true ∧ r < 4 ∧ s.flag Key.protSealed = false ∧ x.role = 3) ∧
    (∃ (x : Session) (seq : Nat) (w : Transfer) (s : State), s.endable x seq w (rowAt 0x1400 1) 0 = true ∧ s.flag Key.protSealed = false ∧ x.role = 3 ∧ planValid (w.result [] w.total) = true ∧ (w.result [] w.total).length = 64) ∧
    (∃ (x : Session) (seq : Nat) (w : Transfer) (s : State), s.endable x seq w (rowAt 0x8100 1) 0 = true ∧ trimCrcOk (w.result [] w.total) = true ∧ trimFields (w.result [] w.total) = true ∧ s.cal.running = none) :=
  ⟨⟨host, 7, ttTransfer, (upWr ttTransfer), by
      simp only [State.endable, result_length]
      decide +kernel, clean_ok _ _ _ rfl rfl⟩,
    ⟨host, 7, (xw 0x1501 1 (byteOf 15 :: List.replicate 48 7)), (upWr (xw 0x1501 1 (byteOf 15 :: List.replicate 48 7))), 15, by decide +kernel⟩,
    ⟨host, 7, (xw 0x1504 1 (List.replicate 32 7)), (upWr (xw 0x1504 1 (List.replicate 32 7))), by decide +kernel⟩,
    ⟨host, 7, (xw 0x1410 1 (leBytes 2 1 ++ leBytes 2 0x1402 ++ [byteOf 1, 0] ++ leBytes 4 0)), (on (upWr (xw 0x1410 1 (leBytes 2 1 ++ leBytes 2 0x1402 ++ [byteOf 1, 0] ++ leBytes 4 0))) [(Key.protSealed, 1)]), ⟨0x1402, 1, []⟩, (rowAt 0x1402 1), 0, by decide +kernel⟩,
    ⟨host, 7, (xw 0x1410 3 (byteOf 1 :: List.replicate 96 1)), (Proposal.mk [1] 0 [] 1 false), { upWr (xw 0x1410 3 (byteOf 1 :: List.replicate 96 1)) with doms := [(Key.rolePubkey 1, List.replicate 97 4)], prot := { proposal := some (Proposal.mk [1] 0 [] 1 false) } }, by decide +kernel⟩,
    ⟨host, 7, (xw 0x1401 4 (List.replicate 129 7)), (upWr (xw 0x1401 4 (List.replicate 129 7))), 3, by decide +kernel⟩,
    ⟨host, 7, (xw 0x1400 1 (defaultDom Key.accessPlan)), (upWr (xw 0x1400 1 (defaultDom Key.accessPlan))), by decide +kernel⟩,
    ⟨host, 7, (xw 0x8100 1 (sealTrims (factoryTrims 48))), (upWr (xw 0x8100 1 (sealTrims (factoryTrims 48)))), by decide +kernel⟩⟩

/-- The premises of PowerRequestsAct are met. -/
theorem test_premises_PowerRequestsAct :
    (∃ (s : State) (x : Session) (seq : Nat), s.writable x seq (rowAt 0x1200 2) 0 = true ∧ s.nat Key.fwState ≠ 2 ∧ s.boot.outOfService = false ∧ s.store.snapshot = none ∧ s.nat Key.pwrState = 0 ∧ s.powerBusy = false) ∧
    (∃ (s : State) (x : Session) (seq : Nat), s.writable x seq (rowAt 0x1200 2) 0 = true ∧ s.nat Key.fwState ≠ 2 ∧ s.boot.outOfService = false ∧ s.store.snapshot = none ∧ s.nat Key.pwrState = 0 ∧ s.powerBusy = false) ∧
    (∃ (s : State) (x : Session) (seq : Nat), s.writable x seq (rowAt 0x1200 2) 0 = true ∧ s.nat Key.fwState ≠ 2 ∧ s.boot.outOfService = false ∧ s.store.snapshot = none ∧ s.nat Key.pwrState ≠ 0 ∧ s.powerBusy = false) ∧
    (∃ (s : State) (x : Session) (seq : Nat) (d : Nat) (v : Nat), s.writable x seq (rowAt 0x8000 1) d = true ∧ d < 59 ∧ v ≤ 1 ∧ s.nat Key.pwrState ≠ 0) ∧
    (∃ (s : State) (x : Session) (seq : Nat), s.writable x seq (rowAt 0x8000 1) 58 = true ∧ s.nat Key.pwrState = 0 ∧ s.domainOn 58 = true) ∧
    (∃ (s : State) (x : Session) (seq : Nat), s.writable x seq (rowAt 0x1201 1) 0 = true) ∧
    (∃ (s : State) (x : Session) (seq : Nat) (c : Nat), s.writable x seq (rowAt 0x1201 2) 0 = true ∧ c < 10 ∧ s.part.has .cluster c = true) ∧
    (∃ (s : State) (x : Session) (seq : Nat), s.writable x seq (rowAt 0xA000 7) 0 = true) :=
  ⟨⟨up, host, 7, by decide +kernel⟩,
    ⟨up, host, 7, by decide +kernel⟩,
    ⟨(upOn [(Key.pwrState, 2)]), host, 7, by decide +kernel⟩,
    ⟨(upOn [(Key.pwrState, 2)]), host, 7, 58, 1, by decide +kernel⟩,
    ⟨up, host, 7, by decide +kernel⟩,
    ⟨up, host, 7, by decide +kernel⟩,
    ⟨up, host, 7, 9, by decide +kernel⟩,
    ⟨up, host, 7, by decide +kernel⟩⟩

/-- The premises of ServiceRequestsAct are met. -/
theorem test_premises_ServiceRequestsAct :
    (∃ (s : State) (x : Session) (seq : Nat), s.writable x seq (rowAt 0x8101 1) 0 = true ∧ s.domainOn 63 = true ∧ s.cal.running = none ∧ s.cal.saving = none ∧ s.dap.transfers = []) ∧
    (∃ (s : State) (x : Session) (seq : Nat), s.writable x seq (rowAt 0x8101 1) 0 = true ∧ s.domainOn 63 = true ∧ s.boot.outOfService = true ∧ s.cal.running = none ∧ s.cal.saving = none ∧ s.dap.transfers = []) ∧
    (∃ (x : Session) (seq : Nat) (i : Nat) (s : State), s.writable x seq (rowAt 0x8101 1) 0 = true ∧ s.domainOn 63 = true ∧ s.nat Key.calTarget = i ∧ i < s.part.ports ∧ s.feeds i = none ∧ s.cal.running = none ∧ s.cal.saving = none ∧ s.dap.transfers = []) ∧
    (∃ (x : Session) (seq : Nat) (n : Nat) (s : State), s.writable x seq (rowAt 0x8101 1) 0 = true ∧ s.domainOn 63 = true ∧ s.nat Key.calTarget = n ∧ s.part.hasNx = true ∧ n < 4 ∧ s.laneState (.eth n) = lnActive ∧ s.flag (Key.ptpPortEnable n) = false ∧ s.cal.running = none ∧ s.cal.saving = none ∧ s.dap.transfers = []) ∧
    (∃ (s : State) (x : Session) (seq : Nat), s.writable x seq (rowAt 0x8101 1) 0 = true ∧ s.domainOn 63 = true ∧ s.nat Key.calTarget = 0 ∧ s.nat (Key.bellPinMode 0) = 1 ∧ s.cal.running = none ∧ s.cal.saving = none ∧ s.dap.transfers = []) ∧
    (∃ (s : State) (x : Session) (seq : Nat), s.writable x seq (rowAt 0x8101 1) 0 = true ∧ s.cal.saving = none) ∧
    (∃ (s : State) (x : Session) (seq : Nat), s.writable x seq (rowAt 0x8101 1) 0 = true) ∧
    (∃ (x : Session) (seq : Nat) (c : Nat) (t : Nat) (c0 : Nat) (s : State), s.writable x seq (rowAt 0x8101 1) 0 = true ∧ s.cal.running = some (c, t, c0)) ∧
    (∃ (s : State) (x : Session) (seq : Nat) (p : Nat), s.writable x seq (rowAt 0x9000 1) p = true ∧ p < 24 ∧ s.pipeNamed p = false ∧ s.nat (Key.testPipeFence p) = 0) ∧
    (∃ (x : Session) (seq : Nat) (p : Nat) (s : State), s.writable x seq (rowAt 0x9000 1) p = true ∧ p < 24 ∧ (s.pipe p).inj = none ∧ s.nat (Key.testPipeFence p) = 1) ∧
    (∃ (x : Session) (seq : Nat) (p : Nat) (d : Bytes) (s : State), s.writable x seq (rowAt 0x9002 1) p = true ∧ p < 24 ∧ s.dom (Key.testInjectDesc p) = d ∧ s.flag (Key.testPipeFence p) = true ∧ s.domainOn (pipeDomain p) = true ∧ s.domainOn 63 = true ∧ s.flag Key.memDramReady = true ∧ (s.pipe p).inj = none ∧ injectFields d = true ∧ dramBase ≤ leAt d 0 8 ∧ leAt d 0 8 + injectBytes d ≤ dramBase + s.hostBytes ∧ (leAt d 8 2 * leAt d 13 1 + 64) * 1000000000 ≤ 1500000000 * leAt d 16 4 ∧ leAt d 10 2 * leAt d 16 4 ≤ leAt d 40 4 * 1000 ∧ leAt d 20 2 = s.epoch ∧ s.now + usUnits 10 ≤ ofTime96 (leAt d 22 12) ∧ leAt d 38 2 ≠ 0) ∧
    (∃ (x : Session) (seq : Nat) (p : Nat) (j : Inject) (s : State), s.writable x seq (rowAt 0x9002 1) p = true ∧ p < 24 ∧ (s.pipe p).inj = some j ∧ (s.frames.any fun f => f.synthetic && f.pipe = some p && !f.closed) = true) ∧
    (∃ (s : State) (x : Session) (seq : Nat) (k : Nat) (v : Nat), s.writable x seq (rowAt 0x9010 1) k = true ∧ k < 16 ∧ (rowAt 0x9010 1).clean (v : Int) = v ∧ v < 2 ^ 64 ∧ (rowAt 0x9010 1).rng.holds s.part v (fifoDepth k) = true) ∧
    (∃ (s : State) (x : Session) (seq : Nat) (m : Nat), s.writable x seq (rowAt 0x9020 1) m = true ∧ m < 8 ∧ s.quiesced m = true ∧ s.domainOn (6 * m + 5) = true ∧ s.bistOn m = false) ∧
    (∃ (s : State) (x : Session) (seq : Nat), s.writable x seq (rowAt 0x9030 1) 0 = true ∧ s.boot.outOfService = true) :=
  ⟨⟨up, host, 7, by decide +kernel⟩,
    ⟨{ up with boot := { up.boot with outOfService := true } }, host, 7, by decide +kernel⟩,
    ⟨host, 7, 47, (upOn [(liveKey (Key.capPipe 47), 255), (Key.calTarget, 47)]), by decide +kernel⟩,
    ⟨host, 7, 3, (on (upLane (.eth 3) lnActive {}) [(Key.calTarget, 3), (Key.ptpPortEnable 3, 0)]), by decide +kernel⟩,
    ⟨(upOn [(Key.bellPinMode 0, 1)]), host, 7, by decide +kernel⟩,
    ⟨up, host, 7, by decide +kernel⟩,
    ⟨up, host, 7, by decide +kernel⟩,
    ⟨host, 7, 1, 0, 0, { up with cal := { running := some (1, 0, 0) } }, by decide +kernel⟩,
    ⟨(upOn ((List.range 48).map fun i => (liveKey (Key.capPipe i), 255))), host, 7, 23, by decide +kernel⟩,
    ⟨host, 7, 23, (upOn [(Key.testPipeFence 23, 1)]), by decide +kernel⟩,
    ⟨host, 7, 23, ((leBytes 8 0x1000000000 ++ leBytes 2 16 ++ leBytes 2 8 ++ [byteOf 8, byteOf 1, 0, 0] ++ leBytes 4 1000 ++ leBytes 2 0 ++ leBytes 12 (toTime96 (up.now + usUnits 10)) ++ leBytes 4 0 ++ leBytes 2 1 ++ leBytes 4 1000 ++ leBytes 4 0)), { upOn [(Key.testPipeFence 23, 1), (Key.memDramReady, 1), (Key.memHostSizeActive, 1024)] with doms := [(Key.testInjectDesc 23, ((leBytes 8 0x1000000000 ++ leBytes 2 16 ++ leBytes 2 8 ++ [byteOf 8, byteOf 1, 0, 0] ++ leBytes 4 1000 ++ leBytes 2 0 ++ leBytes 12 (toTime96 (up.now + usUnits 10)) ++ leBytes 4 0 ++ leBytes 2 1 ++ leBytes 4 1000 ++ leBytes 4 0)))] }, by decide +kernel⟩,
    ⟨host, 7, 23, ((Inject.mk [] 0 (some 1) false)), { up with pipes := [(23, { inj := some ((Inject.mk [] 0 (some 1) false)) })], frames := [{ fr with synthetic := true, pipe := some 23 }] }, by decide +kernel⟩,
    ⟨up, host, 7, 15, 0, by decide +kernel⟩,
    ⟨(upOn ((List.range 6).map fun i => (laneKey oEnable (.camera (42 + i)), 0))), host, 7, 7, by decide +kernel⟩,
    ⟨{ up with boot := { up.boot with outOfService := true } }, host, 7, by decide +kernel⟩⟩

/-- The premises of PtpActs are met. -/
theorem test_premises_PtpActs :
    (∃ (s : State) (n : Nat) (h : PtpHead), s.part.hasNx = true ∧ n < 4 ∧ s.ptpTakes n h = false) ∧
    (∃ (n : Nat) (s : State) (h : PtpHead), s.part.hasNx = true ∧ n < 4 ∧ s.ptpTakes n h = true) ∧
    (∃ (n : Nat) (s : State) (h : PtpHead), s.part.hasNx = true ∧ n < 4 ∧ s.ptpTakes n h = true) ∧
    (∃ (n : Nat) (s : State) (h : PtpHead), s.part.hasNx = true ∧ n < 4 ∧ s.ptpTakes n h = true ∧ (s.ptpPort n).measured = true ∧ (s.ptpPort n).lastSync.epoch = s.epoch) ∧
    (∃ (n : Nat) (s : State) (h : PtpHead), s.part.hasNx = true ∧ n < 4 ∧ s.ptpTakes n h = true) ∧
    (∃ (n : Nat) (s : State) (h : PtpHead), s.part.hasNx = true ∧ n < 4 ∧ s.ptpTakes n h = true ∧ s.nat Key.ptpProfile = 0 ∧ s.ptpState n = 3) ∧
    (∃ (n : Nat) (s : State) (h : PtpHead), s.part.hasNx = true ∧ n < 4 ∧ s.ptpTakes n h = true ∧ s.nat Key.ptpProfile ≠ 0) ∧
    (∃ (n : Nat) (s : State) (h : PtpHead), s.part.hasNx = true ∧ n < 4 ∧ s.ptpTakes n h = true ∧ (∀ m, m < 4 → m ≠ n → s.flag (Key.ptpPortEnable m) = false)) ∧
    (∃ (s : State), s.part.hasNx = true ∧ s.tbSource ≠ 2 ∧ s.syncInterval ≤ s.since s.tb.syncSent ∧ (∀ m, m < 4 → 0 < m → s.flag (Key.ptpPortEnable m) = false) ∧ s.flag (Key.ptpPortEnable 0) = true ∧ s.nat (laneKey oState (.eth 0)) = lnActive ∧ s.ptpState 0 = 3 ∧ s.nat Key.ptpProfile ≠ 0) :=
  ⟨⟨up, 3, (headFor up), by decide +kernel⟩,
    ⟨3, (on (upLane (.eth 3) lnActive {}) [(Key.tbSource, 1), (Key.ptpPortEnable 3, 1)]), (headFor up), by decide +kernel⟩,
    ⟨3, (on (upLane (.eth 3) lnActive {}) [(Key.tbSource, 1), (Key.ptpPortEnable 3, 1)]), (headFor up), by decide +kernel⟩,
    ⟨3, { on (upLane (.eth 3) lnActive {}) [(Key.tbSource, 1), (Key.ptpPortEnable 3, 1)] with tb := { ports := [(3, { measured := true })] } }, (headFor up), by decide +kernel⟩,
    ⟨3, (on (upLane (.eth 3) lnActive {}) [(Key.tbSource, 1), (Key.ptpPortEnable 3, 1)]), (headFor up), by decide +kernel⟩,
    ⟨3, (on (upLane (.eth 3) lnActive {}) [(Key.tbSource, 1), (Key.ptpPortEnable 3, 1), (Key.ptpPortState 3, 3), (Key.ptpProfile, 0)]), ((headFor (upOn [(Key.ptpProfile, 0)]))), by decide +kernel⟩,
    ⟨3, (on (upLane (.eth 3) lnActive {}) [(Key.tbSource, 1), (Key.ptpPortEnable 3, 1), (Key.ptpProfile, 2)]), ((headFor (upOn [(Key.ptpProfile, 2)]))), by decide +kernel⟩,
    ⟨3, (on (upLane (.eth 3) lnActive {}) [(Key.tbSource, 1), (Key.ptpPortEnable 3, 1), (Key.ptpPortEnable 0, 0), (Key.ptpPortEnable 1, 0), (Key.ptpPortEnable 2, 0)]), (headFor up), by decide +kernel⟩,
    ⟨(on (upLane (.eth 0) lnActive {}) [(Key.tbSource, 1), (Key.ptpPortEnable 0, 1), (Key.ptpPortEnable 1, 0), (Key.ptpPortEnable 2, 0), (Key.ptpPortEnable 3, 0), (Key.ptpPortState 0, 3), (Key.ptpProfile, 1)]), by decide +kernel⟩⟩

/-- The premises of TimeBaseActs are met. -/
theorem test_premises_TimeBaseActs :
    (∃ (s : State), (s.tbSource = 1 ∨ s.tbSource = 3) ∧ s.sourceSilent = true ∧ s.tbState = tbLocked) ∧
    (∃ (s : State), (s.tbSource = 1 ∨ s.tbSource = 3) ∧ s.sourceSilent = true ∧ s.tbState = tbAcquire ∧ s.firstDecided = false) ∧
    (∃ (s : State), (s.tbSource = 1 ∨ s.tbSource = 3) ∧ s.sourceSilent = true ∧ s.tbState = tbDiscont ∧ s.tb.slewing = true) ∧
    (∃ (t : Nat) (n : Nat) (s : State), s.tb.pathHold = some t ∧ t ≤ s.cycles ∧ s.steerPort = some n ∧ s.isRing n = true ∧ s.ringA ≠ s.ringB ∧ (s.ptpPort n).alone = true) ∧
    (∃ (t : Nat) (n : Nat) (s : State), s.tb.pathHold = some t ∧ t ≤ s.cycles ∧ s.steerPort = some n ∧ s.isRing n = true ∧ s.ringA ≠ s.ringB ∧ (s.ptpPort n).alone = false ∧ s.hears (s.otherRing n) = true ∧ s.ringAgrees = false ∧ (s.ptpPort (s.otherRing n)).changed = false) ∧
    (∃ (s : State), s.tb.slewing = true ∧ s.tb.slewEnd ≤ s.cycles) ∧
    (∃ (r : Reepoch) (s : State), s.tb.scheduled = some r ∧ r.ts ≤ (s.now : Int) ∧ s.commits.pending = [] ∧ s.bells.runs = []) ∧
    (∃ (s : State), s.tbSource = 2 ∧ s.tbState = tbLocked ∧ secCycles (s.nat Key.tbExtWatchdog) ≤ s.since (max s.tb.lastRateWrite s.tb.lockedSince)) ∧
    (∃ (s : State), s.flag Key.tbOscLost = false ∧ s.tbState = tbLocked) ∧
    (∃ (s : State), s.flag Key.tbOscLost = true) ∧
    (∃ (s : State), s.tbState = tbHoldover ∧ s.tb.holdAlarm = false ∧ secCycles (s.nat Key.tbHoldoverAlarm) ≤ s.since s.tb.holdSince) ∧
    (∃ (t : Nat) (s : State), s.tb.fastSince = some t ∧ secCycles 3600 ≤ s.since t ∧ s.tb.advised = none) :=
  ⟨⟨(upOn [(Key.tbSource, 3), (Key.tbState, 2)]), by decide +kernel⟩,
    ⟨(upOn [(Key.tbSource, 1), (Key.tbState, 1)]), by decide +kernel⟩,
    ⟨{ upOn [(Key.tbSource, 1), (Key.tbState, 4)] with tb := { slewing := true } }, by decide +kernel⟩,
    ⟨7, 1, { upOn [(Key.ptpRingPortA, 0), (Key.ptpRingPortB, 1)] with tb := { pathHold := some 7, steer := some 1, ports := [(1, { alone := true })] } }, by decide +kernel⟩,
    ⟨7, 1, { upOn [(Key.ptpRingPortA, 0), (Key.ptpRingPortB, 1), (Key.ptpPortState 0, 2), (Key.ptpPortOffset 0, 2 ^ 40)] with tb := { pathHold := some 7, steer := some 1 } }, by decide +kernel⟩,
    ⟨{ up with tb := { slewing := true, slewEnd := up.cycles } }, by decide +kernel⟩,
    ⟨⟨5, 3, false, false, false⟩, { up with tb := { scheduled := some ⟨5, 3, false, false, false⟩ } }, by decide +kernel⟩,
    ⟨(upOn [(Key.tbSource, 2), (Key.tbState, 2)]), by decide +kernel⟩,
    ⟨(upOn [(Key.tbState, 2)]), by decide +kernel⟩,
    ⟨(upOn [(Key.tbOscLost, 1)]), by decide +kernel⟩,
    ⟨(upOn [(Key.tbState, 3)]), by decide +kernel⟩,
    ⟨0, { up with tb := { fastSince := some 0 } }, by decide +kernel⟩⟩

/-- The premises of BellsAct are met. -/
theorem test_premises_BellsAct :
    (∃ (s : State) (f : Firing), s.firstFiring = some f ∧ s.bells.units.length < 256 ∧ f.deadline - (usUnits 1000 : Nat) ≤ (s.now : Int) ∧ s.missed f.deadline = false ∧ f.unit.entry < 4096 ∧ f.unit.sampled = true ∧ (s.ttEntry f.unit.entry).action ≠ 6) ∧
    (∃ (s : State) (f : Firing), s.firstFiring = some f ∧ s.bells.units.length < 256 ∧ f.deadline - (usUnits 1000 : Nat) ≤ (s.now : Int) ∧ s.missed f.deadline = false ∧ 4096 ≤ f.unit.entry) ∧
    (∃ (s : State) (f : Firing), s.firstFiring = some f ∧ f.deadline ≤ (s.now : Int) ∧ (256 ≤ s.bells.units.length ∨ s.missed f.deadline = true) ∧ f.unit.entry < 4096 ∧ (s.ttEntry f.unit.entry).action ≠ 2) ∧
    (∃ (s : State) (f : Firing), s.firstFiring = some f ∧ f.deadline ≤ (s.now : Int) ∧ (256 ≤ s.bells.units.length ∨ s.missed f.deadline = true) ∧ 4096 ≤ f.unit.entry) ∧
    (∃ (u : BellUnit) (s : State), s.bells.units = [u] ∧ u.entry < 4096 ∧ u.sampled = true ∧ s.reached u.act = true ∧ (s.ttEntry u.entry).action = 1) ∧
    (∃ (pin : Nat) (p : Pulse) (s : State), pin < 16 ∧ mapGet pin s.bells.pulses = some p ∧ p.ends ≤ s.cycles ∧ s.nat (Key.bellPinMode pin) ≠ 0) ∧
    (∃ (c : Commit) (s : State), s.waitingCommits = [c] ∧ s.reached c.at_ = true ∧ s.sup.dip = false) :=
  ⟨⟨{ up with doms := [(Key.ttTable, table (up.now + usUnits 500) 1 1000)], bells := { runs := [(0, { state := 1, grid := 0, armed := ⟨0, 0⟩, next := 0, fired := 0, skipped := 0, raised := [] })], units := [] } }, (ff { up with doms := [(Key.ttTable, table (up.now + usUnits 500) 1 1000)], bells := { runs := [(0, { state := 1, grid := 0, armed := ⟨0, 0⟩, next := 0, fired := 0, skipped := 0, raised := [] })], units := [] } }), by decide +kernel⟩,
    ⟨{ up with exps := [(0, { change := some chg })], ports := [(0, { lastStamp := some ⟨0, up.now + (usUnits 500 : Nat) - (usUnits (up.liveNat (Key.capFramePeriod 0)) : Nat) + (usUnits (up.nat (Key.expWriteLead 0)) : Nat)⟩ })] }, (ff { up with exps := [(0, { change := some chg })], ports := [(0, { lastStamp := some ⟨0, up.now + (usUnits 500 : Nat) - (usUnits (up.liveNat (Key.capFramePeriod 0)) : Nat) + (usUnits (up.nat (Key.expWriteLead 0)) : Nat)⟩ })] }), by decide +kernel⟩,
    ⟨{ { up with doms := [(Key.ttTable, table (up.now + 1000) 1 1000)], bells := { runs := [(0, { state := 1, grid := 0, armed := ⟨0, 0⟩, next := 0, fired := 0, skipped := 0, raised := [] })], units := [] } } with bells := { runs := [(0, { state := 1, grid := 0, armed := ⟨0, 0⟩, next := 0, fired := 0, skipped := 0, raised := [] })], units := List.replicate 256 ⟨5, 0, ⟨0, 0⟩, ⟨0, 0⟩, ⟨0, 0⟩, true, none⟩ } }, (ff { { up with doms := [(Key.ttTable, table (up.now + 1000) 1 1000)], bells := { runs := [(0, { state := 1, grid := 0, armed := ⟨0, 0⟩, next := 0, fired := 0, skipped := 0, raised := [] })], units := [] } } with bells := { runs := [(0, { state := 1, grid := 0, armed := ⟨0, 0⟩, next := 0, fired := 0, skipped := 0, raised := [] })], units := List.replicate 256 ⟨5, 0, ⟨0, 0⟩, ⟨0, 0⟩, ⟨0, 0⟩, true, none⟩ } }), by decide +kernel⟩,
    ⟨{ up with exps := [(0, { change := some chg })], ports := [(0, { lastStamp := some ⟨0, up.now + (usUnits 10 : Nat) - (usUnits (up.liveNat (Key.capFramePeriod 0)) : Nat) + (usUnits (up.nat (Key.expWriteLead 0)) : Nat)⟩ })], bells := { units := List.replicate 256 ⟨5, 0, ⟨0, 0⟩, ⟨0, 0⟩, ⟨0, 0⟩, true, none⟩ } }, (ff { up with exps := [(0, { change := some chg })], ports := [(0, { lastStamp := some ⟨0, up.now + (usUnits 10 : Nat) - (usUnits (up.liveNat (Key.capFramePeriod 0)) : Nat) + (usUnits (up.nat (Key.expWriteLead 0)) : Nat)⟩ })], bells := { units := List.replicate 256 ⟨5, 0, ⟨0, 0⟩, ⟨0, 0⟩, ⟨0, 0⟩, true, none⟩ } }), by decide +kernel⟩,
    ⟨(BellUnit.mk 0 0 ⟨0, up.now⟩ ⟨0, up.now⟩ ⟨0, up.now⟩ true none), { up with doms := [(Key.ttTable, table up.now 1 1000)], bells := { runs := [(0, { state := 1, grid := 0, armed := ⟨0, 0⟩, next := 0, fired := 0, skipped := 0, raised := [] })], units := [(BellUnit.mk 0 0 ⟨0, up.now⟩ ⟨0, up.now⟩ ⟨0, up.now⟩ true none)] } }, by decide +kernel⟩,
    ⟨15, ⟨up.cycles, 5⟩, { upOn [(Key.bellPinMode 15, 2)] with bells := { pulses := [(15, ⟨up.cycles, 5⟩)] } }, by decide +kernel⟩,
    ⟨(Commit.mk 1 0x40 2 0 ⟨0, 5⟩ true false false false 0 0 0 [⟨0, none, none, false, none⟩] [] [0]), { up with commits := { up.commits with pending := [(Commit.mk 1 0x40 2 0 ⟨0, 5⟩ true false false false 0 0 0 [⟨0, none, none, false, none⟩] [] [0])] } }, by decide +kernel⟩⟩

/-- The premises of CaptureActs are met. -/
theorem test_premises_CaptureActs :
    (∃ (i : Nat) (s : State) (sframe : Nat) (pos : Bool) (x : Line) (h : State), (i < s.part.ports ∧ s.laneUp (.camera i) = true ∧ s.openFrame i = none ∧ s.pwr.stopFs = false ∧ sframe < 2 ^ 32 ∧ s.liveNat (Key.capNexp i) < 256 ∧ s.liveNat (Key.capFormat i) < 256 ∧ s.steady (.camera i) x = true) ∧ x = framePacketLine pos k280 (beBytes 4 sframe ++ [byteOf (s.liveNat (Key.capNexp i)), byteOf (s.liveNat (Key.capFormat i)), 0, 0]) ∧ h = s.heard (.camera i) x) ∧
    (∃ (i : Nat) (s : State) (line : Nat) (pos : Bool) (stream : Byte) (format : Byte) (payload : Bytes) (x : Line) (h : State), (i < s.part.ports ∧ s.laneUp (.camera i) = true ∧ s.openFrame i = none ∧ (s.port i).discard = false ∧ line < 65536 ∧ payload.length < 65536 ∧ s.steady (.camera i) x = true) ∧ x = packetLine pos k277 k297 ([stream, format] ++ beBytes 2 line ++ beBytes 2 payload.length ++ payload) ∧ h = s.heard (.camera i) x) ∧
    (∃ (i : Nat) (line : Nat) (f : Frame) (s : State) (pos : Bool) (stream : Byte) (payload : Bytes) (x : Line) (h : State), (i < s.part.ports ∧ s.laneUp (.camera i) = true ∧ s.openFrame i = some f ∧ s.frameOf f.fid = some f ∧ 0 < line ∧ line < f.height ∧ line < 65536 ∧ f.format < 256 ∧ stream.toNat % 4 < f.nexp ∧ f.nextLine.getD (stream.toNat % 4) 0 = line ∧ s.ingressFull f = false ∧ payload.length = f.lineBytes ∧ payload.length < 65536 ∧ f.port = i ∧ s.steady (.camera i) x = true) ∧ x = packetLine pos k277 k297 ([stream, byteOf f.format] ++ beBytes 2 line ++ beBytes 2 payload.length ++ payload) ∧ h = s.heard (.camera i) x) ∧
    (∃ (i : Nat) (line : Nat) (f : Frame) (s : State) (pos : Bool) (stream : Byte) (format : Byte) (payload : Bytes) (x : Line) (h : State), (i < s.part.ports ∧ s.laneUp (.camera i) = true ∧ s.openFrame i = some f ∧ f.embedded < 16 ∧ line < 16 ∧ payload.length < 65536 ∧ s.steady (.camera i) x = true) ∧ x = packetLine pos k237 k297 ([stream, format] ++ beBytes 2 line ++ beBytes 2 payload.length ++ payload) ∧ h = s.heard (.camera i) x) ∧
    (∃ (i : Nat) (sframe : Nat) (lines : Nat) (f : Frame) (s : State) (pos : Bool) (x : Line) (h : State), (i < s.part.ports ∧ s.laneUp (.camera i) = true ∧ s.openFrame i = some f ∧ s.steady (.camera i) x = true) ∧ x = framePacketLine pos k284 (beBytes 4 sframe ++ beBytes 2 lines ++ [0, 0]) ∧ h = s.heard (.camera i) x) ∧
    (∃ (i : Nat) (f : Frame) (s : State), i < s.part.ports ∧ s.openFrame i = some f ∧ usCycles (f.framePeriod + s.liveNat (Key.capCadenceMargin i)) ≤ s.since f.arrived) ∧
    (∃ (i : Nat) (s : State) (t0 : Nat), i < s.part.ports ∧ (s.port i).lastFs = some t0 ∧ s.laneUp (.camera i) = true ∧ s.liveNat (Key.capTimeMode i) = 1 ∧ usCycles (s.liveNat (Key.capFramePeriod i) + s.liveNat (Key.capCadenceMargin i) + (s.port i).misses * s.liveNat (Key.capFramePeriod i)) ≤ s.since t0) :=
  ⟨⟨47, { on (upLane (.camera 47) lnActive { aligned := true }) [(liveKey (Key.capPipe 47), 0)] with frames := [] }, (2 ^ 32 - 1), false, _, _, by decide +kernel, rfl, rfl⟩,
    ⟨47, { on (upLane (.camera 47) lnActive { aligned := true }) [(liveKey (Key.capPipe 47), 0)] with frames := [] }, 65535, false, 0, 8, [], _, _, by decide +kernel, rfl, rfl⟩,
    ⟨47, 1, { fr with port := 47, pipe := some 21 }, { on (upLane (.camera 47) lnActive { aligned := true }) [(liveKey (Key.capPipe 47), 0), (liveKey (Key.capIngressLines 47), 16)] with frames := [{ fr with port := 47, pipe := some 21 }] }, false, 0, (List.replicate 16 5), _, _, by decide +kernel, rfl, rfl⟩,
    ⟨47, 15, { fr with port := 47, pipe := some 21 }, { on (upLane (.camera 47) lnActive { aligned := true }) [(liveKey (Key.capPipe 47), 0)] with frames := [{ fr with port := 47, pipe := some 21 }] }, false, 0, 8, [], _, _, by decide +kernel, rfl, rfl⟩,
    ⟨47, 7, 8, { fr with port := 47, pipe := some 21 }, { on (upLane (.camera 47) lnActive { aligned := true }) [(liveKey (Key.capPipe 47), 0)] with frames := [{ fr with port := 47, pipe := some 21 }] }, false, _, _, by decide +kernel, rfl, rfl⟩,
    ⟨47, { fr with port := 47, pipe := some 21 }, { on (upLane (.camera 47) lnActive { aligned := true }) [(liveKey (Key.capPipe 47), 0)] with frames := [{ fr with port := 47, pipe := some 21 }] }, by decide +kernel⟩,
    ⟨47, { on (upLane (.camera 47) lnActive { aligned := true }) [(liveKey (Key.capPipe 47), 0), (liveKey (Key.capTimeMode 47), 1)] with frames := [], ports := [(47, { lastFs := some 0 })] }, 0, by decide +kernel⟩⟩

/-- The premises of PipelineActs are met. -/
theorem test_premises_PipelineActs :
    (∃ (p : Nat) (k : Nat) (f : Frame) (s : State), s.part.has .pipe p = true ∧ k < 2 ∧ s.waitingFrame p k = some f ∧ s.inputBusy f = false ∧ s.pipeTakes p f = true ∧ (s.pipe p).restart = false) ∧
    (∃ (p : Nat) (f : Frame) (s : State), s.part.has .pipe p = true ∧ (s.frames.filter fun f => f.pipe = some p && f.handed && !f.closed && s.groupReady f) = [f] ∧ s.pipeTakes p f = true ∧ (s.pipe p).restart = false) ∧
    (∃ (i : Nat) (f : Frame) (s : State), i < s.part.ports ∧ s.inProgress i = some f ∧ s.isShared (f.pipe.getD 0) = true ∧ nsCycles f.linePeriod ≤ s.since (s.input f.inst).creditAt) ∧
    (∃ (p : Nat) (k : Nat) (j : StatJob) (s : State) (r : Bytes) (u : State), (s.part.has .pipe p = true ∧ k < 2 ∧ (s.statJobs.find? (·.inst = 2 * p + k)) = some j) ∧ r = j.header.take 42 ++ leBytes 4 (satAdd 32 (s.nat (Key.statRseq (2 * p + k))) 1) ++ leBytes 2 s.epoch ++ leBytes 12 (toTime96 s.now) ++ j.header.drop 42 ++ j.sections ∧ u = { (s.setDom (Key.statRecord (2 * p + k)) r).setObj (Key.statRseq (2 * p + k)) (satAdd 32 (s.nat (Key.statRseq (2 * p + k))) 1) with statJobs := s.statJobs.erase j }) ∧
    (∃ (i : Nat) (u : BellUnit) (c : Change) (s : State), i < s.part.ports ∧ (s.bells.units.find? fun u => u.entry = sendEntry i && s.reached u.act) = some u ∧ s.domainOn (laneDomain (.camera i)) = true ∧ s.laneUp (.camera i) = true ∧ (s.exp i).change = some c ∧ c.tag = none) :=
  ⟨⟨0, 0, { fr with handed := false }, { upOn [(liveKey (Key.capPipe 0), 0)] with frames := [{ fr with handed := false }] }, by decide +kernel⟩,
    ⟨0, { fr with slots := [⟨0, 0, List.replicate 16 1⟩] }, { upOn [(liveKey (Key.capPipe 0), 0)] with frames := [{ fr with slots := [⟨0, 0, List.replicate 16 1⟩] }] }, by decide +kernel⟩,
    ⟨0, fr, { upOn [(liveKey (Key.capPipe 0), 0), (liveKey (Key.capPipe 1), 0)] with frames := [fr] }, by decide +kernel⟩,
    ⟨0, 0, ((StatJob.mk 0 1000 (List.replicate 60 1) [2] 2 0)), { up with statJobs := [((StatJob.mk 0 1000 (List.replicate 60 1) [2] 2 0))] }, _, _, by decide +kernel, rfl, rfl⟩,
    ⟨0, ((BellUnit.mk (sendEntry 0) 0 ⟨0, 0⟩ ⟨0, 0⟩ ⟨0, 0⟩ true none)), chg, { upLane (.camera 0) lnActive {} with bells := { units := [((BellUnit.mk (sendEntry 0) 0 ⟨0, 0⟩ ⟨0, 0⟩ ⟨0, 0⟩ true none))] }, exps := [(0, { change := some chg })] }, by decide +kernel⟩⟩

/-- The premises of MergeActs are met. -/
theorem test_premises_MergeActs :
    (∃ (v : Nat) (o : OutFrame) (s : State), v < 64 ∧ (s.mrg.frames.filter fun o => o.stream = 960 + v && !o.queued && s.pastDeadline o) = [o] ∧ o.matches_ = []) ∧
    (∃ (v : Nat) (k : Nat) (o : OutFrame) (s : State), v < 64 ∧ (s.mrg.frames.filter fun o => o.stream = 960 + v && !o.queued && s.pastDeadline o) = [o] ∧ o.matches_ = [(k, .open_)] ∧ s.streamFrames (slotStream ((o.viewSet s.part).num (Key.warpSource k))) = []) ∧
    (∃ (s : State) (e : Nat) (c : Nat) (l : List Nat) (x : Entry), s.part.has .warpEngine e = true ∧ (((List.range 16).map (16 * e + ·)).filter fun c => s.coreState c = 0) = c :: l ∧ firstBy s.issueBefore (s.readyTiles e) = some x) ∧
    (∃ (c : Nat) (k : CoreSt) (s : State), s.part.has .core c = true ∧ mapGet c s.mrg.cores = some k ∧ s.outOf k.oid = none) ∧
    (∃ (c : Nat) (k : CoreSt) (o : OutFrame) (s : State), s.part.has .core c = true ∧ mapGet c s.mrg.cores = some k ∧ s.outOf k.oid = some o ∧ o.route ≠ 0) ∧
    (∃ (e : Entry) (s : State), s.nat (Key.pwrDomainState 54) = 2 ∧ s.firstEntry (s.mrg.entries.filter s.entryDue) = some e) ∧
    (∃ (n : Nat) (e : Entry) (o : OutFrame) (s : State) (q : Nat), s.part.has .codec n = true ∧ s.flag (Key.codecEngineFence n) = false ∧ s.nat (Key.pwrDomainState (52 + n / 2)) = 2 ∧ s.firstEntry (s.slicesReady n) = some e ∧ s.outOf e.oid = some o ∧ o.coded = some q ∧ o.emitted.contains e.row = false) :=
  ⟨⟨63, { ofr with stream := 1023, queued := false }, { up with mrg := { frames := [{ ofr with stream := 1023, queued := false }] } }, by decide +kernel⟩,
    ⟨63, 0, { ofr with stream := 1023, queued := false, matches_ := [(0, .open_)] }, { up with mrg := { frames := [{ ofr with stream := 1023, queued := false, matches_ := [(0, .open_)] }] } }, by decide +kernel⟩,
    ⟨{ up with mrg := { frames := [{ ofr with stream := 1023, set := { nums := [(Key.warpViewCtrl 63, 2 ^ 31)] } }] } }, 0, 0, [1, 2, 3, 4, 5, 6, 7, 8, 9, 10, 11, 12, 13, 14, 15], ((match firstBy { up with mrg := { frames := [{ ofr with stream := 1023, set := { nums := [(Key.warpViewCtrl 63, 2 ^ 31)] } }] } }.issueBefore ({ up with mrg := { frames := [{ ofr with stream := 1023, set := { nums := [(Key.warpViewCtrl 63, 2 ^ 31)] } }] } }.readyTiles 0) with | some x => x | none => ent)), by decide +kernel⟩,
    ⟨63, (CoreSt.mk 9 0 0), { up with mrg := { cores := [(63, (CoreSt.mk 9 0 0))] } }, by decide +kernel⟩,
    ⟨63, (CoreSt.mk 1 0 0), { ofr with stream := 1023 }, { up with mrg := { cores := [(63, (CoreSt.mk 1 0 0))], frames := [{ ofr with stream := 1023 }] } }, by decide +kernel⟩,
    ⟨ent, { up with mrg := { entries := [ent], frames := [ofr] } }, by decide +kernel⟩,
    ⟨0, (Entry.mk ⟨0, 0⟩ 0 7 0 0 1 false false false 0 0 0 ⟨0, 0⟩), { ofr with coded := some 0, tiles := [(0, ⟨List.replicate 512 0, false⟩)] }, { up with mrg := { entries := [ent], frames := [{ ofr with coded := some 0, tiles := [(0, ⟨List.replicate 512 0, false⟩)] }] } }, 0, by decide +kernel⟩⟩

/-- The premises of BridgeActs are met. -/
theorem test_premises_BridgeActs :
    (∃ (s : State) (p : Nat) (u : State) (frame : Bytes) (x : NxParsed) (v : State), (s.part.hasNx = true ∧ p < 4 ∧ s.nxUp p = true ∧ u.nxAdmits p (frame.take (frame.length - 4)) x = true ∧ reservedDst (beAt x.body 0 6) = false ∧ v.ptpOverUdp x x.tagged = false) ∧ u = (s.startSeen (.eth p)).addTo (Key.nxRxFrames p) 64 1 ∧ x = u.nxParse p (frame.take (frame.length - 4)) ∧ v = u.nxLearn p x.vid (beAt x.body 6 6)) ∧
    (∃ (s : State) (p : Nat) (u : State) (frame : Bytes), (s.part.hasNx = true ∧ p < 4 ∧ s.nxUp p = true ∧ u.nxAdmits p (frame.take (frame.length - 4)) (u.nxParse p (frame.take (frame.length - 4))) = false) ∧ u = (s.startSeen (.eth p)).addTo (Key.nxRxFrames p) 64 1) ∧
    (∃ (s : State), s.part.hasNx = true) ∧
    (∃ (n : Nat) (f : NxFrame) (s : State) (r : List NxFrame) (u : State), (s.part.hasNx = true ∧ n < 4 ∧ s.nxUp n = true ∧ (s.nxPort n).ptp = f :: r ∧ (s.nxPort n).sending = none) ∧ u = (s.updNx n fun p => { p with ptp := r, sending := none })) ∧
    (∃ (n : Nat) (c : Nat) (f : NxFrame) (s : State) (u : State), s.part.hasNx = true ∧ n < 4 ∧ s.nxUp n = true ∧ (s.nxPort n).ptp = [] ∧ s.nat (Key.nxGateEnable n) = 0 ∧ s.nat (Key.nxPreemptStatus n) = 0 ∧ s.nxPick n = some (c, some (f, u))) ∧
    (∃ (n : Nat) (s : State) (c : Nat), s.part.hasNx = true ∧ n < 4 ∧ s.nxUp n = true ∧ (s.nxPort n).ptp = [] ∧ s.nat (Key.nxGateEnable n) = 0 ∧ s.nxPick n = some (c, none)) ∧
    (∃ (s : State) (stream : Nat) (b : Bytes) (n : Nat) (last : Bool) (x : NxParsed) (v : State) (w : State), (s.part.hasNx = true ∧ s.nxUp 4 = true ∧ s.nxAdmits 4 b x = true ∧ ((s.nxSelect 4 x).all fun p => s.nxTakes p x true) = true) ∧ s.evFragment = some (stream, b, n, last) ∧ x = s.nxParse 4 b ∧ v = (s.nxSelect 4 x).foldl (fun t p => t.nxEnqueue p x) ((s.addTo (Key.nxRxFrames 4) 64 1).nxLearn 4 x.vid (beAt x.body 6 6)) ∧ w = { v with net := { v.net with evSeq := mapSet stream (((mapGetD stream (0, 0) v.net.evSeq).1 + 1) % 256, if last then ((mapGetD stream (0, 0) v.net.evSeq).2 + 1) % 65536 else (mapGetD stream (0, 0) v.net.evSeq).2) v.net.evSeq, evOffset := if last then 0 else v.net.evOffset + n } }) ∧
    (∃ (s : State) (stream : Nat) (b : Bytes) (n : Nat), s.part.hasNx = true ∧ s.evFragment = some (stream, b, n, true) ∧ s.nxUp 4 = true ∧ s.nxAdmits 4 b (s.nxParse 4 b) = false) ∧
    (∃ (n : Nat) (l : GateList) (s : State), s.part.hasNx = true ∧ n < 4 ∧ (s.nxPort n).change = some l ∧ s.reached l.base = true ∧ l.base.epoch = s.epoch) ∧
    (∃ (n : Nat) (c : Nat) (start : Nat) (left : Nat) (s : State) (len : Nat), s.part.hasNx = true ∧ n < 4 ∧ (s.nxPort n).sending = some (c, start, left) ∧ (s.gatesOpen n).testBit c = false ∧ s.cuttable n = some (c, len)) ∧
    (∃ (n : Nat) (s : State), s.part.hasNx = true ∧ n < 4 ∧ s.nat (Key.nxPreemptStatus n) = 1) ∧
    (∃ (n : Nat) (s : State), s.part.hasNx = true ∧ n < 4 ∧ s.nat (Key.nxPreemptStatus n) = 1 ∧ (s.nxPort n).verifyFails = 2) ∧
    (∃ (x : Session) (n : Nat) (s : State) (data : Bytes), s.part.hasNx = true ∧ x ∈ s.dap.sessions ∧ x.open_ = true ∧ isCan x.src = false ∧ (x.role = 2 ∨ x.role = 3) ∧ 16 ≤ data.length ∧ beAt data 0 1 = n ∧ n < 4 ∧ beAt data 1 1 = 0 ∧ (slice data 2 14).all (· = 0) = true ∧ s.nxUp n = true) :=
  ⟨⟨rx0, 0, _, rxFrame, _, _, by decide +kernel, rfl, rfl, rfl⟩,
    ⟨{ rx0 with doms := [(Key.nxVlanTable, [])] }, 0, _, rxFrame, by decide +kernel, rfl⟩,
    ⟨up, by decide +kernel⟩,
    ⟨3, (NxFrame.mk [1, 2] none), { upLane (.eth 3) lnActive {} with net := { ports := [(3, { ptp := [(NxFrame.mk [1, 2] none)] })] } }, [], _, by decide +kernel, rfl⟩,
    ⟨3, 7, (NxFrame.mk [1, 2] none), { on (upLane (.eth 3) lnActive {}) [(Key.nxGateEnable 3, 0), (Key.nxPreemptStatus 3, 0)] with net := { ports := [(3, { queues := [(7, [(NxFrame.mk [1, 2] none)])] })] } }, ((match { on (upLane (.eth 3) lnActive {}) [(Key.nxGateEnable 3, 0), (Key.nxPreemptStatus 3, 0)] with net := { ports := [(3, { queues := [(7, [(NxFrame.mk [1, 2] none)])] })] } }.nxPick 3 with | some (_, some (_, u)) => u | _ => { on (upLane (.eth 3) lnActive {}) [(Key.nxGateEnable 3, 0), (Key.nxPreemptStatus 3, 0)] with net := { ports := [(3, { queues := [(7, [(NxFrame.mk [1, 2] none)])] })] } })), by decide +kernel⟩,
    ⟨3, { on (upLane (.eth 3) lnActive {}) [(Key.nxGateEnable 3, 0), (Key.nxPreemptStatus 3, 2), (Key.nxPreempt 3, 255)] with net := { ports := [(3, { held := some (7, 100) })] } }, 7, by decide +kernel⟩,
    ⟨{ up with mrg := { video := [⟨[1, 2, 3, 4], ⟨0, 0⟩, []⟩] } }, (beAt [1, 2, 3, 4] 2 2 % 1024), (match { up with mrg := { video := [⟨[1, 2, 3, 4], ⟨0, 0⟩, []⟩] } }.evFragment with | some y => y.2.1 | none => []), 4, true, _, _, _, by decide +kernel, rfl, rfl, rfl, rfl⟩,
    ⟨{ up with mrg := { video := [⟨[1, 2, 3, 4], ⟨0, 0⟩, []⟩] }, doms := [(Key.nxVlanTable, [])] }, (beAt [1, 2, 3, 4] 2 2 % 1024), ((match { up with mrg := { video := [⟨[1, 2, 3, 4], ⟨0, 0⟩, []⟩] }, doms := [(Key.nxVlanTable, [])] }.evFragment with | some y => y.2.1 | none => [])), 4, by decide +kernel, rfl, by decide +kernel, none_admitted _ _ rfl⟩,
    ⟨3, ((GateList.mk ⟨0, 5⟩ 1000000 0 [(255, 1000000)] [1])), { up with net := { ports := [(3, { change := some ((GateList.mk ⟨0, 5⟩ 1000000 0 [(255, 1000000)] [1])) })] } }, by decide +kernel⟩,
    ⟨3, 0, (up.cycles - 300), 1500, { on (upLane (.eth 3) lnActive {}) [(Key.nxPreemptStatus 3, 2), (Key.nxPreempt 3, 255), (Key.nxGateEnable 3, 1)] with net := { ports := [(3, { oper := some ⟨⟨0, 0⟩, 1000000, 0, [(0, 1000000)], [1]⟩, sending := some (0, (up.cycles - 300), 1500) })] } }, (1500 - 300 * 25 / 24), by decide +kernel⟩,
    ⟨3, (on (upLane (.eth 3) lnActive {}) [(Key.nxPreemptStatus 3, 1)]), by decide +kernel⟩,
    ⟨3, { on (upLane (.eth 3) lnActive {}) [(Key.nxPreemptStatus 3, 1)] with net := { ports := [(3, { verifyFails := 2 })] } }, by decide +kernel⟩,
    ⟨{ host with src := .udp4 1 2 }, 3, { upLane (.eth 3) lnActive {} with dap := { up.dap with sessions := [{ host with src := .udp4 1 2 }] } }, ([byteOf 3, 0] ++ List.replicate 14 0), by decide +kernel⟩⟩

/-- The premises of DmaActs are met. -/
theorem test_premises_DmaActs :
    (∃ (e : Nat) (ch : Nat) (s : State), s.part.dmaPresent e = true ∧ s.nat (Key.dmaEngineState e) = 0 ∧ s.domainOn (engineDomain e) = true ∧ s.engineChannels e = [ch] ∧ paceFifo (s.nat (Key.dmaChPace e ch)) = 0xFFFF ∧ s.hasData e ch = true) ∧
    (∃ (e : Nat) (ch : Nat) (b : Burst) (s : State) (r : List Burst), s.part.dmaPresent e = true ∧ ch < 64 ∧ (s.xfer e ch).flight = b :: r ∧ s.chState e ch = dmaRunning ∧ b.pos + b.data.length < (s.srcShape e ch).bytes) ∧
    (∃ (e : Nat) (ch : Nat) (b : Burst) (s : State) (r : List Burst), s.part.dmaPresent e = true ∧ ch < 64 ∧ (s.xfer e ch).flight = b :: r ∧ s.chState e ch = dmaRunning ∧ (s.srcShape e ch).bytes ≤ b.pos + b.data.length) ∧
    (∃ (e : Nat) (ch : Nat) (s : State), s.part.dmaPresent e = true ∧ ch < 64 ∧ s.chState e ch = dmaDraining ∧ (s.xfer e ch).flight = []) ∧
    (∃ (e : Nat) (ch : Nat) (k : Nat) (s : State), s.part.dmaPresent e = true ∧ ch < 64 ∧ s.chState e ch = dmaLanding ∧ (s.xfer e ch).seq = some k) ∧
    (∃ (e : Nat) (ch : Nat) (s : State), s.part.dmaPresent e = true ∧ ch < 64 ∧ s.chState e ch = dmaLanding ∧ (s.xfer e ch).seq = none) ∧
    (∃ (e : Nat) (ch : Nat) (s : State), s.part.dmaPresent e = true ∧ s.nat (Key.dmaEngineState e) = 0 ∧ s.engineChannels e = [ch] ∧ haltable (s.chState e ch) = true ∧ (s.dmaEng e).errors = []) ∧
    (∃ (e : Nat) (ch : Nat) (t1 : Nat) (t2 : Nat) (s : State), s.part.dmaPresent e = true ∧ s.nat (Key.dmaEngineState e) = 0 ∧ s.engineChannels e = [ch] ∧ haltable (s.chState e ch) = true ∧ (s.dmaEng e).errors = [t1, t2] ∧ s.since t1 ≤ secCycles 1 ∧ s.since t2 ≤ secCycles 1) ∧
    (∃ (e : Nat) (s : State), s.part.dmaPresent e = true ∧ s.nat (Key.dmaEngineState e) = 1 ∧ (s.dmaEng e).heldUntil ≤ s.cycles) :=
  ⟨⟨10, 63, { upOn [(Key.dmaChState 10 63, dmaRunning), (Key.dmaChPace 10 63, 0xFFFF * 2 ^ 48), (Key.dmaChSrcAddr 10 63, 0x1000000000), (Key.dmaChDstAddr 10 63, 0x1000001000), (Key.dmaChSrcShape 10 63, 63 * 2 ^ 48), (Key.dmaChDstShape 10 63, 63 * 2 ^ 48)] with dma := { chans := [(64 * 10 + 63, {})] } }, by decide +kernel⟩,
    ⟨10, 63, (Burst.mk 0 0x1000000000 [⟨5, false⟩]), { upOn [(Key.dmaChState 10 63, dmaRunning), (Key.dmaChSrcShape 10 63, 63 * 2 ^ 48)] with dma := { chans := [(64 * 10 + 63, { flight := [(Burst.mk 0 0x1000000000 [⟨5, false⟩])] })] } }, [], by decide +kernel⟩,
    ⟨10, 63, (Burst.mk 0 0x1000000000 [⟨5, false⟩]), { upOn [(Key.dmaChState 10 63, dmaRunning)] with dma := { chans := [(64 * 10 + 63, { flight := [(Burst.mk 0 0x1000000000 [⟨5, false⟩])] })] } }, [], by decide +kernel⟩,
    ⟨10, 63, { upOn [(Key.dmaChState 10 63, dmaDraining)] with dma := { chans := [(64 * 10 + 63, {})] } }, by decide +kernel⟩,
    ⟨10, 63, 1, { upOn [(Key.dmaChState 10 63, dmaLanding)] with dma := { chans := [(64 * 10 + 63, { seq := some 1 })] } }, by decide +kernel⟩,
    ⟨10, 63, { upOn [(Key.dmaChState 10 63, dmaLanding)] with dma := { chans := [(64 * 10 + 63, {})] } }, by decide +kernel⟩,
    ⟨10, 63, { upOn [(Key.dmaChState 10 63, dmaRunning)] with dma := { chans := [(64 * 10 + 63, {})] } }, by decide +kernel⟩,
    ⟨10, 63, up.cycles, (up.cycles - secCycles 1), { upOn [(Key.dmaChState 10 63, dmaRunning)] with dma := { chans := [(64 * 10 + 63, {})], engines := [(10, { errors := [up.cycles, (up.cycles - secCycles 1)] })] } }, by decide +kernel⟩,
    ⟨10, (upOn [(Key.dmaEngineState 10, 1)]), by decide +kernel⟩⟩

/-- The premises of FifosAct are met. -/
theorem test_premises_FifosAct :
    (∃ (f : Nat) (s : State), s.part.fifoPresent f = true ∧ (s.fifo f).dropping = false ∧ (s.fifo f).words.length < fifoDepth f) ∧
    (∃ (f : Nat) (w : FifoWord) (s : State) (r : List FifoWord), s.part.fifoPresent f = true ∧ (s.fifo f).words = w :: r) ∧
    (∃ (c : Nat) (s : State), c < s.part.crossings ∧ (s.crossing c).request = none ∧ 0 < (s.crossing c).credits) ∧
    (∃ (c : Nat) (w : Nat) (t0 : Nat) (lim : Nat) (s : State), c < s.part.crossings ∧ (s.crossing c).request = some (w, t0, lim)) ∧
    (∃ (c : Nat) (w : Nat) (t0 : Nat) (lim : Nat) (s : State), c < s.part.crossings ∧ (s.crossing c).request = some (w, t0, lim) ∧ lim ≤ s.since t0 ∧ s.ownerHeld (s.part.owner c) = false ∧ s.reportOnly 1 = false) ∧
    (∃ (s : State) (m : Nat), s.part.memoryPresent m = true ∧ s.running = true ∧ m < 12 ∧ s.scrubPeriod m ≤ s.since (mapGetD m s.boot.release s.mems.scrubbed)) :=
  ⟨⟨635, { up with fifos := [(635, { words := List.replicate 255 (FifoWord.mk 0 false false) })] }, by decide +kernel⟩,
    ⟨635, (FifoWord.mk 7 true true), { up with fifos := [(635, { words := [(FifoWord.mk 7 true true)] })] }, [], by decide +kernel⟩,
    ⟨(Part.p48.crossings - 1), { up with crossings := [((Part.p48.crossings - 1), { credits := 1 })] }, by decide +kernel⟩,
    ⟨(Part.p48.crossings - 1), 7, 0, 5, { up with crossings := [((Part.p48.crossings - 1), { credits := 1, request := some (7, 0, 5) })] }, by decide +kernel⟩,
    ⟨(Part.p48.crossings - 1), 7, 0, 5, { up with crossings := [((Part.p48.crossings - 1), { credits := 1, request := some (7, 0, 5) })] }, by decide +kernel, by decide +kernel, by decide +kernel, owner_free _ (by decide +kernel) rfl rfl _, by decide +kernel⟩,
    ⟨up, 11, by decide +kernel⟩⟩

/-- The premises of BootActs are met. -/
theorem test_premises_BootActs :
    (∃ (s : State) (r : Nat), r < 9 ∧ s.boot.held ≠ some 0) ∧
    (∃ (s : State) (r : Nat), r < 9 ∧ s.boot.held = some 0) ∧
    (∃ (s : State) (node : Nat) (sel : Nat) (kind : Nat) (c : Nat), node < 128 ∧ sel < 4 ∧ s.boot.held = some kind ∧ s.sup.low = false ∧ s.flash.loader = some c) ∧
    (∃ (s : State) (node : Nat) (sel : Nat) (kind : Nat), node < 128 ∧ sel < 4 ∧ s.boot.held = some kind ∧ s.sup.low = false ∧ s.flash.loader = none) ∧
    (∃ (s : State) (density : Nat), s.dram.training = true ∧ s.boot.held = none ∧ density ∈ [4, 8, 12, 16] ∧ s.atReset Key.memDramRate ≠ 0 ∧ s.pwr.waking = none ∧ s.nat Key.pwrState ≠ 0) ∧
    (∃ (s : State) (density : Nat) (failures : List Nat) (u : State) (r : Nat), (s.dram.training = true ∧ s.boot.held = none ∧ density ∈ [4, 8, 12, 16] ∧ r ≠ 0 ∧ u.pwr.waking = none ∧ s.pwr.waking = none ∧ (u.dramTrained density r).nat Key.pwrState = 0) ∧ s.trainAt (s.atReset Key.memDramRate) failures = (u, r)) ∧
    (∃ (s : State), s.nat Key.fwState = 2 ∧ s.boot.held = none ∧ secCycles (s.nat Key.fwTrialTime) ≤ s.since s.boot.release) ∧
    (∃ (r : RollCall) (s : State), s.rollcall r.sid = some r ∧ r.report = none) ∧
    (∃ (p : Proposal) (s : State), s.prot.proposal = some p ∧ p.deferred = false ∧ secCycles 600 ≤ s.since p.opened) ∧
    (∃ (s : State) (c : Nat), s.part.has .cluster c = true ∧ mapGet c s.rcv.clusters ≠ none) :=
  ⟨⟨up, 8, by decide +kernel⟩,
    ⟨{ up with boot := { held := some 0 } }, 8, by decide +kernel⟩,
    ⟨{ State.reset with flash := { Flash.factory with } }, 127, 3, 0, 0, by decide +kernel⟩,
    ⟨{ State.reset with flash := { Flash.factory with loader0 := [], loader1 := [] } }, 127, 3, 0, by decide +kernel⟩,
    ⟨{ upOn [(Key.pwrState, 2), (Key.memDramRate, 6400)] with dram := { training := true } }, 16, by decide +kernel⟩,
    ⟨{ upOn [(Key.pwrState, 0), (Key.memDramRate, 6400)] with dram := { training := true } }, 16, [], _, _, by decide +kernel, rfl⟩,
    ⟨(upOn [(Key.fwState, 2)]), by decide +kernel⟩,
    ⟨(RollCall.mk 1 [1] none), { up with prot := { rollcalls := [(RollCall.mk 1 [1] none)] } }, by decide +kernel⟩,
    ⟨(Proposal.mk [] 0 [] 0 false), { up with prot := { proposal := some (Proposal.mk [] 0 [] 0 false) } }, by decide +kernel⟩,
    ⟨{ up with rcv := { clusters := [(9, 1)] } }, 9, by decide +kernel⟩⟩

/-- The premises of PowerActs are met. -/
theorem test_premises_PowerActs :
    (∃ (e : Entering) (s : State), s.pwr.entry = some e ∧ e.stage = 1 ∧ msCycles e.limit ≤ s.since e.since ∧ s.mrg.entries ≠ []) ∧
    (∃ (e : Entering) (s : State), s.pwr.entry = some e ∧ e.stage = 2 ∧ msCycles 10 ≤ s.since e.since) ∧
    (∃ (s : State), s.boot.held = none ∧ s.boot.mode = 0 ∧ (s.nat Key.pwrWakeMask).testBit 1 = true) ∧
    (∃ (s : State) (d : Nat), s.part.domainPresent d = true ∧ mapGet d s.pwr.switching = some 0) ∧
    (∃ (s : State) (d : Nat), s.part.domainPresent d = true ∧ mapGet d s.pwr.switching = some 1) ∧
    (∃ (s : State) (kind : Nat) (inst : Nat) (hertz : Nat), (s.part.islandPresent kind inst = true ∧ s.running = true ∧ (islandDomain kind inst).all s.domainOn = true ∧ hertz ≤ islandCeiling kind ∧ s.islandFloor kind inst ≤ hertz ∧ s.clockSupported kind inst hertz = true) ∧ s.betweenHandshakes kind inst = true) ∧
    (∃ (s : State) (mv : Nat), s.boot.held = none ∧ 650 ≤ mv ∧ mv ≤ 850 ∧ mv % 5 = 0) ∧
    (∃ (s : State) (mv : Nat), s.boot.held = none ∧ 650 ≤ mv ∧ mv ≤ 850 ∧ mv % 5 = 0) ∧
    (∃ (s : State) (c : Int), s.boot.held = none ∧ s.obj Key.pwrTjThrottle ≤ c ∧ c ≤ 1500 ∧ s.pwr.hot = false) ∧
    (∃ (s : State) (c : Int), s.boot.held = none ∧ -400 ≤ c ∧ c ≤ s.obj Key.pwrTjThrottle - 20) ∧
    (∃ (s : State) (c : Int), s.boot.held = none ∧ s.boot.mode = 0 ∧ 1300 ≤ c ∧ c ≤ 1500 ∧ s.nat Key.pwrState = 0 ∧ s.pwr.entry = none) ∧
    (∃ (s : State) (c : Int), s.boot.held = none ∧ s.boot.mode = 0 ∧ 1300 ≤ c ∧ c ≤ 1500 ∧ (s.nat Key.pwrState = 1 ∨ s.nat Key.pwrState = 2)) :=
  ⟨⟨(Entering.mk 1 1 0 100), { up with pwr := { entry := some (Entering.mk 1 1 0 100) }, mrg := { entries := [ent], frames := [ofr] } }, by decide +kernel⟩,
    ⟨(Entering.mk 1 2 0 100), { up with pwr := { entry := some (Entering.mk 1 2 0 100) } }, by decide +kernel⟩,
    ⟨(upOn [(Key.pwrWakeMask, 2)]), by decide +kernel⟩,
    ⟨{ up with pwr := { switching := [(58, 0)] } }, 58, by decide +kernel⟩,
    ⟨{ up with pwr := { switching := [(58, 1)] } }, 58, by decide +kernel⟩,
    ⟨(upOn (((List.range 48).map fun i => (liveKey (Key.capPipe i), 255)))), 2, 0, (islandCeiling 2), by decide +kernel, no_handshake _ rfl _ _⟩,
    ⟨up, 850, by decide +kernel⟩,
    ⟨up, 650, by decide +kernel⟩,
    ⟨up, (up.obj Key.pwrTjThrottle), by decide +kernel⟩,
    ⟨up, (-400), by decide +kernel⟩,
    ⟨up, 1300, by decide +kernel⟩,
    ⟨(upOn [(Key.pwrState, 2)]), 1300, by decide +kernel⟩⟩

/-- The premises of SupplyAndWatchdogsAct are met. -/
theorem test_premises_SupplyAndWatchdogsAct :
    (∃ (s : State) (rail : Nat), rail < 9 ∧ s.monitored = true ∧ s.sup.dip = false) ∧
    (∃ (s : State) (rail : Nat) (us : Nat), rail < 9 ∧ s.monitored = true ∧ s.sup.dip = true ∧ us = s.since s.sup.since / usCycles 1 + 2) ∧
    (∃ (p : Nat) (stage : Nat) (f : Frame) (s : State) (r : List Frame), s.part.has .pipe p = true ∧ s.pipeWork p = f :: r ∧ (stage < 16 ∨ stage = 0xFF) ∧ s.running = true ∧ s.domainOn (pipeDomain p) = true ∧ s.resetting (p / 3) = false ∧ (s.pipe p).restart = false ∧ (s.pipe p).watch.any s.expired = true ∧ s.reportOnly 2 = false) ∧
    (∃ (p : Nat) (f : Frame) (s : State), s.part.has .pipe p = true ∧ s.restartFs p = some f ∧ (s.pipe p).restart = true ∧ s.running = true) ∧
    (∃ (s : State) (h : Nat) (cause : Nat) (ch : Nat), h < s.part.hubs ∧ s.running = true ∧ s.hubStuck h cause ch = true ∧ s.domainOn (6 * h + 5) = true ∧ s.resetting h = false ∧ s.bistOn h = false ∧ s.reportOnly 3 = false ∧ s.nat Key.rcvHubLimit = 0) ∧
    (∃ (s : State), s.running = true ∧ s.expired s.boot.beat = true) :=
  ⟨⟨up, 8, by decide +kernel⟩,
    ⟨{ up with sup := { dip := true, since := up.cycles - 10 } }, 8, 2, by decide +kernel⟩,
    ⟨0, 15, fr, { up with frames := [fr], pipes := [(0, { watch := some (0, 0) })] }, [], by decide +kernel⟩,
    ⟨0, { fr with handed := false }, { up with frames := [{ fr with handed := false }], pipes := [(0, { restart := true })] }, by decide +kernel⟩,
    ⟨{ upOn [(Key.rcvHubLimit, 0)] with rcv := { hubWatch := [(7, 0, 0)] } }, 7, 1, 0, by decide +kernel⟩,
    ⟨{ up with boot := { up.boot with beat := (0, 0) } }, by decide +kernel⟩⟩

/-- The premises of CalAndTestAct are met. -/
theorem test_premises_CalAndTestAct :
    (∃ (trims : Bytes) (s : State), s.cal.saving = some trims ∧ s.sup.dip = false ∧ s.boot.held = none) ∧
    (∃ (target : Nat) (start : Nat) (s : State), s.cal.running = some (1, target, start) ∧ secCycles (s.nat Key.calOscGate) + msCycles 10 ≤ s.since start) ∧
    (∃ (m : CalMeasurement) (c : Nat) (target : Nat) (start : Nat) (s : State) (u : State) (r : CalOutcome), (s.cal.running = some (c, target, start) ∧ m ≠ .referenceAbsent ∧ m ≠ .linkLost ∧ s.calDuration c ≤ s.since start) ∧ s.calOutcome c target m = some (r, u)) ∧
    (∃ (c : Nat) (target : Nat) (start : Nat) (s : State), s.cal.running = some (c, target, start) ∧ (c = 1 ∨ c = 2 ∨ c = 5) ∧ msCycles 10 ≤ s.since start) ∧
    (∃ (target : Nat) (start : Nat) (s : State), s.cal.running = some (4, target, start)) ∧
    (∃ (p : Nat) (j : Inject) (s : State), s.part.has .pipe p = true ∧ (s.pipe p).inj = some j ∧ j.stopping = false ∧ j.left ≠ some 0 ∧ s.reached j.capture = true) ∧
    (∃ (m : Nat) (s : State), s.part.has .cluster m = true ∧ s.bistOn m = true) ∧
    (∃ (m : Nat) (s : State) (fails : Nat) (first : Nat), s.part.has .cluster m = true ∧ s.bistOn m = true ∧ 0 < fails ∧ fails < 2 ^ 32 ∧ first < 2 ^ 64) :=
  ⟨⟨[1, 2], { up with cal := { saving := some [1, 2] } }, by decide +kernel⟩,
    ⟨0, 0, { up with cal := { running := some (1, 0, 0) } }, by decide +kernel⟩,
    ⟨(.oscCycles 30000000000), 1, 0, 0, { up with cal := { running := some (1, 0, 0) } }, _, _, by decide +kernel, rfl⟩,
    ⟨5, 0, 0, { up with cal := { running := some (5, 0, 0) } }, by decide +kernel⟩,
    ⟨3, 0, { up with cal := { running := some (4, 3, 0) } }, by decide +kernel⟩,
    ⟨0, ((Inject.mk (leBytes 8 0x1000000000 ++ leBytes 2 16 ++ leBytes 2 8 ++ [byteOf 8, byteOf 1, 0, 0] ++ leBytes 4 1000 ++ List.replicate 28 0) 0 (some 1) false)), { up with pipes := [(0, { inj := some ((Inject.mk (leBytes 8 0x1000000000 ++ leBytes 2 16 ++ leBytes 2 8 ++ [byteOf 8, byteOf 1, 0, 0] ++ leBytes 4 1000 ++ List.replicate 28 0) 0 (some 1) false)) })] }, by decide +kernel⟩,
    ⟨9, (upOn [(Key.testBistResult 9, 1)]), by decide +kernel⟩,
    ⟨9, (upOn [(Key.testBistResult 9, 1)]), 3, 5, by decide +kernel⟩⟩

/-- The premises of StepKeepsMemoryForm are met. -/
theorem test_premises_StepKeepsMemoryForm :
    (∃ (s : State) (t : State), Memory.wf s.mem = true ∧ step s = .next t) :=
  ⟨{ up with pending := [.supplyResetRelease], mem := [(5, 1)] }, { up with sup := { up.sup with low := false }, mem := [(5, 1)] }, by decide +kernel, rfl⟩

/-- The premises of StepTakesOneCommand are met. -/
theorem test_premises_StepTakesOneCommand :
    (∃ (s : State) (t : State), step s = .next t) :=
  ⟨{ up with pending := [.supplyResetRelease] }, { up with sup := { up.sup with low := false } }, rfl⟩

/-- The premises of CommandsTakeNoTime are met. -/
theorem test_premises_CommandsTakeNoTime :
    ∃ (c : Instr) (s t : State), exec c s = .next t ∧ c ≠ .powerOnReset ∧ ∀ rail, c ≠ .supplyReset rail :=
  ⟨.supplyResetRelease, up, _, rfl, by simp, by simp⟩

/-- The premises of MemoryStaysElsewhere are met. -/
theorem test_premises_MemoryStaysElsewhere :
    ∃ (c : Instr) (s t : State), reachesMemory c = false ∧ exec c s = .next t := ⟨.supplyResetRelease, up, _, rfl, rfl⟩

/-- The premises of BurstLandsAtItsAddress are met. -/
theorem test_premises_BurstLandsAtItsAddress :
    (∃ (e : Nat) (ch : Nat) (b : Burst) (s : State) (r : List Burst), Memory.wf s.mem = true ∧ s.part.dmaPresent e = true ∧ ch < 64 ∧ (s.xfer e ch).flight = b :: r ∧ s.chState e ch = dmaRunning ∧ b.pos + b.data.length < (s.srcShape e ch).bytes) :=
  ⟨10, 63, (Burst.mk 0 0x1000000000 [⟨5, false⟩]), { upOn [(Key.dmaChState 10 63, dmaRunning), (Key.dmaChSrcShape 10 63, 63 * 2 ^ 48)] with dma := { chans := [(64 * 10 + 63, { flight := [(Burst.mk 0 0x1000000000 [⟨5, false⟩])] })] } }, [], by decide +kernel⟩

/-- The premises of RequestsInOrder are met. -/
theorem test_premises_RequestsInOrder :
    (∃ (c : Instr) (s : State) (x : Session) (r : Req) (k : Nat) (p : Bytes), talks c s x r k p ∧
      dapTag x.key (dapBody k r.session r.seq p) ≠ r.tag ∧ x.tagFails < 15) ∧
    (∃ (c : Instr) (s : State) (x : Session) (r : Req) (k : Nat) (p : Bytes), talks c s x r k p ∧
      dapTag x.key (dapBody k r.session r.seq p) ≠ r.tag ∧ x.tagFails = 15) ∧
    (∃ (c : Instr) (s : State) (x : Session) (r : Req) (k : Nat) (p : Bytes), talks c s x r k p ∧
      dapTag x.key (dapBody k r.session r.seq p) = r.tag ∧ r.seq = x.lastSeq ∧ x.cached ≠ []) ∧
    (∃ (c : Instr) (s : State) (x : Session) (r : Req) (k : Nat) (p : Bytes), talks c s x r k p ∧
      dapTag x.key (dapBody k r.session r.seq p) = r.tag ∧ r.seq < x.lastSeq) ∧
    (∃ (c : Instr) (s : State) (x : Session) (r : Req) (k : Nat) (p : Bytes), talks c s x r k p ∧
      dapTag x.key (dapBody k r.session r.seq p) = r.tag ∧ x.lastSeq < r.seq ∧ x.open_ = true) :=
  ⟨⟨.keepalive (badReq host 6), upWith { host with tagFails := 14 }, { host with tagFails := 14 }, badReq host 6, 5, [],
      ⟨rfl, by decide +kernel, by decide, by decide, by decide +kernel, rfl⟩, bad_tag _ _ _ _, by decide⟩,
    ⟨.keepalive (badReq host 6), upWith { host with tagFails := 15 }, { host with tagFails := 15 }, badReq host 6, 5, [],
      ⟨rfl, by decide +kernel, by decide, by decide, by decide +kernel, rfl⟩, bad_tag _ _ _ _, rfl⟩,
    ⟨.keepalive (cachedHost.req 5 5 []), upWith cachedHost, cachedHost, cachedHost.req 5 5 [], 5, [], ⟨rfl, by decide +kernel, by decide, by decide, by decide +kernel, rfl⟩,
      req_tag _ _ _ _, rfl, by decide⟩,
    ⟨.keepalive (host.req 5 4 []), up, host, host.req 5 4 [], 5, [], ⟨rfl, by decide +kernel, by decide, by decide, by decide +kernel, rfl⟩, req_tag _ _ _ _, by decide⟩,
    ⟨.keepalive (host.req 5 6 []), up, host, host.req 5 6 [], 5, [], ⟨rfl, by decide +kernel, by decide, by decide, by decide +kernel, rfl⟩, req_tag _ _ _ _, by decide, rfl⟩⟩

/-- The premises of ForeignRequestsAreDiscarded are met. -/
theorem test_premises_ForeignRequestsAreDiscarded :
    ∃ (c : Instr) (s : State) (r : Req) (k : Nat) (p : Bytes), asking c = some (r, k, p) ∧ s.hearsHost r.src = true ∧
      ∀ x, s.session r.session = some x → x.src ≠ r.src :=
  ⟨.keepalive ⟨.can 2, 1, 6, []⟩, up, ⟨.can 2, 1, 6, []⟩, 5, [], rfl, by decide +kernel, fun x h => by
    have e : up.session 1 = some host := by decide +kernel
    have : x = host := by simpa [e] using h.symm
    subst this
    decide⟩

/-- The premises of OpensAreRefused are met. -/
theorem test_premises_OpensAreRefused :
    (∃ (s : State) (src : Source) (role : Nat) (nonce : Bytes), (s.hearsHost src = true ∧ nonce.length = 16 ∧ role ≤ 3 ∧
      s.recentOpens src < 4) ∧ (s.enrolled role = false ∨ s.admitsRole role src = false)) ∧
    (∃ (s : State) (src : Source) (role : Nat) (nonce : Bytes), s.hearsHost src = true ∧ nonce.length = 16 ∧ role ≤ 3 ∧
      s.recentOpens src < 4 ∧ s.enrolled role = true ∧ s.admitsRole role src = true ∧ 8 ≤ s.dap.sessions.length) ∧
    (∃ (s : State) (src : Source) (role : Nat) (nonce : Bytes), s.hearsHost src = true ∧ nonce.length = 16 ∧ role ≤ 3 ∧
      4 ≤ s.recentOpens src) ∧
    (∃ (s : State) (x : Session), s.session x.sid = some x ∧ x.open_ = false ∧ secCycles 1 ≤ s.since x.opened) :=
  ⟨⟨up, .can 255, 0, List.replicate 16 0, by decide +kernel, Or.inl (by decide +kernel)⟩,
    ⟨{ up with dap := { up.dap with sessions := List.replicate 8 host } }, .can 1, 3, List.replicate 16 0, by decide +kernel⟩,
    ⟨{ up with dap := { up.dap with opens := List.replicate 4 (transportBit (.can 1), up.cycles) } }, .can 1, 3,
      List.replicate 16 0, by decide +kernel⟩,
    ⟨upWith { host with open_ := false }, { host with open_ := false }, by decide +kernel⟩⟩

/-- The premises of AccessIsChecked are met. -/
theorem test_premises_AccessIsChecked :
    (∃ (s : State) (x : Session) (seq : Nat), s.awaits x seq = true) ∧
    (∃ (s : State) (c : Nat), s.part.locate 0xFFFF 1 = .error c) ∧
    (∃ (s : State) (n : Nat), s.part.locate 0x7022 0 = .ok (.count n)) ∧
    (∃ (s : State) (x : Session) (o : Obj) (i : Nat) (live : Bool), s.part.locate 0x7022 1 = .ok (.entry o i live) ∧
      s.mayWriteEntry x.role 0x7022 o = false) ∧
    (∃ (s : State) (x : Session) (o : Obj) (i : Nat) (live : Bool), s.part.locate 0x4800 1 = .ok (.entry o i live) ∧
      s.mayWriteEntry x.role 0x4800 o = true ∧ (live = true ∨ o.acc = .ro)) ∧
    (∃ (s : State) (x : Session) (o : Obj) (i : Nat), s.part.locate 0x1400 1 = .ok (.entry o i false) ∧
      s.mayWriteEntry x.role 0x1400 o = true ∧ o.acc = .rwp ∧ (s.flag Key.protSealed = true ∨ x.role ≠ 3)) ∧
    (∃ (s : State) (x : Session) (o : Obj) (i : Nat) (live : Bool), s.part.locate 0x1420 5 = .ok (.entry o i live) ∧
      s.mayReadIndex x.role 0x1420 = true ∧ o.acc = .wo) :=
  ⟨⟨up, host, 6, by decide +kernel⟩,
    ⟨up, 1, errEq (by decide +kernel)⟩,
    ⟨up, 48, okEq (by decide +kernel)⟩,
    ⟨up, { host with role := 0 }, rowAt 0x7022 1, 0, false, okEq (by decide +kernel), by decide +kernel⟩,
    ⟨up, host, rowAt 0x4000 1, 0, true, okEq (by decide +kernel), by decide +kernel⟩,
    ⟨upOn [(Key.protSealed, 1)], host, rowAt 0x1400 1, 0, okEq (by decide +kernel), by decide +kernel⟩,
    ⟨up, host, rowAt 0x1420 5, 0, false, okEq (by decide +kernel), by decide +kernel⟩⟩

/-- The premises of DomainEntriesMoveInBlocks are met. -/
theorem test_premises_DomainEntriesMoveInBlocks :
    (∃ (s : State) (x : Session) (seq : Nat) (index : Nat) (sub : Nat) (o : Obj) (i : Nat) (live : Bool), (s.awaits x seq = true ∧ index < 65536 ∧ sub < 256 ∧ o.ty = .domain ∧ s.offered index = true ∧ s.imageClosed o = false ∧ s.readBusy x.sid o i = false) ∧ s.toRead x.role index sub = .ok (.entry o i live)) ∧
    (∃ (s : State) (x : Session) (seq : Nat) (index : Nat) (sub : Nat) (value : Bytes) (o : Obj) (i : Nat), (s.awaits x seq = true ∧ index < 65536 ∧ sub < 256 ∧ value.length ≤ 1378 ∧ o.ty = .domain ∧ s.maskLocked o i = false) ∧ s.toWrite x.role index sub = .ok (o, i)) :=
  ⟨⟨up, host, 7, 0x7022, 1, (rowAt 0x7022 1), 0, false, by decide +kernel, okEq (by decide +kernel)⟩,
    ⟨up, host, 7, 0x7022, 1, [1], (rowAt 0x7022 1), 0, by decide +kernel, okEq (by decide +kernel)⟩⟩

/-- The premises of RefusalsChangeNothing are met. -/
theorem test_premises_RefusalsChangeNothing :
    (∃ (x : Session) (k : Nat) (p : Bytes) (s : State), k ≠ 0x13 ∧ k ≠ 0x14 ∧ (serve x k p s).code ≠ 0) :=
  ⟨host, 0x10, [], up, by decide +kernel⟩

/-- The premises of EventsAreLogged are met. -/
theorem test_premises_EventsAreLogged :
    (∃ s : State, s.ev.queue.length < 256) ∧ (∃ s : State, 256 ≤ s.ev.queue.length) ∧
    (∃ s : State, s.ev.lostPending = true ∧ (s.ev.queue.filter fun q => q.orphan || !q.owed.isEmpty).length < 256) :=
  ⟨⟨up, by decide⟩, ⟨fullQueue, by decide +kernel⟩,
    ⟨{ up with ev := { up.ev with lostPending := true } }, by decide⟩⟩

/-- The premises of TimesReadBack are met. -/
theorem test_premises_TimesReadBack :
    (∃ (t : Nat), t < 2 ^ 48 * secUnits) ∧
    (∃ (x : Nat), time96Valid x = true) :=
  ⟨⟨(2 ^ 48 * secUnits - 1), by decide +kernel⟩,
    ⟨(65535 * 2 ^ 48 + 999999999 * 65536 + 65535), by decide +kernel⟩⟩

/-- The premises of MessagesReadBack are met. -/
theorem test_premises_MessagesReadBack :
    (∃ (service : Nat) (session : Nat) (seq : Nat) (p : Bytes) (tag : Bytes), service < 256 ∧ session < 65536 ∧ seq < 2 ^ 32 ∧ p.length ≤ 1382 ∧ tag.length = (if service = 1 then 0 else 16)) ∧
    (∃ (b : Bytes) (m : Message), parseMessage true b = some m) :=
  ⟨⟨1, 65535, 0, [7], [], by decide +kernel⟩,
    ⟨(dapBody 0x10 3 7 [9] ++ List.replicate 16 5), ⟨0x10, 3, 7, [9], List.replicate 16 5⟩, by decide +kernel⟩⟩

/-- The premises of CanFramesMakeTheRequest are met. -/
theorem test_premises_CanFramesMakeTheRequest :
    (∃ (s : State) (h : Nat) (service : Nat) (session : Nat) (seq : Nat) (p : Bytes) (tag : Bytes), s.hearsHost (.can h) = true ∧ s.nodeId < 256 ∧ service < 256 ∧ service ≠ 1 ∧ session < 65536 ∧ seq < 2 ^ 32 ∧ p.length ≤ 1382 ∧ tag.length = 16) :=
  ⟨up, 255, 255, 65535, (2 ^ 32 - 1), (List.replicate 1382 3), (List.replicate 16 9), by decide +kernel⟩

/-- The premises of JtagPort are met. -/
theorem test_premises_JtagPort :
    (∃ (bits : List Bool), bits.length = 5) ∧
    (∃ (s : State), s.tapInstr.drives = true) :=
  ⟨⟨[true, false, true, false, true], by decide +kernel⟩,
    ⟨{ up with jtag := { instr := .extest }, boot := { up.boot with debug := 1, outOfService := true } }, by decide +kernel⟩⟩

/-! WellFormed: for each check a command that it refuses, on the smallest part, and one that passes. -/

/-- A request that stands for any. -/
def anyReq : Req := ⟨.can 1, 1, 6, []⟩

/-- A line that carries nothing. -/
def anyLine : Line := ⟨false, []⟩

/-- For each check of ports, pins, lanes and frames a command that names a unit which TBZ-9612 lacks. -/
def illFormedLinks : List Instr :=
  [.ptpMessage 0 ⟨0, 0, 0, 0⟩ (.announce ⟨0, 0, 0, 0, 0, 0, 0⟩), .ethLaneStateChange 0 true, .gateChangeInstant 0, .gateIntervalEnd 0, .preemptVerify 0 true,
   .ptpSyncTransmit, .addressAging 1 1, .evFrameAccept, .ptpRelayDatagram (.udp4 1 1) [], .ptpInstanceRestart anyReq 0 0,
   .ptpInstanceRestart anyReq 4 0, .txtsPop anyReq 4 0, .nxGateConfigChange anyReq 4, .bellPulseEnd 16,
   .seekAttempt (.eth 0), .transitionsDetected (.trunk 4) 0, .attemptTimeout (.trunk 0), .clockRecoveryLock (.eth 1),
   .detectTimeout (.eth 1), .symbolAlignment (.camera 12) [], .alignTimeout (.camera 12), .alignmentLost (.eth 0) anyLine,
   .messageResponseTimeout (.camera 12) 0, .tapStatus (.eth 0) anyLine, .identity (.eth 0) anyLine, .rateAck (.eth 0) anyLine,
   .loopAck (.eth 0) anyLine, .prbsAck (.eth 0) anyLine, .refused (.eth 0) anyLine, .trainingEvaluation (.eth 0) 0 0,
   .trainingBudgetExpiry (.eth 0), .verifyEnd (.eth 0) 0 0 0, .retrainDeferralTimeout (.eth 0), .laneDegradedRetry (.eth 0),
   .lossOfSignal (.trunk 0), .fomEvaluation (.trunk 0) 0 0 0, .prbsLock (.camera 48) [], .prbsLockLost (.trunk 1) 0 0 [],
   .laneIdleFreeze (.trunk 7), .writeAck 12 anyLine, .readData 12 anyLine, .fsArrival 12 anyLine, .linePacket 12 anyLine,
   .embeddedPacket 12 anyLine, .fePacket 12 anyLine, .feWatchdog 12, .cadenceMiss 12, .lineCreditGain 12, .expWriteSlot 12,
   .laneCommandRetrain anyReq (.eth 4), .laneCommandPortReset anyReq (.camera 48), .laneEnableWrite anyReq (.trunk 10) 1,
   .laneTestModeWrite anyReq (.camera 48) 1]

/-- The same for the units that pixels, packets, words and power pass through. -/
def illFormedUnits : List Instr :=
  [.fsAccepted 6 0, .fsAccepted 0 2, .statRecordComplete 0 2, .lineGroupTake 6, .pipeWatchdog 6 1, .pipelineRestart 6,
   .injectFrameStart 6, .expApplyChange anyReq 48, .expApplyRaw anyReq 48, .warpMatchDeadline 64, .warpTileIssue 1,
   .warpTileComplete 16, .warpCoreFence anyReq 64 1, .warpPartitionWrite anyReq 4 0, .codecEngineFence anyReq 4 1,
   .codecSliceComplete 1, .ethFrameReceive 0 [], .ethEgressSelect 0, .dmaStart anyReq 11 0, .dmaPause anyReq 0 64,
   .dmaResume anyReq 11 0, .dmaAbort anyReq 0 64, .dmaBurstGrant 10, .dmaBusError 10 0, .dmaHoldoffEnd 2, .dmaWriteAck 2 0,
   .dmaDrained 0 64, .dmaLanded 2 0, .dmaEngineCommand anyReq 11, .dmaRingReadWrite anyReq 11 0, .dmaRingConfigWrite anyReq 0 3 0,
   .fifoWordTransfer 124 .pop, .fifoDropRemainder anyReq 636, .fifoFlush anyReq 636, .fifoWmAck anyReq 636 0,
   .crossingWordTransfer 4000 .grant, .crossingWatchdog 4000, .scrubPass 2 [], .pwrDomainEnableWrite anyReq 64 1,
   .domainSwitchDone 12, .supplyDipBegin 9 0, .supplyDipEnd 9 0, .supplyReset 9, .hubWatchdog 2 1 0, .islandClockChange 2 6 0,
   .testPipeFence anyReq 24 1, .testInjectStart anyReq 24, .testInjectStop anyReq 24, .testGoldenSpec anyReq 16 0,
   .testBistCommand anyReq 12, .bistComplete 2 0 0, .clusterResetComplete 2]

theorem test_ill_formed_links : illFormedLinks.filter (wellFormed .p12) = [] := by decide +kernel

theorem test_ill_formed_units : illFormedUnits.filter (wellFormed .p12) = [] := by decide +kernel

/-- Commands that name what TBZ-9612 has. -/
theorem test_well_formed :
    [Instr.seekAttempt (.camera 11), .seekAttempt (.trunk 8), .tapRequest anyLine, .lossOfSignal (.camera 0), .feWatchdog 11,
      .fsAccepted 5 1, .lineGroupTake 5, .warpTileComplete 15, .codecSliceComplete 0, .dmaBurstGrant 9, .fifoWordTransfer 123 .pop,
      .domainSwitchDone 11, .supplyReset 8, .hubWatchdog 1 1 0, .bellPulseEnd 15, .scrubPass 8 [], .islandClockChange 2 5 0,
      .txtsPop anyReq 3 0, .laneCommandRetrain anyReq (.eth 3), .supplyResetRelease].all (wellFormed .p12) = true := by decide +kernel

/-- The full part has what the small one lacks. -/
theorem test_well_formed_full :
    [Instr.ptpSyncTransmit, .seekAttempt (.camera 47), .tapRequest anyLine, .lineGroupTake 23, .warpTileComplete 63,
      .dmaBurstGrant 10, .ethEgressSelect 5, .lossOfSignal (.eth 0)].all (wellFormed .p48) = true := by decide +kernel

/-- What an ill-formed command answers. -/
theorem test_ill_formed_stops : exec (.ethEgressSelect 4) State.reset = .fault .noSuchUnit := by rfl

/-! Examples of the spec: the expected values are those that its text prints. -/

/-- R40: cropper 479 stands at the second index. -/
theorem test_array_index : Key.pipeCropCtrl 479 = 0x5201 * 256 + 0xE1 := by decide

/-- Chapter 00: the rounding of the right shift. -/
theorem test_rshift : rshift 0x7F8 4 = 128 ∧ rshift (-24) 4 = -1 := by decide

/-- R78: the increments at 0 and at 1 part per million. -/
theorem test_increment : incrementFor 0 0 = 93824992236885 ∧ incrementFor 1000000000 0 = 93825086061877 := by decide

/-- R102: a trim of 2.5 ns. -/
theorem test_beacon_trim : tenthsToUnits 25 = 163840 := by decide

/-- R133: the two codes of K28.5, as the standard tables them, and D21.5, whose bits alternate. -/
theorem test_codes :
    (Chr.k k285).code false = 0b0011111010 ∧ (Chr.k k285).code true = 0b1100000101 ∧ (Chr.d 0xB5).code true = 0b1010101010 := by decide

/-- Chapter 05: a figure of merit. -/
theorem test_fom : fomOf 40 80 = 100 := by decide

/-- Chapter 08: the camera of the examples. -/
def px : PxParams :=
  { width := 3264, height := 2448, bits := 12, nexp := 2, cfa := 0, knees := [], black := List.replicate 8 1048576, dpcT := 0,
    defects := [], shading := #[], ratio1 := 4096, ratio2 := 0, knee0 := 12582912, knee1 := 0, width0 := 20, width1 := 0,
    mshift := 4, nrAmount := 0, nrShift := 0, wb := [7373, 4096, 4096, 4096],
    ccm := [6144, -1536, -512, -512, 5120, -512, -256, -1280, 5632], off := [0, 0, 0], kir := [0, 0, 0], bypass := 0,
    tone := #[], zones := #[], outCurve := #[], csc := 1, cscRange := 1, sharpGain := 0, sharpCoring := 0, sharpLimit := 0,
    masks := [], maskFill := [], maskOn := false, kernel := #[] }

/-- Chapter 08: one red sample through S0 and S1. -/
theorem test_raw_levels :
    s0 px 2600 = 10649600 ∧ s1 px 0 0 10649600 = 10240936 ∧ s0 px 403 = 1650688 ∧ s1 px 1 0 1650688 = 642243 := by decide

/-- Chapter 08: the four gains about the sample. -/
def gainTable : Array Nat :=
  (Array.replicate 1089 0).set! 240 5000 |>.set! 241 5100 |>.set! 273 5200 |>.set! 274 5300

/-- Chapter 08: the shading gain of the sample and S3. -/
theorem test_shading :
    shadingGain { px with shading := gainTable } 0 1000 600 = 5247 ∧
      s3 { px with shading := gainTable } 1000 600 10240936 = 13118699 := by decide +kernel

/-- Chapter 08: the merge of two exposures and the white balance. -/
theorem test_merge_balance : s4 px [13118699, 822717] = 821351 ∧ s6 px 1000 600 821351 = 1478472 := by decide

/-- Chapter 08: the colour matrix. -/
theorem test_matrix :
    (List.range 3).map (fun i => s8 px [#[#[92405]], #[#[120000]], #[#[80000]]] #[] i 0 0) = [83608, 128449, 66725] := by
  decide +kernel

/-- Chapter 08: the conversion to YCbCr. -/
theorem test_conversion : s11 px [21954, 27248, 19131] = [25941, 29748, 30777] := by decide

/-- Chapter 08: the packing of the pair. -/
theorem test_packing :
    packTile 0 [[[25941, 25941]], [[29748, 29748]], [[30777, 30777]]] = [0x65, 0x5D, 0x16, 0x55, 0xE1] := by decide +kernel

/-- Chapter 08: the pre-decimation of a view of 960 out of 3,264 columns. -/
theorem test_decimation : decimation 3264 960 = 1 := by decide

/-- Chapter 13: the transfer of the overlap copy. -/
theorem test_dma_shape :
    (shapeOf 0x1020000000 0x07F7000F00001000).bytes = 32640 ∧
      (shapeOf 0x1020000000 0x07F7000F00001000).hi = 0x1020000000 + 63479 := by decide

/-- Chapter 13: acknowledging a level that one more crossing has passed. -/
theorem test_mark_ack :
    ((fifoWmAck 0 3 { up with fifos := [(0, { count := 4, up := true, down := true })] }).toOption.map fun t =>
      ((t.fifo 0).count, (t.fifo 0).up, (t.fifo 0).down)) = some (1, true, true) := by decide +kernel

/-- Chapter 14: the channel of a word. -/
theorem test_dram_channel : dramChannel 0x1020000200 = 0 ∧ usableBytes 8 true = 4 * 7 * 1024 * 1024 * 1024 := by decide

/-- Chapter 17: the oscillator trim and a bell trim. -/
theorem test_calibration :
    (oscResult 100 300000456000).fields = some [(4, 8, ofSigned 64 (-1519997690))] ∧
      (bellResult 5 (-3) 2412 2689).fields = some [(17, 1, ofSigned 8 (-38))] := by decide

end Sys2Proof.Machine
end

section
/-! PROOF. O3: every command is gated by the presence of the units it names, and by nothing else (R2, R4). -/
namespace Sys2Proof.Machine

/-- A result that depends on whether units are there in one way only: with them it is a next state, without them the stop
`noSuchUnit` (log 10). -/
def GatedBy (present : Bool) (r : Res) : Prop := ∃ t, r = onUnit present t

theorem GatedBy.completes {present : Bool} {r : Res} (h : GatedBy present r) (hp : present = true) : ∃ t, r = .next t := by
  obtain ⟨t, rfl⟩ := h
  exact ⟨t, by simp [onUnit, hp]⟩

theorem GatedBy.stops {present : Bool} {r : Res} (h : GatedBy present r) (hp : present = false) : r = .fault .noSuchUnit := by
  obtain ⟨t, rfl⟩ := h
  simp [onUnit, hp]

/-! One rule for each shared form of a command's meaning. -/

theorem gatedBy_onUnit (present : Bool) (t : State) : GatedBy present (onUnit present t) := ⟨t, rfl⟩

theorem gatedBy_next (t : State) : GatedBy true (.next t) := ⟨t, rfl⟩

theorem gatedBy_asks (s : State) (r : Req) (service : Nat) (p : Bytes) : GatedBy true (s.asks r service p) := gatedBy_next _

theorem gatedBy_ends (s : State) (r : Req) (handle length crc : Nat) (entry : Nat → Bool) :
    GatedBy true (s.ends r handle length crc entry) := gatedBy_next _

theorem gatedBy_writes (s : State) (r : Req) (present : Bool) (o : Obj) (i : Nat) (v : Int) :
    GatedBy present (s.writes r present o i v) := gatedBy_onUnit _ _

theorem gatedBy_cendoRow (l : Lane) (f : State → State) (s : State) :
    GatedBy (lanePresent s.part l && isCendo l) (cendoRow l f s) := gatedBy_onUnit _ _

theorem gatedBy_laneRow (l : Lane) (f : State → State) (s : State) :
    GatedBy (lanePresent s.part l && receives l) (laneRow l f s) := gatedBy_onUnit _ _

theorem gatedBy_packetRow (port : Nat) (f : State → State) (s : State) :
    GatedBy (port < s.part.ports) (packetRow port f s) := gatedBy_onUnit _ _

theorem gatedBy_messageRow (l : Lane) (x : Line) (type : Nat) (f : Nat → Bytes → State → State) (s : State) :
    GatedBy (lanePresent s.part l && isCendo l) (messageRow l x type f s) := gatedBy_cendoRow _ _ _

/-- A camera port's lane is a Cendo lane, and is there where the port is. -/
theorem camera_lane_present (p : Part) (port : Nat) :
    (lanePresent p (.camera port) && isCendo (.camera port)) = decide (port < p.ports) := by
  simp [lanePresent, isCendo, receives, isEth]

theorem gatedBy_cameraMessageRow (port : Nat) (x : Line) (type : Nat) (f : Nat → Bytes → State → State) (s : State) :
    GatedBy (port < s.part.ports) (messageRow (.camera port) x type f s) :=
  camera_lane_present s.part port ▸ gatedBy_messageRow _ _ _ _ _

/-- TRK_RX0 is there on every part, whatever its number of transmitting lanes. -/
theorem Part.has_trkRx0 (p : Part) : p.has .trunkLane 8 = true := by simp [Part.has]

theorem gatedBy_trkRx0 (p : Part) (t : State) : GatedBy true (onUnit (p.has .trunkLane 8) t) :=
  p.has_trkRx0 ▸ gatedBy_onUnit _ _

/-- R2, R4: `wellFormed` is what every command is gated by. The commands are grouped by the form of their meaning. -/
theorem exec_gatedBy_wellFormed (c : Instr) (s : State) : GatedBy (wellFormed s.part c) (exec c s) := by
  cases c with
  | confirm | close | keepalive | read | write | blockOpen | blockData | blockEnd | commit | withdraw | subscribe | eventAck =>
    exact gatedBy_asks ..
  | ttTableWrite | measExtend | rollcallNonce | tandemProposal | tandemSign | roleSecretWrite | accessPlanWrite
  | calTrimsWrite =>
    -- Left alone, unification unfolds `ends` before `exec`.
    dsimp only [exec]
    exact gatedBy_ends ..
  | storeSave | storeLoad | storeDefaults | storeErase | tbSourceWrite | tbDiscontinuityActionSlew
  | tbDiscontinuityActionReepoch | tbRateAdjWrite | ptpInstanceRestart | ptpAsymFlagClear | txtsPop | laneCommandRetrain
  | laneCommandPortReset | laneEnableWrite | laneTestModeWrite | expApplyChange | expApplyRaw | warpCoreFence
  | warpPartitionWrite | codecEngineFence | trkEnableWrite | nxGateConfigChange | dmaStart | dmaPause | dmaResume | dmaAbort
  | dmaEngineCommand | dmaRingReadWrite | dmaRingConfigWrite | fifoDropRemainder | fifoFlush | fifoWmAck | fwActivate
  | fwConfirm | tandemCommand | enrolSeal | pwrCommandStandby | pwrCommandParked | pwrCommandRun | pwrDomainEnableWrite
  | rstDevice | rstCluster | rcvClear | calOscProcedure | calSupplyProcedure | calCameraProcedure | calEthProcedure
  | calBellProcedure | calSave | calRevert | calAbort | testPipeFence | testInjectStart | testInjectStop | testGoldenSpec
  | testBistCommand | testDramRetrain => exact gatedBy_writes ..
  | seekAttempt | transitionsDetected | attemptTimeout | clockRecoveryLock | detectTimeout | symbolAlignment | alignTimeout
  | alignmentLost | trainingEvaluation | trainingBudgetExpiry | verifyEnd | retrainDeferralTimeout | laneDegradedRetry =>
    exact gatedBy_cendoRow ..
  | tapStatus | identity | rateAck | loopAck | prbsAck | refused => exact gatedBy_messageRow ..
  | writeAck | readData => exact gatedBy_cameraMessageRow ..
  | lossOfSignal | fomEvaluation | prbsLock | prbsLockLost | laneIdleFreeze => exact gatedBy_laneRow ..
  | fsArrival | linePacket | embeddedPacket | fePacket => exact gatedBy_packetRow ..
  | timeBeaconReceive | tapRequest | linkReset | creditPacket | tunnelPacketReceive | trkPacketErrored | returnWidthDetected =>
    exact gatedBy_trkRx0 ..
  | ptpMessage | ptpSyncTransmit | bellPulseEnd | messageResponseTimeout | ethLaneStateChange | feWatchdog | cadenceMiss
  | lineCreditGain | fsAccepted | lineGroupTake | statRecordComplete | expWriteSlot | warpMatchDeadline | warpTileIssue
  | warpTileComplete | codecSliceComplete | ethFrameReceive | addressAging | ethEgressSelect | evFrameAccept
  | gateChangeInstant | gateIntervalEnd | preemptVerify | ptpRelayDatagram | dmaBurstGrant | dmaWriteAck | dmaDrained
  | dmaLanded | dmaBusError | dmaHoldoffEnd | fifoWordTransfer | crossingWordTransfer | crossingWatchdog | scrubPass
  | domainSwitchDone | supplyDipBegin | supplyDipEnd | supplyReset | pipeWatchdog | pipelineRestart | hubWatchdog
  | islandClockChange | injectFrameStart | bistComplete | clusterResetComplete => exact gatedBy_onUnit ..
  | canFdFrame | canFdSegmentTimeout | udpDatagram | arpRequest | neighbourSolicitation | openSession | blockTransferAbandon
  | halfOpenTimeout | sessionIdleTimeout | evtResendInterval | storeSaveComplete | sourceTimeout | pathHoldEnd | slewEnd
  | reepoch | tbExtWatchdog | tbOscLost | tbOscRestored | tbHoldoverAlarm | timeBeaconSend | oscRecalAdvice | bellLoad
  | bellStarved | bellFire | commitUnitFire | mergeRelease | trkPacketBoundary | trkCreditTimeout | trkTrainingDecision
  | trkWidenHold | trkLaneCountChange | powerOnReset | resetRelease | dramTrainingComplete | fwTrialTimeout | rollcallSigned
  | tandemWindowExpiry | pwrDrainLimit | outputDrainTimeout | wake | supplyResetRelease | fwWatchdog | avsWrite | tjThrottle
  | tjCritical | calProcedureComplete | tjThrottleRelease | calSaveComplete => exact gatedBy_next ..

/-- Settles O3: `wellFormed` gates every command. -/
theorem onlyAbsentUnitsStop : Obligations.OnlyAbsentUnitsStop := fun c s =>
  ⟨(exec_gatedBy_wellFormed c s).completes, (exec_gatedBy_wellFormed c s).stops⟩

end Sys2Proof.Machine
end

section
/-! PROOF. O56: TIME96 and back (R10). Both sides hold the seconds and, below them, the part of a second in units of 2^-16 ns; only
the radix differs. -/
namespace Sys2Proof.Machine

/-- The part of a second fits the 48 bits below the seconds. -/
theorem secUnits_lt : secUnits < 2 ^ 48 := by decide

theorem time96Valid_iff (x : Nat) : time96Valid x = true ↔ x % 2 ^ 48 < secUnits := by
  simp only [time96Valid, secUnits, decide_eq_true_eq]
  omega

theorem mod_secUnits_lt (t : Nat) : t % secUnits < 2 ^ 48 :=
  Nat.lt_trans (Nat.mod_lt t (show 0 < secUnits by decide)) secUnits_lt

theorem toTime96_mod (t : Nat) : toTime96 t % 2 ^ 48 = t % secUnits := by
  rw [toTime96, Nat.mul_add_mod_of_lt (mod_secUnits_lt t)]

theorem toTime96_div (t : Nat) : toTime96 t / 2 ^ 48 = t / secUnits := by
  rw [toTime96, Nat.add_comm, Nat.add_mul_div_right _ _ (by decide), Nat.div_eq_of_lt (mod_secUnits_lt t), Nat.zero_add]

theorem toTime96_valid (t : Nat) : time96Valid (toTime96 t) = true := by
  rw [time96Valid_iff, toTime96_mod]
  exact Nat.mod_lt t (by decide)

/-- Seconds that fit 48 bits make a value of 96 bits. -/
theorem toTime96_lt {t : Nat} (h : t < 2 ^ 48 * secUnits) : toTime96 t < 2 ^ 96 := by
  have hs : toTime96 t / 2 ^ 48 < 2 ^ 48 := by
    rw [toTime96_div]
    exact Nat.div_lt_of_lt_mul (by rwa [Nat.mul_comm])
  omega

theorem ofTime96_toTime96 (t : Nat) : ofTime96 (toTime96 t) = t := by
  rw [ofTime96, toTime96_div, toTime96_mod, Nat.div_add_mod']

theorem ofTime96_mod {x : Nat} (h : time96Valid x = true) : ofTime96 x % secUnits = x % 2 ^ 48 := by
  rw [ofTime96, Nat.mul_add_mod_of_lt ((time96Valid_iff x).mp h)]

theorem ofTime96_div {x : Nat} (h : time96Valid x = true) : ofTime96 x / secUnits = x / 2 ^ 48 := by
  rw [ofTime96, Nat.add_comm, Nat.add_mul_div_right _ _ (by decide), Nat.div_eq_of_lt ((time96Valid_iff x).mp h), Nat.zero_add]

theorem toTime96_ofTime96 {x : Nat} (h : time96Valid x = true) : toTime96 (ofTime96 x) = x := by
  rw [toTime96, ofTime96_div h, ofTime96_mod h, Nat.div_add_mod']

/-- Settles O56: the two encodings hold the same seconds and the same part of a second. -/
theorem timesReadBack : Obligations.TimesReadBack :=
  ⟨fun t ht => ⟨toTime96_valid t, toTime96_lt ht, ofTime96_toTime96 t⟩, fun _ => toTime96_ofTime96⟩

end Sys2Proof.Machine
end

section
/-! PROOF. Shared by the commands of FIFOs, power, supply and watchdogs: the gate of a command whose unit is there and whose condition
has come about, and what the readers of the state answer after an event. -/
namespace Sys2Proof.Machine

theorem onUnit_of_present {present : Bool} (h : present = true) (t : State) : onUnit present t = .next t := by simp [onUnit, h]

theorem State.whenever_of_true (s : State) {c : Bool} (h : c = true) (f : State → State) : s.whenever c f = f s := by
  simp [State.whenever, h]

theorem State.raiseAt_nat (s : State) (c l v : Nat) (p : String) (d : Bytes) {k : Nat} (h1 : k ≠ Key.evtLostCount)
    (h2 : k ≠ Key.evtLostSticky) : (s.raiseAt c l v p d).nat k = s.nat k := by
  rw [State.nat, State.nat, s.raiseAt_obj c l v p d h1 h2]

end Sys2Proof.Machine
end

section
/-! PROOF. O36: FIFOs, crossings and the scrub (R25, R26, R393, R395, R412, R456). -/
namespace Sys2Proof.Machine

/-! FIFOs (R393). -/

/-- R393: a FIFO that has room takes the producer's word. -/
theorem FifoSt.push_of_room {x : FifoSt} {depth : Nat} (hd : x.dropping = false) (hroom : x.words.length < depth) (w : Nat)
    (last : Bool) :
    x.push depth w last = { x with words := x.words ++ [FifoWord.mk w last false], producing := !last } := by
  simp [FifoSt.push, hd, Nat.not_le.mpr hroom]

/-- The oldest word leaves. -/
theorem FifoSt.pop_of_cons {x : FifoSt} {w : FifoWord} {r : List FifoWord} (h : x.words = w :: r) :
    x.pop = { x with words := r, consuming := !w.last, taken := some w, cuts := if w.cut then x.cuts + 1 else x.cuts } := by
  simp [FifoSt.pop, h]

theorem exec_fifoWordTransfer {s : State} {f : Nat} (hf : s.part.fifoPresent f = true) (m : FifoMove) :
    exec (.fifoWordTransfer f m) s = .next (fifoWordTransfer f m s) := onUnit_of_present hf _

/-! Crossings (R25, R26). -/

/-- R25: with a credit and none outstanding, a request goes out. -/
theorem CrossSt.step_request {x : CrossSt} (hidle : x.request = none) (hcredit : 0 < x.credits) (now limit w : Nat) :
    x.step now limit (.request w) = { x with request := some (w, now, limit) } := by
  simp [CrossSt.step, hidle, hcredit]

/-- R25: the acknowledgement of the outstanding request moves its word. -/
theorem CrossSt.step_acknowledge {x : CrossSt} {r : Nat × Nat × Nat} (h : x.request = some r) (now limit : Nat) :
    x.step now limit .acknowledge = { x with credits := x.credits - 1, request := none, moved := r.1 :: x.moved } := by
  simp [CrossSt.step, h]

theorem exec_crossingWordTransfer {s : State} {c : Nat} (hc : c < s.part.crossings) (m : CrossingMove) :
    exec (.crossingWordTransfer c m) s = .next (crossingWordTransfer c m s) := onUnit_of_present (decide_eq_true hc) _

/-- Settles O36: each command's unit is there, and its condition has come about. -/
theorem fifosAct : Obligations.FifosAct := by
  refine ⟨?push, ?pop, ?request, ?acknowledge, ?watchdog, ?scrub⟩
  case push =>
    intro s f w last hf hdrop hroom
    rw [exec_fifoWordTransfer hf, fifoWordTransfer, State.updFifo, FifoSt.push_of_room hdrop hroom]
  case pop =>
    intro s f w r hf hwords
    rw [exec_fifoWordTransfer hf, fifoWordTransfer, State.updFifo, FifoSt.pop_of_cons hwords]
  case request =>
    intro s c w hc hidle hcredit
    rw [exec_crossingWordTransfer hc, crossingWordTransfer, CrossSt.step_request hidle hcredit]
  case acknowledge =>
    intro s c w t0 lim hc hreq
    rw [exec_crossingWordTransfer hc, crossingWordTransfer, CrossSt.step_acknowledge hreq]
  case watchdog =>
    intro s c w t0 lim hc hreq hlim hheld hpolicy
    have hdue : (decide (lim ≤ s.since t0) && !s.ownerHeld (s.part.owner c)) = true := by simp [hlim, hheld]
    have hrun : exec (.crossingWatchdog c) s = .next (crossingWatchdog c s) := onUnit_of_present (decide_eq_true hc) _
    simp only [hrun, crossingWatchdog, hreq, s.whenever_of_true hdue, hpolicy, Bool.false_eq_true, if_false]
  case scrub =>
    intro s m a hm hrunning h12 hperiod
    have hdue : (s.running && (decide (m < 12) || (s.hasEcc m && s.flag Key.memDramReady)) &&
        decide (s.scrubPeriod m ≤ s.since (mapGetD m s.boot.release s.mems.scrubbed))) = true := by
      simp [hrunning, h12, hperiod]
    have hrun : exec (.scrubPass m [.corrected a]) s = .next (scrubPass m [.corrected a] s) := onUnit_of_present hm _
    rw [hrun, scrubPass, s.whenever_of_true hdue, List.foldl_cons, List.foldl_nil]

end Sys2Proof.Machine
end

section
/-! PROOF. O38: power (R27, R439, R441, R443, R445, R501, R509). -/
namespace Sys2Proof.Machine

/-! The junction temperature (R509). -/

/-- R509: storing the sensors' reading and its peak leaves the other entries. -/
theorem State.obj_noted_tj (s : State) (c v : Int) {k : Nat} (h1 : k ≠ Key.pwrTj) (h2 : k ≠ Key.pwrTjPeak) :
    ((s.setObj Key.pwrTj c).setObj Key.pwrTjPeak v).obj k = s.obj k := by
  rw [State.obj_setObj_other _ h2, State.obj_setObj_other _ h1]

/-- R509: the junction reaches the throttle threshold. -/
theorem State.noteTj_of_hot {s : State} {c : Int} (hc : s.obj Key.pwrTjThrottle ≤ c) (hcool : s.pwr.hot = false) :
    s.noteTj c = (((s.setObj Key.pwrTj c).setObj Key.pwrTjPeak (max (s.obj Key.pwrTjPeak) c)).withPwr fun p =>
      { p with hot := true }).raise 0x8004 1 "AX.SM" (leBytes 2 (ofSigned 16 c)) := by
  have hth v : ((s.setObj Key.pwrTj c).setObj Key.pwrTjPeak v).obj Key.pwrTjThrottle = s.obj Key.pwrTjThrottle :=
    s.obj_noted_tj c v (by decide) (by decide)
  simp [State.noteTj, hth, hc, hcool]

/-- R509: the junction falls 2 °C below the throttle threshold. -/
theorem State.noteTj_of_cool {s : State} {c : Int} (hc : c ≤ s.obj Key.pwrTjThrottle - 20) :
    s.noteTj c = ((s.setObj Key.pwrTj c).setObj Key.pwrTjPeak (max (s.obj Key.pwrTjPeak) c)).withPwr fun p =>
      { p with hot := false } := by
  have hth v : ((s.setObj Key.pwrTj c).setObj Key.pwrTjPeak v).obj Key.pwrTjThrottle = s.obj Key.pwrTjThrottle :=
    s.obj_noted_tj c v (by decide) (by decide)
  have hnot : ¬ s.obj Key.pwrTjThrottle ≤ c := by omega
  simp [State.noteTj, hth, hc, hnot]

/-- R509: a reading of the junction leaves an entry that goes on. -/
theorem State.noteTj_entry (s : State) (c : Int) : (s.noteTj c).pwr.entry = s.pwr.entry := by
  simp only [State.noteTj]
  split
  · rw [State.raise_pwr]; rfl
  · split <;> rfl

/-- R509: a reading of the junction leaves the power state. -/
theorem State.noteTj_pwrState (s : State) (c : Int) : (s.noteTj c).nat Key.pwrState = s.nat Key.pwrState := by
  have hset v : ((s.setObj Key.pwrTj c).setObj Key.pwrTjPeak v).nat Key.pwrState = s.nat Key.pwrState := by
    rw [State.nat, s.obj_noted_tj c v (by decide) (by decide), State.nat]
  simp only [State.noteTj]
  split
  · rw [State.raise_nat _ _ _ _ _ (by decide) (by decide)]; exact hset _
  · split <;> exact hset _

/-- R509: the critical junction as a command finds it in a running device. -/
theorem tjCritical_of_due {s : State} {c : Int} (hheld : s.boot.held = none) (hmode : s.boot.mode = 0) (hlo : 1300 ≤ c)
    (hhi : c ≤ 1500) :
    tjCritical c s = if s.nat Key.pwrState = 0 && !((s.noteTj c).pwr.critical && s.pwr.entry.isSome) then (s.noteTj c).enterCritical
      else (s.noteTj c).withPwr fun p => { p with critical := true } := by
  simp only [tjCritical]
  rw [s.whenever_of_true (by simp [hheld, hmode, hlo, hhi]), s.noteTj_pwrState, s.noteTj_entry]

/-! The core voltage (R501). -/

/-- R501: the set points that the regulator takes. -/
theorem avsWrite_of_setPoint {s : State} {mv : Nat} (hheld : s.boot.held = none) (hlo : 650 ≤ mv) (hhi : mv ≤ 850)
    (hstep : mv % 5 = 0) (ok : Bool) :
    avsWrite mv ok s =
      if ok then ((s.send (.avs mv)).setObj Key.pwrAvsPoint mv).setObj (Key.smTarget 0) mv
      else ((((s.send (.avs mv)).send (.avs mv)).send (.avs mv)).bump Key.pwrAvsFailures).raise 0x8003 2 "AX.SM"
        (leBytes 2 mv ++ leBytes 2 (s.nat Key.pwrAvsPoint)) := by
  simp only [avsWrite]
  rw [s.whenever_of_true (by simp [hheld, hlo, hhi, hstep]), State.send_nat]

/-! Domains (R439). -/

/-- R439: what a domain's switch stores when it is done: v = 1 on, 0 off. -/
def State.switched (s : State) (d v : Nat) : State :=
  { s with pwr := { s.pwr with switching := mapDel d s.pwr.switching } }.setObj (Key.pwrDomainState d) (2 * v)

/-- R439: a switch of a domain is done; the units of one that is on have power again. -/
theorem exec_domainSwitchDone {s : State} {d v : Nat} (hd : s.part.domainPresent d = true)
    (hv : mapGet d s.pwr.switching = some v) :
    exec (.domainSwitchDone d) s = .next ((if v = 1 then (s.switched d v).domainOn_ d else s.switched d v).raise 0x1202 0
      (pathDomain d) [byteOf d, byteOf (2 * v)]) := by
  have hrun : exec (.domainSwitchDone d) s = .next (domainSwitchDone d s) := onUnit_of_present hd _
  simp only [hrun, domainSwitchDone, hv, State.switched]

/-- Settles O38: each command's condition has come about, and the readings it makes after its first changes are as before them. -/
theorem powerActs : Obligations.PowerActs := by
  refine ⟨?drainLimit, ?drainTimeout, ?wake, ?switchedOff, ?switchedOn, ?clock, ?avs, ?avsFailed, ?throttle, ?release, ?critical,
    ?criticalAsleep⟩
  case drainLimit =>
    intro s e he hstage hlimit hentries
    have hdue : (decide (e.stage = 1) && decide (msCycles e.limit ≤ s.since e.since) && !s.mrg.entries.isEmpty) = true := by
      simp [hstage, hlimit, hentries]
    have hrun : exec .pwrDrainLimit s = .next (pwrDrainLimit s) := rfl
    simp only [hrun, pwrDrainLimit, he, s.whenever_of_true hdue]
  case drainTimeout =>
    intro s e he hstage hlimit
    have hdue : (decide (e.stage = 2) && decide (msCycles 10 ≤ s.since e.since)) = true := by simp [hstage, hlimit]
    have hrun : exec .outputDrainTimeout s = .next (outputDrainTimeout s) := rfl
    simp only [hrun, outputDrainTimeout, he, s.whenever_of_true hdue]
  case wake =>
    intro s hheld hmode hmask
    have hrun : exec .wake s = .next (wake s) := rfl
    rw [hrun, wake, s.whenever_of_true (by simp [hheld, hmode, hmask])]
  case switchedOff =>
    intro s d hd hv
    rw [exec_domainSwitchDone hd hv]
    rfl
  case switchedOn =>
    intro s d hd hv
    rw [exec_domainSwitchDone hd hv]
    rfl
  case clock =>
    intro s kind inst hertz hisland hrunning hpowered hbetween hceiling hfloor hsupported
    refine ⟨islandClockChange kind inst hertz s, onUnit_of_present hisland _, ?_⟩
    rw [islandClockChange, s.whenever_of_true
      (by simp [hrunning, hpowered, hbetween, hceiling, hfloor, hsupported])]
    rfl
  case avs =>
    intro s mv hheld hlo hhi hstep
    have hrun : exec (.avsWrite mv true) s = .next (avsWrite mv true s) := rfl
    rw [hrun, avsWrite_of_setPoint hheld hlo hhi hstep, if_pos rfl]
  case avsFailed =>
    intro s mv hheld hlo hhi hstep
    have hrun : exec (.avsWrite mv false) s = .next (avsWrite mv false s) := rfl
    rw [hrun, avsWrite_of_setPoint hheld hlo hhi hstep, if_neg Bool.false_ne_true]
  case throttle =>
    intro s c hheld hlo hhi hcool
    refine ⟨tjThrottle c s, rfl, ?_⟩
    rw [tjThrottle, s.whenever_of_true (by simp [hheld, hlo, hhi]), State.noteTj_of_hot hlo hcool]
  case release =>
    intro s c hheld hlo hhi
    refine ⟨tjThrottleRelease c s, rfl, ?_⟩
    rw [tjThrottleRelease, s.whenever_of_true (by simp [hheld, hlo, hhi]), State.noteTj_of_cool hhi]
  case critical =>
    intro s c hheld hmode hlo hhi hstate hentry
    refine ⟨tjCritical c s, rfl, ?_⟩
    rw [tjCritical_of_due hheld hmode hlo hhi, if_pos (by simp [hstate, hentry])]
  case criticalAsleep =>
    intro s c hheld hmode hlo hhi hstate
    refine ⟨tjCritical c s, rfl, ?_⟩
    have hasleep : s.nat Key.pwrState ≠ 0 := by omega
    rw [tjCritical_of_due hheld hmode hlo hhi, if_neg (by simp [hasleep])]

end Sys2Proof.Machine
end

section
/-! PROOF. O39: supply dips and the watchdogs of levels 2 to 4 (R33 to R37, R450 to R458, R516). -/
namespace Sys2Proof.Machine

/-! Level 3: what the hub watchdog reads after it has counted and told its expiry. -/

/-- R458: counting and telling an expiry leaves the resets of the last 60 s. -/
theorem State.hubResets_told (s : State) (k h c l v : Nat) (p : String) (d : Bytes) :
    ((s.bump k).raiseAt c l v p d).hubResets h = s.hubResets h := by
  simp [State.hubResets, State.since]

/-- R458: counting and telling an expiry leaves the limit of a hub's resets. -/
theorem State.rcvHubLimit_told (s : State) (h c l v : Nat) (p : String) (d : Bytes) :
    ((s.bump (Key.rcvHubCount h)).raiseAt c l v p d).nat Key.rcvHubLimit = s.nat Key.rcvHubLimit := by
  have hkey : Key.rcvHubLimit ≠ Key.rcvHubCount h := by simp only [Key.rcvHubLimit, Key.rcvHubCount]; omega
  rw [State.raiseAt_nat _ _ _ _ _ _ (by decide) (by decide), State.bump, State.nat_addTo_other _ hkey]

/-- Settles O39: each command's condition has come about, and the readings it makes after its first changes are as before them. -/
theorem supplyAndWatchdogsAct : Obligations.SupplyAndWatchdogsAct := by
  refine ⟨?dipBegin, ?dipEnd, ?pipe, ?restart, ?hub, ?firmware⟩
  case dipBegin =>
    intro s rail mv hrail hmon hdip
    have hrun : exec (.supplyDipBegin rail mv) s = .next (supplyDipBegin rail mv s) := onUnit_of_present (decide_eq_true hrail) _
    refine ⟨supplyDipBegin rail mv s, _, hrun, rfl, ?_⟩
    rw [supplyDipBegin, s.whenever_of_true (by simp [hmon, hdip])]
  case dipEnd =>
    intro s rail mv us hrail hmon hdip hus
    have hrun : exec (.supplyDipEnd rail mv) s = .next (supplyDipEnd rail mv s) := onUnit_of_present (decide_eq_true hrail) _
    refine ⟨supplyDipEnd rail mv s, _, hrun, rfl, ?_⟩
    rw [supplyDipEnd, s.whenever_of_true (by simp [hmon, hdip]), hus]
    simp only [State.raise_store, State.setObj_store, State.setFlag_store]
  case pipe =>
    intro s p stage f r hp hwork hstage hrunning hpowered hreset hrestart hwait hpolicy
    have hdue : ((decide (stage < 16) || decide (stage = 0xFF)) && s.running && s.domainOn (pipeDomain p) && !s.resetting (p / 3) &&
        !(s.pipe p).restart && (s.pipe p).watch.any s.expired) = true := by
      simp [hstage, hrunning, hpowered, hreset, hrestart, hwait]
    have hrun : exec (.pipeWatchdog p stage) s = .next (pipeWatchdog p stage s) := onUnit_of_present hp _
    simp only [hrun, pipeWatchdog, hwork, s.whenever_of_true hdue, hpolicy, Bool.false_eq_true, if_false]
  case restart =>
    intro s p f hp hfs hrestart hrunning
    have hdue : ((s.pipe p).restart && s.running) = true := by simp [hrestart, hrunning]
    have hrun : exec (.pipelineRestart p) s = .next (pipelineRestart p s) := onUnit_of_present hp _
    simp only [hrun, pipelineRestart, hfs, s.whenever_of_true hdue]
  case hub =>
    intro s h cause ch hh hrunning hstuck hpowered hreset hbist hpolicy hlimit
    have hdue : (s.running && s.hubStuck h cause ch && s.domainOn (6 * h + 5) && !s.resetting h && !s.bistOn h) = true := by
      simp [hrunning, hstuck, hpowered, hreset, hbist]
    refine ⟨hubWatchdog h cause ch s, onUnit_of_present (decide_eq_true hh) _, ?_⟩
    simp only [hubWatchdog, s.whenever_of_true hdue, hpolicy, State.rcvHubLimit_told, hlimit, State.hubResets_told, State.raiseAt_rcv,
      State.bump_rcv, ne_eq, not_true_eq_false, decide_false, Bool.false_and, Bool.false_eq_true, if_false]
  case firmware =>
    intro s hrunning hbeat
    have hboot : (s.bump Key.rcvFwCount).nat Key.bootCount = s.nat Key.bootCount := s.nat_addTo_other (by decide) 32 1
    have hdue : (s.running && s.expired s.boot.beat) = true := by simp [hrunning, hbeat]
    have hrun : exec .fwWatchdog s = .next (fwWatchdog s) := rfl
    simp only [hrun, fwWatchdog, s.whenever_of_true hdue, hboot, State.bump_boot]

end Sys2Proof.Machine
end

section
/-! PROOF. O30: the bell units (R115 to R118, R123). -/
namespace Sys2Proof.Machine

/-! Runs (R109, R113). -/

/-- The later of two stores under a key is what stays. -/
theorem mapSet_mapSet_same {α : Type} (k : Nat) (v w : α) (m : Map α) : mapSet k v (mapSet k w m) = mapSet k v m := by
  induction m with
  | nil => simp [mapSet]
  | cons e r ih =>
    obtain ⟨k', v'⟩ := e
    rcases Nat.lt_trichotomy k k' with hlt | rfl | hgt
    · simp [mapSet, hlt]
    · simp [mapSet]
    · simp [mapSet, Nat.lt_asymm hgt, Nat.ne_of_gt hgt, ih]

@[simp] theorem State.run_setRun (s : State) (n : Nat) (r : Run) : (s.setRun n r).run n = some r :=
  mapGet_mapSet_same n r s.bells.runs

theorem State.setRun_setRun (s : State) (n : Nat) (r q : Run) : (s.setRun n r).setRun n q = s.setRun n q := by
  simp [State.setRun, mapSet_mapSet_same]

/-- Two updates of one run are one. -/
theorem State.updRun_updRun (s : State) (n : Nat) (f g : Run → Run) : (s.updRun n f).updRun n g = s.updRun n (g ∘ f) := by
  cases hr : s.run n with
  | none => simp [State.updRun, hr]
  | some r => simp only [State.updRun, hr, State.run_setRun, State.setRun_setRun, Function.comp_apply]

/-- The timetable is a DOMAIN: an update of a run leaves it. -/
@[simp] theorem State.ttEntry_updRun (s : State) (n m : Nat) (f : Run → Run) : (s.updRun n f).ttEntry m = s.ttEntry m := by
  simp [State.ttEntry, State.dom]

@[simp] theorem State.ttEntry_settleRun (s : State) (n m : Nat) : (s.settleRun n).ttEntry m = s.ttEntry m := by
  simp [State.settleRun]

/-! Skipped and sampled firings (R121, R129). -/

theorem State.countSkip_of_ne {e : TtEntry} (h : e.action ≠ 2) (s : State) : s.countSkip e = s := by
  simp [State.countSkip, h]

theorem State.sampleUnit_of_sampled {u : BellUnit} (h : u.sampled = true) (s : State) : s.sampleUnit u = s := by
  simp [State.sampleUnit, h]

/-- R121: there is nothing to sample where the only loaded firing is sampled. -/
theorem State.sampleDue_of_single {s : State} {u : BellUnit} (hu : s.bells.units = [u]) (h : u.sampled = true) :
    s.sampleDue = s := by
  simp [State.sampleDue, hu, h]

theorem State.dueUnits_of_single {s : State} {u : BellUnit} (hu : s.bells.units = [u]) (hentry : u.entry < 4096)
    (hsampled : u.sampled = true) (hreached : s.reached u.act = true) : s.dueUnits = [u] := by
  simp [State.dueUnits, hu, hentry, hsampled, hreached]

/-! Loading and starving (R115). -/

/-- R115: a unit is free, and the time has come within 1 ms of the load deadline and has not missed it. -/
theorem State.load_due {s : State} {t : Int} (hfree : s.bells.units.length < 256)
    (hsoon : t - (usUnits 1000 : Nat) ≤ (s.now : Int)) (hmissed : s.missed t = false) :
    ¬ (256 ≤ s.bells.units.length ∨ (s.now : Int) < t - (usUnits 1000 : Nat) ∨ s.missed t = true) := by
  simp only [hmissed, Bool.false_eq_true, or_false]
  omega

/-- R115: the load deadline has come, and no unit is free or the deadline is missed. -/
theorem State.starve_due {s : State} {t : Int} (hdeadline : t ≤ (s.now : Int))
    (hcannot : 256 ≤ s.bells.units.length ∨ s.missed t = true) :
    ¬ ((s.now : Int) < t ∨ s.bells.units.length < 256 ∧ (!s.missed t) = true) := by
  rintro (hbefore | ⟨hfree, htime⟩)
  · omega
  · rcases hcannot with hfull | hmissed
    · omega
    · simp [hmissed] at htime

/-! Firing (R116, R117). -/

/-- R117: no domain, lane, channel or pending commit stands in the way of a pulse. -/
theorem State.skipReason_pulse {e : TtEntry} (h : e.action = 1) (s : State) : s.skipReason e = 0 := by
  simp [State.skipReason, State.firingDomains, h]

/-- R116: a pulse is fired by its run, whose two updates are one, and drives its pin. -/
theorem State.fire_pulse {s : State} {u : BellUnit} (h : (s.ttEntry u.entry).action = 1) :
    s.fire u = (((s.freeUnit u).updRun u.entry fun r => { r with
      after := max r.after (u.k + 1), fired := satAdd 32 r.fired 1, raised := [] }).pulsePin (s.ttEntry u.entry).target
        (s.ttEntry u.entry).width (s.ttEntry u.entry).trim).settleRun u.entry := by
  simp [State.fire, State.skipReason_pulse h, State.doubled, h, State.fireAction, State.updRun_updRun, Function.comp_def]

/-- Settles O30: each command's firing, pulse or commit is the one that is due, and what it does is written out. -/
theorem bellsAct : Obligations.BellsAct := by
  refine ⟨?load, ?loadSend, ?starved, ?starvedSend, ?fire, ?pulseEnd, ?commit⟩
  case load =>
    intro s f hfirst hfree hsoon hmissed hentry hsampled haction
    have hrun : exec .bellLoad s = .next (bellLoad s) := rfl
    simp only [hrun, bellLoad, hfirst, if_neg (State.load_due hfree hsoon hmissed), if_neg (Nat.not_le.mpr hentry),
      if_neg haction, State.sampleUnit_of_sampled hsampled]
  case loadSend =>
    intro s f hfirst hfree hsoon hmissed hentry
    have hrun : exec .bellLoad s = .next (bellLoad s) := rfl
    simp only [hrun, bellLoad, hfirst, if_neg (State.load_due hfree hsoon hmissed), if_pos hentry]
  case starved =>
    intro s f hfirst hdeadline hcannot hentry haction
    have hrun : exec .bellStarved s = .next (bellStarved s) := rfl
    have hskip : ((s.bump Key.bellStarvedCount).ttEntry f.unit.entry).action ≠ 2 := haction
    simp only [hrun, bellStarved, hfirst, if_neg (State.starve_due hdeadline hcannot), if_neg (Nat.not_le.mpr hentry),
      State.ttEntry_settleRun, State.ttEntry_updRun, State.countSkip_of_ne hskip]
  case starvedSend =>
    intro s f hfirst hdeadline hcannot hentry
    have hrun : exec .bellStarved s = .next (bellStarved s) := rfl
    simp only [hrun, bellStarved, hfirst, if_neg (State.starve_due hdeadline hcannot), if_pos hentry]
  case fire =>
    intro s u hunits hentry hsampled hreached haction
    have hrun : exec .bellFire s = .next (bellFire s) := rfl
    have hfreed : s.freeUnit u = { s with bells := { s.bells with units := [] } } := by simp [State.freeUnit, hunits]
    simp only [hrun, bellFire, State.sampleDue_of_single hunits hsampled,
      State.dueUnits_of_single hunits hentry hsampled hreached, List.foldl_nil, State.fire_pulse haction, hfreed]
  case pulseEnd =>
    intro s pin p hpin hpulse hends hmode
    have hrun : exec (.bellPulseEnd pin) s = .next (bellPulseEnd pin s) := onUnit_of_present (decide_eq_true hpin) _
    simp only [hrun, bellPulseEnd, hpulse, if_neg (Nat.not_lt.mpr hends), if_neg hmode]
  case commit =>
    intro s c hwaiting hreached hdip
    have hrun : exec .commitUnitFire s = .next (commitUnitFire s) := rfl
    simp [hrun, commitUnitFire, hwaiting, hreached, State.fireCommit, hdip]

end Sys2Proof.Machine
end

section
/-! PROOF. Shared by the BLOCK_ENDs of write-replace transfers: what the request carries reads back, and the entry takes the content,
or the request is refused (R58, R59). -/
namespace Sys2Proof.Machine

/-! The CRC-32 fits its four bytes (R140). -/

theorem crcBit_lt {c : Nat} (h : c < 2 ^ 32) : crcBit c < 2 ^ 32 := by
  have hhalf : c / 2 < 2 ^ 32 := Nat.lt_of_le_of_lt (Nat.div_le_self c 2) h
  rw [crcBit]
  split
  · exact Nat.xor_lt_two_pow hhalf (by decide)
  · exact hhalf

theorem crcByte_lt {c : Nat} (h : c < 2 ^ 32) (b : Byte) : crcByte c b < 2 ^ 32 := by
  have hbyte : b.toNat < 2 ^ 32 := Nat.lt_trans b.isLt (by decide)
  exact crcBit_lt (crcBit_lt (crcBit_lt (crcBit_lt (crcBit_lt (crcBit_lt (crcBit_lt (crcBit_lt
    (Nat.xor_lt_two_pow h hbyte))))))))

theorem crcFold_lt {c : Nat} (h : c < 2 ^ 32) (b : Bytes) : crcFold c b < 2 ^ 32 := by
  induction b generalizing c with
  | nil => exact h
  | cons x r ih => exact ih (crcByte_lt h x)

theorem crc32_lt (b : Bytes) : crc32 b < 2 ^ 32 :=
  Nat.xor_lt_two_pow (crcFold_lt (by decide) b) (by decide)

/-! The request (R59). -/

@[simp] theorem length_endPayload (handle length crc : Nat) : (endPayload handle length crc).length = 10 := by simp [endPayload]

theorem endPayload_handle {handle : Nat} (h : handle < 256) (length crc : Nat) :
    beAt (endPayload handle length crc) 0 1 = handle := by
  have hparts : endPayload handle length crc = [] ++ (beBytes 1 handle ++ ([0] ++ beBytes 4 length ++ beBytes 4 crc)) := by
    simp [endPayload, beBytes, leBytes]
  rw [hparts]
  exact beAt_append [] 1 handle _ h

theorem endPayload_length (handle : Nat) {length : Nat} (h : length < 2 ^ 32) (crc : Nat) :
    beAt (endPayload handle length crc) 2 4 = length := by
  have hparts : endPayload handle length crc = [byteOf handle, 0] ++ (beBytes 4 length ++ beBytes 4 crc) := by
    simp [endPayload]
  rw [hparts]
  exact beAt_append [byteOf handle, 0] 4 length _ h

theorem endPayload_crc (handle length : Nat) {crc : Nat} (h : crc < 2 ^ 32) : beAt (endPayload handle length crc) 6 4 = crc := by
  have hparts : endPayload handle length crc = ([byteOf handle, 0] ++ beBytes 4 length) ++ (beBytes 4 crc ++ []) := by
    simp [endPayload]
  have hfront : ([byteOf handle, 0] ++ beBytes 4 length).length = 6 := by simp
  rw [hparts, ← hfront]
  exact beAt_append ([byteOf handle, 0] ++ beBytes 4 length) 4 crc [] h

/-! The content (R16, R58). -/

/-- R58: write-replace takes nothing of what the entry held. -/
theorem Transfer.result_replace {w : Transfer} (h : w.mode = 1) (now : Bytes) (n : Nat) : w.result now n = w.result [] n := by
  simp [Transfer.result, h]

@[simp] theorem length_clearReserved (m left b : Bytes) : (clearReserved m left b).length = b.length := by
  induction b generalizing left with
  | nil => cases left <;> rfl
  | cons x r ih => cases left <;> simp [clearReserved, ih]

@[simp] theorem Obj.length_cleanContent (o : Obj) (b : Bytes) : (o.cleanContent b).length = b.length := by
  rw [Obj.cleanContent]
  split <;> simp

/-! The outcome (R46, R59). -/

/-- What follows the response of a BLOCK_END that an entry accepts (R430, R434). -/
def afterEnd (o : Obj) (i : Nat) (before : List Bytes) : After :=
  if o.idx = 0x1410 ∧ o.sub = 3 then .tandem before else if o.acc = .rwp then .plan o i else .nothing

/-- The answer to a BLOCK_END by what the entry makes of the content. -/
def endAnswer (w : Transfer) (o : Obj) (i : Nat) (before : List Bytes) (v : Verdict) : Answer :=
  if v.2 ≠ 0 then refusedAt v.1 w.index w.sub v.2
  else { accepted (v.1.dropTransfer w.handle) [byteOf w.handle, 0] with after := afterEnd o i before }

/-- An entry that is not refused for what it is: neither FW_IMAGE, nor the masks of an input that can be locked (R60, R242). -/
def takesContent (o : Obj) (i : Nat) : Bool := o.keyOf i ≠ Key.fwImage && o.idx ≠ 0x5010 && o.idx ≠ 0x5011

/-- What `endable` says, part by part. -/
structure Endable (s : State) (x : Session) (seq : Nat) (w : Transfer) (o : Obj) (i : Nat) : Prop where
  awaits : s.awaits x seq = true
  handle : w.handle < 256
  total : w.total < 2 ^ 32
  mode : w.mode = 1
  live : w.abandoned = false
  key : w.index * 256 + w.sub = o.keyOf i
  found : (s.dap.transfers.find? fun t => t.handle = w.handle && t.sid = x.sid) = some w
  sid : w.sid = x.sid
  row : s.toWrite x.role w.index w.sub = .ok (o, i)
  length : lengthOk s.part o (w.result [] w.total).length = true

theorem State.endable_parts {s : State} {x : Session} {seq : Nat} {w : Transfer} {o : Obj} {i : Nat}
    (h : s.endable x seq w o i = true) : Endable s x seq w o i := by
  simp only [State.endable, Bool.and_eq_true, decide_eq_true_eq, Bool.not_eq_true', beq_iff_eq] at h
  obtain ⟨⟨⟨⟨⟨⟨⟨⟨⟨hawaits, hhandle⟩, htotal⟩, hmode⟩, hlive⟩, hkey⟩, hfound⟩, hsid⟩, hrow⟩, hlength⟩ := h
  refine ⟨hawaits, hhandle, htotal, hmode, hlive, hkey, hfound, hsid, ?_, hlength⟩
  cases hwrite : s.toWrite x.role w.index w.sub with
  | error c => simp [hwrite] at hrow
  | ok r =>
    rw [hwrite] at hrow
    rw [of_decide_eq_true hrow]

/-- R59: a BLOCK_END whose length and CRC-32 match gives the content to the entry. -/
theorem serve_endable {s : State} {x : Session} {seq : Nat} {w : Transfer} {o : Obj} {i : Nat} (h : Endable s x seq w o i)
    (htakes : takesContent o i = true) :
    serve x 0x14 (endPayload w.handle w.total (crc32 (w.result [] w.total))) (s.touched x seq) =
      endAnswer w o i s.prot.secrets (writeContent x.sid x.role o i (w.result [] w.total) (s.touched x seq)) := by
  simp only [takesContent, Bool.and_eq_true, decide_eq_true_eq] at htakes
  obtain ⟨⟨himage, hmask⟩, hmasks⟩ := htakes
  have hplain : w.image = false := by
    have hkey := h.key
    rw [Transfer.image, Bool.and_eq_false_iff]
    simp only [Key.fwImage, decide_eq_false_iff_not] at himage ⊢
    omega
  have hopen : (s.touched x seq).maskLocked o i = false := by simp [State.maskLocked, hmask, hmasks]
  have hfound : ((s.touched x seq).dap.transfers.find? fun t => t.handle = w.handle && t.sid = x.sid) = some w := h.found
  have hrow : (s.touched x seq).toWrite x.role w.index w.sub = .ok (o, i) := h.row
  have hprot : (s.touched x seq).prot = s.prot := rfl
  have hbytes : (endPayload w.handle w.total (crc32 (w.result [] w.total))).isEmpty = false := rfl
  simp only [serve, blockEndRequest, hbytes, endPayload_handle h.handle, endPayload_length _ h.total,
    endPayload_crc _ _ (crc32_lt _), hfound, State.toMove, h.mode, hrow, h.live, hplain, length_endPayload,
    Transfer.result_replace h.mode]
  simp [endAnswer, afterEnd, hopen, hprot]

/-- A BLOCK_END is acted on: its transfer is one of the session's that goes to the command's entry (log 2). -/
theorem State.ends_served {s : State} {x : Session} {seq : Nat} {w : Transfer} {o : Obj} {i : Nat} {entry : Nat → Bool} {v : Verdict}
    (h : Endable s x seq w o i) (hentry : entry (o.keyOf i) = true) (htakes : takesContent o i = true)
    (hwrite : writeContent x.sid x.role o i (w.result [] w.total) (s.touched x seq) = v) :
    s.ends (x.endReq seq w) w.handle w.total (crc32 (w.result [] w.total)) entry =
      .next ((endAnswer w o i s.prot.secrets v).after.run x ((endAnswer w o i s.prot.secrets v).reply x.sid 0x14 seq)) := by
  have hcome : (s.dap.transfers.any fun t => t.sid = (x.endReq seq w).session && t.handle = w.handle && t.mode ≠ 0 &&
      entry (t.index * 256 + t.sub)) = true :=
    List.any_eq_true.mpr ⟨w, List.mem_of_find?_eq_some h.found, by simp [h.sid, h.mode, h.key, hentry, Session.endReq, Session.req]⟩
  have hact := State.request_act h.awaits 0x14 (p := endPayload w.handle w.total (crc32 (w.result [] w.total))) (by simp)
  rw [State.act, serve_endable h htakes, hwrite] at hact
  exact congrArg Host.Outcome.next ((s.whenever_of_true hcome _).trans hact)

section
variable {s t u : State} {c : Nat} {x : Session} {seq : Nat} {w : Transfer} {o : Obj} {i : Nat} {entry : Nat → Bool}

/-- R46, R59: the entry takes the content: the transfer is over, it is answered, and what follows the response follows. -/
theorem State.ends_accepted (h : Endable s x seq w o i) (hentry : entry (o.keyOf i) = true) (htakes : takesContent o i = true)
    (hwrite : writeContent x.sid x.role o i (w.result [] w.total) (s.touched x seq) = (t, 0))
    (hafter : (afterEnd o i s.prot.secrets).run x (t.ended x seq w) = u) :
    s.ends (x.endReq seq w) w.handle w.total (crc32 (w.result [] w.total)) entry = .next u :=
  (State.ends_served h hentry htakes hwrite).trans (congrArg _ hafter)

/-- R46: the entry refuses the content: the request is answered by the code, and the transfer stays. -/
theorem State.ends_refused (h : Endable s x seq w o i) (hentry : entry (o.keyOf i) = true) (htakes : takesContent o i = true)
    (hwrite : writeContent x.sid x.role o i (w.result [] w.total) (s.touched x seq) = (t, c)) (hc : c ≠ 0) :
    s.ends (x.endReq seq w) w.handle w.total (crc32 (w.result [] w.total)) entry = .next (t.endRefused x seq w c) := by
  rw [State.ends_served h hentry htakes hwrite]
  simp [endAnswer, refusedAt, Answer.reply, hc, After.run, State.endRefused]

end

/-! What an entry makes of a content of a legal length (R16, R71). -/

/-- An entry whose content has no reserved bits, and that is neither the timetable nor TANDEM_SIGN: it has the effect of its row. -/
def hasEffect (o : Obj) (i : Nat) : Bool :=
  takesContent o i && o.recordMask.isEmpty && !(o.idx = 0x1410 && o.sub = 3) && o.idx ≠ 0x2400

theorem takesContent_of_hasEffect {o : Obj} {i : Nat} (h : hasEffect o i = true) : takesContent o i = true := by
  simp only [hasEffect, Bool.and_eq_true] at h
  obtain ⟨⟨⟨htakes, -⟩, -⟩, -⟩ := h
  exact htakes

theorem writeContent_of_effect {s : State} {o : Obj} {i : Nat} {b : Bytes} (hlength : lengthOk s.part o b.length = true)
    (h : hasEffect o i = true) (sid role : Nat) :
    writeContent sid role o i b s = verdict (contentEffect sid role o i b) s := by
  simp only [hasEffect, Bool.and_eq_true, Bool.not_eq_true', Bool.and_eq_false_iff, decide_eq_true_eq, decide_eq_false_iff_not] at h
  obtain ⟨⟨⟨-, hmask⟩, hsign⟩, htable⟩ := h
  have hclean : o.cleanContent b = b := if_pos hmask
  have hnotSign : ¬ (o.idx = 0x1410 ∧ o.sub = 3) := fun ⟨hidx, hsub⟩ => hsign.elim (absurd hidx) (absurd hsub)
  have hfits : ¬ (!lengthOk s.part o b.length) = true := by simp only [hlength, Bool.not_true, Bool.false_eq_true, not_false_eq_true]
  simp only [writeContent, hclean, if_neg hfits, if_neg hnotSign, if_neg htable]

section
variable {s t u : State} {c : Nat} {x : Session} {seq : Nat} {w : Transfer} {o : Obj} {i : Nat} {entry : Nat → Bool}

/-- R43, R59: the content has the effect of its row. -/
theorem State.ends_effect (h : Endable s x seq w o i) (hentry : entry (o.keyOf i) = true) (hrow : hasEffect o i = true)
    (heffect : contentEffect x.sid x.role o i (w.result [] w.total) (s.touched x seq) = .ok t)
    (hafter : (afterEnd o i s.prot.secrets).run x (t.ended x seq w) = u) :
    s.ends (x.endReq seq w) w.handle w.total (crc32 (w.result [] w.total)) entry = .next u := by
  have hwrite : writeContent x.sid x.role o i (w.result [] w.total) (s.touched x seq) = (t, 0) := by
    rw [writeContent_of_effect (s := s.touched x seq) h.length hrow, verdict, heffect]
  exact State.ends_accepted h hentry (takesContent_of_hasEffect hrow) hwrite hafter

/-- R71: the effect of the row refuses the content, and leaves the state. -/
theorem State.ends_effect_refused (h : Endable s x seq w o i) (hentry : entry (o.keyOf i) = true) (hrow : hasEffect o i = true)
    (heffect : contentEffect x.sid x.role o i (w.result [] w.total) (s.touched x seq) = .error c) (hc : c ≠ 0) :
    s.ends (x.endReq seq w) w.handle w.total (crc32 (w.result [] w.total)) entry =
      .next ((s.touched x seq).endRefused x seq w c) := by
  have hwrite : writeContent x.sid x.role o i (w.result [] w.total) (s.touched x seq) = (s.touched x seq, c) := by
    rw [writeContent_of_effect (s := s.touched x seq) h.length hrow, verdict, heffect]
  exact State.ends_refused h hentry (takesContent_of_hasEffect hrow) hwrite hc

end

end Sys2Proof.Machine
end

section
/-! PROOF. O25: the BLOCK_ENDs of the entries that have a row of their own (R111, R424, R425, R430, R431, R433, R434, R463). -/
namespace Sys2Proof.Machine

/-! The effects of the contents. -/

/-- R111: a table that changes no entry to one outside its range is written. -/
theorem ttTableContent_of_valid {s : State} {b : Bytes} (h : s.ttRefused b = none) : ttTableContent b s = (s.ttWrite b, 0) := by
  unfold ttTableContent
  rw [h]

/-- R111: TT_TABLE takes a content with its reserved bits cleared. -/
theorem writeContent_ttTable {s : State} {b : Bytes} (hlength : lengthOk s.part (rowAt 0x2400 1) b.length = true) (sid role : Nat) :
    writeContent sid role (rowAt 0x2400 1) 0 b s = ttTableContent ((rowAt 0x2400 1).cleanContent b) s := by
  rw [rowAt_2400_1] at *
  simp [writeContent, hlength]

/-- R424: the host extends slots 5 to 15. -/
theorem measExtendWrite_of_slot {b : Bytes} (hlo : 5 ≤ leAt b 0 1) (hhi : leAt b 0 1 ≤ 15) (s : State) :
    measExtendWrite b s = .ok (s.setSlot (leAt b 0 1) (sha384 (s.slot (leAt b 0 1) ++ b.drop 1))) := by
  have hslot : ¬ (leAt b 0 1 < 5 ∨ 15 < leAt b 0 1) := by omega
  exact if_neg hslot

/-- R431: a proposal of one change that names an RWP entry of the part and fits it is taken. -/
theorem tandemProposalWrite_of_one {s : State} {b : Bytes} {c : Change1} {o : Obj} {i : Nat} (hsealed : s.flag Key.protSealed = true)
    (hnone : s.prot.proposal = none) (hparse : parseProposal b = ([c], true)) (hentry : s.rwpEntry c.index c.sub = some (o, i))
    (hlength : rwpLength o i c.value.length = true) (hrange : rwpRange o i c.value = true) :
    tandemProposalWrite b s = .ok (({ s with prot := { s.prot with
      proposal := some (Proposal.mk b s.cycles [] 0 false) } } : State).raise 0x1401 0 "CX" [1, 0]) := by
  have hcount : leBytes 2 1 = [1, 0] := by decide
  simp only [tandemProposalWrite, hparse]
  simp [firstCheck, hsealed, hnone, hentry, hlength, hrange, namedTwice, bind, Except.bind, hcount]

/-- R433: the first signature of a proposal is checked against the role's key; a wrong one counts. -/
theorem tandemSignWrite_first {s : State} {b : Bytes} {p : Proposal} (hp : s.prot.proposal = some p) (hdeferred : p.deferred = false)
    (hsigned : p.signed = []) (hbad : p.bad < 2) (hlo : 1 ≤ leAt b 0 1) (hhi : leAt b 0 1 ≤ 3)
    (hkey : s.dom (Key.rolePubkey (leAt b 0 1)) ≠ []) :
    tandemSignWrite b s =
      if ecdsaVerify (s.dom (Key.rolePubkey (leAt b 0 1))) (s.changeDigest p.bytes) (beAt b 1 48) (beAt b 49 48) then
        (({ s with prot := { s.prot with proposal := some { p with signed := [leAt b 0 1] } } } : State).raise 0x1402 0 "CX"
          [byteOf (leAt b 0 1)], 0)
      else (({ s with prot := { s.prot with proposal := some { p with bad := p.bad + 1 } } } : State).raise 0x1405 2 "CX"
        [byteOf (leAt b 0 1)], abPlan) := by
  have hrole : ¬ (leAt b 0 1 < 1 ∨ 3 < leAt b 0 1 ∨ (s.dom (Key.rolePubkey (leAt b 0 1))).isEmpty = true) := by
    simp only [List.isEmpty_iff, hkey, or_false]
    omega
  simp only [tandemSignWrite, hp, hdeferred, Bool.false_eq_true, if_false, if_neg hrole, hsigned, if_neg (Nat.not_le.mpr hbad)]
  cases ecdsaVerify (s.dom (Key.rolePubkey (leAt b 0 1))) (s.changeDigest p.bytes) (beAt b 1 48) (beAt b 49 48) with
  | false => rfl
  | true => rfl

theorem writeContent_tandemSign {s : State} {b : Bytes} (hlength : lengthOk s.part (rowAt 0x1410 3) b.length = true)
    (sid role : Nat) : writeContent sid role (rowAt 0x1410 3) 0 b s = tandemSignWrite b s := by
  rw [rowAt_1410_3] at *
  have hclean : Obj.cleanContent ⟨0x1410, 3, .one, .domain, .wo, .zeros 0, .oneOf [97], 0, false⟩ b = b := rfl
  simp [writeContent, hlength, hclean]

/-- R430: before the seal a session of role 3 writes an RWP entry, where length and range are right. -/
theorem rwpWrite_unsealed {s : State} {o : Obj} {i : Nat} {b : Bytes} (hsealed : s.flag Key.protSealed = false)
    (hlength : rwpLength o i b.length = true) :
    rwpWrite 3 o i b s = if rwpRange o i b then .ok (s.applyRwp o i b) else .error abRange := by
  cases hrange : rwpRange o i b <;> simp [rwpWrite, firstCheck, hsealed, hlength, hrange, bind, Except.bind]

/-- A content of ROLE_SECRET that its row's range admits has the length of a wrapped secret (R430). -/
theorem rwpLength_roleSecret {p : Part} {b : Bytes} (h : lengthOk p (rowAt 0x1401 1) b.length = true) (r : Nat) :
    rwpLength (rowAt 0x1401 1) r b.length = true := by
  rw [rowAt_1401_1] at *
  have h129 : b.length = 129 := by
    simp only [lengthOk, Rng.holds, Bool.and_eq_true, List.contains_cons, List.contains_nil, Bool.or_false, beq_iff_eq] at h
    omega
  simp [rwpLength, h129]

/-- The entries that ROLE_SECRET_WRITE ends a transfer into. -/
def isRoleSecret (k : Nat) : Bool := Key.roleSecret 0 ≤ k && k ≤ Key.roleSecret 3

/-- The four secrets are entries of that command, and take their contents as RWP values. -/
theorem roleSecret_row : ∀ r < 4, isRoleSecret ((rowAt 0x1401 1).keyOf r) = true ∧ hasEffect (rowAt 0x1401 1) r = true := by
  rw [rowAt_1401_1]
  decide

theorem contentEffect_roleSecret (sid role r : Nat) (b : Bytes) :
    contentEffect sid role (rowAt 0x1401 1) r b = rwpWrite role (rowAt 0x1401 1) r b := by
  rw [rowAt_1401_1]
  rfl

/-- R434: the all-zero secret is out of range, and so are bytes that wrap none. -/
theorem rwpRange_roleSecret (r : Nat) (b : Bytes) :
    rwpRange (rowAt 0x1401 1) r b = (unwrapSecret r b).any fun k => !k.all (· = 0) := by
  rw [rowAt_1401_1]
  cases hun : unwrapSecret r b with
  | none => simp only [rwpRange, hun, Option.any_none]; rfl
  | some k => simp only [rwpRange, hun, Option.any_some]; rfl

theorem applyRwp_roleSecret {r : Nat} {b k : Bytes} (hun : unwrapSecret r b = some k) (s : State) :
    s.applyRwp (rowAt 0x1401 1) r b = { s with prot := { s.prot with secrets := s.prot.secrets.set r k } } := by
  simp [State.applyRwp, hun]

/-- R430, R434: what ROLE_SECRET makes of a wrapped secret before the seal. -/
theorem contentEffect_roleSecret_unsealed {s : State} {b : Bytes} (hsealed : s.flag Key.protSealed = false)
    (hlength : lengthOk s.part (rowAt 0x1401 1) b.length = true) (sid r : Nat) :
    contentEffect sid 3 (rowAt 0x1401 1) r b s =
      if (unwrapSecret r b).any fun k => !k.all (· = 0) then .ok (s.applyRwp (rowAt 0x1401 1) r b) else .error abRange := by
  rw [contentEffect_roleSecret, rwpWrite_unsealed hsealed (rwpLength_roleSecret hlength r), rwpRange_roleSecret]

/-- R463: a record with the right CRC and fields is taken while no procedure runs. -/
theorem calTrimsContent_of_valid {s : State} {b : Bytes} (hcrc : trimCrcOk b = true) (hfields : trimFields b = true)
    (hidle : s.cal.running = none) : calTrimsContent b s = .ok (s.setTrims b 2) := by
  simp [calTrimsContent, firstCheck, hcrc, hfields, hidle, bind, Except.bind]

/-- Settles O25: each content is one that its entry takes, or TANDEM_SIGN and ROLE_SECRET refuse it by what it holds. -/
theorem blockEndsAct : Obligations.BlockEndsAct := by
  refine ⟨?timetable, ?measure, ?nonce, ?proposal, ?sign, ?secret, ?plan, ?trims⟩
  case timetable =>
    intro s x seq w h hvalid
    have hparts := State.endable_parts h
    have hwrite := (writeContent_ttTable (s := s.touched x seq) hparts.length x.sid x.role).trans
      (ttTableContent_of_valid (s := s.touched x seq) hvalid)
    rw [rowAt_2400_1] at hparts hwrite ⊢
    dsimp only [exec, execTtTableWrite]
    exact State.ends_accepted hparts rfl rfl hwrite rfl
  case measure =>
    intro s x seq w n h hn hlo hhi
    subst hn
    rw [rowAt_1501_1] at h
    dsimp only [exec, execMeasExtend]
    exact State.ends_effect (State.endable_parts h) rfl rfl (measExtendWrite_of_slot hlo hhi (s.touched x seq)) rfl
  case nonce =>
    intro s x seq w h
    rw [rowAt_1504_1] at h
    dsimp only [exec, execRollcallNonce]
    exact State.ends_effect (State.endable_parts h) rfl rfl rfl rfl
  case proposal =>
    intro s x seq w c o i h hsealed hnone hparse hentry hlength hrange
    rw [rowAt_1410_1] at h
    dsimp only [exec, execTandemProposal]
    exact State.ends_effect (State.endable_parts h) rfl rfl
      (tandemProposalWrite_of_one (s := s.touched x seq) hsealed hnone hparse hentry hlength hrange) rfl
  case sign =>
    intro s x seq w p h hp hdeferred hsigned hbad hlo hhi hkey
    have hparts := State.endable_parts h
    have hwrite := (writeContent_tandemSign (s := s.touched x seq) hparts.length x.sid x.role).trans
      (tandemSignWrite_first (s := s.touched x seq) hp hdeferred hsigned hbad hlo hhi hkey)
    rw [rowAt_1410_3] at hparts hwrite
    dsimp only [exec, execTandemSign]
    split
    case isTrue hverify => exact State.ends_accepted hparts rfl rfl (hwrite.trans (if_pos hverify)) rfl
    case isFalse hverify => exact State.ends_refused hparts rfl rfl (hwrite.trans (if_neg hverify)) (by decide)
  case secret =>
    intro s x seq w r h hr hsealed hrole
    obtain ⟨hentry, hrow⟩ := roleSecret_row r hr
    have hparts := State.endable_parts h
    have heffect := contentEffect_roleSecret_unsealed (s := s.touched x seq) hsealed hparts.length x.sid r
    rw [← hrole] at heffect
    dsimp only [exec, execRoleSecretWrite]
    split
    next k hun =>
      rw [applyRwp_roleSecret hun, hun, Option.any_some] at heffect
      split
      case isTrue hzero =>
        rw [hzero] at heffect
        exact State.ends_effect_refused hparts hentry hrow heffect (by decide)
      case isFalse hnonzero =>
        rw [Bool.eq_false_iff.mpr hnonzero] at heffect
        refine State.ends_effect hparts hentry hrow heffect ?_
        rw [rowAt_1401_1]
        rfl
    next hun =>
      rw [hun] at heffect
      exact State.ends_effect_refused hparts hentry hrow heffect (by decide)
  case plan =>
    intro s x seq w h hsealed hrole hvalid hlength
    have hplan : rwpLength (rowAt 0x1400 1) 0 (w.result [] w.total).length = true := by
      simp [rwpLength, hlength]
    have hrange : rwpRange (rowAt 0x1400 1) 0 (w.result [] w.total) = true := by
      simp [rwpRange, hvalid]
    have heffect := rwpWrite_unsealed (s := s.touched x seq) hsealed hplan
    rw [← hrole, if_pos hrange] at heffect
    rw [rowAt_1400_1] at h heffect ⊢
    dsimp only [exec, execAccessPlanWrite]
    exact State.ends_effect (State.endable_parts h) rfl rfl heffect rfl
  case trims =>
    intro s x seq w h hcrc hfields hidle
    rw [rowAt_8100_1] at h
    dsimp only [exec, execCalTrimsWrite]
    exact State.ends_effect (State.endable_parts h) rfl rfl (calTrimsContent_of_valid (s := s.touched x seq) hcrc hfields hidle) rfl

end Sys2Proof.Machine
end

section
/-! PROOF. O32: the input stage, line groups, credits, records and write slots (R175, R184, R261, R268). -/
namespace Sys2Proof.Machine

/-- R184: of one frame with a complete group, the free input stage takes that one. -/
theorem State.pickInput_single (s : State) (f : Frame) : s.pickInput [f] = some f := rfl

/-- R273: nothing is put among the waiting changes of a port that has one. -/
theorem State.settleOwed_of_change {s : State} {i : Nat} {c : Change} (h : (s.exp i).change = some c) : s.settleOwed i = s := by
  simp [State.settleOwed, h]

/-! What a send reads of its port is not among the bells. -/

@[simp] theorem State.domainOn_setBells (s : State) (b : Bells) (d : Nat) :
    ({ s with bells := b } : State).domainOn d = s.domainOn d := rfl

@[simp] theorem State.laneUp_setBells (s : State) (b : Bells) (l : Lane) :
    ({ s with bells := b } : State).laneUp l = s.laneUp l := rfl

@[simp] theorem State.exp_setBells (s : State) (b : Bells) (i : Nat) : ({ s with bells := b } : State).exp i = s.exp i := rfl

@[simp] theorem State.lane_setBells (s : State) (b : Bells) (l : Lane) : ({ s with bells := b } : State).lane l = s.lane l := rfl

theorem State.settleOwed_setBells {s : State} {i : Nat} {c : Change} (h : (s.exp i).change = some c) (b : Bells) :
    ({ s with bells := b } : State).settleOwed i = { s with bells := b } := State.settleOwed_of_change h

/-- Settles O32: each command's unit is there, and the frame, record or send that it finds is the one that is named. -/
theorem pipelineActs : Obligations.PipelineActs := by
  refine ⟨?handOver, ?group, ?credit, ?record, ?slot⟩
  case handOver =>
    intro s p k f hp hk hwaits hbusy htakes hrestart
    have hrun : exec (.fsAccepted p k) s = .next (fsAccepted p k s) := onUnit_of_present (by simp [hp, hk]) _
    have hfree : (!s.inputBusy f && s.pipeTakes p f && !(s.pipe p).restart) = true := by simp [hbusy, htakes, hrestart]
    simp only [hrun, fsAccepted, hwaits, if_pos hfree]
  case group =>
    intro s p f hp hready htakes hrestart
    have hrun : exec (.lineGroupTake p) s = .next (lineGroupTake p s) := onUnit_of_present hp _
    have hgoes : ¬ ((!s.pipeTakes p f || (s.pipe p).restart) = true) := by simp [htakes, hrestart]
    refine ⟨_, hrun, ?_⟩
    simp only [lineGroupTake, hready, State.pickInput_single, if_neg hgoes]
  case credit =>
    intro s i f hi hframe hshared hperiod
    have hrun : exec (.lineCreditGain i) s = .next (lineCreditGain i s) := onUnit_of_present (decide_eq_true hi) _
    have hdue : (s.isShared (f.pipe.getD 0) && decide (nsCycles f.linePeriod ≤ s.since (s.input f.inst).creditAt)) = true := by
      simp [hshared, hperiod]
    simp only [hrun, lineCreditGain, hframe, if_pos hdue]
  case record =>
    intro s u p k j r hp hk hjob hr hu
    have hrun : exec (.statRecordComplete p k) s = .next (statRecordComplete p k s) := onUnit_of_present (by simp [hp, hk]) _
    subst hr hu
    -- Storing the record leaves the part and the records on their way, so both sides are one state.
    rw [hrun, statRecordComplete, hjob]
    rfl
  case slot =>
    intro s i u c hi hunit hon hup hchange htag
    have hrun : exec (.expWriteSlot i) s = .next (expWriteSlot i s) := onUnit_of_present (decide_eq_true hi) _
    have hopen : ¬ ((!s.domainOn (laneDomain (.camera i)) || !s.laneUp (.camera i)) = true) := by simp [hon, hup]
    simp only [hrun, expWriteSlot, hunit, State.domainOn_setBells, State.laneUp_setBells, if_neg hopen,
      State.settleOwed_setBells hchange, State.exp_setBells, hchange, htag, Option.isSome_none, Bool.false_eq_true, if_false,
      State.lane_setBells]

end Sys2Proof.Machine
end

section
/-! PROOF. O33: the statement counts a completed tile in WARP_CORE_TILES by a saturating addition of 64 bits. R306 makes that entry a
U32, and the model's `bump` saturates it there, so no tile leads out of a counter that is full. -/
namespace Sys2Proof.Machine

/-- The value at which a U32 counter saturates (R306). -/
def fullCount : Nat := 2 ^ 32 - 1

/-- A full counter is full after any U32 counter advances, itself or another. -/
theorem State.nat_bump_of_full {s : State} {k : Nat} (h : s.nat k = fullCount) (j : Nat) : (s.bump j).nat k = fullCount := by
  by_cases hjk : k = j
  · subst hjk
    rw [State.bump, State.nat_addTo_same, h]
    rfl
  · rw [State.bump, State.nat_addTo_other _ hjk, h]

/-! What a tile's completion is made of stores numbers in the dictionary by `bump` only: `updOut` and `prune` store none. -/

theorem State.nat_landTile_of_full {s : State} {k : Nat} (h : s.nat k = fullCount) (oid row col : Nat) (b : Bytes) :
    (s.landTile oid row col b).nat k = fullCount := by
  unfold State.landTile
  split
  case h_1 => exact h
  case h_2 =>
    dsimp only
    split
    case isTrue => exact State.nat_bump_of_full (by simpa using h) _
    case isFalse => simpa using h

theorem State.nat_viewEnded_of_full {s : State} {k : Nat} (h : s.nat k = fullCount) (o : OutFrame) :
    (s.viewEnded o).nat k = fullCount := by
  unfold State.viewEnded
  split
  case isFalse => exact h
  case isTrue =>
    dsimp only
    split
    case isTrue => exact State.nat_bump_of_full (State.nat_bump_of_full h _) _
    case isFalse => exact State.nat_bump_of_full h _

/-- R306: a tile's completion leaves every full U32 counter full, the core's own among them. -/
theorem nat_warpTileComplete_of_full {s : State} {k : Nat} (h : s.nat k = fullCount) (c : Nat) :
    (warpTileComplete c s).nat k = fullCount := by
  unfold warpTileComplete
  split
  case h_1 => exact h
  case h_2 =>
    extract_lets +lift mrg idle
    split
    case h_1 => exact h
    case h_2 o _ =>
      extract_lets +lift tile bad landed marked counted late told
      have hlanded : landed.nat k = fullCount := State.nat_landTile_of_full (s := idle) h ..
      have hcounted : counted.nat k = fullCount := State.nat_bump_of_full hlanded _
      have htold : told.nat k = fullCount := by
        unfold told
        split
        case isTrue => exact State.nat_bump_of_full hcounted _
        case isFalse => exact hcounted
      split
      case h_2 => exact htold
      case h_1 o' _ =>
        split
        case isTrue => exact State.nat_viewEnded_of_full htold o'
        case isFalse => split <;> exact htold

/-- R299: a core that is there completes its tile. -/
theorem exec_warpTileComplete {s : State} {c : Nat} (hc : s.part.has .core c = true) :
    exec (.warpTileComplete c) s = .next (warpTileComplete c s) := onUnit_of_present hc _

/-- A frame of view 0 with one tile, which goes to the trunk. -/
def oneTileFrame : OutFrame :=
  { oid := 1, stream := 960, fid := 1, num := 0, capture := ⟨0, 0⟩, width := 16, height := 8, format := 0, tileW := 4, tileH := 3,
    rect := (0, 0, 0, 0), nexp := 1, srcH := 1, irSource := 0, skipped := false, pw := 0, linePeriod := 1000, framePeriod := 1000,
    route := 1, gen := 0, pipeGen := 0, sensorGen := 0, bpp := 0, coded := none, card := 0, rows := 0, tiles := [], slices := [],
    closed := false, recovered := false, refused := false, queued := true, ended := false, emitted := [], out0 := {}, out1 := {},
    matches_ := [], set := {}, decided := ⟨0, 0⟩, fixed := true, missing := false }

/-- Core 0 works on that tile, and its WARP_CORE_TILES is full. -/
def fullCoreState : State :=
  ({ State.reset with mrg := { frames := [oneTileFrame], cores := [(0, ⟨1, 0, 0⟩)] } } : State).setObj (Key.warpCoreTiles 0) fullCount

theorem nat_fullCoreState : fullCoreState.nat (Key.warpCoreTiles 0) = fullCount := State.nat_setObj_same ..

/-- Refutes O33: core 0 completes a tile while its WARP_CORE_TILES holds 2^32 - 1. The U32 counter stays there (R306), where the
statement's clause of a tile completed says 2^32. -/
theorem not_mergeActs : ¬ Obligations.MergeActs := by
  rintro ⟨-, -, -, -, hcompletes, -, -⟩
  obtain ⟨t, hrun, -, hcount, -⟩ :=
    hcompletes fullCoreState 0 ⟨1, 0, 0⟩ oneTileFrame (by decide) rfl (by decide) (by decide)
  rw [exec_warpTileComplete (by decide)] at hrun
  obtain rfl := Host.Outcome.next.inj hrun
  rw [nat_warpTileComplete_of_full nat_fullCoreState, nat_fullCoreState] at hcount
  exact absurd hcount (by decide)

end Sys2Proof.Machine
end

section
/-! PROOF. O34: the bridge's frames, ageing, gates, preemption, video and relay (R346 to R368). -/
namespace Sys2Proof.Machine

/-! Reception (R346, R350). -/

/-- R346: a port discards the frame that it does not admit. -/
theorem State.nxForward_of_refused {s : State} {p : Nat} {b : Bytes} (h : s.nxAdmits p b (s.nxParse p b) = false) :
    s.nxForward p b = (s.nxDrop p, false) := by
  simp [State.nxForward, h]

/-- R350: a frame that is admitted and not trapped is offered to the ports that its destination selects, once its source is
learnt. -/
theorem State.nxForward_of_admitted {s v : State} {p : Nat} {b : Bytes} {x : NxParsed} (hx : x = s.nxParse p b)
    (hv : v = s.nxLearn p x.vid (beAt x.body 6 6)) (hadmits : s.nxAdmits p b x = true)
    (hdst : reservedDst (beAt x.body 0 6) = false) (hptp : v.ptpOverUdp x x.tagged = false) :
    s.nxForward p b =
      ((v.nxSelect p x).foldl (fun t n => t.nxOffer n x) v, (v.nxSelect p x).all fun n => v.nxTakes n x false) := by
  subst hx hv
  simp [State.nxForward, hadmits, hdst, hptp]

/-- R158, R346: an external port that is up notes the start of a frame, counts the frame and forwards it. -/
theorem exec_ethFrameReceive {s u : State} {p : Nat} (hnx : s.part.hasNx = true) (hp : p < 4) (hup : s.nxUp p = true)
    (hu : u = (s.startSeen (.eth p)).addTo (Key.nxRxFrames p) 64 1) (frame : Bytes) :
    exec (.ethFrameReceive p frame) s = .next (u.nxForward p (frame.take (frame.length - 4))).1 := by
  have hrun : exec (.ethFrameReceive p frame) s = .next (ethFrameReceive p frame s) :=
    onUnit_of_present (by simp [hnx]; omega) _
  have hheard : (s.nxUp p && decide (p ≠ 4)) = true := by simp [hup]; omega
  rw [hrun, ethFrameReceive, State.whenever_of_true _ hheard, if_pos hp, hu]

/-! Egress (R353, R356, R358). -/

theorem exec_ethEgressSelect {s : State} {n : Nat} (hnx : s.part.hasNx = true) (hn : n < 4) :
    exec (.ethEgressSelect n) s = .next (ethEgressSelect n s) := onUnit_of_present (by simp [hnx]; omega) _

theorem egress_open {s : State} {n : Nat} (hn : n < 4) (hup : s.nxUp n = true) : (s.nxUp n && decide (n ≠ 4)) = true := by
  simp [hup]; omega

/-- A frame that starts on an external port is counted and leaves on its lane. -/
theorem State.nxSend_external (s : State) {n : Nat} (hn : n < 4) (f : NxFrame) :
    s.nxSend n f = (s.addTo (Key.nxTxFrames n) 64 1).send (.eth n (withFcs f.bytes)) := if_neg (by omega)

/-- R358: nothing is cut where no preemptable frame is in transmission. -/
theorem State.cuttable_of_idle {s : State} {n : Nat} (h : (s.nxPort n).sending = none) : s.cuttable n = none := by
  simp [State.cuttable, h]

theorem State.preempts_of_inactive {s : State} {n : Nat} (h : s.nat (Key.nxPreemptStatus n) ≠ 2) (c : Nat) :
    s.preempts n c = false := by
  simp [State.preempts, h]

/-- R358: nothing is cut while preemption is inactive. -/
theorem State.cuttable_of_inactive {s : State} {n : Nat} (h : s.nat (Key.nxPreemptStatus n) ≠ 2) : s.cuttable n = none := by
  unfold State.cuttable
  split
  case h_1 => rfl
  case h_2 c _ _ _ => simp [State.preempts_of_inactive h c]

theorem State.preempt_of_not_cuttable {s : State} {n : Nat} (h : s.cuttable n = none) : s.preempt n = s := by
  simp [State.preempt, h]

theorem State.preempt_of_cuttable {s : State} {n : Nat} {r : Nat × Nat} (h : s.cuttable n = some r) :
    s.preempt n = (s.updNx n fun p => { p with sending := none, held := some r }).addTo (Key.nxPreemptFragments n) 64 1 := by
  simp [State.preempt, h]

/-- R356: without gates no frame is longer than its window. -/
theorem State.tooBig_of_gates_off {s : State} {n : Nat} (h : s.nat (Key.nxGateEnable n) = 0) (c len : Nat) :
    s.tooBig n c len = false := by
  simp [State.tooBig, h]

theorem State.discardTooBig_of_gates_off {s : State} {n : Nat} (h : s.nat (Key.nxGateEnable n) = 0) (c : Nat) :
    s.discardTooBig n c = s := by
  unfold State.discardTooBig
  split
  case h_1 => rfl
  case h_2 => simp [State.tooBig_of_gates_off h]

/-- R356: without gates no head frame is discarded for its length. -/
theorem State.discards_of_gates_off {s : State} {n : Nat} (h : s.nat (Key.nxGateEnable n) = 0) (l : List Nat) :
    l.foldl (fun st c => st.discardTooBig n c) s = s := by
  induction l with
  | nil => rfl
  | cons c l ih => rw [List.foldl_cons, State.discardTooBig_of_gates_off h, ih]

/-! Gates (R355). -/

/-- R355: a change of the present epoch comes at the time value that it was given. -/
theorem State.changeAt_of_epoch {s : State} {l : GateList} (h : l.base.epoch = s.epoch) : s.changeAt l = some l.base.t := by
  simp [State.changeAt, State.due, h]

/-! Preemption (R358). -/

theorem exec_preemptVerify {s : State} {n : Nat} (hnx : s.part.hasNx = true) (hn : n < 4) (ok : Bool) :
    exec (.preemptVerify n ok) s = .next (preemptVerify n ok s) := onUnit_of_present (by simp [hnx, hn]) _

/-! Video (R352, R365). -/

theorem exec_evFrameAccept {s : State} (hnx : s.part.hasNx = true) : exec .evFrameAccept s = .next (evFrameAccept s) :=
  onUnit_of_present hnx _

/-! The obligation. -/

/-- Settles O34: each command's port is there, and its guards select the one branch that the clause names. -/
theorem bridgeActs : Obligations.BridgeActs := by
  refine ⟨?forwarded, ?refused, ?ageing, ?ptpEgress, ?started, ?resumed, ?video, ?videoRefused, ?gateChange, ?gateCloses,
    ?verified, ?verifyFails, ?relay⟩
  case forwarded =>
    intro s u v p frame x hnx hp hup hu hx hadmits hv hdst hptp
    rw [exec_ethFrameReceive hnx hp hup hu, State.nxForward_of_admitted hx hv hadmits hdst hptp]
  case refused =>
    intro s u p frame hnx hp hup hu hadmits
    rw [exec_ethFrameReceive hnx hp hup hu, State.nxForward_of_refused hadmits]
  case ageing =>
    intro s vid mac hnx
    exact onUnit_of_present hnx _
  case ptpEgress =>
    intro s u n f r hnx hn hup hptp hidle hu
    refine ⟨_, exec_ethEgressSelect hnx hn, ?_⟩
    rw [ethEgressSelect, State.whenever_of_true _ (egress_open hn hup), hptp, hu]
    -- With a stamp or without, the frame that starts is the oldest of the queue.
    cases hstamp : f.stamp <;>
      simp only [hstamp, State.preempt_of_not_cuttable (State.cuttable_of_idle hidle), State.nxSend_external _ hn]
  case started =>
    intro s u n c f hnx hn hup hptp hgates hstatus hpick
    have hinactive : s.nat (Key.nxPreemptStatus n) ≠ 2 := by simp [hstatus]
    have hexternal : n ≠ 5 := by omega
    refine ⟨_, exec_ethEgressSelect hnx hn, ?_⟩
    rw [ethEgressSelect, State.whenever_of_true _ (egress_open hn hup), hptp]
    simp only [State.discards_of_gates_off hgates, hpick, State.preempts_of_inactive hinactive,
      State.cuttable_of_inactive hinactive, Bool.false_eq_true, if_false, if_neg hexternal, State.nxSend_external _ hn]
  case resumed =>
    intro s n c hnx hn hup hptp hgates hpick
    rw [exec_ethEgressSelect hnx hn, ethEgressSelect, State.whenever_of_true _ (egress_open hn hup), hptp]
    simp only [State.discards_of_gates_off hgates, hpick]
  case video =>
    intro s v w stream b n last x hnx hfragment hup hx hadmits htakes hv hw
    subst hx hw
    rw [exec_evFrameAccept hnx, evFrameAccept, hfragment]
    simp only [State.whenever_of_true _ hup, hadmits, if_true, htakes, Bool.not_true, Bool.false_eq_true, if_false, ← hv]
  case videoRefused =>
    intro s stream b n hnx hfragment hup hadmits
    refine ⟨_, exec_evFrameAccept hnx, ?_⟩
    rw [evFrameAccept, hfragment]
    -- A frame that is not admitted goes to no port, and its discard leaves the queues of the bridge.
    simp only [State.whenever_of_true _ hup, hadmits, Bool.false_eq_true, if_false, if_true, List.all_nil, Bool.not_true,
      List.foldl_nil]
    rfl
  case gateChange =>
    intro s n l hnx hn hchange hreached hepoch
    have hrun : exec (.gateChangeInstant n) s = .next (gateChangeInstant n s) := onUnit_of_present (by simp [hnx, hn]) _
    rw [hrun, gateChangeInstant, hchange]
    simp only [State.whenever_of_true _ hreached, State.changeAt_of_epoch hepoch, Option.getD_some]
  case gateCloses =>
    intro s n c start left len hnx hn hsending hclosed hcut
    have hrun : exec (.gateIntervalEnd n) s = .next (gateIntervalEnd n s) := onUnit_of_present (by simp [hnx, hn]) _
    rw [hrun, gateIntervalEnd, hsending]
    simp only [hclosed, Bool.false_eq_true, if_false, State.preempt_of_cuttable hcut]
  case verified =>
    intro s n hnx hn hstatus
    rw [exec_preemptVerify hnx hn, preemptVerify, State.whenever_of_true _ (decide_eq_true hstatus), if_pos rfl]
  case verifyFails =>
    intro s n hnx hn hstatus hfails
    refine ⟨_, exec_preemptVerify hnx hn false, ?_⟩
    rw [preemptVerify, State.whenever_of_true _ (decide_eq_true hstatus), hfails]
    rfl
  case relay =>
    intro s x n data hnx hmem hopen hcan hrole hlength hport hn hflags hzero hup
    have hrun : exec (.ptpRelayDatagram x.src data) s = .next (ptpRelayDatagram x.src data s) := onUnit_of_present hnx _
    have hsession : (s.dap.sessions.any fun y =>
        y.open_ && y.src = x.src && !isCan y.src && (y.role = 2 || y.role = 3)) = true :=
      List.any_eq_true.mpr ⟨x, hmem, by simp [hopen, hcan, hrole]⟩
    have hgood : (decide (16 ≤ data.length) && decide (n < 4) && decide (0 ≤ 1) && (slice data 2 14).all (· = 0)) = true := by
      rw [hzero]
      simp [hlength, hn]
    rw [hrun, ptpRelayDatagram, hsession, hport, hflags, hgood]
    simp [State.whenever_of_true, hup]

end Sys2Proof.Machine
end

section
/-! PROOF. Shared by the WRITEs of unsigned numbers: the bytes of the message carry the value, and the response is all that follows
(R43, R46, R71). -/
namespace Sys2Proof.Machine

/-- R10, R13: an unsigned value that fits its type reads back from the bytes of the message. -/
theorem Ty.decode_encode_of_unsigned {t : Ty} (ht : t.signed = false) {v : Nat} (hv : v < 256 ^ t.size) :
    t.decode (t.encode v) = v := by
  simp [Ty.decode, Ty.encode, ht, Nat.mod_eq_of_lt hv]

theorem Ty.length_encode (t : Ty) (v : Int) : (t.encode v).length = t.size := by simp [Ty.encode]

/-- A row of unsigned numbers without reserved bits, whose WRITE has its whole effect before its response. -/
def unsignedRow (o : Obj) : Bool :=
  (o.ty = .u8 || o.ty = .u16 || o.ty = .u32 || o.ty = .u64) && o.acc ≠ .rwp && o.mask = 0 &&
    o.idx ≠ 0x1200 && o.idx ≠ 0x1201 && o.idx ≠ 0x5010 && o.idx ≠ 0x5011

/-- R43, R46, R71: a session's WRITE of an unsigned number in the range of its row has the row's effect and is answered. -/
theorem State.writes_unsigned {s t : State} {x : Session} {seq : Nat} {o : Obj} {i v : Nat} {present : Bool}
    (h : s.writable x seq o i = true) (hrow : unsignedRow o = true) (hpresent : present = true) (hkey : o.keyOf i < 2 ^ 24)
    (hv : v < 256 ^ o.ty.size) (hrange : o.rng.holds s.part v (fifoDepth i) = true)
    (heffect : numberEffect o i v (s.touched x seq) = .ok t) :
    s.writes (x.writeReq seq o i v) present o i v = .next (t.written x seq o i) := by
  simp only [unsignedRow, Bool.and_eq_true, Bool.or_eq_true, decide_eq_true_eq] at hrow
  obtain ⟨⟨⟨⟨⟨⟨hty, hacc⟩, hmask⟩, hpower⟩, hreset⟩, hlocked⟩, hlocked'⟩ := hrow
  obtain ⟨hunsigned, hnumber, hlegal⟩ : o.ty.signed = false ∧ o.ty ≠ .domain ∧ o.ty.legal v = true := by
    rcases hty with ((hty | hty) | hty) | hty <;> simp [hty, Ty.signed, Ty.legal]
  have hclean : o.clean (o.ty.decode (o.ty.encode v)) = v := by
    simp [Ty.decode_encode_of_unsigned hunsigned hv, Obj.clean, hmask]
  have hafter (n : Nat) : afterWrite o i n = .nothing := by simp [afterWrite, hpower, hreset, hacc]
  rw [State.writes_next h hpresent hkey hnumber hacc ⟨hlocked, hlocked'⟩ (o.ty.length_encode v) hclean hlegal hrange heffect,
    hafter]
  rfl

end Sys2Proof.Machine
end

section
/-! PROOF. O23: the requests of DMA channels, engines, completion rings and FIFOs (R377, R379, R385, R387, R389, R394, R397). -/
namespace Sys2Proof.Machine

/-! DMA_CH_COMMAND (R377, R379, R387). -/

/-- A command of a channel: 1 to 4. -/
theorem State.writes_channelCommand {s t : State} {x : Session} {seq e ch v : Nat}
    (h : s.writable x seq (rowAt 0x7807 1) (64 * e + ch) = true) (he : e < 11) (hch : ch < 64) (hlo : 1 ≤ v) (hhi : v ≤ 4)
    (heffect : dmaCommand e ch v (s.touched x seq) = .ok t) :
    s.writes (x.writeReq seq (rowAt 0x7807 1) (64 * e + ch) v) (e < 11 && ch < 64) (rowAt 0x7807 1) (64 * e + ch) v =
      .next (t.written x seq (rowAt 0x7807 1) (64 * e + ch)) := by
  have hplace : dmaCommand ((64 * e + ch) / 64) ((64 * e + ch) % 64) v (s.touched x seq) = .ok t := by
    rwa [show (64 * e + ch) / 64 = e by omega, show (64 * e + ch) % 64 = ch by omega]
  rw [rowAt_7807_1] at h ⊢
  refine State.writes_unsigned h rfl (by simp [he, hch]) ?key ?fits ?range hplace
  case key =>
    simp only [Obj.keyOf]
    omega
  case fits =>
    simp only [Ty.size]
    omega
  case range =>
    simp only [Rng.holds, Bool.and_eq_true, decide_eq_true_eq]
    omega

section
variable {s : State} {e ch : Nat}

/-- R377, R484: a start of a host channel that no check refuses, in a hub whose memory is not under test. -/
theorem dmaCommand_start (hbist : s.bistOn e = false) (hhost : ownedByDevice ch = false) (hstart : s.startRefused e ch = none) :
    dmaCommand e ch 1 s = .ok (s.startChannel e ch) := by
  simp [dmaCommand, refuseIf, bind, Except.bind, dmaStart, hbist, hhost, hstart]

/-- R387: a pause of a host channel that runs or waits. -/
theorem dmaCommand_pause (hhost : ownedByDevice ch = false) (hmoves : s.chState e ch = dmaRunning ∨ s.chState e ch = dmaWaiting) :
    dmaCommand e ch 2 s = .ok (s.pauseChannel e ch) := by
  rcases hmoves with hmoves | hmoves <;> simp [dmaCommand, refuseIf, bind, Except.bind, dmaPause, hhost, hmoves]

/-- R379: a paused host channel goes on. -/
theorem dmaCommand_resume (hhost : ownedByDevice ch = false) (hpaused : s.chState e ch = dmaFreewheel) :
    dmaCommand e ch 3 s = .ok (s.goOn e ch (s.runOrWait e ch)) := by
  simp [dmaCommand, refuseIf, bind, Except.bind, dmaResume, hhost, hpaused]

/-- R379: a host channel that holds a transfer and has not written all of it is aborted. -/
theorem dmaCommand_abort (hhost : ownedByDevice ch = false) (hbusy : s.chState e ch ≠ dmaIdle)
    (hwrites : s.chState e ch ≠ dmaLanding) : dmaCommand e ch 4 s = .ok (s.abortChannel e ch 1) := by
  simp [dmaCommand, refuseIf, bind, Except.bind, dmaAbort, hhost, hbusy, hwrites]

end

/-! Engines (R389). -/

/-- R389: the host resumes an engine that three bus errors have stopped. -/
theorem dmaEngineCommand_of_stopped {s : State} {e : Nat} (h : s.nat (Key.dmaEngineState e) = 2) :
    dmaEngineCommand e s = .ok (s.engineResume e) := by
  simp [dmaEngineCommand, h]

/-! Completion rings (R385). -/

/-- R22: the entries of the engines lie in one block. -/
theorem keyOf_engine_lt {o : Obj} {e : Nat} (hinst : o.inst = .dmaEngine) (hidx : o.idx < 0x7840) (hsub : o.sub < 256)
    (he : e < 11) : o.keyOf e < 2 ^ 24 := by
  simp only [Obj.keyOf, hinst]
  omega

section
variable {s : State} {e v : Nat}

/-- R385: the host reads up to a record that is written. -/
theorem dmaRingRead_of_between (hlo : s.nat (Key.dmaRingRead e) ≤ v) (hhi : v ≤ s.nat (Key.dmaRingWritten e)) :
    dmaRingRead e v s = .ok (s.setObj (Key.dmaRingRead e) v) := by
  simp [dmaRingRead, Nat.not_lt.mpr hlo, Nat.not_lt.mpr hhi]

variable (hfree : ((s.engineChannels e).any fun ch => ctrlRecord (s.chCtrl e ch)) = false)
include hfree

/-- R385: with no channel that records, the ring is taken away, or put where the whole of it fits. -/
theorem dmaRingConfig_base (hfits : v ≠ 0 → v % 32 = 0 ∧ s.hostSpan e v (v + 32 * s.nat (Key.dmaRingSize e) - 1) = true) :
    dmaRingConfig e 1 v s =
      .ok (((s.setObj (Key.dmaRingBase e) v).setObj (Key.dmaRingWritten e) 0).setObj (Key.dmaRingRead e) 0) := by
  have hplace : (decide (v ≠ 0) && (decide (v % 32 ≠ 0) || !s.hostSpan e v (v + 32 * s.nat (Key.dmaRingSize e) - 1))) = false := by
    by_cases hzero : v = 0
    · simp [hzero]
    · obtain ⟨haligned, hspan⟩ := hfits hzero
      simp [haligned, hspan]
  simp only [dmaRingConfig, if_true, hplace, hfree]
  rfl

/-- R385: with no channel that records, a ring that stands nowhere has any size of its row. -/
theorem dmaRingConfig_size (hnone : s.nat (Key.dmaRingBase e) = 0) :
    dmaRingConfig e 2 v s =
      .ok (((s.setObj (Key.dmaRingSize e) v).setObj (Key.dmaRingWritten e) 0).setObj (Key.dmaRingRead e) 0) := by
  simp [dmaRingConfig, hnone, hfree, refuseIf, bind, Except.bind]

end

/-- R385: the base of a ring is a multiple of 32. -/
theorem State.writes_ringBase {s : State} {x : Session} {seq e v : Nat} (h : s.writable x seq (rowAt 0x7831 1) e = true)
    (he : e < 11) (haligned : v % 32 = 0) (hv : v < 2 ^ 64)
    (hfits : v ≠ 0 → s.hostSpan e v (v + 32 * s.nat (Key.dmaRingSize e) - 1) = true)
    (hfree : ((s.engineChannels e).any fun ch => ctrlRecord (s.chCtrl e ch)) = false) :
    s.writes (x.writeReq seq (rowAt 0x7831 1) e v) (e < 11 && 1 ≤ 1 && 1 ≤ 2) (rowAt 0x7831 1) e v =
      .next (((((s.touched x seq).setObj (Key.dmaRingBase e) v).setObj (Key.dmaRingWritten e) 0).setObj (Key.dmaRingRead e)
        0).written x seq (rowAt 0x7831 1) e) := by
  have heffect := dmaRingConfig_base (s := s.touched x seq) hfree fun hzero => ⟨haligned, hfits hzero⟩
  rw [rowAt_7831_1] at h ⊢
  refine State.writes_unsigned h rfl (by simp [he]) (keyOf_engine_lt rfl (by decide) (by decide) he) ?fits ?range heffect
  case fits =>
    simp only [Ty.size]
    omega
  case range =>
    simp only [Rng.holds, Bool.and_eq_true, decide_eq_true_eq]
    omega

/-- R385: the sizes of a ring fit their entry. -/
theorem ringSize_lt {p : Part} {v depth : Nat} (h : (rowAt 0x7831 2).rng.holds p v depth = true) : v < 256 ^ Ty.u32.size := by
  simp only [rowAt_7831_2, Rng.holds, List.contains_iff_mem, List.mem_cons, List.not_mem_nil, or_false] at h
  simp only [Ty.size]
  omega

/-! FIFOs (R394, R397). -/

/-- The entries of the FIFOs lie in one block. -/
theorem keyOf_fifo_lt {o : Obj} {f : Nat} (hinst : o.inst = .fifo) (hidx : o.idx < 0x7C00) (hsub : o.sub < 256)
    (hf : f < 636) : o.keyOf f < 2 ^ 24 := by
  simp only [Obj.keyOf, hinst]
  omega

/-- R394: FIFO_COMMAND takes 1 and 2. -/
theorem State.writes_fifoCommand {s t : State} {x : Session} {seq f v : Nat} (h : s.writable x seq (rowAt 0x7B14 1) f = true)
    (hf : f < 636) (hv : v = 1 ∨ v = 2) (heffect : fifoCommandWrite f v (s.touched x seq) = .ok t) :
    s.writes (x.writeReq seq (rowAt 0x7B14 1) f v) (f < 636) (rowAt 0x7B14 1) f v =
      .next (t.written x seq (rowAt 0x7B14 1) f) := by
  rw [rowAt_7B14_1] at h ⊢
  refine State.writes_unsigned h rfl (decide_eq_true hf) (keyOf_fifo_lt rfl (by decide) (by decide) hf) ?fits ?range heffect
  case fits =>
    simp only [Ty.size]
    omega
  case range =>
    rcases hv with rfl | rfl <;> rfl

/-- R397: an acknowledgement of every crossing that was counted. -/
theorem fifoWmAck_all (s : State) (f : Nat) :
    fifoWmAck f (s.fifo f).count s =
      .ok { s with fifos := mapSet f { s.fifo f with count := 0, up := false, down := false } s.fifos } := by
  simp [fifoWmAck]

/-! The obligation. -/

/-- Settles O23: each value is one that its entry takes, and the effect is the one of its command. -/
theorem moverRequestsAct : Obligations.MoverRequestsAct := by
  refine ⟨?start, ?pause, ?resume, ?abort, ?engine, ?ringRead, ?ringOff, ?ringBase, ?ringSize, ?drop, ?flush, ?acknowledge⟩
  case start =>
    intro s x seq e ch h he hch hbist hhost hstart
    dsimp only [exec, execDmaStart]
    exact State.writes_channelCommand h he hch (by decide) (by decide)
      (dmaCommand_start (s := s.touched x seq) hbist hhost hstart)
  case pause =>
    intro s x seq e ch h he hch hhost hmoves
    dsimp only [exec, execDmaPause]
    exact State.writes_channelCommand h he hch (by decide) (by decide) (dmaCommand_pause (s := s.touched x seq) hhost hmoves)
  case resume =>
    intro s x seq e ch h he hch hhost hpaused
    dsimp only [exec, execDmaResume]
    exact State.writes_channelCommand h he hch (by decide) (by decide) (dmaCommand_resume (s := s.touched x seq) hhost hpaused)
  case abort =>
    intro s x seq e ch h he hch hhost hbusy hwrites
    dsimp only [exec, execDmaAbort]
    exact State.writes_channelCommand h he hch (by decide) (by decide)
      (dmaCommand_abort (s := s.touched x seq) hhost hbusy hwrites)
  case engine =>
    intro s x seq e h he hstopped
    have heffect := dmaEngineCommand_of_stopped (s := s.touched x seq) hstopped
    dsimp only [exec, execDmaEngineCommand]
    rw [rowAt_7830_2] at h ⊢
    exact State.writes_unsigned (v := 1) h rfl (decide_eq_true he) (keyOf_engine_lt rfl (by decide) (by decide) he) (by decide) rfl
      heffect
  case ringRead =>
    intro s x seq e v h he hv hlo hhi
    have heffect := dmaRingRead_of_between (s := s.touched x seq) hlo hhi
    dsimp only [exec, execDmaRingReadWrite]
    rw [rowAt_7831_4] at h ⊢
    exact State.writes_unsigned h rfl (decide_eq_true he) (keyOf_engine_lt rfl (by decide) (by decide) he) hv rfl heffect
  case ringOff =>
    intro s x seq e h he hfree
    dsimp only [exec, execDmaRingConfigWrite]
    exact State.writes_ringBase h he rfl (by decide) (fun hzero => absurd rfl hzero) hfree
  case ringBase =>
    intro s x seq e v h he haligned hv hspan hfree
    dsimp only [exec, execDmaRingConfigWrite]
    exact State.writes_ringBase h he haligned hv (fun _ => hspan) hfree
  case ringSize =>
    intro s x seq e v h he hrange hnone hfree
    have hfits := ringSize_lt hrange
    have heffect := dmaRingConfig_size (s := s.touched x seq) (v := v) hfree hnone
    dsimp only [exec, execDmaRingConfigWrite]
    rw [rowAt_7831_2] at h hrange ⊢
    exact State.writes_unsigned h rfl (by simp [he]) (keyOf_engine_lt rfl (by decide) (by decide) he) hfits hrange heffect
  case drop =>
    intro s x seq f h hf
    dsimp only [exec, execFifoDropRemainder]
    exact State.writes_fifoCommand h hf (.inl rfl) rfl
  case flush =>
    intro s x seq f h hf
    dsimp only [exec, execFifoFlush]
    exact State.writes_fifoCommand h hf (.inr rfl) rfl
  case acknowledge =>
    intro s x seq f h hf hcount
    have heffect := fifoWmAck_all (s.touched x seq) f
    dsimp only [exec, execFifoWmAck]
    rw [rowAt_7B10_1] at h ⊢
    exact State.writes_unsigned h rfl (decide_eq_true hf) (keyOf_fifo_lt rfl (by decide) (by decide) hf) hcount rfl heffect

end Sys2Proof.Machine
end

section
/-! PROOF. O35, O47: the engines' bursts, acknowledgements, drains, landings and bus errors (R380 to R390). -/
namespace Sys2Proof.Machine

/-! The entries of a channel and of an engine stay apart (R398): only a channel's number below 64 keeps it within its engine. -/

theorem Key.dmaChState_ne_doneBytes (e ch : Nat) : Key.dmaChState e ch ≠ Key.dmaChDoneBytes e ch := by
  simp only [Key.dmaChState, Key.dmaChDoneBytes, Key.dmaKey]
  omega

theorem Key.dmaChSrcAddr_ne_doneBytes (e ch : Nat) : Key.dmaChSrcAddr e ch ≠ Key.dmaChDoneBytes e ch := by
  simp only [Key.dmaChSrcAddr, Key.dmaChDoneBytes, Key.dmaKey]
  omega

theorem Key.dmaChSrcShape_ne_doneBytes (e ch : Nat) : Key.dmaChSrcShape e ch ≠ Key.dmaChDoneBytes e ch := by
  simp only [Key.dmaChSrcShape, Key.dmaChDoneBytes, Key.dmaKey]
  omega

/-- R388, R389: the hold-off time of an engine is none of the entries that a halt of one of its channels changes. -/
theorem Key.dmaErrHoldoff_ne_channel {ch : Nat} (hch : ch < 64) (e : Nat) :
    Key.dmaErrHoldoff e ≠ Key.dmaChDoneBytes e ch ∧ Key.dmaErrHoldoff e ≠ Key.dmaChRewinds e ch ∧
      Key.dmaErrHoldoff e ≠ Key.dmaChState e ch := by
  simp only [Key.dmaErrHoldoff, Key.dmaChDoneBytes, Key.dmaChRewinds, Key.dmaChState, Key.dmaKey]
  omega

/-- The channels of an engine are numbered below 64. -/
theorem State.engineChannel_lt {s : State} {e ch : Nat} (h : ch ∈ s.engineChannels e) : ch < 64 := by
  simp only [State.engineChannels, State.busyChannels, List.mem_map, List.mem_filter] at h
  obtain ⟨_, ⟨⟨c, -, rfl⟩, -⟩, rfl⟩ := h
  exact Nat.mod_lt _ (by decide)

/-! Storing a burst (R383, R414, R415): what it changes beside the bytes is which words are poisoned. -/

theorem State.poisonWord_eq (s : State) (a : Nat) : s.poisonWord a = { s with poison := (s.poisonWord a).poison } := by
  unfold State.poisonWord
  split <;> rfl

/-- Steps that mark words leave everything else. -/
theorem State.foldl_poison_eq {α : Type} {f : State → α → State} (hf : ∀ t x, f t x = { t with poison := (f t x).poison })
    (l : List α) (s : State) : l.foldl f s = { s with poison := (l.foldl f s).poison } := by
  induction l generalizing s with
  | nil => rfl
  | cons x r ih =>
    have htail := ih (f s x)
    rw [List.foldl_cons, htail, hf s x]

/-- R383, R415: a burst is stored as its bytes; the rest is which words are poisoned. -/
theorem State.storeBurst_eq (s : State) (b : Burst) :
    s.storeBurst b = { s.memWrite b.addr (b.data.map (·.byte)) with poison := (s.storeBurst b).poison } := by
  refine State.foldl_poison_eq (fun t d => ?_) _ _
  split
  case isTrue => exact t.poisonWord_eq _
  case isFalse => rfl

theorem State.storeBurst_nat (s : State) (b : Burst) (k : Nat) : (s.storeBurst b).nat k = s.nat k := by
  rw [s.storeBurst_eq b]
  rfl

theorem State.storeBurst_xfer (s : State) (b : Burst) (e ch : Nat) : (s.storeBurst b).xfer e ch = s.xfer e ch := by
  rw [s.storeBurst_eq b]
  rfl

theorem State.storeBurst_mem (s : State) (b : Burst) :
    (s.storeBurst b).mem = Memory.writeBytes b.addr (b.data.map (·.byte)) s.mem := by
  rw [s.storeBurst_eq b]
  rfl

/-! Acknowledgements (R383). -/

section
variable {s : State} {e ch : Nat} {b : Burst} {r : List Burst}

/-- R383: an acknowledgement stores the oldest burst in flight, and counts its bytes. -/
theorem State.burstDone_of_cons (h : (s.xfer e ch).flight = b :: r) :
    s.burstDone e ch b = ((s.storeBurst b).updXfer e ch fun y => { y with flight := r }).setObj (Key.dmaChDoneBytes e ch)
      (b.pos + b.data.length : Nat) := by
  simp only [State.burstDone, State.updXfer, s.storeBurst_xfer, h, List.drop_succ_cons, List.drop_zero]

/-- R383: an acknowledgement leaves the entries of the channel other than the bytes that are done. -/
theorem State.burstDone_nat {k : Nat} (h : k ≠ Key.dmaChDoneBytes e ch) : (s.burstDone e ch b).nat k = s.nat k := by
  rw [State.burstDone, State.nat_setObj_other _ h, State.updXfer_nat, State.storeBurst_nat]

theorem State.burstDone_chState : (s.burstDone e ch b).chState e ch = s.chState e ch :=
  State.burstDone_nat (Key.dmaChState_ne_doneBytes e ch)

theorem State.burstDone_srcShape : (s.burstDone e ch b).srcShape e ch = s.srcShape e ch := by
  simp only [State.srcShape, State.burstDone_nat (Key.dmaChSrcAddr_ne_doneBytes e ch),
    State.burstDone_nat (Key.dmaChSrcShape_ne_doneBytes e ch)]

theorem State.burstDone_doneBytes : (s.burstDone e ch b).nat (Key.dmaChDoneBytes e ch) = b.pos + b.data.length :=
  State.nat_setObj_same ..

/-- R383: a RUNNING channel lands when the acknowledged burst is the last of its stream. -/
theorem State.lastLeft_burstDone (hrunning : s.chState e ch = dmaRunning) :
    (s.burstDone e ch b).lastLeft e ch =
      if (s.srcShape e ch).bytes ≤ b.pos + b.data.length then (s.burstDone e ch b).enterLanding e ch
      else s.burstDone e ch b := by
  simp only [State.lastLeft, State.burstDone_chState, State.burstDone_srcShape, State.burstDone_doneBytes, hrunning, true_and]

/-- DMA_WRITE_ACK of a RUNNING channel with a burst in flight. -/
theorem exec_dmaWriteAck (hpresent : s.part.dmaPresent e = true) (hch : ch < 64) (hflight : (s.xfer e ch).flight = b :: r)
    (hrunning : s.chState e ch = dmaRunning) :
    exec (.dmaWriteAck e ch) s = .next ((s.burstDone e ch b).lastLeft e ch) := by
  have hrun : exec (.dmaWriteAck e ch) s = .next (dmaWriteAck e ch s) := onUnit_of_present (by simp [hpresent, hch]) _
  simp only [hrun, dmaWriteAck, hflight, hrunning, true_or, if_true]

/-- R383: of a burst that is not the transfer's last. -/
theorem exec_dmaWriteAck_of_more (hpresent : s.part.dmaPresent e = true) (hch : ch < 64)
    (hflight : (s.xfer e ch).flight = b :: r) (hrunning : s.chState e ch = dmaRunning)
    (hmore : b.pos + b.data.length < (s.srcShape e ch).bytes) :
    exec (.dmaWriteAck e ch) s = .next (((s.storeBurst b).updXfer e ch fun y => { y with flight := r }).setObj
      (Key.dmaChDoneBytes e ch) (b.pos + b.data.length : Nat)) := by
  rw [exec_dmaWriteAck hpresent hch hflight hrunning, State.lastLeft_burstDone hrunning, if_neg (Nat.not_le.mpr hmore),
    State.burstDone_of_cons hflight]

/-- R383, R384: of the transfer's last burst. -/
theorem exec_dmaWriteAck_of_last (hpresent : s.part.dmaPresent e = true) (hch : ch < 64)
    (hflight : (s.xfer e ch).flight = b :: r) (hrunning : s.chState e ch = dmaRunning)
    (hlast : (s.srcShape e ch).bytes ≤ b.pos + b.data.length) :
    exec (.dmaWriteAck e ch) s = .next ((((s.storeBurst b).updXfer e ch fun y => { y with flight := r }).setObj
      (Key.dmaChDoneBytes e ch) (b.pos + b.data.length : Nat)).enterLanding e ch) := by
  rw [exec_dmaWriteAck hpresent hch hflight hrunning, State.lastLeft_burstDone hrunning, if_pos hlast,
    State.burstDone_of_cons hflight]

end

/-! Landings (R383, R384). -/

theorem exec_dmaLanded {s : State} {e ch : Nat} (hpresent : s.part.dmaPresent e = true) (hch : ch < 64) :
    exec (.dmaLanded e ch) s = .next (dmaLanded e ch s) := onUnit_of_present (by simp [hpresent, hch]) _

/-! Grants (R380, R381). -/

/-- R381: a channel without pacing keeps its state. -/
theorem State.repace_of_unpaced {s : State} {e ch : Nat} (h : paceFifo (s.nat (Key.dmaChPace e ch)) = 0xFFFF) :
    s.repace e ch = s := by
  simp [State.repace, h]

/-- Round robin among one channel. -/
theorem roundRobin_singleton (last ch : Nat) : roundRobin last [ch] = some ch := by
  by_cases h : last < ch <;> simp [roundRobin, h]

/-- R380: aged or not, the only channel that has data is the one of its class. -/
theorem dmaBurstGrant_of_only {s : State} {e ch : Nat} (hengine : s.nat (Key.dmaEngineState e) = 0)
    (hpowered : s.domainOn (engineDomain e) = true) (honly : s.engineChannels e = [ch])
    (hunpaced : paceFifo (s.nat (Key.dmaChPace e ch)) = 0xFFFF) (hdata : s.hasData e ch = true) :
    ∃ level, dmaBurstGrant e s = (s.updEng e fun g => { g with last := mapSet level ch g.last }).grantBurst e ch := by
  -- The aged class is at level 8, the others are at their priority.
  refine ⟨if usCycles (s.nat (Key.dmaAgeTime e)) ≤ s.since (s.xfer e ch).ready then 8 else ctrlPriority (s.chCtrl e ch), ?_⟩
  by_cases haged : usCycles (s.nat (Key.dmaAgeTime e)) ≤ s.since (s.xfer e ch).ready <;>
    simp [dmaBurstGrant, hengine, hpowered, honly, State.repace_of_unpaced hunpaced, hdata, haged, roundRobin_singleton]

/-! Bus errors (R388, R389). -/

/-- R388: a halt changes entries of its channel only. -/
theorem State.haltChannel_nat {s : State} {e ch k : Nat} (addr : Nat) (hdone : k ≠ Key.dmaChDoneBytes e ch)
    (hrewinds : k ≠ Key.dmaChRewinds e ch) (hstate : k ≠ Key.dmaChState e ch) :
    (s.haltChannel e addr ch).nat k = s.nat k := by
  simp only [State.haltChannel]
  split
  case isTrue => rfl
  case isFalse =>
    rw [State.updXfer_nat, State.chGo, State.nat_setObj_other _ hstate, State.bump, State.nat_addTo_other _ hrewinds,
      State.nat_setObj_other _ hdone]

theorem State.haltChannel_dmaEng (s : State) (e addr ch : Nat) : (s.haltChannel e addr ch).dmaEng e = s.dmaEng e := by
  simp only [State.haltChannel]
  split <;> rfl

/-- R388, R389: the only channel of an engine is halted, and the bus error is counted and noted; `recent`: the errors of the last
second. -/
def State.busErrorNoted (s : State) (e addr ch : Nat) (recent : List Nat) : State :=
  (((s.haltChannel e addr ch).bump (Key.dmaBusErrors e)).setObj (Key.dmaLastErrAddr e) addr).updEng e fun g => { g with
    errors := recent, heldUntil := s.cycles + msCycles (s.nat (Key.dmaErrHoldoff e)) }

/-- R389: the hold-off that a bus error begins is the one in force before it. -/
theorem State.errHoldoff_busError (s : State) {e addr ch : Nat} (hch : ch < 64) :
    (((s.haltChannel e addr ch).bump (Key.dmaBusErrors e)).setObj (Key.dmaLastErrAddr e) addr).nat (Key.dmaErrHoldoff e) =
      s.nat (Key.dmaErrHoldoff e) := by
  obtain ⟨hdone, hrewinds, hstate⟩ := Key.dmaErrHoldoff_ne_channel hch e
  have haddr : Key.dmaErrHoldoff e ≠ Key.dmaLastErrAddr e := by simp only [Key.dmaErrHoldoff, Key.dmaLastErrAddr, Key.dmaKey]; omega
  have hcount : Key.dmaErrHoldoff e ≠ Key.dmaBusErrors e := by simp only [Key.dmaErrHoldoff, Key.dmaBusErrors, Key.dmaKey]; omega
  rw [State.nat_setObj_other _ haddr, State.bump, State.nat_addTo_other _ hcount, State.haltChannel_nat addr hdone hrewinds hstate]

/-- R388, R389: a bus error of an engine in RUN with one channel, which moves; the third within a second stops the engine. -/
theorem exec_dmaBusError_of_only {s : State} {e addr ch : Nat} {recent : List Nat} (hpresent : s.part.dmaPresent e = true)
    (hengine : s.nat (Key.dmaEngineState e) = 0) (honly : s.engineChannels e = [ch]) (hmoves : haltable (s.chState e ch) = true)
    (hrecent : recent = s.cycles :: ((s.dmaEng e).errors.filter fun t => s.since t ≤ secCycles 1)) :
    exec (.dmaBusError e addr) s = .next
      (if 3 ≤ recent.length then
        ((s.busErrorNoted e addr ch recent).setObj (Key.dmaEngineState e) 2).raise 0x7803 2 (pathDma e) (leBytes 8 addr)
      else ((s.busErrorNoted e addr ch recent).setObj (Key.dmaEngineState e) 1).raise 0x7801 2 (pathDma e)
        (leBytes 8 addr ++ [byteOf recent.length])) := by
  have hrun : exec (.dmaBusError e addr) s = .next (dmaBusError e addr s) := onUnit_of_present hpresent _
  have hch : ch < 64 := State.engineChannel_lt (s := s) (e := e) (by simp [honly])
  have heng : (((s.haltChannel e addr ch).bump (Key.dmaBusErrors e)).setObj (Key.dmaLastErrAddr e) addr).dmaEng e = s.dmaEng e :=
    s.haltChannel_dmaEng e addr ch
  subst hrecent
  simp [hrun, dmaBusError, hengine, honly, hmoves, State.busErrorNoted, s.errHoldoff_busError hch, heng, State.since]

/-! The obligations. -/

/-- Settles O35: each command's engine and channel are there, and its condition has come about. -/
theorem dmaActs : Obligations.DmaActs := by
  refine ⟨?grant, ?ack, ?lastAck, ?drained, ?landedKnown, ?landedNew, ?error, ?thirdError, ?holdoff⟩
  case grant =>
    intro s e ch hpresent hengine hpowered honly hunpaced hdata
    obtain ⟨level, hgrant⟩ := dmaBurstGrant_of_only hengine hpowered honly hunpaced hdata
    exact ⟨level, (onUnit_of_present hpresent _).trans (congrArg _ hgrant)⟩
  case ack =>
    intro s e ch b r hpresent hch hflight hrunning hmore
    exact ⟨_, exec_dmaWriteAck_of_more hpresent hch hflight hrunning hmore, rfl⟩
  case lastAck =>
    intro s e ch b r hpresent hch hflight hrunning hlast
    exact exec_dmaWriteAck_of_last hpresent hch hflight hrunning hlast
  case drained =>
    intro s e ch hpresent hch hdraining hempty
    have hrun : exec (.dmaDrained e ch) s = .next (dmaDrained e ch s) := onUnit_of_present (by simp [hpresent, hch]) _
    rw [hrun, dmaDrained, if_pos ⟨hdraining, hempty⟩]
  case landedKnown =>
    intro s e ch k hpresent hch hlanding hseq
    simp only [exec_dmaLanded hpresent hch, dmaLanded, hlanding, hseq, ne_eq, not_true_eq_false, if_false]
  case landedNew =>
    intro s e ch hpresent hch hlanding hseq
    simp only [exec_dmaLanded hpresent hch, dmaLanded, hlanding, hseq, ne_eq, not_true_eq_false, if_false]
  case error =>
    intro s e addr ch hpresent hengine honly hmoves hfirst
    exact ⟨_, exec_dmaBusError_of_only hpresent hengine honly hmoves (recent := [s.cycles]) (by simp [hfirst]), rfl⟩
  case thirdError =>
    intro s e addr ch t1 t2 hpresent hengine honly hmoves hearlier hrecent1 hrecent2
    exact exec_dmaBusError_of_only hpresent hengine honly hmoves (recent := [s.cycles, t1, t2])
      (by simp [hearlier, hrecent1, hrecent2])
  case holdoff =>
    intro s e hpresent hheld hover
    have hrun : exec (.dmaHoldoffEnd e) s = .next (dmaHoldoffEnd e s) := onUnit_of_present hpresent _
    rw [hrun, dmaHoldoffEnd, s.whenever_of_true (by simp [hheld, hover])]

/-- Settles O47: the burst's bytes are the only ones that its acknowledgement writes. -/
theorem burstLandsAtItsAddress : Obligations.BurstLandsAtItsAddress := by
  intro s e ch b r hwf hpresent hch hflight hrunning hmore
  refine ⟨_, exec_dmaWriteAck_of_more hpresent hch hflight hrunning hmore, fun a => ?_⟩
  have hread := Memory.read_writeBytes b.addr a (b.data.map (·.byte)) hwf
  rw [List.length_map] at hread
  rw [State.setObj_mem, State.updXfer_mem, State.storeBurst_mem, hread]

end Sys2Proof.Machine
end

section
/-! PROOF. O42, O43, O46: device memory (R407, R408). Few commands reach it; the others leave every byte, and those that reach it keep
its canonical form. -/
namespace Sys2Proof.Machine

/-- The next state, where the result is one, satisfies p. -/
def NextHas (p : State → Prop) (r : Res) : Prop := ∀ t, r = .next t → p t

theorem NextHas.imp {p q : State → Prop} {r : Res} (h : NextHas p r) (hpq : ∀ t, p t → q t) : NextHas q r :=
  fun t ht => hpq t (h t ht)

/-! One rule for each shared form of a command's meaning. -/

theorem nextHas_next {p : State → Prop} {t : State} (h : p t) : NextHas p (.next t) := fun _ k => by cases k; exact h

theorem nextHas_onUnit {p : State → Prop} {t : State} (present : Bool) (h : p t) : NextHas p (onUnit present t) := by
  cases present
  case false => exact fun _ k => by cases k
  case true => exact nextHas_next h

section
variable (s : State) {f : State → State} (h : ∀ t, (f t).mem = t.mem)
include h

theorem cendoRow_leavesMemory (l : Lane) : NextHas (fun t => t.mem = s.mem) (cendoRow l f s) :=
  nextHas_onUnit _ (onLane_mem l f s h)

theorem laneRow_leavesMemory (l : Lane) : NextHas (fun t => t.mem = s.mem) (laneRow l f s) :=
  nextHas_onUnit _ (onLane_mem l f s h)

theorem packetRow_leavesMemory (port : Nat) : NextHas (fun t => t.mem = s.mem) (packetRow port f s) :=
  nextHas_onUnit _ (onLane_mem _ f s h)

end

theorem messageRow_leavesMemory (s : State) (l : Lane) (x : Line) (type : Nat) {f : Nat → Bytes → State → State}
    (h : ∀ tag p t, (f tag p t).mem = t.mem) : NextHas (fun t => t.mem = s.mem) (messageRow l x type f s) :=
  cendoRow_leavesMemory s (fun t => State.onMessage_mem t l x type f h) l

section
variable {s : State} (hw : Memory.wf s.mem = true) (r : Req)
include hw

theorem asks_keepsMemoryForm (service : Nat) (p : Bytes) :
    NextHas (fun t => Memory.wf t.mem = true) (s.asks r service p) := nextHas_next (State.request_wf s _ _ _ _ _ _ hw)

theorem ends_keepsMemoryForm (handle length crc : Nat) (entry : Nat → Bool) :
    NextHas (fun t => Memory.wf t.mem = true) (s.ends r handle length crc entry) :=
  nextHas_next (State.whenever_wf s _ _ (fun t => State.request_wf t _ _ _ _ _ _) hw)

theorem writes_keepsMemoryForm (present : Bool) (o : Obj) (i : Nat) (v : Int) :
    NextHas (fun t => Memory.wf t.mem = true) (s.writes r present o i v) :=
  nextHas_onUnit _ (State.request_wf s _ _ _ _ _ _ hw)

end

/-- R408: the commands outside `reachesMemory`, grouped by the form of their meaning, leave memory. -/
theorem exec_leavesMemory {c : Instr} (h : reachesMemory c = false) (s : State) :
    NextHas (fun t => t.mem = s.mem) (exec c s) := by
  cases c with
  | seekAttempt | transitionsDetected | attemptTimeout | clockRecoveryLock | detectTimeout | symbolAlignment | alignTimeout
  | alignmentLost | trainingEvaluation | trainingBudgetExpiry | verifyEnd | retrainDeferralTimeout | laneDegradedRetry =>
    exact cendoRow_leavesMemory _ (fun _ => by simp) _
  | tapStatus | identity | rateAck | loopAck | prbsAck | refused | writeAck | readData =>
    exact messageRow_leavesMemory _ _ _ _ fun _ _ _ => by simp
  | lossOfSignal | fomEvaluation | prbsLock | prbsLockLost | laneIdleFreeze =>
    exact laneRow_leavesMemory _ (fun _ => by simp) _
  | fsArrival | linePacket | embeddedPacket | fePacket => exact packetRow_leavesMemory _ (fun _ => by simp) _
  | timeBeaconReceive | tapRequest | linkReset | creditPacket | tunnelPacketReceive | trkPacketErrored | returnWidthDetected
  | ptpMessage | ptpSyncTransmit | bellPulseEnd | messageResponseTimeout | ethLaneStateChange | feWatchdog | cadenceMiss
  | lineCreditGain | fsAccepted | lineGroupTake | statRecordComplete | expWriteSlot | warpMatchDeadline | warpTileIssue
  | warpTileComplete | codecSliceComplete | ethFrameReceive | addressAging | ethEgressSelect | evFrameAccept
  | gateChangeInstant | gateIntervalEnd | preemptVerify | ptpRelayDatagram | dmaDrained | dmaBusError | crossingWordTransfer
  | domainSwitchDone | supplyDipEnd | pipeWatchdog | pipelineRestart | islandClockChange | injectFrameStart
  | clusterResetComplete => exact nextHas_onUnit _ (by simp)
  | canFdSegmentTimeout | arpRequest | neighbourSolicitation | openSession | blockTransferAbandon | halfOpenTimeout
  | sessionIdleTimeout | evtResendInterval | storeSaveComplete | sourceTimeout | pathHoldEnd | slewEnd | reepoch
  | tbExtWatchdog | tbOscLost | tbOscRestored | tbHoldoverAlarm | timeBeaconSend | oscRecalAdvice | bellLoad | bellStarved
  | bellFire | commitUnitFire | mergeRelease | trkPacketBoundary | trkCreditTimeout | trkTrainingDecision | trkWidenHold
  | trkLaneCountChange | resetRelease | rollcallSigned | tandemWindowExpiry | pwrDrainLimit | wake | supplyResetRelease
  | avsWrite | tjThrottle | tjCritical | calProcedureComplete | tjThrottleRelease | calSaveComplete =>
    exact nextHas_next (by simp)
  | _ => cases h

/-- R408, log 4: the commands that reach memory, grouped by the form of their meaning, keep its canonical form; the others leave it. -/
theorem exec_keepsMemoryForm (c : Instr) {s : State} (hw : Memory.wf s.mem = true) :
    NextHas (fun t => Memory.wf t.mem = true) (exec c s) := by
  cases c with
  | confirm | close | keepalive | read | write | blockOpen | blockData | blockEnd | commit | withdraw | subscribe | eventAck =>
    exact asks_keepsMemoryForm hw _ _ _
  | ttTableWrite | measExtend | rollcallNonce | tandemProposal | tandemSign | roleSecretWrite | accessPlanWrite
  | calTrimsWrite =>
    -- Left alone, unification unfolds `ends`, and below `writes`, before `exec`.
    dsimp only [exec]
    exact ends_keepsMemoryForm hw _ _ _ _ _
  | storeSave | storeLoad | storeDefaults | storeErase | tbSourceWrite | tbDiscontinuityActionSlew
  | tbDiscontinuityActionReepoch | tbRateAdjWrite | ptpInstanceRestart | ptpAsymFlagClear | txtsPop | laneCommandRetrain
  | laneCommandPortReset | laneEnableWrite | laneTestModeWrite | expApplyChange | expApplyRaw | warpCoreFence
  | warpPartitionWrite | codecEngineFence | trkEnableWrite | nxGateConfigChange | dmaStart | dmaPause | dmaResume | dmaAbort
  | dmaEngineCommand | dmaRingReadWrite | dmaRingConfigWrite | fifoDropRemainder | fifoFlush | fifoWmAck | fwActivate
  | fwConfirm | tandemCommand | enrolSeal | pwrCommandStandby | pwrCommandParked | pwrCommandRun | pwrDomainEnableWrite
  | rstDevice | rstCluster | rcvClear | calOscProcedure | calSupplyProcedure | calCameraProcedure | calEthProcedure
  | calBellProcedure | calSave | calRevert | calAbort | testPipeFence | testInjectStart | testInjectStop | testGoldenSpec
  | testBistCommand | testDramRetrain =>
    dsimp only [exec]
    exact writes_keepsMemoryForm hw _ _ _ _ _
  | dmaBurstGrant | dmaWriteAck | dmaLanded | dmaHoldoffEnd | fifoWordTransfer | crossingWatchdog | scrubPass | supplyDipBegin
  | supplyReset | hubWatchdog | bistComplete => exact nextHas_onUnit _ (by simp [hw])
  | canFdFrame | udpDatagram | powerOnReset | dramTrainingComplete | fwTrialTimeout | outputDrainTimeout | fwWatchdog =>
    exact nextHas_next (by simp [hw])
  | _ => exact (exec_leavesMemory rfl s).imp fun t (ht : t.mem = s.mem) => ht ▸ hw

/-! The obligations. -/

/-- Settles O46: each command outside `reachesMemory` has a meaning that leaves memory. -/
theorem memoryStaysElsewhere : Obligations.MemoryStaysElsewhere := fun _ s t hc => exec_leavesMemory hc s t

/-- Settles O42: after reset memory lists nothing. -/
theorem resetMemoryHasItsForm : Obligations.ResetMemoryHasItsForm := by
  have hempty : State.reset.mem = [] := rfl
  rw [Obligations.ResetMemoryHasItsForm, hempty, Memory.wf, Memory.wfFrom]

/-- Settles O43: a step is a command on the state with the queue's rest, or a cycle of the time base. -/
theorem stepKeepsMemoryForm : Obligations.StepKeepsMemoryForm := by
  intro s t hw hstep
  unfold step at hstep
  split at hstep
  case h_1 c rest _ => exact exec_keepsMemoryForm c (s := { s with pending := rest }) hw t hstep
  case h_2 =>
    cases hstep
    exact State.idle_wf s hw

end Sys2Proof.Machine
end

section
/-! PROOF. O37: resets, the boot, DRAM training and the timers of the protection (R403, R420, R421, R425, R433, R447, R453, R500). -/
namespace Sys2Proof.Machine

/-! The start of the boot (R420). -/

theorem State.startXspi_flash (s : State) : s.startXspi.flash = s.flash := by
  unfold State.startXspi
  split <;> rfl

theorem State.startXspi_boot (s : State) : s.startXspi.boot = s.boot := by
  unfold State.startXspi
  split <;> rfl

/-- R420: the device as it has left reset: the straps taken, the xSPI NOR started, the boot counted, its reason noted. -/
def State.released (s : State) (node sel kind : Nat) : State :=
  (({ s with strapNode := node, strapBoot := sel, boot := { s.boot with held := none, release := s.cycles } } : State).startXspi.bump
    Key.bootCount).setObj Key.bootReason kind

/-- R420: a device that leaves reset runs its flash's valid loader; without one it stays in mode 2. -/
theorem resetRelease_of_held {s : State} {node sel kind : Nat} (hnode : node < 128) (hsel : sel < 4)
    (hheld : s.boot.held = some kind) (hlow : s.sup.low = false) :
    resetRelease node sel s = s.flash.loader.elim
      (State.endReset { s.released node sel kind with boot := { s.boot with held := none, release := s.cycles, mode := 2 } } kind)
      fun c => State.bootImage (State.measureInto { s.released node sel kind with boot := { s.boot with
          held := none, release := s.cycles, loader := c } } 0
        (imageBody (if c = 0 then s.flash.loader0 else s.flash.loader1))) kind sel := by
  simp only [resetRelease, hheld, hlow, Nat.mod_eq_of_lt hnode, Nat.mod_eq_of_lt hsel, Bool.false_eq_true, if_false, State.released,
    State.setObj_flash, State.bump_flash, State.startXspi_flash, State.setObj_boot, State.bump_boot, State.startXspi_boot]
  cases s.flash.loader with
  | none => rfl
  | some c => rfl

/-! DRAM training (R403). -/

theorem State.nat_with_dram (s : State) (d : Dram) (k : Nat) : ({ s with dram := d } : State).nat k = s.nat k := rfl

/-- R403: storing what the training found leaves the power state. -/
theorem State.dramTrained_pwrState (s : State) (density rate : Nat) :
    (s.dramTrained density rate).nat Key.pwrState = s.nat Key.pwrState := by
  have hfound (a b c : Int) : (((s.setObj Key.memDramRateActive a).setObj Key.memDramDensity b).setObj Key.memDramUsable c).nat
      Key.pwrState = s.nat Key.pwrState := by
    rw [State.nat_setObj_other _ (by decide), State.nat_setObj_other _ (by decide), State.nat_setObj_other _ (by decide)]
  have hhost (u : State) (v : Int) : (u.setObj Key.memHostSizeActive v).nat Key.pwrState = u.nat Key.pwrState :=
    State.nat_setObj_other u (by decide) v
  simp only [State.dramTrained]
  rw [State.nat_with_dram]
  split
  · split
    · rw [hhost, hfound]
    · rw [State.raise_nat _ _ _ _ _ (by decide) (by decide), hhost, hfound]
  · exact hfound _ _ _

/-- R403: a training that reached rate r, in a device that is not waking. -/
theorem dramTrainingComplete_of_rate {s u : State} {density r : Nat} {failures : List Nat} (htraining : s.dram.training = true)
    (hheld : s.boot.held = none) (hdensity : density ∈ [4, 8, 12, 16])
    (htrain : s.trainAt (s.atReset Key.memDramRate) failures = (u, r)) (hrate : r ≠ 0) (hwaking : s.pwr.waking = none) :
    dramTrainingComplete density failures s =
      if (u.dramTrained density r).nat Key.pwrState = 0 then
        (u.dramTrained density r).domainsUp.setFlag Key.memDramReady ((u.dramTrained density r).domainsUp.domainOn 59)
      else u.dramTrained density r := by
  have hdue : (s.dram.training && s.boot.held.isNone && [4, 8, 12, 16].contains density) = true := by
    simp only [htraining, hheld, Option.isNone_none, List.contains_iff_mem.mpr hdensity, Bool.and_self]
  simp only [dramTrainingComplete, s.whenever_of_true hdue, htrain, if_neg hrate, hwaking, Option.isNone_none, if_true]

/-- Settles O37: each command's condition has come about, and the readings it makes after its first changes are as before them. -/
theorem bootActs : Obligations.BootActs := by
  refine ⟨fun _ => rfl, ?supplyReset, ?supplyStaysLow, fun _ => rfl, ?release, ?noLoader, ?trained, ?trainedInRun, ?trial, ?rollcall,
    ?window, ?cluster⟩
  case supplyReset =>
    intro s r hr hheld
    have hrun : exec (.supplyReset r) s = .next (supplyReset s) := onUnit_of_present (decide_eq_true hr) _
    rw [hrun, supplyReset, if_neg hheld]
  case supplyStaysLow =>
    intro s r hr hheld
    have hrun : exec (.supplyReset r) s = .next (supplyReset s) := onUnit_of_present (decide_eq_true hr) _
    rw [hrun, supplyReset, if_pos hheld]
  case release =>
    intro s node sel kind c hnode hsel hheld hlow hloader
    have hrun : exec (.resetRelease node sel) s = .next (resetRelease node sel s) := rfl
    rw [hrun, resetRelease_of_held hnode hsel hheld hlow, hloader]
    rfl
  case noLoader =>
    intro s node sel kind hnode hsel hheld hlow hloader
    have hrun : exec (.resetRelease node sel) s = .next (resetRelease node sel s) := rfl
    rw [hrun, resetRelease_of_held hnode hsel hheld hlow, hloader]
    rfl
  case trained =>
    intro s density htraining hheld hdensity hrate hwaking hstate
    have hrun : exec (.dramTrainingComplete density []) s = .next (dramTrainingComplete density [] s) := rfl
    have hfirst : s.trainAt (s.atReset Key.memDramRate) [] = (s, s.atReset Key.memDramRate) := rfl
    rw [hrun, dramTrainingComplete_of_rate htraining hheld hdensity hfirst hrate hwaking, State.dramTrained_pwrState, if_neg hstate]
  case trainedInRun =>
    intro s u density failures r htraining hheld hdensity htrain hrate _ hwaking hstate
    have hrun : exec (.dramTrainingComplete density failures) s = .next (dramTrainingComplete density failures s) := rfl
    rw [hrun, dramTrainingComplete_of_rate htraining hheld hdensity htrain hrate hwaking, if_pos hstate]
  case trial =>
    intro s hfw hheld htime
    have hdue : (decide (s.nat Key.fwState = 2) && s.boot.held.isNone &&
        decide (secCycles (s.nat Key.fwTrialTime) ≤ s.since s.boot.release)) = true := by simp [hfw, hheld, htime]
    have hrun : exec .fwTrialTimeout s = .next (fwTrialTimeout s) := rfl
    rw [hrun, fwTrialTimeout, s.whenever_of_true hdue]
  case rollcall =>
    intro s r hopen hreport
    have hrun : exec (.rollcallSigned r.sid) s = .next (rollcallSigned r.sid s) := rfl
    simp only [hrun, rollcallSigned, hopen, hreport, Option.isSome_none, Bool.false_eq_true, if_false, State.makeReport, State.draw]
  case window =>
    intro s p hopen hdeferred hover
    have hdue : ¬ (p.deferred = true ∨ s.since p.opened < secCycles 600) := by simp [hdeferred, hover]
    have hrun : exec .tandemWindowExpiry s = .next (tandemWindowExpiry s) := rfl
    simp only [hrun, tandemWindowExpiry, hopen, if_neg hdue]
  case cluster =>
    intro s c hc hresetting
    have hrun : exec (.clusterResetComplete c) s = .next (clusterResetComplete c s) := onUnit_of_present hc _
    rw [hrun, clusterResetComplete, s.whenever_of_true (Option.isSome_iff_ne_none.mpr hresetting)]

end Sys2Proof.Machine
end

section
/-! PROOF. O24: the WRITEs of the firmware update, the seal and a tandem proposal (R421, R430, R433). -/
namespace Sys2Proof.Machine

section
variable {s : State}

/-- R421: a trial of the image that does not run begins, where it is valid and no trial is pending or runs. -/
theorem fwActivateWrite_of_valid (hidle : s.nat Key.fwState = 0) (himage : s.flash.imageOk s.spareImage = true) :
    fwActivateWrite s = .ok (({ s with boot := { s.boot with trial := some s.spareImage } }.setObj Key.fwState 1).raise 0x1411 0 "CX"
      [byteOf s.spareImage]) := by
  simp [fwActivateWrite, hidle, himage]

/-- R421: the image on trial becomes the active one. -/
theorem fwConfirmWrite_of_trial (htrial : s.nat Key.fwState = 2) :
    fwConfirmWrite s = .ok ((({ s with boot := { s.boot with trial := none } }.setObj Key.fwState 0).setObj Key.fwActive
      (s.nat Key.fwRunning)).raise 0x1412 0 "CX" [byteOf (s.nat Key.fwRunning)]) := by
  simp [fwConfirmWrite, htrial]

/-- R430: a device with a secret of role 3 and two public keys is sealed. -/
theorem enrolSealWrite_of_enrolled (hsealed : s.flag Key.protSealed = false) (hsecret : (s.secret 3).all (· = 0) = false)
    (hkeys : 2 ≤ ([1, 2, 3].filter fun r => !(s.dom (Key.rolePubkey r)).isEmpty).length) :
    enrolSealWrite s = .ok (((s.setFlag Key.protSealed true).setSlot 3
      (extendSlot (s.slot 3) (sha384 (s.dom Key.accessPlan)))).raise 0x1406 1 "CX" []) := by
  have hseals : ¬ ((s.flag Key.protSealed || (s.secret 3).all (· = 0) ||
      decide (([1, 2, 3].filter fun r => !(s.dom (Key.rolePubkey r)).isEmpty).length < 2)) = true) := by
    simp only [hsealed, hsecret, decide_eq_false (Nat.not_lt.mpr hkeys), Bool.or_false, Bool.false_eq_true, not_false_eq_true]
  simp only [enrolSealWrite, if_neg hseals]

/-- R433: a proposal is withdrawn. -/
theorem tandemDiscard_of_proposal (h : s.prot.proposal ≠ none) : tandemDiscard s = .ok (s.dropProposal 2) := by
  simp [tandemDiscard, Option.isSome_iff_ne_none, h]

end

/-- Settles O24: each command's value is one that its entry takes, and its effect is the one of its command. -/
theorem protectRequestsAct : Obligations.ProtectRequestsAct := by
  refine ⟨?activate, ?confirm, ?enrolment, ?discard⟩
  case activate =>
    intro s x seq h hidle himage
    have heffect := fwActivateWrite_of_valid (s := s.touched x seq) hidle himage
    dsimp only [exec, execFwActivate]
    rw [rowAt_1420_5] at h ⊢
    exact State.writes_unsigned (v := 1) h rfl rfl (by decide) (by decide) rfl heffect
  case confirm =>
    intro s x seq h htrial
    have heffect := fwConfirmWrite_of_trial (s := s.touched x seq) htrial
    dsimp only [exec, execFwConfirm]
    rw [rowAt_1420_5] at h ⊢
    exact State.writes_unsigned (v := 2) h rfl rfl (by decide) (by decide) rfl heffect
  case enrolment =>
    intro s x seq h hsealed hsecret hkeys
    have heffect := enrolSealWrite_of_enrolled (s := s.touched x seq) hsealed hsecret hkeys
    dsimp only [exec, execEnrolSeal]
    rw [rowAt_1400_4] at h ⊢
    exact State.writes_unsigned (v := 1) h rfl rfl (by decide) (by decide) rfl heffect
  case discard =>
    intro s x seq h hproposal
    have heffect := tandemDiscard_of_proposal (s := s.touched x seq) hproposal
    dsimp only [exec, execTandemCommand]
    rw [rowAt_1410_7] at h ⊢
    exact State.writes_unsigned (v := 1) h rfl rfl (by decide) (by decide) rfl heffect

end Sys2Proof.Machine
end

section
/-! PROOF. O60: the JTAG port (R435, R508). A cycle of TCK is cut into the rising edge, the move to the next state and the falling
edge; of each it is said once what it can change. -/
namespace Sys2Proof.Machine

/-! One cycle of TCK. -/

/-- The state changes after the rising edge's capture or shift. -/
def State.tapMove (s : State) (tms : Bool) : State :=
  { s with jtag := { s.jtag with
    state := s.jtag.state.next tms
    odd := s.jtag.state.next tms = .runTestIdle && s.jtag.state = .runTestIdle && !s.jtag.odd } }

/-- A cycle but for the levels that boundary scan then drives. -/
def State.tapCycle (s : State) (tms tdi : Bool) : State := ((s.tapEdge tdi).tapMove tms).tapFall

/-- At the end of a cycle boundary scan drives its levels, where the instruction that acts does. -/
theorem tapClock_eq (tms tdi : Bool) (s : State) :
    tapClock tms tdi s = if (s.tapCycle tms tdi).tapInstr.drives then
      (s.tapCycle tms tdi).send (.scan (s.tapCycle tms tdi).tapInstr ((s.tapCycle tms tdi).jtag.levels (s.tapCycle tms tdi).tapInstr))
      else s.tapCycle tms tdi := rfl

/-- Capturing draws free values at most. -/
theorem State.tapCapture_eq (s : State) : s.tapCapture.2 = { s with free := s.tapCapture.2.free } := by
  simp only [State.tapCapture]
  split
  case isTrue => rfl
  case isFalse =>
    split
    case isTrue => rfl
    case isFalse => split <;> rfl

/-- A rising edge changes what is shifted, and may draw free values. -/
theorem State.tapEdge_eq (s : State) (tdi : Bool) :
    ∃ l n, s.tapEdge tdi = { s with jtag := { s.jtag with shift := l }, free := n } := by
  cases h : s.jtag.state with
  | captureDr =>
    refine ⟨s.tapCapture.1, s.tapCapture.2.free, ?_⟩
    simp only [State.tapEdge, h]
    rw [s.tapCapture_eq]
  | shiftDr | captureIr | shiftIr =>
    simp only [State.tapEdge, h]
    exact ⟨_, s.free, rfl⟩
  | _ =>
    simp only [State.tapEdge, h]
    exact ⟨s.jtag.shift, s.free, by rw [← h]⟩

/-- A falling edge leaves the state of the TAP, and changes its registers and what is sent. -/
theorem State.tapFall_eq (s : State) :
    ∃ t o, s.tapFall = { s with jtag := t, out := o } ∧ t.state = s.jtag.state := by
  cases h : s.jtag.state with
  | testLogicReset | updateIr =>
    simp only [State.tapFall, h]
    exact ⟨_, s.out, rfl, rfl⟩
  | shiftDr | shiftIr =>
    simp only [State.tapFall, h]
    exact ⟨s.jtag, _, rfl, h⟩
  | updateDr =>
    simp only [State.tapFall, h]
    split
    case isTrue => exact ⟨_, s.out, rfl, rfl⟩
    case isFalse => exact ⟨s.jtag, s.out, rfl, h⟩
  | _ =>
    simp only [State.tapFall, h]
    exact ⟨s.jtag, s.out, rfl, h⟩

/-- A cycle leads to the next state, and changes the port, what is sent and the count of free values. -/
theorem State.tapCycle_eq (s : State) (tms tdi : Bool) :
    ∃ t o n, s.tapCycle tms tdi = { s with jtag := t, out := o, free := n } ∧ t.state = s.jtag.state.next tms := by
  obtain ⟨l, n, hedge⟩ := s.tapEdge_eq tdi
  obtain ⟨t, o, hfall, hstate⟩ := ((s.tapEdge tdi).tapMove tms).tapFall_eq
  rw [hedge] at hfall hstate
  exact ⟨t, o, n, by rw [State.tapCycle, hedge, hfall]; rfl, hstate⟩

theorem tapClock_next (tms tdi : Bool) (s : State) :
    ∃ t o n, tapClock tms tdi s = { s with jtag := t, out := o, free := n } ∧ t.state = s.jtag.state.next tms := by
  obtain ⟨t, o, n, hcycle, hstate⟩ := s.tapCycle_eq tms tdi
  rw [tapClock_eq, hcycle]
  split
  case isTrue => exact ⟨t, _, n, rfl, hstate⟩
  case isFalse => exact ⟨t, o, n, rfl, hstate⟩

theorem tapClock_state (tms tdi : Bool) (s : State) : (tapClock tms tdi s).jtag.state = s.jtag.state.next tms := by
  obtain ⟨t, o, n, hclock, hstate⟩ := tapClock_next tms tdi s
  rw [hclock, hstate]

/-! Test-Logic-Reset (IEEE 1149.1). -/

/-- Five cycles with TMS high lead there from every state. -/
theorem TapState.next_five_high (t : TapState) : ((((t.next true).next true).next true).next true).next true = .testLogicReset := by
  cases t <;> rfl

/-- A cycle that ends there leaves IDCODE in the instruction register, and nothing in the others. -/
theorem tapClock_jtag_of_reset {tms tdi : Bool} {s : State} (h : s.jtag.state.next tms = .testLogicReset) :
    (tapClock tms tdi s).jtag = {} := by
  obtain ⟨l, n, hedge⟩ := s.tapEdge_eq tdi
  have hcycle : (s.tapCycle tms tdi).jtag = {} := by
    simp only [State.tapCycle, State.tapMove, hedge, State.tapFall, h]
  rw [tapClock_eq]
  split
  case isTrue => exact hcycle
  case isFalse => exact hcycle

/-! Boundary scan (R435). -/

/-- An instruction that drives the lanes is available only in a device out of service whose debug state gives it. -/
theorem State.tapAllows_of_drives {s : State} {i : TapInstr} (hi : i.drives = true) (h : s.tapAllows i = true) :
    1 ≤ s.boot.debug ∧ s.boot.outOfService = true := by
  cases i with
  | extest | extestPulse | extestTrain => simpa [State.tapAllows] using h
  | sample | idcode | bypass | debug => cases hi

/-- The instruction that acts is available. -/
theorem State.tapAllows_tapInstr (s : State) : s.tapAllows s.tapInstr = true := by
  unfold State.tapInstr
  split
  case isTrue => rfl
  case isFalse =>
    split
    case isTrue h => exact h
    case isFalse => rfl

/-- Settles O60: the states of the TAP lead to its reset, and no part of a cycle changes more than the port has. -/
theorem jtagPort : Obligations.JtagPort := by
  refine ⟨?fiveHigh, fun _ => rfl, fun s h => State.tapAllows_of_drives h s.tapAllows_tapInstr, ?frame⟩
  case fiveHigh =>
    intro s bits hbits
    match bits, hbits with
    | [a, b, c, d, e], _ =>
      apply tapClock_jtag_of_reset
      simp only [tapClock_state, TapState.next_five_high]
  case frame =>
    intro s tms tdi
    obtain ⟨t, o, n, hclock, -⟩ := tapClock_next tms tdi s
    rw [hclock]

end Sys2Proof.Machine
end

section
/-! PROOF. Shared by the WRITEs of power, calibration and test: the value that a message carries, with what follows the response, and
what the response leaves (R43, R46, R71). -/
namespace Sys2Proof.Machine

/-- A row of unsigned numbers whose WRITE is not one of a protected entry or of a mask that can be locked. -/
def numberRow (o : Obj) : Bool :=
  !o.ty.signed && o.ty ≠ .domain && o.acc ≠ .rwp && o.idx ≠ 0x5010 && o.idx ≠ 0x5011

/-- R43, R46, R71: a session's WRITE of an unsigned number that its row takes as it stands has the row's effect and is answered, and
what the row does after a response follows. -/
theorem State.writes_number {s t : State} {x : Session} {seq : Nat} {o : Obj} {i v : Nat} {present : Bool}
    (h : s.writable x seq o i = true) (hrow : numberRow o = true) (hpresent : present = true) (hkey : o.keyOf i < 2 ^ 24)
    (hv : v < 256 ^ o.ty.size) (hclean : o.clean v = v) (hlegal : o.ty.legal v = true)
    (hrange : o.rng.holds s.part v (fifoDepth i) = true) (heffect : numberEffect o i v (s.touched x seq) = .ok t) :
    s.writes (x.writeReq seq o i v) present o i v = .next ((afterWrite o i v).run x (t.written x seq o i)) := by
  simp only [numberRow, Bool.and_eq_true, Bool.not_eq_true', decide_eq_true_eq] at hrow
  obtain ⟨⟨⟨⟨hunsigned, hnumber⟩, hacc⟩, hlocked⟩, hlocked'⟩ := hrow
  have hdecode := Ty.decode_encode_of_unsigned hunsigned hv
  have hbytes : beNat (o.ty.encode v) = v := by
    have hcast := hdecode
    rw [Ty.decode, hunsigned, if_neg Bool.false_ne_true] at hcast
    exact Int.ofNat_inj.mp hcast
  rw [State.writes_next h hpresent hkey hnumber hacc ⟨hlocked, hlocked'⟩ (o.ty.length_encode v) (hdecode.symm ▸ hclean) hlegal
    hrange heffect, hbytes]

/-- The entries of an array with up to 255 members lie in one block. -/
theorem keyOf_array_lt {o : Obj} {i : Nat} (harray : o.keyOf i = (o.idx + i / 255) * 256 + o.sub + i % 255) (hidx : o.idx < 0xF000)
    (hsub : o.sub < 256) (hi : i < 255) : o.keyOf i < 2 ^ 24 := by
  omega

/-- R17: a value from a span's least to its greatest is within it. -/
theorem Rng.holds_span {lo hi v : Int} (hlo : lo ≤ v) (hhi : v ≤ hi) (p : Part) (depth : Nat) :
    (Rng.span lo hi).holds p v depth = true := by
  simp [Rng.holds, hlo, hhi]

/-! What a response leaves. -/

theorem State.talked_written (t : State) (x : Session) (seq : Nat) (o : Obj) (i : Nat) : Talked t (t.written x seq o i) :=
  t.talked_respond _ _ _

theorem Talked.nat {s t : State} (h : Talked s t) (k : Nat) : t.nat k = s.nat k := by
  rw [h.eq]
  rfl

end Sys2Proof.Machine
end

section
/-! PROOF. O26: the requests of power, resets and recovery (R439, R443 to R445, R447, R457). -/
namespace Sys2Proof.Machine

/-! PWR_COMMAND (R443 to R445). -/

theorem Talked.powerBusy {s t : State} (h : Talked s t) : t.powerBusy = s.powerBusy := by
  rw [h.eq]
  rfl

/-- R443: a command of the host is taken where no trial runs, the device is in service, no save is in progress and the power state
allows it. -/
theorem pwrCommandCheck_of_allowed {s : State} {c : Nat} (htrial : s.nat Key.fwState ≠ 2) (hservice : s.boot.outOfService = false)
    (hsave : s.store.snapshot = none) (hrun : c = 3 → s.nat Key.pwrState ≠ 0) (hparked : c = 1 → s.nat Key.pwrState ≠ 2) :
    pwrCommandCheck c s = .ok s := by
  have hallowed : (decide (s.nat Key.fwState = 2) || s.boot.outOfService || (decide (c = 3) && decide (s.nat Key.pwrState = 0)) ||
      (decide (c = 1) && decide (s.nat Key.pwrState = 2))) = false := by
    simpa [htrial, hservice] using ⟨hrun, hparked⟩
  simp [pwrCommandCheck, hallowed, hsave]

/-- R443: an entry from Run begins. -/
theorem pwrCommandAct_entry {t : State} {c : Nat} (hbusy : t.powerBusy = false) (hstate : t.nat Key.pwrState = 0) (hc : c ≠ 3) :
    pwrCommandAct c t = t.beginEntry c (t.nat Key.pwrDrainLimit) := by
  simp [pwrCommandAct, hbusy, State.powerCommand, hstate, hc]

/-- R445: a wake begins. -/
theorem pwrCommandAct_run {t : State} (hbusy : t.powerBusy = false) : pwrCommandAct 3 t = t.wakeUp 1 := by
  simp [pwrCommandAct, hbusy, State.powerCommand]

/-- R443, R444: a WRITE of PWR_COMMAND that is taken acts after its response, where nothing holds it. -/
theorem State.writes_pwrCommand {s : State} {x : Session} {seq c : Nat} (h : s.writable x seq (rowAt 0x1200 2) 0 = true)
    (hlo : 1 ≤ c) (hhi : c ≤ 3) (hcheck : pwrCommandCheck c (s.touched x seq) = .ok (s.touched x seq)) :
    s.writes (x.writeReq seq (rowAt 0x1200 2) 0 c) true (rowAt 0x1200 2) 0 c =
      .next (pwrCommandAct c ((s.touched x seq).written x seq (rowAt 0x1200 2) 0)) := by
  rw [rowAt_1200_2] at h ⊢
  exact State.writes_number h rfl rfl (by decide) (Nat.lt_of_le_of_lt hhi (by decide)) rfl rfl
    (Rng.holds_span (by omega) (by omega) _ _) hcheck

/-- R443: a command that leads from Run into a state: Standby or Parked. -/
theorem State.writes_pwrCommand_entry {s : State} {x : Session} {seq c : Nat} (h : s.writable x seq (rowAt 0x1200 2) 0 = true)
    (htrial : s.nat Key.fwState ≠ 2) (hservice : s.boot.outOfService = false) (hsave : s.store.snapshot = none)
    (hstate : s.nat Key.pwrState = 0) (hbusy : s.powerBusy = false) (hlo : 1 ≤ c) (hhi : c ≤ 2) :
    s.writes (x.writeReq seq (rowAt 0x1200 2) 0 c) true (rowAt 0x1200 2) 0 c =
      .next (((s.touched x seq).written x seq (rowAt 0x1200 2) 0).beginEntry c (s.nat Key.pwrDrainLimit)) := by
  have htalked := (s.touched x seq).talked_written x seq (rowAt 0x1200 2) 0
  have hcheck := pwrCommandCheck_of_allowed (s := s.touched x seq) (c := c) htrial hservice hsave (by omega)
    (fun _ (hparked : s.nat Key.pwrState = 2) => by omega)
  rw [State.writes_pwrCommand h hlo (by omega) hcheck,
    pwrCommandAct_entry (htalked.powerBusy.trans hbusy) ((htalked.nat _).trans hstate) (by omega), htalked.nat]
  rfl

/-! PWR_DOMAIN_ENABLE (R439). -/

/-- R439: in Standby and Parked the enable of a domain is only stored. -/
theorem pwrDomainWrite_asleep {s : State} {d : Nat} (hd : d < 59) (hstate : s.nat Key.pwrState ≠ 0) (v : Nat) :
    pwrDomainWrite d v s = .ok (s.setObj (Key.pwrDomainEnable d) v) := by
  have hset : domainSet d = [d] := if_neg (by omega)
  simp [pwrDomainWrite, hset, hstate]

/-- R438: no domain depends on the trunk's. -/
theorem domainNeeds_trunk (d : Nat) : 58 ∉ domainNeeds d := by
  intro h
  unfold domainNeeds at h
  repeat' split at h
  all_goals simp only [List.mem_cons, List.not_mem_nil, or_false] at h
  all_goals omega

/-! What the lanes and the link of the trunk do when their domain goes off leaves the power. -/

@[simp] theorem State.laneGo_pwr (s : State) (l : Lane) (new : Nat) : (s.laneGo l new).pwr = s.pwr := by
  simp only [State.laneGo, apply_ite State.pwr, State.laneRaise_pwr, State.updLane_pwr, State.setLane_pwr, ite_self]

@[simp] theorem State.toSeek_pwr (s : State) (l : Lane) : (s.toSeek l).pwr = s.pwr := by
  simp only [State.toSeek, State.laneGo_pwr, apply_ite State.pwr, State.attemptsResume, State.backOff, State.updLane_pwr, ite_self]

@[simp] theorem State.cutFlight_pwr (s : State) : s.cutFlight.pwr = s.pwr := by
  unfold State.cutFlight
  split
  case h_1 => rfl
  case h_2 =>
    dsimp only
    split <;> rfl

@[simp] theorem State.trkSetL_pwr (s : State) (l : Nat) : (s.trkSetL l).pwr = s.pwr := by
  simp only [State.trkSetL, apply_ite State.pwr, State.raise_pwr, State.bump_pwr, State.setObj_pwr, ite_self]

@[simp] theorem State.trkGo_pwr (s : State) (new : Nat) : (s.trkGo new).pwr = s.pwr := by
  simp only [State.trkGo, State.raise_pwr]
  rfl

@[simp] theorem State.txLanesGo_pwr (s : State) (st : Nat → Nat) : (s.txLanesGo st).pwr = s.pwr :=
  State.foldl_field State.pwr _ (fun t i => t.laneGo_pwr (.trunk i) (st i)) _ s

@[simp] theorem State.trkToDown_pwr (s : State) (seek : Bool) : (s.trkToDown seek).pwr = s.pwr := by
  simp only [State.trkToDown, apply_ite State.pwr, State.toSeek_pwr, State.trkGo_pwr, State.txLanesGo_pwr, State.updTrk_pwr,
    State.setObj_pwr, State.trkSetL_pwr, State.cutFlight_pwr, ite_self]

theorem State.domainOff_trunk_pwr (s : State) : (s.domainOff 58).pwr = s.pwr := by
  simp [State.domainOff, State.keepTraining]

/-- R439, R440: dropping the trunk's domain ends its switching, and changes nothing else of the power. -/
theorem State.dropDomain_trunk_pwr (s : State) (off : Nat) :
    (s.dropDomain off 58).pwr = { s.pwr with switching := mapDel 58 s.pwr.switching } := by
  simp only [State.dropDomain, apply_ite State.pwr, State.domainOff_trunk_pwr, State.setObj_pwr, ite_self]

/-- R439: a trunk that is on begins to switch off, since no domain depends on it. -/
theorem pwrDomainWrite_trunk_off {s : State} (hstate : s.nat Key.pwrState = 0) (hon : s.domainOn 58 = true) :
    pwrDomainWrite 58 0 s = .ok { (s.setObj (Key.pwrDomainEnable 58) 0).dropDomain 1 58 with pwr := { s.pwr with
      switching := mapSet 58 0 (mapDel 58 s.pwr.switching) } } := by
  have hset : domainSet 58 = [58] := rfl
  have hrising : s.domainRising 58 = true := by
    simp only [State.domainOn, decide_eq_true_eq] at hon
    simp [State.domainRising, hon]
  simp [pwrDomainWrite, hset, hstate, hrising, domainNeeds_trunk, State.dropDomain_trunk_pwr]

/-! Resets and counts (R447, R457, R459). -/

theorem clusterCheck_of_present {s : State} {c : Nat} (hc : s.part.has .cluster c = true) : clusterCheck c s = .ok s := by
  simp [clusterCheck, hc, refuseIf, bind, Except.bind]

theorem State.nat_resetObj_same (s : State) (k : Nat) : (s.resetObj k).nat k = (defaultNum s.part k).toNat := by
  simp [State.nat, State.obj, State.resetObj]

theorem State.nat_setRcv (s : State) (r : Recovery) (k : Nat) : ({ s with rcv := r } : State).nat k = s.nat k := rfl

/-- R457: RCV_FW_COUNT begins at 0. -/
theorem defaultNum_rcvFwCount (p : Part) : defaultNum p Key.rcvFwCount = 0 := by
  cases p <;> decide +kernel

/-- R457: the crossings and the firmware are counted from 0. -/
theorem rcvClearWrite_clears (s : State) :
    ∃ t, rcvClearWrite s = .ok t ∧ t.rcv.crossings = [] ∧ t.nat Key.rcvFwCount = 0 := by
  refine ⟨_, rfl, rfl, ?_⟩
  rw [State.nat_setRcv, State.nat_resetObj_same, defaultNum_rcvFwCount]
  rfl

/-- Settles O26: each value is one that its entry takes, and what follows is the effect of its command. -/
theorem powerRequestsAct : Obligations.PowerRequestsAct := by
  refine ⟨?standby, ?parked, ?run, ?stored, ?trunkOff, ?device, ?cluster, ?clear⟩
  case standby =>
    intro s x seq h htrial hservice hsave hstate hbusy
    dsimp only [exec, execPwrCommandStandby]
    exact State.writes_pwrCommand_entry h htrial hservice hsave hstate hbusy (by decide) (by decide)
  case parked =>
    intro s x seq h htrial hservice hsave hstate hbusy
    dsimp only [exec, execPwrCommandParked]
    exact State.writes_pwrCommand_entry h htrial hservice hsave hstate hbusy (by decide) (by decide)
  case run =>
    intro s x seq h htrial hservice hsave hstate hbusy
    have htalked := (s.touched x seq).talked_written x seq (rowAt 0x1200 2) 0
    have hcheck := pwrCommandCheck_of_allowed (s := s.touched x seq) (c := 3) htrial hservice hsave (fun _ => hstate)
      (fun h => absurd h (by decide))
    rw [← pwrCommandAct_run (htalked.powerBusy.trans hbusy)]
    dsimp only [exec, execPwrCommandRun]
    exact State.writes_pwrCommand h (by decide) (by decide) hcheck
  case stored =>
    intro s x seq d v h hd hv hstate
    have heffect := pwrDomainWrite_asleep (s := s.touched x seq) hd hstate v
    dsimp only [exec, execPwrDomainEnableWrite]
    rw [rowAt_8000_1] at h ⊢
    exact State.writes_number h rfl (decide_eq_true (by omega)) (keyOf_array_lt rfl (by decide) (by decide) (by omega))
      (Nat.lt_of_le_of_lt hv (by decide)) rfl (decide_eq_true (by omega)) (Rng.holds_span (by omega) (by omega) _ _) heffect
  case trunkOff =>
    intro s x seq h hstate hon
    have heffect := pwrDomainWrite_trunk_off (s := s.touched x seq) hstate hon
    dsimp only [exec, execPwrDomainEnableWrite]
    rw [rowAt_8000_1] at h ⊢
    exact ⟨_, State.writes_number (v := 0) h rfl rfl (by decide) (by decide) rfl rfl rfl heffect, rfl⟩
  case device =>
    intro s x seq h
    dsimp only [exec, execRstDevice]
    rw [rowAt_1201_1] at h ⊢
    exact State.writes_number (v := 1) h rfl rfl (by decide) (by decide) rfl rfl rfl rfl
  case cluster =>
    intro s x seq c h hc hpresent
    have heffect := clusterCheck_of_present (s := s.touched x seq) hpresent
    dsimp only [exec, execRstCluster]
    rw [rowAt_1201_2] at h ⊢
    exact State.writes_number h rfl rfl (by decide) (Nat.lt_trans hc (by decide)) rfl rfl (Rng.holds_span (by omega) (by omega) _ _)
      heffect
  case clear =>
    intro s x seq h
    obtain ⟨t, heffect, hcrossings, hcount⟩ := rcvClearWrite_clears (s.touched x seq)
    refine ⟨t, ?_, hcrossings, hcount⟩
    dsimp only [exec, execRcvClear]
    rw [rowAt_A000_7] at h ⊢
    exact State.writes_unsigned (v := 1) h rfl rfl (by decide) (by decide) rfl heffect

end Sys2Proof.Machine
end

section
/-! PROOF. O27: the requests of calibration and test (R466 to R469, R475 to R486). -/
namespace Sys2Proof.Machine

/-! CAL_COMMAND (R466 to R469). -/

/-- CAL_COMMAND takes 1 to 8. -/
theorem State.writes_calCommand {s t : State} {x : Session} {seq c : Nat} (h : s.writable x seq (rowAt 0x8101 1) 0 = true)
    (hlo : 1 ≤ c) (hhi : c ≤ 8) (heffect : calCommandWrite c (s.touched x seq) = .ok t) :
    s.writes (x.writeReq seq (rowAt 0x8101 1) 0 c) true (rowAt 0x8101 1) 0 c = .next (t.written x seq (rowAt 0x8101 1) 0) := by
  rw [rowAt_8101_1] at h ⊢
  exact State.writes_unsigned h rfl rfl (by decide) (Nat.lt_of_le_of_lt hhi (by decide)) (Rng.holds_span (by omega) (by omega) _ _)
    heffect

/-- R467: procedure c runs from now on, on a target. -/
def State.calBegun (s : State) (c target : Nat) : State :=
  ({ s with cal := { s.cal with running := some (c, target, s.cycles) } }.setObj Key.calStatus 1).setObj Key.calResult 0

section
variable {s : State} {c target : Nat} (hon : s.domainOn 63 = true) (htarget : s.nat Key.calTarget = target)
  (hcondition : s.calCondition c target = true) (hrunning : s.cal.running = none) (hsaving : s.cal.saving = none)
  (htransfers : s.dap.transfers = [])
include hon htarget hcondition hrunning hsaving htransfers

/-- R467: a procedure begins where its condition holds, and no procedure, save or transfer of the trims is in progress. -/
theorem calStart_of_ready :
    calStart c s = .ok (if c = 3 then onLane (.camera target) (fun s => s.holdLane (.camera target) 1) (s.calBegun c target)
      else s.calBegun c target) := by
  subst htarget
  simp [calStart, firstCheck, bind, Except.bind, hon, hcondition, hrunning, hsaving, htransfers, State.calBegun]

/-- R467: a procedure of another kind than the camera's holds no lane. -/
theorem calCommandWrite_of_ready (hc : c < 6) (hcamera : c ≠ 3) : calCommandWrite c s = .ok (s.calBegun c target) := by
  rw [calCommandWrite, if_pos hc, calStart_of_ready hon htarget hcondition hrunning hsaving htransfers, if_neg hcamera]

end

/-- R467: the camera's procedure is one of a port of the part that feeds no pipeline; the port's lane is held. -/
theorem calCommandWrite_camera {s : State} {i : Nat} (hon : s.domainOn 63 = true) (htarget : s.nat Key.calTarget = i)
    (hi : i < s.part.ports) (hfeeds : s.feeds i = none) (hrunning : s.cal.running = none) (hsaving : s.cal.saving = none)
    (htransfers : s.dap.transfers = []) :
    calCommandWrite 3 s =
      .ok (((s.calBegun 3 i).holdLane (.camera i) 1).laneFollow (.camera i) ((s.calBegun 3 i).laneState (.camera i))) := by
  have hcondition : s.calCondition 3 i = true := by simp [State.calCondition, hi, hfeeds]
  rw [calCommandWrite, if_pos (by decide), calStart_of_ready hon htarget hcondition hrunning hsaving htransfers, if_pos rfl, onLane]

/-- R466: the trims in force are saved, where no save of them is in progress. -/
theorem calSaveWrite_of_idle {s : State} (h : s.cal.saving = none) :
    calSaveWrite s = .ok { s with cal := { s.cal with saving := some (s.dom Key.calTrims) } } := by
  simp [calSaveWrite, h]

/-- R469: the procedure in progress fails. -/
theorem State.calFail_of_running {s : State} {c t c0 : Nat} (h : s.cal.running = some (c, t, c0)) (reason : Nat) :
    s.calFail reason = (s.calOver c t 3 reason).raise 0x8102 1 (pathCal c) [byteOf c, byteOf t, byteOf reason] := by
  simp only [State.calFail, h]

/-! TEST_PIPE_FENCE (R475). -/

section
variable {s : State} {p : Nat}

/-- R475: a pipeline that no port feeds is fenced. -/
theorem testPipeFenceWrite_set (hnamed : s.pipeNamed p = false) (hopen : s.nat (Key.testPipeFence p) = 0) :
    testPipeFenceWrite p 1 s = .ok ((s.setObj (Key.testPipeFence p) 1).raise 0x9004 0 (pathPipe p) [1]) := by
  simp [testPipeFenceWrite, hnamed, hopen, byteOf]

/-- R475: the fence of a pipeline without an injection is taken away. -/
theorem testPipeFenceWrite_clear (hinj : (s.pipe p).inj = none) (hset : s.nat (Key.testPipeFence p) = 1) :
    testPipeFenceWrite p 0 s = .ok ((s.setObj (Key.testPipeFence p) 0).raise 0x9004 0 (pathPipe p) [0]) := by
  simp [testPipeFenceWrite, hinj, hset, byteOf]

/-- TEST_PIPE_FENCE is 0 or 1. -/
theorem State.writes_pipeFence {t : State} {x : Session} {seq v : Nat} (h : s.writable x seq (rowAt 0x9000 1) p = true) (hp : p < 24)
    (hv : v ≤ 1) (heffect : testPipeFenceWrite p v (s.touched x seq) = .ok t) :
    s.writes (x.writeReq seq (rowAt 0x9000 1) p v) (p < 24) (rowAt 0x9000 1) p v = .next (t.written x seq (rowAt 0x9000 1) p) := by
  rw [rowAt_9000_1] at h ⊢
  exact State.writes_number h rfl (decide_eq_true hp) (keyOf_array_lt rfl (by decide) (by decide) (by omega))
    (Nat.lt_of_le_of_lt hv (by decide)) rfl (decide_eq_true (by omega)) (Rng.holds_span (by omega) (by omega) _ _) heffect

end

/-! TEST_INJECT_COMMAND (R477 to R480). -/

/-- TEST_INJECT_COMMAND takes 1 and 2. -/
theorem State.writes_inject {s t : State} {x : Session} {seq p v : Nat} (h : s.writable x seq (rowAt 0x9002 1) p = true) (hp : p < 24)
    (hv : v = 1 ∨ v = 2) (heffect : (if v = 1 then injectStartWrite p else injectStopWrite p) (s.touched x seq) = .ok t) :
    s.writes (x.writeReq seq (rowAt 0x9002 1) p v) (p < 24) (rowAt 0x9002 1) p v = .next (t.written x seq (rowAt 0x9002 1) p) := by
  rw [rowAt_9002_1] at h ⊢
  refine State.writes_unsigned h rfl (decide_eq_true hp) (keyOf_array_lt rfl (by decide) (by decide) (by omega)) ?fits ?range
    heffect
  case fits =>
    simp only [Ty.size]
    omega
  case range =>
    rcases hv with rfl | rfl <;> rfl

/-- R478: an injection that no check refuses waits for its first frame. -/
theorem injectStartWrite_of_checked {s : State} {p : Nat} {d : Bytes} (hdesc : s.dom (Key.testInjectDesc p) = d)
    (hfence : s.flag (Key.testPipeFence p) = true) (hpipe : s.domainOn (pipeDomain p) = true) (htime : s.domainOn 63 = true)
    (hdram : s.flag Key.memDramReady = true) (hidle : (s.pipe p).inj = none) (hfields : injectFields d = true)
    (hlow : dramBase ≤ leAt d 0 8) (hhigh : leAt d 0 8 + injectBytes d ≤ dramBase + s.hostBytes)
    (hclocks : (leAt d 8 2 * leAt d 13 1 + 64) * 1000000000 ≤ 1500000000 * leAt d 16 4)
    (hlines : leAt d 10 2 * leAt d 16 4 ≤ leAt d 40 4 * 1000) (hepoch : leAt d 20 2 = s.epoch)
    (hfuture : s.now + usUnits 10 ≤ ofTime96 (leAt d 22 12)) (hcount : leAt d 38 2 ≠ 0) :
    injectStartWrite p s = .ok ((((s.updInput (2 * p) fun y => { y with
        lastHanded := some ((leAt d 34 4 + (2 ^ 32 - 1)) % 2 ^ 32) }).updPipe p fun y => { y with
          inj := some ⟨d, 0, some (leAt d 38 2), false⟩ }).setObj (Key.testInjectState p) 1).setObj (Key.testInjectFrames p)
            0) := by
  have hbuffer : (decide (leAt d 0 8 < dramBase) || decide (dramBase + s.hostBytes < leAt d 0 8 + injectBytes d)) = false := by
    simp [hlow, hhigh]
  have hwhen : (decide (leAt d 20 2 ≠ s.epoch) || decide (ofTime96 (leAt d 22 12) < s.now + usUnits 10)) = false := by
    simp [hepoch, hfuture]
  simp only [injectStartWrite, hdesc, hfence, hpipe, htime, hdram, hidle, hfields, hbuffer, decide_eq_false (Nat.not_lt.mpr hclocks),
    decide_eq_false (Nat.not_lt.mpr hlines), hwhen, if_neg hcount]
  rfl

/-- R480: an injection stays while one of its frames is in progress. -/
theorem State.injectSettle_of_frame {s : State} {p : Nat}
    (hframe : (s.frames.any fun f => f.synthetic && f.pipe = some p && !f.closed) = true) : s.injectSettle p = s := by
  unfold State.injectSettle
  split
  case h_1 => rfl
  case h_2 => exact if_pos hframe

/-- R480: an injection whose frame is in progress stops when that closes. -/
theorem injectStopWrite_of_frame {s : State} {p : Nat} {j : Inject} (hinj : (s.pipe p).inj = some j)
    (hframe : (s.frames.any fun f => f.synthetic && f.pipe = some p && !f.closed) = true) :
    injectStopWrite p s = .ok (s.updPipe p fun y => { y with inj := some { j with stopping := true } }) := by
  simp only [injectStopWrite, hinj]
  exact congrArg Except.ok (State.injectSettle_of_frame hframe)

/-! TEST_BIST_COMMAND and TEST_DRAM_RETRAIN (R484, R486). -/

/-- R484: the test of a quiesced hub's memory begins. -/
theorem testBistWrite_of_hub {s : State} {m : Nat} (hm : m < 8) (hquiet : s.quiesced m = true)
    (hon : s.domainOn (6 * m + 5) = true) (hidle : s.bistOn m = false) :
    testBistWrite m s =
      .ok (((s.setObj (Key.testBistResult m) 1).setObj (Key.testBistFails m) 0).setObj (Key.testBistFirstAddr m) 0) := by
  simp [testBistWrite, firstCheck, bind, Except.bind, hm, hquiet, hon, hidle]

/-- R486: a device out of service trains its DRAM again. -/
theorem testDramRetrainWrite_of_service {s : State} (h : s.boot.outOfService = true) :
    testDramRetrainWrite s = .ok { s.setFlag Key.memDramReady false with dram := { s.dram with training := true } } := by
  simp [testDramRetrainWrite, h]

/-- Settles O27: each value is one that its entry takes, and the effect is the one of its command. -/
theorem serviceRequestsAct : Obligations.ServiceRequestsAct := by
  refine ⟨?osc, ?supply, ?camera, ?eth, ?bell, ?save, ?revert, ?abort, ?fence, ?unfence, ?start, ?stop, ?golden, ?bist, ?retrain⟩
  case osc =>
    intro s x seq h hon hrunning hsaving htransfers
    exact State.writes_calCommand h (by decide) (by decide)
      (calCommandWrite_of_ready (s := s.touched x seq) hon rfl rfl hrunning hsaving htransfers (by decide) (by decide))
  case supply =>
    intro s x seq h hon hservice hrunning hsaving htransfers
    exact State.writes_calCommand h (by decide) (by decide)
      (calCommandWrite_of_ready (s := s.touched x seq) hon rfl hservice hrunning hsaving htransfers (by decide) (by decide))
  case camera =>
    intro s x seq i h hon htarget hi hfeeds hrunning hsaving htransfers
    exact State.writes_calCommand h (by decide) (by decide)
      (calCommandWrite_camera (s := s.touched x seq) hon htarget hi hfeeds hrunning hsaving htransfers)
  case eth =>
    intro s x seq n h hon htarget hnx hn hactive hptp hrunning hsaving htransfers
    have hcondition : s.calCondition 4 n = true := by simp [State.calCondition, hnx, hn, hactive, hptp]
    exact State.writes_calCommand h (by decide) (by decide)
      (calCommandWrite_of_ready (s := s.touched x seq) hon htarget hcondition hrunning hsaving htransfers (by decide) (by decide))
  case bell =>
    intro s x seq h hon htarget hmode hrunning hsaving htransfers
    have hcondition : s.calCondition 5 0 = true := by simp [State.calCondition, hmode]
    exact State.writes_calCommand h (by decide) (by decide)
      (calCommandWrite_of_ready (s := s.touched x seq) hon htarget hcondition hrunning hsaving htransfers (by decide) (by decide))
  case save =>
    intro s x seq h hsaving
    exact State.writes_calCommand h (by decide) (by decide) (calSaveWrite_of_idle (s := s.touched x seq) hsaving)
  case revert =>
    intro s x seq h
    exact State.writes_calCommand h (by decide) (by decide) rfl
  case abort =>
    intro s x seq c t c0 h hrunning
    exact State.writes_calCommand h (by decide) (by decide)
      (congrArg Except.ok (State.calFail_of_running (s := s.touched x seq) hrunning 3))
  case fence =>
    intro s x seq p h hp hnamed hopen
    exact State.writes_pipeFence h hp (by decide) (testPipeFenceWrite_set (s := s.touched x seq) hnamed hopen)
  case unfence =>
    intro s x seq p h hp hinj hset
    exact State.writes_pipeFence h hp (by decide) (testPipeFenceWrite_clear (s := s.touched x seq) hinj hset)
  case start =>
    intro s x seq p d h hp hdesc hfence hpipe htime hdram hidle hfields hlow hhigh hclocks hlines hepoch hfuture hcount
    exact State.writes_inject h hp (.inl rfl) (injectStartWrite_of_checked (s := s.touched x seq) hdesc hfence hpipe htime hdram hidle
      hfields hlow hhigh hclocks hlines hepoch hfuture hcount)
  case stop =>
    intro s x seq p j h hp hinj hframe
    exact State.writes_inject h hp (.inr rfl) (injectStopWrite_of_frame (s := s.touched x seq) hinj hframe)
  case golden =>
    intro s x seq k v h hk hclean hv hrange
    dsimp only [exec, execTestGoldenSpec]
    rw [rowAt_9010_1] at h hclean hrange ⊢
    exact State.writes_number h rfl (decide_eq_true hk) (keyOf_array_lt rfl (by decide) (by decide) (by omega)) hv hclean rfl
      hrange rfl
  case bist =>
    intro s x seq m h hm hquiet hon hidle
    have heffect := testBistWrite_of_hub (s := s.touched x seq) hm hquiet hon hidle
    dsimp only [exec, execTestBistCommand]
    rw [rowAt_9020_1] at h ⊢
    exact State.writes_unsigned (v := 1) h rfl (decide_eq_true (by omega)) (keyOf_array_lt rfl (by decide) (by decide) (by omega))
      (by decide) rfl heffect
  case retrain =>
    intro s x seq h hservice
    have heffect := testDramRetrainWrite_of_service (s := s.touched x seq) hservice
    dsimp only [exec, execTestDramRetrain]
    rw [rowAt_9030_1] at h ⊢
    exact State.writes_unsigned (v := 1) h rfl rfl (by decide) (by decide) rfl heffect

end Sys2Proof.Machine
end

section
/-! PROOF. O40: saves of the trims, procedures, injected frames and SRAM tests (R466, R467, R469, R479, R484). -/
namespace Sys2Proof.Machine

/-! Saves of the trims (R466). -/

/-- R466: both copies hold the record that the save found; the save is over and counted. -/
def State.trimsSaved (s : State) (trims : Bytes) : State :=
  ({ s with cal := { s.cal with saving := none }, flash := { s.flash with trim0 := trims, trim1 := trims } } : State).bump
    Key.calSaveCount

theorem State.trimsSaved_count (s : State) (trims : Bytes) :
    (s.trimsSaved trims).nat Key.calSaveCount = satAdd 32 (s.nat Key.calSaveCount) 1 := State.nat_addTo_same ..

/-- R466: the record in force comes from the store, where it is still the one that was saved. -/
theorem calSaveComplete_of_saving {s : State} {trims : Bytes} (hsaving : s.cal.saving = some trims) (hdip : s.sup.dip = false)
    (hheld : s.boot.held = none) :
    calSaveComplete s =
      if s.dom Key.calTrims = trims then (s.trimsSaved trims).setObj Key.calSource 1 else s.trimsSaved trims := by
  have hdue : (!s.sup.dip && s.boot.held.isNone) = true := by simp [hdip, hheld]
  simp only [calSaveComplete, hsaving, s.whenever_of_true hdue]
  rfl

/-! Procedures (R467, R469). -/

/-- R469: a procedure whose reference is absent fails when that shows. -/
theorem calProcedureComplete_absent {s : State} {c target start : Nat} (hrunning : s.cal.running = some (c, target, start))
    (hc : c = 1 ∨ c = 2 ∨ c = 5) (hshows : msCycles 10 ≤ s.since start) :
    calProcedureComplete .referenceAbsent s = s.calFail 1 := by
  have hdue : ((decide (c = 1) || decide (c = 2) || decide (c = 5)) && decide (msCycles 10 ≤ s.since start)) = true := by
    simp [hshows, hc, or_assoc]
  simp only [calProcedureComplete, hrunning, s.whenever_of_true hdue]

/-- R469: the procedure of an Ethernet port fails with its link. -/
theorem calProcedureComplete_linkLost {s : State} {target start : Nat} (hrunning : s.cal.running = some (4, target, start)) :
    calProcedureComplete .linkLost s = s.calFail 5 := by
  simp only [calProcedureComplete, hrunning, decide_true, State.whenever_of_true]

/-- R467: a procedure that has taken its time ends with what its measurement yields. -/
theorem calProcedureComplete_of_outcome {s u : State} {m : CalMeasurement} {c target start : Nat} {r : CalOutcome}
    (hrunning : s.cal.running = some (c, target, start)) (hreference : m ≠ .referenceAbsent) (hlink : m ≠ .linkLost)
    (houtcome : s.calOutcome c target m = some (r, u)) (htime : s.calDuration c ≤ s.since start) :
    calProcedureComplete m s = (if c = 5 then u.calPulses target else u).calEnd c target r := by
  cases m with
  | referenceAbsent => exact absurd rfl hreference
  | linkLost => exact absurd rfl hlink
  | oscCycles | supply | camera | ethLatency | bellDelay =>
    simp only [calProcedureComplete, hrunning, houtcome, s.whenever_of_true (decide_eq_true htime)]

/-! SRAM tests (R484). -/

theorem exec_bistComplete {s : State} {m fails first : Nat} (hm : s.part.has .cluster m = true) (hon : s.bistOn m = true) :
    exec (.bistComplete m fails first) s =
      .next (if fails = 0 then s.bistEnd m 2 0 0 else s.bistEnd m 3 (fails % 2 ^ 32) (first % 2 ^ 64)) := by
  have hrun : exec (.bistComplete m fails first) s = .next (bistComplete m fails first s) := onUnit_of_present hm _
  rw [hrun, bistComplete, s.whenever_of_true hon]

/-- Settles O40: each command's condition has come about, and what it leads to is written out. -/
theorem calAndTestAct : Obligations.CalAndTestAct := by
  refine ⟨?save, ?osc, ?measured, ?absent, ?linkLost, ?frame, ?passed, ?failed⟩
  case save =>
    intro s trims hsaving hdip hheld
    refine ⟨calSaveComplete s, rfl, ?_⟩
    have hsource : ((s.trimsSaved trims).setObj Key.calSource 1).nat Key.calSaveCount = (s.trimsSaved trims).nat Key.calSaveCount :=
      State.nat_setObj_other _ (by decide) 1
    rw [calSaveComplete_of_saving hsaving hdip hheld]
    split
    case isTrue => exact ⟨rfl, rfl, rfl, hsource.trans (s.trimsSaved_count trims)⟩
    case isFalse => exact ⟨rfl, rfl, rfl, s.trimsSaved_count trims⟩
  case osc =>
    intro s target start n hrunning htime
    exact ⟨_, rfl, calProcedureComplete_of_outcome hrunning (by simp) (by simp) rfl htime⟩
  case measured =>
    intro s u m c target start r hrunning hreference hlink houtcome htime
    exact congrArg Host.Outcome.next (calProcedureComplete_of_outcome hrunning hreference hlink houtcome htime)
  case absent =>
    intro s c target start hrunning hc hshows
    exact congrArg Host.Outcome.next (calProcedureComplete_absent hrunning hc hshows)
  case linkLost =>
    intro s target start hrunning
    exact congrArg Host.Outcome.next (calProcedureComplete_linkLost hrunning)
  case frame =>
    intro s p j hp hinj hgoes hleft hreached
    have hdue : (!j.stopping && decide (j.left ≠ some 0) && s.reached j.capture) = true := by simp [hgoes, hleft, hreached]
    have hrun : exec (.injectFrameStart p) s = .next (injectFrameStart p s) := onUnit_of_present hp _
    simp only [hrun, injectFrameStart, hinj, s.whenever_of_true hdue]
  case passed =>
    intro s m first hm hon
    rw [exec_bistComplete hm hon, if_pos rfl]
  case failed =>
    intro s m fails first hm hon hpos hfails hfirst
    rw [exec_bistComplete hm hon, if_neg (by omega), Nat.mod_eq_of_lt hfails, Nat.mod_eq_of_lt hfirst]

end Sys2Proof.Machine
end

section
/-! PROOF. O1, O2, O41, O44, O45: one step, its queue, the part and the clock (R57, R78). -/
namespace Sys2Proof.Machine

/-- Settles O1: the step on a queue that is not empty. -/
theorem stepRunsFrontCommand : Obligations.StepRunsFrontCommand := by
  intro c rest s hqueue
  rw [step, hqueue]

theorem step_of_nothing_pending {s : State} (h : s.pending = []) : step s = .next s.idle := by rw [step, h]

/-- Settles O2: a cycle of the time base puts nothing into the queue. -/
theorem emptyQueueTicks : Obligations.EmptyQueueTicks := fun s hqueue =>
  ⟨s.idle, step_of_nothing_pending hqueue, rfl, s.idle_keeps.1.trans hqueue⟩

/-- Settles O41: the entries of the dictionary that no command has written are read from the defaults. -/
theorem resetIsBare : Obligations.ResetIsBare := ⟨rfl, rfl, rfl, rfl, rfl, fun _ => rfl, fun _ => rfl⟩

/-- The queue and the part of `s` are those of `t`. -/
def State.SameQueue (s t : State) : Prop := t.pending = s.pending ∧ t.part = s.part

/-- The queue, the part and the clock of `s` are those of `t`. -/
def State.SameInstant (s t : State) : Prop := t.pending = s.pending ∧ t.part = s.part ∧ t.cycles = s.cycles

theorem State.SameInstant.sameQueue {s t : State} (h : s.SameInstant t) : s.SameQueue t := ⟨h.1, h.2.1⟩

/-! One rule for each shared form of a command's meaning. -/

section
variable (s : State) {f : State → State} (h : ∀ t : State, t.SameInstant (f t))
include h

theorem onLane_sameInstant (l : Lane) : s.SameInstant (onLane l f s) :=
  ⟨onLane_pending l f s fun t => (h t).1, onLane_part l f s fun t => (h t).2.1, onLane_cycles l f s fun t => (h t).2.2⟩

theorem cendoRow_sameInstant (l : Lane) : NextHas s.SameInstant (cendoRow l f s) :=
  nextHas_onUnit _ (onLane_sameInstant s h l)

theorem laneRow_sameInstant (l : Lane) : NextHas s.SameInstant (laneRow l f s) := nextHas_onUnit _ (onLane_sameInstant s h l)

theorem packetRow_sameInstant (port : Nat) : NextHas s.SameInstant (packetRow port f s) :=
  nextHas_onUnit _ (onLane_sameInstant s h _)

end

theorem messageRow_sameInstant (s : State) (l : Lane) (x : Line) (type : Nat) {f : Nat → Bytes → State → State}
    (h : ∀ tag p, ∀ t : State, t.SameInstant (f tag p t)) : NextHas s.SameInstant (messageRow l x type f s) :=
  cendoRow_sameInstant s (fun t => ⟨State.onMessage_pending t l x type f fun tag p u => (h tag p u).1,
    State.onMessage_part t l x type f fun tag p u => (h tag p u).2.1,
    State.onMessage_cycles t l x type f fun tag p u => (h tag p u).2.2⟩) l

theorem State.request_sameInstant (s : State) (src : Source) (service sid seq : Nat) (p tag : Bytes) :
    s.SameInstant (s.request src service sid seq p tag) := s.request_keeps src service sid seq p tag

theorem asks_sameInstant (s : State) (r : Req) (service : Nat) (p : Bytes) : NextHas s.SameInstant (s.asks r service p) :=
  nextHas_next (s.request_sameInstant ..)

theorem State.whenever_sameInstant (s : State) (c : Bool) {f : State → State} (h : s.SameInstant (f s)) :
    s.SameInstant (s.whenever c f) := by
  cases c with
  | true => exact h
  | false => exact ⟨rfl, rfl, rfl⟩

theorem ends_sameInstant (s : State) (r : Req) (handle length crc : Nat) (entry : Nat → Bool) :
    NextHas s.SameInstant (s.ends r handle length crc entry) :=
  nextHas_next (s.whenever_sameInstant _ (s.request_sameInstant ..))

theorem writes_sameInstant (s : State) (r : Req) (present : Bool) (o : Obj) (i : Nat) (v : Int) :
    NextHas s.SameInstant (s.writes r present o i v) := nextHas_onUnit _ (s.request_sameInstant ..)

/-- The two resets that restart the clock. -/
def restartsClock : Instr → Bool
  | .powerOnReset | .supplyReset _ => true
  | _ => false

/-- Log 1: the commands outside `restartsClock`, grouped by the form of their meaning, happen at an instant. -/
theorem exec_sameInstant {c : Instr} (h : restartsClock c = false) (s : State) : NextHas s.SameInstant (exec c s) := by
  cases c with
  | powerOnReset | supplyReset => cases h
  | confirm | close | keepalive | read | write | blockOpen | blockData | blockEnd | commit | withdraw | subscribe | eventAck =>
    exact asks_sameInstant s _ _ _
  | ttTableWrite | measExtend | rollcallNonce | tandemProposal | tandemSign | roleSecretWrite | accessPlanWrite
  | calTrimsWrite =>
    dsimp only [exec]
    exact ends_sameInstant s _ _ _ _ _
  | storeSave | storeLoad | storeDefaults | storeErase | tbSourceWrite | tbDiscontinuityActionSlew
  | tbDiscontinuityActionReepoch | tbRateAdjWrite | ptpInstanceRestart | ptpAsymFlagClear | txtsPop | laneCommandRetrain
  | laneCommandPortReset | laneEnableWrite | laneTestModeWrite | expApplyChange | expApplyRaw | warpCoreFence
  | warpPartitionWrite | codecEngineFence | trkEnableWrite | nxGateConfigChange | dmaStart | dmaPause | dmaResume | dmaAbort
  | dmaEngineCommand | dmaRingReadWrite | dmaRingConfigWrite | fifoDropRemainder | fifoFlush | fifoWmAck | fwActivate
  | fwConfirm | tandemCommand | enrolSeal | pwrCommandStandby | pwrCommandParked | pwrCommandRun | pwrDomainEnableWrite
  | rstDevice | rstCluster | rcvClear | calOscProcedure | calSupplyProcedure | calCameraProcedure | calEthProcedure
  | calBellProcedure | calSave | calRevert | calAbort | testPipeFence | testInjectStart | testInjectStop | testGoldenSpec
  | testBistCommand | testDramRetrain =>
    dsimp only [exec]
    exact writes_sameInstant s _ _ _ _ _
  | seekAttempt | transitionsDetected | attemptTimeout | clockRecoveryLock | detectTimeout | symbolAlignment | alignTimeout
  | alignmentLost | trainingEvaluation | trainingBudgetExpiry | verifyEnd | retrainDeferralTimeout | laneDegradedRetry =>
    exact cendoRow_sameInstant s (fun _ => by simp [State.SameInstant]) _
  | tapStatus | identity | rateAck | loopAck | prbsAck | refused | writeAck | readData =>
    exact messageRow_sameInstant s _ _ _ fun _ _ _ => by simp [State.SameInstant]
  | lossOfSignal | fomEvaluation | prbsLock | prbsLockLost | laneIdleFreeze =>
    exact laneRow_sameInstant s (fun _ => by simp [State.SameInstant]) _
  | fsArrival | linePacket | embeddedPacket | fePacket =>
    exact packetRow_sameInstant s (fun _ => by simp [State.SameInstant]) _
  | timeBeaconReceive | tapRequest | linkReset | creditPacket | tunnelPacketReceive | trkPacketErrored | returnWidthDetected
  | ptpMessage | ptpSyncTransmit | bellPulseEnd | messageResponseTimeout | ethLaneStateChange | feWatchdog | cadenceMiss
  | lineCreditGain | fsAccepted | lineGroupTake | statRecordComplete | expWriteSlot | warpMatchDeadline | warpTileIssue
  | warpTileComplete | codecSliceComplete | ethFrameReceive | addressAging | ethEgressSelect | evFrameAccept
  | gateChangeInstant | gateIntervalEnd | preemptVerify | ptpRelayDatagram | dmaBurstGrant | dmaWriteAck | dmaDrained
  | dmaLanded | dmaBusError | dmaHoldoffEnd | fifoWordTransfer | crossingWordTransfer | crossingWatchdog | scrubPass
  | domainSwitchDone | supplyDipBegin | supplyDipEnd | pipeWatchdog | pipelineRestart | hubWatchdog | islandClockChange
  | injectFrameStart | bistComplete | clusterResetComplete => exact nextHas_onUnit _ (by simp [State.SameInstant])
  | canFdFrame | canFdSegmentTimeout | udpDatagram | arpRequest | neighbourSolicitation | openSession | blockTransferAbandon
  | halfOpenTimeout | sessionIdleTimeout | evtResendInterval | storeSaveComplete | sourceTimeout | pathHoldEnd | slewEnd
  | reepoch | tbExtWatchdog | tbOscLost | tbOscRestored | tbHoldoverAlarm | timeBeaconSend | oscRecalAdvice | bellLoad
  | bellStarved | bellFire | commitUnitFire | mergeRelease | trkPacketBoundary | trkCreditTimeout | trkTrainingDecision
  | trkWidenHold | trkLaneCountChange | resetRelease | dramTrainingComplete | fwTrialTimeout | rollcallSigned
  | tandemWindowExpiry | pwrDrainLimit | outputDrainTimeout | wake | supplyResetRelease | fwWatchdog | avsWrite | tjThrottle
  | tjCritical | calProcedureComplete | tjThrottleRelease | calSaveComplete =>
    exact nextHas_next (by simp [State.SameInstant])

theorem exec_sameQueue (c : Instr) (s : State) : NextHas s.SameQueue (exec c s) := by
  cases c with
  | powerOnReset => exact nextHas_next (by simp [State.SameQueue])
  | supplyReset => exact nextHas_onUnit _ (by simp [State.SameQueue])
  | _ => exact (exec_sameInstant rfl s).imp fun _ => State.SameInstant.sameQueue

/-- Settles O44: the command in front leaves the rest of the queue, a cycle of the time base the empty one. -/
theorem stepTakesOneCommand : Obligations.StepTakesOneCommand := by
  intro s t hstep
  match hqueue : s.pending with
  | [] =>
    cases (step_of_nothing_pending hqueue).symm.trans hstep
    exact ⟨s.idle_keeps.1.trans hqueue, s.idle_keeps.2⟩
  | c :: rest => exact exec_sameQueue c { s with pending := rest } t ((stepRunsFrontCommand c rest s hqueue).symm.trans hstep)

/-- Settles O45: a command that is neither of the two resets happens at an instant. -/
theorem commandsTakeNoTime : Obligations.CommandsTakeNoTime := by
  intro c s t hexec hpower hsupply
  have hclock : restartsClock c = false := by
    cases c with
    | powerOnReset => exact absurd rfl hpower
    | supplyReset rail => exact absurd rfl (hsupply rail)
    | _ => rfl
  exact (exec_sameInstant hclock s t hexec).2.2

end Sys2Proof.Machine
end

section
/-! PROOF. O16: the 8b/10b code (R133). Decoding is checked character by character; a comma that straddles two codes is seen in
the first code's last six bits and the next code's first six, of which there are few. -/
namespace Sys2Proof.Machine

/-! Decoding. -/

theorem charOf_code_data (positive : Bool) (b : Byte) : charOf positive ((Chr.d b).code positive) = some (.d b) := by
  revert positive b
  decide +kernel

theorem charOf_code_special : ∀ positive, ∀ b ∈ specials, charOf positive ((Chr.k b).code positive) = some (.k b) := by
  decide +kernel

/-- A character of the code table. -/
def Chr.Coded : Chr → Prop
  | .d _ => True
  | .k b => b ∈ specials

theorem charOf_code (positive : Bool) {c : Chr} (h : c.Coded) : charOf positive (c.code positive) = some c := by
  cases c with
  | d b => exact charOf_code_data positive b
  | k b => exact charOf_code_special positive b h

theorem rxOf_code (positive : Bool) {c : Chr} (h : c.Coded) : rxOf positive (c.code positive) = ⟨some c, false⟩ := by
  rw [rxOf, charOf_code positive h]

theorem rxAll_encode (positive : Bool) (l : List Chr) (h : ∀ c ∈ l, c.Coded) :
    rxAll positive (encode positive l).1 = l.map fun c => ⟨some c, false⟩ := by
  induction l generalizing positive with
  | nil => rfl
  | cons c r ih =>
    obtain ⟨hc, hr⟩ := List.forall_mem_cons.mp h
    rw [encode, rxAll, rxOf_code positive hc, ih _ hr, List.map_cons]

/-! Commas. -/

/-- Does a comma lie in the k + 1 windows of a word that end at its lowest bits? -/
def commaWithin (k word : Nat) : Bool :=
  (List.range k).any fun i => let w := word / 2 ^ (k - 1 - i) % 128; w = 0b0011111 || w = 0b1100000

/-- Six bits of one column of the code table as they are in the other. -/
def inColumn (positive : Bool) (l : List Nat) : List Nat := if positive then l.map (63 - ·) else l

/-- The last six bits of the codes, K28.7 apart, that leave a running disparity. -/
def tailCodes (positive : Bool) : List Nat :=
  inColumn positive [2, 4, 5, 6, 8, 9, 10, 12, 17, 18, 20, 21, 22, 25, 26, 28, 33, 34, 36, 37, 38, 40, 41, 42, 44, 49, 50, 52, 53,
    54, 57, 58, 60]

/-- The first six bits of the codes at a running disparity: those of a data character, and those of K28. -/
def headCodes (positive : Bool) : List Nat := inColumn positive [0b001111] ++ (List.range 32).map (sixCode positive)

/-- A character of the code table other than K28.7. -/
def Chr.Plain : Chr → Prop
  | .d _ => True
  | .k b => b ∈ specials ∧ b ≠ 0xFC

/-- What a code says of commas at a running disparity before it: none within, and which bits it begins and ends with. -/
structure CommaFree (positive : Bool) (code : Nat) : Prop where
  bits : code < 1024
  within : commaWithin 3 code = false
  head : code / 16 ∈ headCodes positive
  tail : code % 64 ∈ tailCodes (codeDisparity positive code)

theorem code_data_commaFree (positive : Bool) (b : Byte) : CommaFree positive ((Chr.d b).code positive) := by
  constructor <;> revert positive b <;> decide +kernel

theorem code_special_commaFree (positive : Bool) (b : Byte) (h : b ∈ specials) (h7 : b ≠ 0xFC) :
    CommaFree positive ((Chr.k b).code positive) := by
  constructor <;> revert positive b <;> decide +kernel

theorem code_commaFree (positive : Bool) {c : Chr} (h : c.Plain) : CommaFree positive (c.code positive) := by
  cases c with
  | d b => exact code_data_commaFree positive b
  | k b => exact code_special_commaFree positive b h.1 h.2

theorem tailCodes_headCodes_noComma : ∀ positive, ∀ t ∈ tailCodes positive, ∀ h ∈ headCodes positive,
    commaWithin 6 (t * 64 + h) = false := by
  decide +kernel

theorem any_congr_of_mem {α : Type} {l : List α} {f g : α → Bool} (h : ∀ a ∈ l, f a = g a) : l.any f = l.any g := by
  rw [Bool.eq_iff_iff, List.any_eq_true, List.any_eq_true]
  exact exists_congr fun a => and_congr_right fun ha => by rw [h a ha]

/-- The windows of two codes: three lie in the first code, six in its last six bits and the first six of the next. -/
theorem straddled_eq (x : Nat) {y : Nat} (h : y < 1024) :
    straddled x y = (commaWithin 3 x || commaWithin 6 (x % 64 * 64 + y / 16)) := by
  have hin (i : Nat) (hi : i < 3) : (x * 1024 + y) / 2 ^ (12 - i) % 128 = x / 2 ^ (2 - i) % 128 := by
    interval_cases i <;> omega
  have hacross (i : Nat) (hi : i < 6) : (x * 1024 + y) / 2 ^ (12 - (3 + i)) % 128 = (x % 64 * 64 + y / 16) / 2 ^ (5 - i) % 128 := by
    interval_cases i <;> omega
  rw [straddled, show List.range 9 = List.range 3 ++ (List.range 6).map (3 + ·) from rfl, List.any_append, List.any_map]
  congr 1
  · exact any_congr_of_mem fun i hi => by simp only [hin i (List.mem_range.mp hi)]
  · exact any_congr_of_mem fun i hi => by simp only [Function.comp, hacross i (List.mem_range.mp hi)]

/-- Two codes in a row have no comma across them. -/
theorem CommaFree.not_straddled {positive : Bool} {x y : Nat} (hx : CommaFree positive x)
    (hy : CommaFree (codeDisparity positive x) y) : straddled x y = false := by
  rw [straddled_eq x hy.bits, hx.within, tailCodes_headCodes_noComma _ _ hx.tail _ hy.head, Bool.or_self]

theorem strays_encode (positive : Bool) (l : List Chr) (h : ∀ c ∈ l, c.Plain) : true ∉ strays (encode positive l).1 := by
  induction l generalizing positive with
  | nil => simp [encode, strays]
  | cons c r ih =>
    obtain ⟨hc, hr⟩ := List.forall_mem_cons.mp h
    cases r with
    | nil => simp [encode, strays]
    | cons c' r' =>
      have hrest := ih (codeDisparity positive (c.code positive)) hr
      have hnext := code_commaFree (codeDisparity positive (c.code positive)) (hr c' (by simp))
      simp only [encode] at hrest
      simp only [encode, strays, (code_commaFree positive hc).not_straddled hnext, List.mem_cons, Bool.true_eq_false, false_or]
      exact hrest

theorem Chr.coded_of_mem {l : List Chr} (h : ∀ b, Chr.k b ∈ l → b ∈ specials) : ∀ c ∈ l, c.Coded
  | .d _, _ => trivial
  | .k b, hb => h b hb

theorem Chr.plain_of_mem {l : List Chr} (h : ∀ b, Chr.k b ∈ l → b ∈ specials ∧ b ≠ 0xFC) : ∀ c ∈ l, c.Plain
  | .d _, _ => trivial
  | .k b, hb => h b hb

/-- Settles O16: every character decodes to itself, and no code ends in what the next one can continue to a comma. -/
theorem charactersReadBack : Obligations.CharactersReadBack :=
  ⟨fun positive l h => rxAll_encode positive l (Chr.coded_of_mem h),
    fun positive l h => strays_encode positive l (Chr.plain_of_mem h)⟩

end Sys2Proof.Machine
end

section
/-! PROOF. O57: messages (R45). A message is its fields one after the other, and what lies at each field's place is that field. -/
namespace Sys2Proof.Machine

/-! Reading a number from its place, and writing it back. -/

theorem slice_append_right {a : Bytes} {off : Nat} (h : a.length ≤ off) (r : Bytes) (n : Nat) :
    slice (a ++ r) off n = slice r (off - a.length) n := by
  rw [slice, slice, List.drop_append, List.drop_of_length_le h, List.nil_append]

theorem beAt_append_right {a : Bytes} {off : Nat} (h : a.length ≤ off) (r : Bytes) (n : Nat) :
    beAt (a ++ r) off n = beAt r (off - a.length) n := by rw [beAt, beAt, slice_append_right h]

theorem slice_front {m : Bytes} {n : Nat} (h : m.length = n) (r : Bytes) : slice (m ++ r) 0 n = m := by
  rw [← h]
  exact slice_append [] m r

theorem beAt_front {n x : Nat} (h : x < 256 ^ n) (r : Bytes) : beAt (beBytes n x ++ r) 0 n = x := beAt_append [] n x r h

theorem byteOf_add_mul (b : Byte) (x : Nat) : byteOf (b.toNat + 256 * x) = b := by
  apply BitVec.eq_of_toNat_eq
  rw [byteOf_toNat]
  omega

theorem leBytes_leNat (b : Bytes) : leBytes b.length (leNat b) = b := by
  induction b with
  | nil => rfl
  | cons c r ih =>
    have hdiv : (c.toNat + 256 * leNat r) / 256 = leNat r := by omega
    rw [List.length_cons, leNat, leBytes, byteOf_add_mul, hdiv, ih]

theorem beBytes_beNat (b : Bytes) : beBytes b.length (beNat b) = b := by
  rw [beBytes, beNat, ← List.length_reverse, leBytes_leNat, List.reverse_reverse]

theorem length_slice {b : Bytes} {off n : Nat} (h : off + n ≤ b.length) : (slice b off n).length = n := by
  simp [slice]; omega

/-- A number that is written where it was read. -/
theorem beBytes_beAt {b : Bytes} {off n : Nat} (h : off + n ≤ b.length) : beBytes n (beAt b off n) = slice b off n := by
  have hread := beBytes_beNat (slice b off n)
  rwa [length_slice h] at hread

theorem byteOf_beAt {b : Bytes} {off : Nat} (h : off + 1 ≤ b.length) : [byteOf (beAt b off 1)] = slice b off 1 := beBytes_beAt h

theorem slice_append_slice (b : Bytes) (off m n : Nat) : slice b off m ++ slice b (off + m) n = slice b off (m + n) := by
  rw [slice, slice, slice, List.take_add, List.drop_drop]

theorem slice_all {b : Bytes} {n : Nat} (h : b.length = n) : slice b 0 n = b := by rw [slice, List.drop_zero, List.take_of_length_le h.le]

/-! Messages. -/

/-- R45: the length of a service's tag. -/
def tagLength (service : Nat) : Nat := if service = 1 then 0 else 16

/-- A message and what follows it, as its fields one after the other. -/
theorem dapBody_fields (service session seq : Nat) (p r : Bytes) : dapBody service session seq p ++ r =
    beBytes 1 1 ++ (beBytes 1 service ++ (beBytes 2 session ++ (beBytes 4 seq ++ (beBytes 2 p.length ++ (p ++ r))))) := by
  simp [dapBody, beBytes, leBytes, byteOf]

/-- R45, R48: a message is read from its bytes; where they need not be exactly it, padding may follow. -/
theorem parseMessage_dapBody {exact : Bool} {service session seq : Nat} {p tag pad : Bytes} (hservice : service < 256)
    (hsession : session < 65536) (hseq : seq < 2 ^ 32) (hp : p.length ≤ 1382) (htag : tag.length = tagLength service)
    (hpad : exact = true → pad = []) :
    parseMessage exact (dapBody service session seq p ++ (tag ++ pad)) = some ⟨service, session, seq, p, tag⟩ := by
  generalize hmessage : dapBody service session seq p ++ (tag ++ pad) = b
  have hb := hmessage
  have hlength : b.length = 10 + p.length + tag.length + pad.length := by
    rw [← hmessage, List.length_append, length_dapBody, List.length_append]; omega
  rw [dapBody_fields] at hb
  have h0 : beAt b 0 1 = 1 := by rw [← hb, beAt_front (by decide)]
  have h1 : beAt b 1 1 = service := by rw [← hb, beAt_append_right (by simp), length_beBytes, beAt_front hservice]
  have h2 : beAt b 2 2 = session := by simp [← hb, beAt_append_right, beAt_front, hsession]
  have h4 : beAt b 4 4 = seq := by simp [← hb, beAt_append_right, beAt_front, show seq < 4294967296 from hseq]
  have h8 : beAt b 8 2 = p.length := by
    simp [← hb, beAt_append_right, beAt_front, show p.length < 65536 by omega]
  have h10 : slice b 10 p.length = p := by simp [← hb, slice_append_right, slice_front]
  have hrest : slice b (10 + p.length) tag.length = tag := by
    rw [← hmessage, slice_append_right (length_dapBody ..).le, length_dapBody, Nat.sub_self, slice_front rfl]
  have hexact : exact = true → pad.length = 0 := fun h => by rw [hpad h, List.length_nil]
  have hwhole : 10 + p.length + (if service = 1 then 0 else 16) = 10 + p.length + tag.length := by rw [htag, tagLength]
  have hleft : 10 + p.length + tag.length - 10 - p.length = tag.length := by omega
  simp only [parseMessage, h0, h1, h2, h4, h8, h10, hwhole, hleft, hrest]
  cases exact with
  | true => simp [hlength, hpad rfl, hp]; omega
  | false => simp [hlength, hp]; omega

/-- R45: what a message is read from is the message, and its payload and tag have their lengths. -/
theorem dapBody_of_parseMessage {b : Bytes} {m : Message} (h : parseMessage true b = some m) :
    b = dapBody m.service m.session m.seq m.payload ++ m.tag ∧ m.payload.length ≤ 1382 ∧ m.tag.length = tagLength m.service := by
  simp only [parseMessage, Bool.true_and] at h
  rw [ite_eq_iff] at h
  obtain ⟨-, h⟩ | ⟨hread, h⟩ := h
  · cases h
  · simp only [Bool.or_eq_true, decide_eq_true_eq, not_or, not_lt, not_not] at hread
    obtain ⟨⟨⟨⟨hhead, hversion⟩, hpayload⟩, -⟩, hwhole⟩ := hread
    obtain rfl := Option.some.inj h
    have htag : (if beAt b 1 1 = 1 then 0 else 16) = tagLength (beAt b 1 1) := rfl
    rw [htag] at hwhole ⊢
    generalize hn : beAt b 8 2 = n at *
    have hleft : 10 + n + tagLength (beAt b 1 1) - 10 - n = tagLength (beAt b 1 1) := by omega
    have hp : (slice b 10 n).length = n := length_slice (by omega)
    have hfirst : beBytes 1 1 = slice b 0 1 := by rw [← beBytes_beAt (by omega), hversion]
    refine ⟨?_, hp.le.trans hpayload, (length_slice (by omega)).trans hleft⟩
    calc b = slice b 0 (1 + (1 + (2 + (4 + (2 + (n + tagLength (beAt b 1 1))))))) := (slice_all (by omega)).symm
      _ = _ := by
        rw [hleft, dapBody_fields, hp, hfirst, ← hn, beBytes_beAt (by omega), beBytes_beAt (by omega), beBytes_beAt (by omega),
          beBytes_beAt (by omega)]
        simp only [← slice_append_slice, Nat.reduceAdd]

/-- Settles O57: a message is read back, and nothing else is read as a message. -/
theorem messagesReadBack : Obligations.MessagesReadBack :=
  ⟨fun service session seq p tag hservice hsession hseq hp htag => by
    have hread := parseMessage_dapBody (exact := true) (pad := []) hservice hsession hseq hp htag fun _ => rfl
    rwa [List.append_nil] at hread, fun b m h => dapBody_of_parseMessage h⟩

end Sys2Proof.Machine
end

section
/-! PROOF. O8, O58, O59: messages in CAN FD frames and datagrams (R47, R48, R50). -/
namespace Sys2Proof.Machine

theorem canLength_canLength {n : Nat} (h : n ≤ 64) : canLength (canLength n) = canLength n := by
  interval_cases n <;> rfl

theorem le_canLength {n : Nat} (h : n ≤ 64) : n ≤ canLength n := by
  interval_cases n <;> decide

theorem canLength_le (n : Nat) : canLength n ≤ 64 := by
  simp only [canLength]
  repeat' split
  all_goals omega

/-- Settles O59: the bytes of the worked example. -/
theorem workedExampleHeaders : Obligations.WorkedExampleHeaders :=
  ⟨by decide, rfl, rfl, by decide, fun _ => rfl, fun _ => rfl⟩

/-! Frames. -/

/-- R47: the identifier of a frame to the device names the host and the node. -/
theorem canFdFrame_heard {s : State} {h : Nat} {data : Bytes} (hheard : s.hearsHost (.can h) = true) (hnode : s.nodeId < 256)
    (hdata : data ≠ []) (hshort : data.length ≤ 64) (hlength : canLength data.length = data.length) :
    canFdFrame (0x1000000 + 256 * h + s.nodeId) data s = s.segment h data := by
  have hhost : 1 ≤ h ∧ h ≤ 255 := by
    simp only [State.hearsHost, Bool.and_eq_true, decide_eq_true_eq] at hheard
    exact ⟨hheard.2.1.2, hheard.2.2⟩
  have hfield : field (0x1000000 + 256 * h + s.nodeId) 15 8 = h := by
    simp only [field, Nat.shiftRight_eq_div_pow]; omega
  have hfun : (0x1000000 + 256 * h + s.nodeId) / 2 ^ 16 = 0x100 := by omega
  have hlow : (0x1000000 + 256 * h + s.nodeId) % 256 = s.nodeId := by omega
  have hsome : data.isEmpty = false := by cases data <;> simp_all
  have hzero : ¬ h = 0 := by omega
  have hfits : ¬ 64 < data.length := by omega
  simp only [canFdFrame, hfield, hfun, hlow, hsome, hlength, hheard, hzero, hfits]
  simp

/-! Segments (R48). -/

/-- R48: the header of the frame with segment counter i. -/
def segmentHeader (i : Nat) (last : Bool) : Nat := (if i = 0 then 128 else 0) + (if last then 64 else 0) + i % 64

theorem segmentHeader_fields : ∀ i < 64, ∀ last, segmentHeader i last < 256 ∧ (segmentHeader i last).testBit 7 = decide (i = 0) ∧
    (segmentHeader i last).testBit 6 = last ∧ segmentHeader i last % 64 = i := by
  decide

/-- R48: the bytes b of a message of host h have arrived, and segment i comes next. -/
def State.Begun (s : State) (h i : Nat) (b : Bytes) : Prop :=
  if i = 0 then b = []
  else ∃ q, s.dap.partials.find? (·.host = h) = some q ∧ q.next = i ∧ s.since q.last < msCycles 10 ∧ q.bytes = b

/-- What other hosts have begun. -/
def State.otherPartials (s : State) (h : Nat) : List CanPartial := s.dap.partials.filter (·.host ≠ h)

theorem State.segment_next {s : State} {h i : Nat} {b : Bytes} (hi : i < 64) (hbegun : s.Begun h i b) (last : Bool) (r : Bytes) :
    s.segment h (byteOf (segmentHeader i last) :: r) =
      if last then (s.setPartials (s.otherPartials h)).receive (.can h) false (b ++ r)
      else s.setPartials (s.otherPartials h ++ [⟨h, b ++ r, (i + 1) % 64, s.cycles⟩]) := by
  obtain ⟨hbyte, hfirst, hlast, hcount⟩ := segmentHeader_fields i hi last
  have hhead : beAt (byteOf (segmentHeader i last) :: r) 0 1 = segmentHeader i last := beAt_front (n := 1) hbyte r
  have hnext : (segmentHeader i last + 1) % 64 = (i + 1) % 64 := by omega
  simp only [State.segment, hhead, hfirst, hlast, hcount, hnext, List.drop_one, List.tail_cons]
  rw [State.Begun] at hbegun
  split at hbegun
  case isTrue h0 => simp [h0, hbegun, State.otherPartials]
  case isFalse h0 =>
    obtain ⟨q, hfind, hq, hsince, hbytes⟩ := hbegun
    simp [h0, hfind, hq, hsince, hbytes, State.otherPartials]

theorem State.otherPartials_setPartials (s : State) (h i last : Nat) (b : Bytes) :
    (s.setPartials (s.otherPartials h ++ [⟨h, b, i, last⟩])).otherPartials h = s.otherPartials h := by
  simp [State.setPartials, State.otherPartials, List.filter_append]

theorem State.begun_setPartials (s : State) (h : Nat) (b : Bytes) {i : Nat} (hi : i ≠ 0) :
    (s.setPartials (s.otherPartials h ++ [⟨h, b, i, s.cycles⟩])).Begun h i b := by
  rw [State.Begun, if_neg hi]
  refine ⟨⟨h, b, i, s.cycles⟩, ?_, rfl, ?_, rfl⟩
  · have hnone : (s.otherPartials h).find? (·.host = h) = none := by simp [State.otherPartials]
    simp [State.setPartials, List.find?_append, hnone]
  · simp [State.since, State.setPartials, msCycles]

theorem padTo_of_le {n : Nat} {b : Bytes} (h : b.length ≤ n) : padTo n b = b ++ List.replicate (n - b.length) 0 := by
  rw [padTo, List.take_of_length_le]
  simp; omega

/-- R48: the frame with segment counter i of what is left of a message. -/
def segmentFrame (i : Nat) (m : Bytes) : Bytes :=
  padTo (canLength ((m.take 63).length + 1)) (byteOf (segmentHeader i (m.drop 63).isEmpty) :: m.take 63)

theorem canSegments_succ (n i : Nat) (m : Bytes) :
    canSegments (n + 1) i m = segmentFrame i m :: if (m.drop 63).isEmpty then [] else canSegments n (i + 1) (m.drop 63) := rfl

theorem length_segmentFrame (i : Nat) (m : Bytes) : (segmentFrame i m).length = canLength ((m.take 63).length + 1) := length_padTo ..

theorem segmentFrame_of_last {i : Nat} {m : Bytes} (h : m.length ≤ 63) :
    ∃ pad, segmentFrame i m = byteOf (segmentHeader i true) :: (m ++ pad) := by
  rw [segmentFrame, List.drop_of_length_le h, List.take_of_length_le h]
  exact ⟨_, padTo_of_le (le_canLength (n := m.length + 1) (by omega))⟩

theorem segmentFrame_of_more {i : Nat} {m : Bytes} (h : 63 < m.length) :
    segmentFrame i m = byteOf (segmentHeader i false) :: m.take 63 := by
  have htake : (m.take 63).length = 63 := by rw [List.length_take]; omega
  have hrest : (m.drop 63).isEmpty = false := by simp; omega
  rw [segmentFrame, hrest, htake, padTo_of_le (by simp [htake, canLength])]
  simp [htake, canLength]

theorem exec_segmentFrame {s : State} {h : Nat} (hheard : s.hearsHost (.can h) = true) (hnode : s.nodeId < 256) (i : Nat) (m : Bytes) :
    exec (.canFdFrame (0x1000000 + 256 * h + s.nodeId) (segmentFrame i m)) s = .next (s.segment h (segmentFrame i m)) := by
  have hpart : (m.take 63).length + 1 ≤ 64 := by rw [List.length_take]; omega
  have hlength := length_segmentFrame i m
  have hsome : segmentFrame i m ≠ [] := by
    intro hnone
    have := le_canLength hpart
    rw [hnone, List.length_nil] at hlength
    omega
  exact congrArg Host.Outcome.next (canFdFrame_heard hheard hnode hsome (hlength ▸ canLength_le _)
    (by rw [hlength, canLength_canLength hpart]))

/-- R48: the frames that are left of a message complete it, and padding may follow. -/
theorem runCommands_canSegments {h : Nat} (n : Nat) : ∀ (i : Nat) (b m : Bytes) (s : State), s.hearsHost (.can h) = true →
    s.nodeId < 256 → i + n ≤ 64 → 1 ≤ n → m.length ≤ 63 * n → s.Begun h i b →
    ∃ pad, runCommands ((canSegments n i m).map fun f => Instr.canFdFrame (0x1000000 + 256 * h + s.nodeId) f) s =
      some ((s.setPartials (s.otherPartials h)).receive (.can h) false (b ++ (m ++ pad))) := by
  induction n with
  | zero => intro _ _ _ _ _ _ _ hn; omega
  | succ n ih =>
    intro i b m s hheard hnode hi _ hm hbegun
    rw [canSegments_succ]
    by_cases hlast : m.length ≤ 63
    case pos =>
      obtain ⟨pad, hframe⟩ := segmentFrame_of_last (i := i) hlast
      refine ⟨pad, ?_⟩
      rw [List.drop_of_length_le hlast, List.isEmpty_nil, if_pos rfl, List.map_singleton, runCommands,
        exec_segmentFrame hheard hnode, hframe, s.segment_next (by omega) hbegun]
      rfl
    case neg =>
      have hmore : 63 < m.length := by omega
      have hrest : (m.drop 63).isEmpty = false := by simp; omega
      have hlength : (m.drop 63).length ≤ 63 * n := by rw [List.length_drop]; omega
      have hcount : (i + 1) % 64 = i + 1 := by omega
      obtain ⟨pad, hrun⟩ := ih (i + 1) (b ++ m.take 63) (m.drop 63) (s.setPartials (s.otherPartials h ++
        [⟨h, b ++ m.take 63, i + 1, s.cycles⟩])) hheard hnode (by omega) (by omega) hlength
        (s.begun_setPartials h _ (by omega))
      refine ⟨pad, ?_⟩
      rw [hrest, if_neg (by decide), List.map_cons, runCommands, exec_segmentFrame hheard hnode, segmentFrame_of_more hmore,
        s.segment_next (by omega) hbegun, if_neg (by decide), hcount]
      have hbytes : b ++ m.take 63 ++ (m.drop 63 ++ pad) = b ++ (m ++ pad) := by
        rw [List.append_assoc, ← List.append_assoc (m.take 63), List.take_append_drop]
      rw [s.otherPartials_setPartials, hbytes] at hrun
      exact hrun

theorem State.receive_of_parse {s : State} {src : Source} {exact : Bool} {b : Bytes} {m : Message}
    (h : parseMessage exact b = some m) (hopen : m.service ≠ 1) :
    s.receive src exact b = s.request src m.service m.session m.seq m.payload m.tag := by
  rw [State.receive, h]
  exact if_neg hopen

/-- Settles O58: the frames bring the message and padding, of which the message is read. -/
theorem canFramesMakeTheRequest : Obligations.CanFramesMakeTheRequest := by
  intro s h service session seq p tag hheard hnode hservice hopen hsession hseq hp htag
  have hlength : (dapBody service session seq p ++ tag).length ≤ 63 * 32 := by
    rw [List.length_append, length_dapBody]; omega
  obtain ⟨pad, hrun⟩ := runCommands_canSegments 32 0 [] _ s hheard hnode (by decide) (by decide) hlength rfl
  have hparse := parseMessage_dapBody (exact := false) (pad := pad) hservice hsession hseq hp
    (htag.trans (if_neg hopen).symm) (fun h => by cases h)
  rw [hrun, List.nil_append, List.append_assoc, State.receive_of_parse hparse hopen]
  rfl

/-- Settles O8: a frame that is first and last, a datagram for the device, and the two questions for its address. -/
theorem transportsAct : Obligations.TransportsAct := by
  refine ⟨?frame, ?datagram, ?arp, ?neighbour⟩
  case frame =>
    intro s h data _ _ hheard hnode hdata hlength hshort hhead
    obtain ⟨c, r, rfl⟩ := List.exists_cons_of_ne_nil hdata
    have hbyte : c = byteOf (segmentHeader 0 true) := by
      apply BitVec.eq_of_toNat_eq
      have hvalue : (byteOf (segmentHeader 0 true)).toNat = 192 := rfl
      simpa [hvalue, beAt, beNat, slice, leNat] using hhead
    have hident : 2 ^ 24 + h * 256 + s.nodeId = 0x1000000 + 256 * h + s.nodeId := by omega
    rw [hident]
    refine congrArg Host.Outcome.next ((canFdFrame_heard hheard hnode hdata hshort hlength).trans ?_)
    rw [hbyte, s.segment_next (i := 0) (b := []) (by decide) rfl]
    rfl
  case datagram =>
    intro s src dst msg hown hlength
    refine congrArg Host.Outcome.next ?_
    simp [udpDatagram, hown, hlength]
  case arp =>
    intro s mac addr hanswers haddr
    exact congrArg Host.Outcome.next (s.whenever_of_true (by simp [hanswers, haddr]) _)
  case neighbour =>
    intro s mac addr hanswers henabled
    exact congrArg Host.Outcome.next (s.whenever_of_true (by simp [hanswers, henabled]) _)

end Sys2Proof.Machine
end

section
/-! PROOF. O4, O48, O49, O53: the requests of a session in their order (R51 to R54, R56), and what one that is refused leaves (R71). -/
namespace Sys2Proof.Machine

/-- R46: a command that is a tagged request has no other meaning. -/
theorem exec_of_asking {c : Instr} {r : Req} {k : Nat} {p : Bytes} (h : asking c = some (r, k, p)) (s : State) :
    exec c s = s.asks r k p := by
  cases c <;> cases h <;> rfl

section
variable {s : State} {src : Source} {k sid seq : Nat} {p tag : Bytes}

theorem State.request_foreign (hheard : s.hearsHost src = true) (hforeign : ∀ x, s.session sid = some x → x.src ≠ src) :
    s.request src k sid seq p tag = s := by
  simp only [State.request, hheard]
  cases hsession : s.session sid with
  | none => simp
  | some x => simp [hforeign x hsession]

variable {x : Session} (hheard : s.hearsHost src = true) (hp : p.length ≤ 1382) (hseq : seq < 2 ^ 32)
  (hsession : s.session sid = some x) (hsrc : x.src = src)
include hheard hp hseq hsession hsrc

/-- R54: the four steps that a request of a session takes. -/
theorem State.request_of_session : s.request src k sid seq p tag =
    if dapTag x.key (dapBody k sid seq p) ≠ tag then s.tagFailure x
    else if seq = x.lastSeq && !x.cached.isEmpty then
      (s.updSession sid fun y => { y with lastMsg := s.cycles }).transmit src 2 x.cached
    else if seq ≤ x.lastSeq || !x.takes k seq p then s
    else s.act x k seq p := by
  have hshort : ¬ 1382 < p.length := by omega
  have hfits : ¬ 2 ^ 32 ≤ seq := by omega
  simp only [State.request, hheard, hsession, hsrc, hshort, hfits]
  simp

theorem State.request_taken (htag : dapTag x.key (dapBody k sid seq p) = tag) (horder : x.lastSeq < seq) (htakes : x.takes k seq p = true) :
    s.request src k sid seq p tag = s.act x k seq p := by
  have hnew : ¬ seq = x.lastSeq := by omega
  have hlater : ¬ seq ≤ x.lastSeq := by omega
  rw [State.request_of_session hheard hp hseq hsession hsrc]
  simp [htag, hnew, hlater, htakes]

end

theorem State.tagFailure_of_few {x : Session} (h : x.tagFails < 15) (s : State) :
    s.tagFailure x = (s.bump Key.dapTagFailures).updSession x.sid fun y => { y with tagFails := y.tagFails + 1 } := by
  simp [State.tagFailure, h]

theorem State.tagFailure_of_many {x : Session} (h : x.tagFails = 15) (s : State) :
    s.tagFailure x = (((s.bump Key.dapTagFailures).updSession x.sid fun y => { y with tagFails := y.tagFails + 1 }).closeSessions
      fun y => y.sid = x.sid).raise 0x1002 1 "CX" (leBytes 2 x.sid) := by
  simp [State.tagFailure, h]

/-! OPEN (R52, R53). -/

theorem openPayload_role {role : Nat} (h : role ≤ 3) (nonce : Bytes) : beAt ([byteOf role, 0] ++ nonce) 0 1 = role :=
  beAt_front (n := 1) (by omega) _

theorem State.transmit_dap (s : State) (d : Source) (n : Nat) (m : Bytes) : (s.transmit d n m).dap = s.dap := by
  simp only [State.transmit]
  split
  · rfl
  · split
    · exact State.foldl_field State.dap (fun t f => t.send (.can _ f)) (fun _ _ => rfl) _ s
    · rfl

/-- R53: what an OPEN of a known form does: the checks in their order. -/
theorem State.openRequest_heard {s : State} {src : Source} {role : Nat} {nonce : Bytes} (hheard : s.hearsHost src = true)
    (hnonce : nonce.length = 16) (hrole : role ≤ 3) : s.openRequest src 0 ([byteOf role, 0] ++ nonce) =
      if 4 ≤ s.recentOpens src then (s.countOpen src).bump Key.dapOpenRefused
      else if !s.enrolled role || !s.admitsRole role src then
        ((s.countOpen src).bump Key.dapOpenRefused).transmit src 2 (dapBody 0xFF 0 0 (abortPayload 0 1 0 0 0x0008))
      else if 8 ≤ s.dap.sessions.length then
        ((s.countOpen src).bump Key.dapOpenRefused).transmit src 2 (dapBody 0xFF 0 0 (abortPayload 0 1 0 0 0x000A))
      else (s.countOpen src).halfOpen src 0 ([byteOf role, 0] ++ nonce) := by
  have hlength : ([byteOf role, 0] ++ nonce).length = 18 := by simp [hnonce]
  have hcode : (s.countOpen src).openCode src ([byteOf role, 0] ++ nonce) =
      if !s.enrolled role || !s.admitsRole role src then 0x0008 else if 8 ≤ s.dap.sessions.length then 0x000A else 0 := by
    have hknown : decide (3 < role) = false := decide_eq_false (by omega)
    simp only [State.openCode, openPayload_role hrole, hlength, hknown, Bool.false_or]
    rfl
  have hform : s.openRequest src 0 ([byteOf role, 0] ++ nonce) =
      if 4 ≤ s.recentOpens src then (s.countOpen src).bump Key.dapOpenRefused
      else if (s.countOpen src).openCode src ([byteOf role, 0] ++ nonce) ≠ 0 then
        ((s.countOpen src).bump Key.dapOpenRefused).transmit src 2 (dapBody 0xFF 0 0
          (abortPayload 0 1 0 0 ((s.countOpen src).openCode src ([byteOf role, 0] ++ nonce))))
      else (s.countOpen src).halfOpen src 0 ([byteOf role, 0] ++ nonce) := by
    rw [State.openRequest, hheard, hlength, if_neg (by decide), if_neg (by decide)]
    rfl
  rw [hform, hcode]
  refine if_congr Iff.rfl rfl ?_
  split
  · rfl
  · split <;> rfl

/-- R52: OPEN's half-open session comes after those there are. -/
theorem State.halfOpen_sessions (s : State) (src : Source) (seq : Nat) {role : Nat} (h : role ≤ 3) (nonce : Bytes) :
    ∃ x, (s.halfOpen src seq ([byteOf role, 0] ++ nonce)).dap.sessions = s.dap.sessions ++ [x] ∧ x.role = role ∧ x.src = src ∧
      x.open_ = false ∧ x.sid = s.freeSid ∧ x.lastSeq = 0 ∧ x.devSeq = 1 :=
  ⟨_, congrArg Dap.sessions (State.transmit_dap ..), openPayload_role h nonce, rfl, rfl, rfl, rfl, rfl⟩

/-- R52, R53: an OPEN within the rate that no rule refuses adds a half-open session. -/
theorem State.openRequest_accepted {s : State} {src : Source} {role : Nat} {nonce : Bytes} (hheard : s.hearsHost src = true)
    (hnonce : nonce.length = 16) (hrole : role ≤ 3) (henrolled : s.enrolled role = true) (hadmits : s.admitsRole role src = true)
    (hroom : s.dap.sessions.length < 8) (hrate : s.recentOpens src < 4) :
    ∃ x, (s.openRequest src 0 ([byteOf role, 0] ++ nonce)).dap.sessions = s.dap.sessions ++ [x] ∧ x.role = role ∧ x.src = src ∧
      x.open_ = false ∧ x.sid = s.freeSid ∧ x.lastSeq = 0 ∧ x.devSeq = 1 := by
  have hopen := State.openRequest_heard hheard hnonce hrole
  rw [if_neg (by omega), henrolled, hadmits, if_neg (by decide), if_neg (by omega)] at hopen
  rw [hopen]
  exact (s.countOpen src).halfOpen_sessions src 0 hrole nonce

/-! Answers. -/

theorem State.act_of_accepted {s t : State} {x : Session} {k seq : Nat} {p b : Bytes}
    (h : serve x k p (s.touched x seq) = accepted t b) : s.act x k seq p = t.reply x k seq b := by
  simp only [State.act, h]
  rfl

theorem State.act_of_refusedAt {s : State} {x : Session} {k seq index sub code : Nat} {p : Bytes}
    (h : serve x k p (s.touched x seq) = refusedAt (s.touched x seq) index sub code) (hcode : code ≠ 0) :
    s.act x k seq p = (s.touched x seq).abort x k seq index sub code := by
  simp only [State.act, h, Answer.reply, refusedAt, if_neg hcode]
  rfl

/-! Refusals (R71). -/

/-- An answer that refuses leaves the state. -/
def Answer.LeavesIfRefused (s : State) (a : Answer) : Prop := a.code ≠ 0 → a.st = s

theorem Answer.leaves_of_accepted (s : State) {a : Answer} (h : a.code = 0) : a.LeavesIfRefused s := fun hcode => absurd h hcode

theorem Answer.leaves_of_same {s : State} {a : Answer} (h : a.st = s) : a.LeavesIfRefused s := fun _ => h

theorem Answer.leaves_ofExcept (s : State) (r : Except Nat (State × Bytes)) : (Answer.ofExcept s r).LeavesIfRefused s := by
  cases r with
  | ok v => exact Answer.leaves_of_accepted s rfl
  | error c => exact Answer.leaves_of_same rfl

theorem plainService_leaves (p : Bytes) (a : After) (s : State) : (plainService p a s).LeavesIfRefused s := by
  rw [plainService]
  split
  · exact Answer.leaves_of_accepted s rfl
  · exact Answer.leaves_of_same rfl

theorem readRequest_leaves (x : Session) (p : Bytes) (s : State) : (readRequest x p s).LeavesIfRefused s := by
  simp only [readRequest]
  split
  · exact Answer.leaves_of_accepted s rfl
  · exact Answer.leaves_of_same rfl

theorem writeRequest_leaves (x : Session) (p : Bytes) (s : State) : (writeRequest x p s).LeavesIfRefused s := by
  simp only [writeRequest]
  split
  · exact Answer.leaves_of_same rfl
  split
  · exact Answer.leaves_of_same rfl
  split
  · exact Answer.leaves_of_same rfl
  split
  · exact Answer.leaves_of_same rfl
  split
  · exact Answer.leaves_of_same rfl
  split
  · exact Answer.leaves_of_same rfl
  · exact Answer.leaves_of_accepted s rfl

theorem blockOpenRequest_leaves (x : Session) (p : Bytes) (s : State) : (blockOpenRequest x p s).LeavesIfRefused s := by
  simp only [blockOpenRequest]
  split
  · exact Answer.leaves_of_accepted s rfl
  · exact Answer.leaves_of_same rfl

theorem subscribeRequest_leaves (x : Session) (p : Bytes) (s : State) : (subscribeRequest x p s).LeavesIfRefused s := by
  simp only [subscribeRequest]
  split
  · exact Answer.leaves_of_same rfl
  · split
    · exact Answer.leaves_of_same rfl
    · exact Answer.leaves_of_accepted s rfl

theorem eventAckRequest_leaves (x : Session) (p : Bytes) (s : State) : (eventAckRequest x p s).LeavesIfRefused s := by
  simp only [eventAckRequest]
  split
  · exact Answer.leaves_of_same rfl
  · split
    · exact Answer.leaves_of_same rfl
    · exact Answer.leaves_of_accepted s rfl

/-! The obligations. -/

/-- Settles O48: each clause is one of the four steps. -/
theorem requestsInOrder : Obligations.RequestsInOrder := by
  refine ⟨?requests, ?opens⟩
  case requests =>
    intro c s x r k p hask hheard hp hseq hsession hsrc
    have hsteps := State.request_of_session (k := k) (tag := r.tag) hheard hp hseq hsession hsrc
    rw [exec_of_asking hask, State.asks]
    refine ⟨?few, ?many, ?again, ?earlier, ?later⟩
    case few =>
      intro htag hfew
      rw [if_pos htag, State.tagFailure_of_few hfew] at hsteps
      rw [hsteps]
    case many =>
      intro htag hmany
      rw [if_pos htag, State.tagFailure_of_many hmany] at hsteps
      rw [hsteps]
    case again =>
      intro htag hlast hcached
      rw [if_neg (not_not.mpr htag), if_pos (by simp [hlast, hcached])] at hsteps
      rw [hsteps]
    case earlier =>
      intro htag horder
      have hnew : ¬ r.seq = x.lastSeq := by omega
      rw [if_neg (not_not.mpr htag), if_neg (by simp [hnew]), if_pos (by simp [horder.le])] at hsteps
      rw [hsteps]
    case later =>
      intro htag horder hopen
      rw [State.request_taken hheard hp hseq hsession hsrc htag horder (by simp [Session.takes, hopen])]
      rfl
  case opens =>
    intro s src role nonce hheard hnonce hrole henrolled hadmits hroom hrate
    obtain ⟨x, hsessions, -, -, -, -, hlast, hdev⟩ :=
      State.openRequest_accepted hheard hnonce hrole henrolled hadmits hroom hrate
    exact ⟨_, x, rfl, hsessions, hlast, hdev⟩

/-- Settles O49: the request is discarded before its tag is looked at. -/
theorem foreignRequestsAreDiscarded : Obligations.ForeignRequestsAreDiscarded := by
  intro c s r k p hask hheard hforeign
  rw [exec_of_asking hask, State.asks, State.request_foreign hheard hforeign]

/-- Settles O4: the three services without a payload, and OPEN. -/
theorem sessionsAct : Obligations.SessionsAct := by
  refine ⟨?opens, ?confirm, ?close, ?keepalive⟩
  case opens =>
    intro s src role nonce hheard hnonce hrole henrolled hadmits hroom hrate
    obtain ⟨x, hsessions, hxrole, hxsrc, hxopen, hxsid, -, -⟩ :=
      State.openRequest_accepted hheard hnonce hrole henrolled hadmits hroom hrate
    exact ⟨_, x, rfl, hsessions, hxrole, hxsrc, hxopen, hxsid⟩
  case confirm =>
    intro s x hheard hsession hopen hlast hcached
    have htaken := State.request_taken (k := 3) (seq := 1) (p := []) hheard (by decide) (by decide) hsession rfl rfl
      (by omega) (by simp [Session.takes])
    have hserved : serve x 3 [] (s.touched x 1) = { accepted (s.touched x 1) [] with after := .opened } := by
      simp [serve, plainService, hopen]
    refine congrArg Host.Outcome.next (htaken.trans ?_)
    rw [State.act, hserved]
    rfl
  case close =>
    intro s x seq hawaits
    exact State.asks_next hawaits 4 (Nat.zero_le _)
  case keepalive =>
    intro s x seq hawaits
    exact State.asks_next hawaits 5 (Nat.zero_le _)

/-- Settles O53: each service refuses before it changes anything. -/
theorem refusalsChangeNothing : Obligations.RefusalsChangeNothing := by
  intro x k p s hdata hend
  change (serve x k p s).LeavesIfRefused s
  unfold serve
  split
  case h_1 | h_2 | h_3 => exact plainService_leaves _ _ _
  case h_4 => exact readRequest_leaves x p s
  case h_5 => exact writeRequest_leaves x p s
  case h_6 => exact blockOpenRequest_leaves x p s
  case h_7 => exact absurd rfl hdata
  case h_8 => exact absurd rfl hend
  case h_9 | h_10 => exact Answer.leaves_ofExcept s _
  case h_11 => exact subscribeRequest_leaves x p s
  case h_12 => exact eventAckRequest_leaves x p s
  case h_13 => exact Answer.leaves_of_same rfl

end Sys2Proof.Machine
end

section
/-! PROOF. O51, O52: what a READ and a WRITE may reach (R42, R71). -/
namespace Sys2Proof.Machine

/-! A session that takes a request is otherwise as it was. -/

section
variable (s : State) (x : Session) (seq : Nat)

theorem State.touched_toRead (role index sub : Nat) : (s.touched x seq).toRead role index sub = s.toRead role index sub := rfl
theorem State.touched_toWrite (role index sub : Nat) : (s.touched x seq).toWrite role index sub = s.toWrite role index sub := rfl
theorem State.touched_offered (index : Nat) : (s.touched x seq).offered index = s.offered index := rfl
theorem State.touched_imageClosed (o : Obj) : (s.touched x seq).imageClosed o = s.imageClosed o := rfl
theorem State.touched_maskLocked (o : Obj) (i : Nat) : (s.touched x seq).maskLocked o i = s.maskLocked o i := rfl
theorem State.touched_readBusy (sid : Nat) (o : Obj) (i : Nat) : (s.touched x seq).readBusy sid o i = s.readBusy sid o i := rfl
theorem State.touched_gate (index code : Nat) : (s.touched x seq).gate index code = s.gate index code := rfl

end

/-! The payload of a READ and a WRITE. -/

@[simp] theorem length_entryBytes (index sub : Nat) : (entryBytes index sub).length = 4 := by simp [entryBytes]

theorem entryBytes_index {index : Nat} (h : index < 65536) (sub : Nat) (r : Bytes) : beAt (entryBytes index sub ++ r) 0 2 = index := by
  rw [entryBytes, List.append_assoc, beAt_front h]

theorem entryBytes_sub (index : Nat) {sub : Nat} (h : sub < 256) (r : Bytes) : beAt (entryBytes index sub ++ r) 2 1 = sub := by
  rw [entryBytes, List.append_assoc, beAt_append_right (by simp), length_beBytes]
  exact beAt_front (n := 1) h _

theorem readRequest_entryBytes {index sub : Nat} (hindex : index < 65536) (hsub : sub < 256) (x : Session) (s : State) :
    readRequest x (entryBytes index sub) s =
      match s.toRead x.role index sub >>= s.readEntry x.sid index with
      | .ok (t, v) => accepted t (entryBytes index sub ++ v)
      | .error c => refusedAt s index sub c := by
  have hi := entryBytes_index hindex sub []
  have hs := entryBytes_sub index hsub []
  rw [List.append_nil] at hi hs
  simp only [readRequest, hi, hs, length_entryBytes]
  rfl

section
variable {s : State} {x : Session} {seq index sub : Nat} (hawaits : s.awaits x seq = true) (hindex : index < 65536) (hsub : sub < 256)
include hawaits hindex hsub

/-- R71: a READ that conditions 1 to 6 refuse. -/
theorem State.read_refused {c : Nat} (hread : s.toRead x.role index sub = .error c) (hcode : c ≠ 0) :
    exec (.read (x.req 0x10 seq (entryBytes index sub)) index sub) s =
      .next ((s.touched x seq).abort x 0x10 seq index sub c) := by
  refine (State.asks_next hawaits 0x10 (by simp)).trans (congrArg _ (State.act_of_refusedAt ?_ hcode))
  rw [serve, readRequest_entryBytes hindex hsub, State.touched_toRead, hread]
  rfl

/-- R42: a READ of an entry that conditions 1 to 6 do not refuse, and that answers bytes without a change. -/
theorem State.read_answered {o : Obj} {i : Nat} {live : Bool} {v : Bytes} (hread : s.toRead x.role index sub = .ok (.entry o i live))
    (hentry : (s.touched x seq).readEntry x.sid index (.entry o i live) = .ok (s.touched x seq, v)) :
    exec (.read (x.req 0x10 seq (entryBytes index sub)) index sub) s =
      .next ((s.touched x seq).reply x 0x10 seq (entryBytes index sub ++ v)) := by
  refine (State.asks_next hawaits 0x10 (by simp)).trans (congrArg _ (State.act_of_accepted ?_))
  rw [serve, readRequest_entryBytes hindex hsub, State.touched_toRead, hread]
  exact congrArg (fun r : Except Nat (State × Bytes) => match r with
    | .ok (t, v) => accepted t (entryBytes index sub ++ v)
    | .error c => refusedAt (s.touched x seq) index sub c) hentry

variable {value : Bytes} (hvalue : value.length ≤ 1378)
include hvalue

/-- R71: a WRITE that conditions 1 to 6 refuse. -/
theorem State.write_refused {c : Nat} (hwrite : s.toWrite x.role index sub = .error c) (hcode : c ≠ 0) :
    exec (.write (x.req 0x11 seq (entryBytes index sub ++ value)) index sub value) s =
      .next ((s.touched x seq).abort x 0x11 seq index sub c) := by
  refine (State.asks_next hawaits 0x11 (by simp; omega)).trans (congrArg _ (State.act_of_refusedAt ?_ hcode))
  simp only [serve, writeRequest, entryBytes_index hindex, entryBytes_sub index hsub, State.touched_toWrite, hwrite]
  exact if_neg (by simp; omega)

/-- R42: a WRITE to a DOMAIN entry that conditions 1 to 6 do not refuse is one of a wrong length. -/
theorem State.write_domain_refused {o : Obj} {i : Nat} (hwrite : s.toWrite x.role index sub = .ok (o, i)) (hdomain : o.ty = .domain)
    (hmask : s.maskLocked o i = false) :
    exec (.write (x.req 0x11 seq (entryBytes index sub ++ value)) index sub value) s =
      .next ((s.touched x seq).abort x 0x11 seq index sub abLength) := by
  refine (State.asks_next hawaits 0x11 (by simp; omega)).trans (congrArg _ (State.act_of_refusedAt ?_ (by decide)))
  have hnumber : writeNumber x.role o i ((entryBytes index sub ++ value).drop 4) (s.touched x seq) = .error abLength := by
    simp [writeNumber, hdomain, refuseIf, bind, Except.bind]
  have hlong : 4 ≤ (entryBytes index sub ++ value).length := by simp
  simp only [serve, writeRequest, entryBytes_index hindex, entryBytes_sub index hsub, State.touched_toWrite, hwrite,
    State.touched_maskLocked, hmask, hnumber]
  rw [if_neg (by omega), if_neg (by omega), if_neg (by decide)]
  rfl

end

/-! Conditions 1 to 6 (R71, R429). -/

/-- What names no entry is refused with a code. -/
theorem Part.locate_error {p : Part} {index sub c : Nat} (h : p.locate index sub = .error c) : c ≠ 0 := by
  have hcode : c = abNoObject ∨ c = abNoSub := by
    simp only [Part.locate] at h
    repeat' split at h
    all_goals cases h
    all_goals simp
  rcases hcode with rfl | rfl <;> decide

section
variable {s : State} {role index sub : Nat}

theorem State.toWrite_of_absent {c : Nat} (h : s.part.locate index sub = .error c) : s.toWrite role index sub = .error c := by
  rw [State.toWrite, h]; rfl

theorem State.toWrite_of_count {n : Nat} (h : s.part.locate index sub = .ok (.count n)) : s.toWrite role index sub =
    .error (if s.mayWrite role ((groupOf index).getD 0) then abReadOnly else abPlan) := by
  rw [State.toWrite, h]
  cases s.mayWrite role ((groupOf index).getD 0) <;> rfl

variable {o : Obj} {i : Nat} {live : Bool} (h : s.part.locate index sub = .ok (.entry o i live))
include h

theorem State.toWrite_of_forbidden (hmay : s.mayWriteEntry role index o = false) : s.toWrite role index sub = .error abPlan := by
  rw [State.toWrite, h]; simp [bind, Except.bind, refuseIf, hmay]

theorem State.toWrite_of_readOnly (hmay : s.mayWriteEntry role index o = true) (hro : live = true ∨ o.acc = .ro) :
    s.toWrite role index sub = .error abReadOnly := by
  rw [State.toWrite, h]; simp [bind, Except.bind, refuseIf, hmay, hro]

theorem State.toWrite_of_tandem (hmay : s.mayWriteEntry role index o = true) (hlive : live = false) (hacc : o.acc = .rwp)
    (htandem : s.flag Key.protSealed = true ∨ role ≠ 3) : s.toWrite role index sub = .error abTandem := by
  rw [State.toWrite, h]; simp [bind, Except.bind, refuseIf, hmay, hlive, hacc, htandem]

theorem State.toRead_of_writeOnly (hmay : s.mayReadIndex role index = true) (hacc : o.acc = .wo) :
    s.toRead role index sub = .error abWriteOnly := by
  rw [State.toRead, h]; simp [bind, Except.bind, refuseIf, hmay, hacc]

end

/-- Settles O51: each condition decides where those before it refuse nothing. -/
theorem accessIsChecked : Obligations.AccessIsChecked := by
  refine ⟨?write, ?read⟩
  case write =>
    intro s x seq index sub value hawaits hindex hsub hvalue
    refine ⟨?absent, ?count, ?forbidden, ?readOnly, ?tandem⟩
    case absent =>
      intro c h
      exact State.write_refused hawaits hindex hsub hvalue (State.toWrite_of_absent h) (Part.locate_error h)
    case count =>
      intro n h
      exact State.write_refused hawaits hindex hsub hvalue (State.toWrite_of_count h) (by split <;> decide)
    case forbidden =>
      intro o i live h hmay
      exact State.write_refused hawaits hindex hsub hvalue (State.toWrite_of_forbidden h hmay) (by decide)
    case readOnly =>
      intro o i live h hmay hro
      exact State.write_refused hawaits hindex hsub hvalue (State.toWrite_of_readOnly h hmay hro) (by decide)
    case tandem =>
      intro o i h hmay hacc htandem
      exact State.write_refused hawaits hindex hsub hvalue (State.toWrite_of_tandem h hmay rfl hacc htandem) (by decide)
  case read =>
    intro s x seq index sub o i live hawaits hindex hsub h hmay hacc
    exact State.read_refused hawaits hindex hsub (State.toRead_of_writeOnly h hmay hacc) (by decide)

theorem State.readEntry_domain {s : State} {index : Nat} {o : Obj} {i : Nat} {live : Bool} {sid : Nat} (hdomain : o.ty = .domain)
    (hoffered : s.offered index = true) (hclosed : s.imageClosed o = false) (hbusy : s.readBusy sid o i = false) :
    s.readEntry sid index (.entry o i live) = .ok (s, beBytes 4 (s.content sid o i live).length) := by
  simp [State.readEntry, bind, Except.bind, refuseIf, hdomain, hoffered, hclosed, hbusy]

/-- Settles O52: a READ answers the length, a WRITE carries no number. -/
theorem domainEntriesMoveInBlocks : Obligations.DomainEntriesMoveInBlocks := by
  refine ⟨?read, ?write⟩
  case read =>
    intro s x seq index sub o i live hawaits hindex hsub hread hdomain hoffered hclosed hbusy
    exact State.read_answered hawaits hindex hsub hread (State.readEntry_domain hdomain hoffered hclosed hbusy)
  case write =>
    intro s x seq index sub value o i hawaits hindex hsub hvalue hwrite hdomain hmask
    exact State.write_domain_refused hawaits hindex hsub hvalue hwrite hdomain hmask

end Sys2Proof.Machine
end

section
/-! PROOF. O7, O50, O54, O55: events (R63 to R66) and the time limits of the protocol (R48, R53, R56, R60, R65). -/
namespace Sys2Proof.Machine

/-! Raising an event (R64). -/

theorem Talked.ev {s t : State} (h : Talked s t) : t.ev = s.ev := (congrArg State.ev h.eq :)
theorem Talked.dict {s t : State} (h : Talked s t) : t.dict = s.dict := (congrArg State.dict h.eq :)

/-- R64: the record of an event that is raised now. -/
def State.eventRecord (s : State) (cause cls : Nat) (path : String) (detail : Bytes) : EventRec :=
  ⟨s.ev.seq + 1, s.instant, cls, 0, cause, padTo 16 (ascii path), padTo 10 detail⟩

/-- R64: an event is in the log. -/
def State.logged (s : State) (r : EventRec) : State :=
  { s with ev := { s.ev with seq := s.ev.seq + 1, log := (r :: s.ev.log).take 4096 } }

theorem State.raise_eq (s : State) (cause cls : Nat) (path : String) (detail : Bytes) : s.raise cause cls path detail =
    (s.logged (s.eventRecord cause cls path detail)).enqueueEvent (s.eventRecord cause cls path detail) := rfl

/-- R65: the record in the queue, owed by the sessions that admit it. -/
def State.queuedEvent (s : State) (r : EventRec) : QueuedEvent :=
  let owed := (s.dap.sessions.filter (·.admits r.cls)).map (·.sid)
  ⟨r, owed, owed.isEmpty⟩

/-- R64: an event is in the queue. -/
def State.enqueued (s : State) (r : EventRec) : State := { s with ev := { s.ev with queue := s.ev.queue ++ [s.queuedEvent r] } }

theorem State.enqueueEvent_of_room {s : State} (h : s.ev.queue.length < 256) (r : EventRec) :
    s.enqueueEvent r = (s.enqueued r).deliver r := if_pos h

theorem State.enqueueEvent_of_full {s : State} (h : 256 ≤ s.ev.queue.length) (r : EventRec) : s.enqueueEvent r =
    { (s.bump Key.evtLostCount).setFlag Key.evtLostSticky true with ev := { s.ev with lostPending := true } } :=
  if_neg (by omega)

theorem State.enqueueEvent_log (s : State) (r : EventRec) : (s.enqueueEvent r).ev.seq = s.ev.seq ∧ (s.enqueueEvent r).ev.log = s.ev.log := by
  by_cases h : s.ev.queue.length < 256
  · rw [State.enqueueEvent_of_room h, (State.sent_deliver _ r).ev]
    exact ⟨rfl, rfl⟩
  · rw [State.enqueueEvent_of_full (by omega)]
    exact ⟨rfl, rfl⟩

theorem State.pruneEvents_of_lost {s : State} (hlost : s.ev.lostPending = true)
    (hroom : (s.ev.queue.filter fun q => q.orphan || !q.owed.isEmpty).length < 256) : s.pruneEvents =
      { s with ev := { s.ev with queue := s.ev.queue.filter fun q => q.orphan || !q.owed.isEmpty, lostPending := false } }.raise
        0x1101 1 "AX.EL" (leBytes 4 (s.nat Key.evtLostCount)) := by
  have hdue : (s.ev.lostPending && decide ((s.ev.queue.filter fun q => q.orphan || !q.owed.isEmpty).length < 256)) = true := by
    rw [hlost, decide_eq_true hroom, Bool.and_self]
  exact if_pos hdue

/-- Settles O54: the record is logged, then queued and delivered, or counted as lost. -/
theorem eventsAreLogged : Obligations.EventsAreLogged := by
  refine ⟨?raise, fun s hlost hroom => State.pruneEvents_of_lost hlost hroom⟩
  intro s cause cls path detail
  obtain ⟨hseq, hlog⟩ := (s.logged (s.eventRecord cause cls path detail)).enqueueEvent_log (s.eventRecord cause cls path detail)
  refine ⟨s.eventRecord cause cls path detail, rfl, hseq, hlog, ?room, ?full⟩
  case room =>
    intro hroom
    rw [State.raise_eq, State.enqueueEvent_of_room (s := s.logged _) hroom]
    have htold := State.sent_deliver ((s.logged (s.eventRecord cause cls path detail)).enqueued (s.eventRecord cause cls path detail))
      (s.eventRecord cause cls path detail)
    exact ⟨s.queuedEvent _, rfl, congrArg Events.queue htold.ev, htold.dict⟩
  case full =>
    intro hfull
    rw [State.raise_eq, State.enqueueEvent_of_full (s := s.logged _) hfull]
    refine ⟨rfl, ?_, State.flag_setFlag_same .., rfl, rfl⟩
    exact (State.obj_setObj_other _ (by decide) _).trans (State.obj_setObj_same ..)

/-- Settles O55: a record of that class, or a loss. -/
theorem notifyIsDrivenLow : Obligations.NotifyIsDrivenLow := by
  intro s
  simp only [State.notifyLow, Bool.or_eq_true, List.any_eq_true, decide_eq_true_eq]
  exact Or.comm

/-! Sending to sessions (R54, R65). -/

theorem sendEvents_nil (n sid : Nat) (s : State) : sendEvents n sid [] s = s := by cases n <;> rfl

theorem sendEvents_single {n sid : Nat} {s : State} {x : Session} (h : s.session sid = some x) (r : EventRec) :
    sendEvents (n + 1) sid [r] s = s.sendTagged x x.evtDst 3 0x40 ([1, 0] ++ r.be) := by
  have hbytes : [byteOf [r].length, 0] ++ [r].flatMap EventRec.be = [1, 0] ++ r.be := by simp [byteOf]
  simp only [sendEvents, h, List.isEmpty_cons, List.drop_succ_cons, List.drop_nil, List.take_succ_cons, List.take_nil, hbytes,
    sendEvents_nil]
  rfl

theorem State.session_of_single {s : State} {x : Session} (h : s.dap.sessions = [x]) : s.session x.sid = some x := by
  simp [State.session, h]

theorem State.sendTagged_sessions (s : State) (x : Session) (d : Source) (n k : Nat) (p : Bytes) :
    (s.sendTagged x d n k p).dap.sessions =
      s.dap.sessions.map fun y => if y.sid = x.sid then { y with devSeq := y.devSeq + 1 } else y :=
  congrArg Dap.sessions (State.transmit_dap ..)

/-- A session but for the number of its next message. -/
def Session.still (x : Session) : Session := { x with devSeq := 0 }

/-- From s to t the sessions change in nothing but the numbers of their next messages. -/
def State.SameSessions (s t : State) : Prop := t.dap.sessions.map Session.still = s.dap.sessions.map Session.still

theorem State.SameSessions.trans {s t u : State} (a : s.SameSessions t) (b : t.SameSessions u) : s.SameSessions u := Eq.trans b a

theorem sameSessions_foldl {β : Type} (f : State → β → State) (h : ∀ (s : State) (x : β), s.SameSessions (f s x)) (l : List β)
    (s : State) : s.SameSessions (l.foldl f s) := by
  induction l generalizing s with
  | nil => rfl
  | cons x r ih => exact (h s x).trans (ih (f s x))

theorem State.sameSessions_sendTagged (s : State) (x : Session) (d : Source) (n k : Nat) (p : Bytes) :
    s.SameSessions (s.sendTagged x d n k p) := by
  rw [State.SameSessions, State.sendTagged_sessions, List.map_map]
  refine List.map_congr_left fun y _ => ?_
  rw [Function.comp]
  split <;> rfl

theorem sameSessions_sendEvents (n sid : Nat) (l : List EventRec) (s : State) : s.SameSessions (sendEvents n sid l s) := by
  induction n generalizing l s with
  | zero => rfl
  | succ n ih =>
    simp only [sendEvents]
    split
    · rfl
    · split
      · rfl
      · exact (s.sameSessions_sendTagged ..).trans (ih ..)

theorem State.sameSessions_raise (s : State) (cause cls : Nat) (path : String) (detail : Bytes) :
    s.SameSessions (s.raise cause cls path detail) := by
  rw [State.raise_eq]
  by_cases h : (s.logged (s.eventRecord cause cls path detail)).ev.queue.length < 256
  · rw [State.enqueueEvent_of_room h]
    exact sameSessions_foldl _ (fun _ _ => sameSessions_sendEvents ..) _ _
  · rw [State.enqueueEvent_of_full (by omega)]
    rfl

theorem State.sameSessions_pruneEvents (s : State) : s.SameSessions s.pruneEvents := by
  simp only [State.pruneEvents, State.noteLost]
  split
  · exact State.sameSessions_raise ..
  · rfl

/-- A test that does not look at the number of the next message, and that no session of s passes, is passed by none of t. -/
theorem State.SameSessions.not_mem {s t : State} (h : s.SameSessions t) {p : Session → Bool} (hp : ∀ y, p y.still = p y)
    (hs : ∀ y ∈ s.dap.sessions, p y = false) {x : Session} (hx : p x = true) : x ∉ t.dap.sessions := by
  intro hmem
  have hstill := List.mem_map_of_mem (f := Session.still) hmem
  rw [h, List.mem_map] at hstill
  obtain ⟨y, hy, hyx⟩ := hstill
  rw [← hp x, ← hyx, hp y, hs y hy] at hx
  cases hx

theorem State.closeSessions_eq (s : State) (p : Session → Bool) : ∃ u : State, s.closeSessions p = u.pruneEvents ∧
    u.dap.sessions = s.dap.sessions.filter (fun y => !p y) ∧ u.ev.lostPending = s.ev.lostPending ∧
      u.ev.queue.length = s.ev.queue.length :=
  ⟨_, rfl, rfl, rfl, List.length_map _⟩

/-- R53, R56: the sessions that are closed are gone, whatever is told of it after. -/
theorem State.not_mem_of_closed {s t : State} {p : Session → Bool} (hp : ∀ y, p y.still = p y) {x : Session} (hx : p x = true)
    (h : (s.closeSessions p).SameSessions t) : x ∉ t.dap.sessions := by
  obtain ⟨u, hclose, hsessions, -, -⟩ := s.closeSessions_eq p
  rw [hclose] at h
  refine (u.sameSessions_pruneEvents.trans h).not_mem hp (fun y hy => ?_) hx
  rw [hsessions] at hy
  simpa using (List.mem_filter.mp hy).2

/-! The time limits. -/

/-- Settles O7: each limit has been reached, and what it does is written out. -/
theorem protocolTimeoutsAct : Obligations.ProtocolTimeoutsAct := by
  refine ⟨?transfer, ?halfOpen, ?idle, ?resend, ?resendOne, ?segment⟩
  case transfer =>
    intro s sid handle w hw hsid hhandle hlimit
    refine ⟨_, rfl, ?_, rfl⟩
    refine List.mem_map.mpr ⟨w, hw, if_pos ?_⟩
    simp [hsid, hhandle, hlimit]
  case halfOpen =>
    intro s x _ hopen hlimit
    refine ⟨_, rfl, ?_, rfl⟩
    exact State.not_mem_of_closed (s := s) (fun _ => rfl) (by simp [hopen, hlimit]) rfl
  case idle =>
    intro s x hsession hopen hlimit
    have hrun : sessionIdleTimeout x.sid s = (s.closeSessions fun y => y.sid = x.sid).raise 0x1003 0 "CX" (leBytes 2 x.sid) := by
      simp only [sessionIdleTimeout, hsession]
      exact s.whenever_of_true (by simp [hopen, hlimit]) _
    refine ⟨_, rfl, ?_, hrun⟩
    rw [hrun]
    exact State.not_mem_of_closed (s := s) (fun _ => rfl) (by simp) (State.sameSessions_raise ..)
  case resend =>
    intro s x hsessions hlimit
    refine congrArg Host.Outcome.next ((s.whenever_of_true (decide_eq_true hlimit) _).trans ?_)
    simp only [hsessions]
    rfl
  case resendOne =>
    intro s x r hsessions hlimit hunacked
    refine congrArg Host.Outcome.next ((s.whenever_of_true (decide_eq_true hlimit) _).trans ?_)
    have hsession : ({ s with ev := { s.ev with resent := s.cycles } } : State).session x.sid = some x :=
      State.session_of_single hsessions
    simp only [hsessions]
    have hsent := sendEvents_single (n := 255) hsession r
    rw [← hunacked] at hsent
    exact hsent
  case segment =>
    intro s host q _ hhost hlimit
    refine ⟨_, rfl, ?_, rfl⟩
    simp [State.setPartials, canFdSegmentTimeout, hhost, hlimit]

/-! A half-open session that ends where a loss of events is still to be told (R53, R64). -/

theorem State.deliver_of_single {s : State} {x : Session} {r : EventRec} (hsessions : s.dap.sessions = [x])
    (hadmits : x.admits r.cls = true) : s.deliver r = s.sendTagged x x.evtDst 3 0x40 ([1, 0] ++ r.be) := by
  rw [State.deliver, hsessions, List.filter_singleton, hadmits]
  exact sendEvents_single (n := 0) (State.session_of_single hsessions) r

theorem State.raise_sessions_of_single {s : State} {x : Session} (hsessions : s.dap.sessions = [x]) (hroom : s.ev.queue.length < 256)
    {cls : Nat} (hadmits : x.admits cls = true) (cause : Nat) (path : String) (detail : Bytes) :
    (s.raise cause cls path detail).dap.sessions = [{ x with devSeq := x.devSeq + 1 }] := by
  rw [State.raise_eq, State.enqueueEvent_of_room (s := s.logged _) hroom, State.deliver_of_single (s := (s.logged _).enqueued _) hsessions hadmits,
    State.sendTagged_sessions, show ((s.logged _).enqueued _).dap.sessions = [x] from hsessions]
  simp

/-- R64, R53: closing sessions makes room for event 0x1101, which the one session left is sent. -/
theorem State.closeSessions_of_lost {s : State} {p : Session → Bool} {x : Session} (hleft : (s.dap.sessions.filter fun y => !p y) = [x])
    (hadmits : x.admits 1 = true) (hqueue : s.ev.queue.length < 256) (hlost : s.ev.lostPending = true) :
    (s.closeSessions p).dap.sessions = [{ x with devSeq := x.devSeq + 1 }] := by
  obtain ⟨u, hclose, hsessions, hpending, hlength⟩ := s.closeSessions_eq p
  have hroom : (u.ev.queue.filter fun q => q.orphan || !q.owed.isEmpty).length < 256 := by
    have := List.length_filter_le (fun q => q.orphan || !q.owed.isEmpty) u.ev.queue
    omega
  rw [hclose, State.pruneEvents_of_lost (hpending.trans hlost) hroom]
  refine State.raise_sessions_of_single ?_ ?_ hadmits _ _ _
  · exact hsessions.trans hleft
  · exact hroom

theorem halfOpenTimeout_of_lost {s : State} {sid : Nat} {x : Session}
    (hleft : (s.dap.sessions.filter fun y => !(y.sid = sid && !y.open_ && secCycles 1 ≤ s.since y.opened)) = [x])
    (hadmits : x.admits 1 = true) (hqueue : s.ev.queue.length < 256) (hlost : s.ev.lostPending = true) :
    (halfOpenTimeout sid s).dap.sessions = [{ x with devSeq := x.devSeq + 1 }] :=
  State.closeSessions_of_lost hleft hadmits hqueue hlost

/-- A session that is half open since the reset. -/
def waitingSession : Session where
  sid := 1
  role := 0
  src := .can 1
  key := []
  open_ := false
  lastSeq := 0
  devSeq := 1
  cached := []
  mask := 0
  subscribed := false
  evtDst := .can 1
  acked := 0
  tagFails := 0
  lastMsg := 0
  opened := 0

/-- A session that is open and subscribed to class 1. -/
def subscribedSession : Session := { waitingSession with sid := 2, open_ := true, mask := 2, subscribed := true }

/-- One second after the reset, with both sessions and a loss of events that waits to be told. -/
def lossState : State :=
  { State.reset with
    cycles := secCycles 1
    dap := { State.reset.dap with sessions := [waitingSession, subscribedSession] }
    ev := { State.reset.ev with lostPending := true } }

/-- Refutes O50: the end of a half-open session can make room for event 0x1101, which the other session is sent: the number of its
next message goes up. -/
theorem not_opensAreRefused : ¬ Obligations.OpensAreRefused := by
  rintro ⟨-, hends⟩
  obtain ⟨t, hexec, hsessions⟩ := hends lossState waitingSession rfl rfl (by decide)
  have ht : halfOpenTimeout 1 lossState = t := Host.Outcome.next.inj hexec
  have hleft : (lossState.dap.sessions.filter fun y => !(y.sid = 1 && !y.open_ && secCycles 1 ≤ lossState.since y.opened)) =
      [subscribedSession] := by decide
  have hroom : lossState.ev.queue.length < 256 := by decide
  have hlost : lossState.ev.lostPending = true := rfl
  have hadmits : subscribedSession.admits 1 = true := rfl
  have htold : (halfOpenTimeout 1 lossState).dap.sessions = [{ subscribedSession with devSeq := 2 }] :=
    halfOpenTimeout_of_lost hleft hadmits hroom hlost
  rw [← ht, htold] at hsessions
  exact absurd hsessions (by decide)

end Sys2Proof.Machine
end

section
/-! PROOF. O9: COMMIT, WITHDRAW, SUBSCRIBE and EVENT_ACK (R61, R62, R65, R200, R209). -/
namespace Sys2Proof.Machine

theorem State.reply_talked (t : State) (x : Session) (k seq : Nat) (b : Bytes) : Talked t (t.reply x k seq b) := t.talked_respond ..

theorem Talked.commits {s t : State} (h : Talked s t) : t.commits = s.commits := (congrArg State.commits h.eq :)

/-! COMMIT and WITHDRAW. -/

theorem firstCheck_of_none : ∀ {l : List (Bool × Nat)}, l.all (fun c => !c.1) = true → firstCheck l = .ok ()
  | [], _ => rfl
  | (c, code) :: r, h => by
    simp only [List.all_cons, Bool.and_eq_true, Bool.not_eq_true'] at h
    rw [firstCheck, h.1]
    exact firstCheck_of_none h.2

theorem State.touched_commitChecks (s : State) (x : Session) (seq role : Nat) (p : Bytes) :
    (s.touched x seq).commitChecks role p = s.commitChecks role p := rfl

theorem serve_commit {s : State} {x : Session} {seq : Nat} {p : Bytes} (h : (s.commitChecks x.role p).all (fun c => !c.1) = true) :
    serve x 0x20 p (s.touched x seq) = accepted ((s.touched x seq).acceptCommit (commitFields p)) (beBytes 2 s.commits.nextTicket) := by
  simp only [serve, commitRequest, State.touched_commitChecks, firstCheck_of_none h]
  rfl

theorem Commits.remember_pending (l : Commits) (c : Commit) (o : List (Nat × Nat × Nat)) : (l.remember c o).pending = l.pending := by
  rw [Commits.remember]
  split <;> rfl

theorem beAt_beBytes {n x : Nat} (h : x < 256 ^ n) : beAt (beBytes n x) 0 n = x := by
  have hfront := beAt_front h []
  rwa [List.append_nil] at hfront

/-- R209: a WITHDRAW of a commit that is pending. -/
theorem serve_withdraw {s : State} {x : Session} {seq ticket g : Nat} {c : Commit} (hticket : ticket < 65536)
    (hfind : (s.commits.pending.find? fun c => c.ticket = ticket && ticket ≠ 0) = some c) (hscope : scopeGroup c.scope = some g)
    (hmay : s.mayWrite x.role g = true) : serve x 0x21 (beBytes 2 ticket) (s.touched x seq) =
      accepted { s.touched x seq with commits :=
        ({ s.commits with pending := s.commits.pending.filter (· != c) } : Commits).remember c c.outcomes } (withdrawBytes ticket c.outcomes) := by
  have hmay' : (s.touched x seq).mayWrite x.role g = true := hmay
  have hpending : (s.touched x seq).commits = s.commits := rfl
  simp only [serve, withdrawRequest, length_beBytes, beAt_beBytes (n := 2) hticket, hpending, if_true, hfind, hscope, hmay']
  rfl

/-! SUBSCRIBE and EVENT_ACK. -/

/-- R65: a SUBSCRIBE with nothing in the queue. -/
theorem serve_subscribe {s : State} {x : Session} {seq mask : Nat} (hmask : mask < 256) (hmay : s.mayRead x.role 1 = true)
    (hqueue : s.ev.queue = []) : serve x 0x30 [byteOf mask] (s.touched x seq) =
      { accepted ((s.touched x seq).updSession x.sid fun z => { z with mask := mask, subscribed := true, evtDst := x.src }) [] with
        after := .deliver [] } := by
  have hread : beAt [byteOf mask] 0 1 = mask := beAt_beBytes (n := 1) hmask
  have hmay' : (s.touched x seq).mayRead x.role 1 = true := hmay
  have hqueue' : (s.touched x seq).ev.queue = [] := hqueue
  simp only [serve, subscribeRequest, hread, hmay', hqueue']
  rfl

/-- R65: what an acknowledgement up to n by session x leaves a queued record to be owed. -/
def Session.pays (x : Session) (n : Nat) (q : QueuedEvent) : QueuedEvent :=
  if q.record.evseq ≤ n then { q with owed := q.owed.filter (· ≠ x.sid), orphan := q.orphan && !x.admits q.record.cls } else q

theorem Session.not_mem_pays (x : Session) {n : Nat} {q : QueuedEvent} (h : (x.pays n q).record.evseq ≤ n) :
    x.sid ∉ (x.pays n q).owed := by
  rw [Session.pays] at h ⊢
  split
  case isTrue => simp
  case isFalse hlater => rw [if_neg hlater] at h; exact absurd h hlater

theorem State.pruneEvents_of_told {s : State} (h : s.ev.lostPending = false) :
    s.pruneEvents.ev.queue = s.ev.queue.filter fun q => q.orphan || !q.owed.isEmpty := by
  simp [State.pruneEvents, State.noteLost, h]

theorem serve_eventAck {s : State} {x : Session} {seq n : Nat} (hn : n < 2 ^ 32) (hmay : s.mayRead x.role 1 = true)
    (hlost : s.ev.lostPending = false) : ∃ t, serve x 0x31 (beBytes 4 n) (s.touched x seq) = accepted t [] ∧
      t.ev.queue = (s.ev.queue.map (x.pays n)).filter fun q => q.orphan || !q.owed.isEmpty := by
  have hmay' : (s.touched x seq).mayRead x.role 1 = true := hmay
  simp only [serve, eventAckRequest, beAt_beBytes (n := 4) hn, hmay', length_beBytes]
  exact ⟨_, rfl, State.pruneEvents_of_told hlost⟩

/-- Settles O9: each service's answer, and what of the state it leaves. -/
theorem commitsAndEventsAct : Obligations.CommitsAndEventsAct := by
  refine ⟨?commit, ?withdraw, ?subscribe, ?eventAck⟩
  case commit =>
    intro s x seq p hawaits hp hchecks
    exact (State.asks_next hawaits 0x20 hp).trans (congrArg _ (State.act_of_accepted (serve_commit hchecks)))
  case withdraw =>
    intro s x seq ticket c g hawaits hticket _ hfind hscope hmay
    refine ⟨_, (State.asks_next hawaits 0x21 (by simp)).trans
      (congrArg _ (State.act_of_accepted (serve_withdraw hticket hfind hscope hmay))), ?_⟩
    rw [(State.reply_talked ..).commits, Commits.remember_pending]
    simp
  case subscribe =>
    intro s x seq mask hawaits hmask hmay hqueue
    refine (State.asks_next hawaits 0x30 (by simp)).trans (congrArg _ ?_)
    rw [State.act, serve_subscribe hmask hmay hqueue, After.run, sendEvents_nil]
    rfl
  case eventAck =>
    intro s x seq n hawaits hn hmay hlost
    obtain ⟨t, hserved, hqueue⟩ := serve_eventAck (seq := seq) hn hmay hlost
    refine ⟨_, (State.asks_next hawaits 0x31 (by simp)).trans (congrArg _ (State.act_of_accepted hserved)), ?_⟩
    rw [(State.reply_talked ..).ev, hqueue]
    intro q hq hseq
    obtain ⟨r, -, rfl⟩ := List.mem_map.mp (List.mem_filter.mp hq).1
    exact x.not_mem_pays hseq

end Sys2Proof.Machine
end

section
/-! PROOF. O6: block transfers (R58 to R60). -/
namespace Sys2Proof.Machine

/-! The content of EXP_MAP (R16, R265): what is looked at lies outside its reserved bits. -/

theorem clearReserved_nil (m left : Bytes) : clearReserved m left [] = [] := by cases left <;> rfl

theorem clearReserved_drop (m pre left b : Bytes) :
    (clearReserved m (pre ++ left) b).drop pre.length = clearReserved m left (b.drop pre.length) := by
  induction pre generalizing b with
  | nil => rfl
  | cons k r ih =>
    cases b with
    | nil => simp [clearReserved_nil]
    | cons c b => exact ih b

theorem clearReserved_take_ones (m left b : Bytes) (n : Nat) :
    (clearReserved m (List.replicate n 0xFF ++ left) b).take n = b.take n := by
  induction n generalizing b with
  | zero => rfl
  | succ n ih =>
    cases b with
    | nil => simp [clearReserved_nil]
    | cons c b =>
      have hones : c &&& 0xFF = c := BitVec.and_allOnes
      rw [List.replicate_succ, List.cons_append, clearReserved, List.take_succ_cons, List.take_succ_cons, ih, hones]

/-- R16: bytes of the first record that have no reserved bits are as they were written. -/
theorem slice_clearReserved {m pre left : Bytes} {off n : Nat} (hm : m = pre ++ (List.replicate n 0xFF ++ left)) (hoff : pre.length = off)
    (hsome : m ≠ []) (b : Bytes) : slice (clearReserved m [] b) off n = slice b off n := by
  have hfirst : clearReserved m [] b = clearReserved m m b := by
    obtain ⟨k, r, rfl⟩ := List.exists_cons_of_ne_nil hsome
    cases b <;> rfl
  have hdrop := clearReserved_drop m pre (List.replicate n 0xFF ++ left) b
  rw [← hm, hoff] at hdrop
  rw [hfirst, slice, hdrop, clearReserved_take_ones, slice]

theorem expMapOk_clean {o : Obj} (h : o.idx = 0x7022) (b : Bytes) : expMapOk (o.cleanContent b) = expMapOk b := by
  have hmask : o.recordMask = [0x7F, 0x07] ++ List.replicate 24 0xFF ++ List.replicate 6 0x00 := by simp [Obj.recordMask, h]
  have hempty : (o.cleanContent b).isEmpty = b.isEmpty := by rw [Bool.eq_iff_iff]; simp [← List.length_eq_zero_iff]
  have hclean : o.cleanContent b = clearReserved o.recordMask [] b := if_neg (by simp [hmask])
  rw [hmask] at hclean
  have h18 : slice (o.cleanContent b) 18 4 = slice b 18 4 := by
    rw [hclean]
    exact slice_clearReserved (pre := [0x7F, 0x07] ++ List.replicate 16 0xFF) (left := List.replicate 4 0xFF ++ List.replicate 6 0x00)
      rfl rfl (by simp) b
  have h24 : slice (o.cleanContent b) 24 2 = slice b 24 2 := by
    rw [hclean]
    exact slice_clearReserved (pre := [0x7F, 0x07] ++ List.replicate 22 0xFF) (left := List.replicate 6 0x00) rfl rfl (by simp) b
  rw [expMapOk, expMapOk, hempty, leAt, leAt, leAt, leAt, h18, h24]

/-! The row that a transfer moves (R71). -/

theorem findIn_mem {index sub : Nat} {o : Obj} {i : Nat} : ∀ {l : List Obj}, findIn index sub l = some (o, i) → o ∈ l
  | [], h => by cases h
  | a :: r, h => by
    rw [findIn] at h
    split at h
    · cases h; exact List.mem_cons_self
    · exact List.mem_cons_of_mem a (findIn_mem h)

theorem Part.locate_mem {p : Part} {index sub : Nat} {o : Obj} {i : Nat} {live : Bool}
    (h : p.locate index sub = .ok (.entry o i live)) : o ∈ objects := by
  simp only [Part.locate] at h
  split at h
  · cases h
  · split at h
    · split at h <;> cases h
    · split at h
      · next hfind =>
        split at h
        · cases h; exact List.mem_of_mem_filter (findIn_mem hfind)
        · cases h
      · cases h

theorem ok_of_refuseIf {α : Type} {c : Bool} {code : Nat} {r : Unit → Except Nat α} {v : α} (h : (refuseIf c code >>= r) = .ok v) :
    r () = .ok v := by
  cases c with
  | false => exact h
  | true => cases h

theorem State.toWrite_mem {s : State} {role index sub : Nat} {o : Obj} {i : Nat} (h : s.toWrite role index sub = .ok (o, i)) :
    o ∈ objects := by
  rw [State.toWrite] at h
  cases hlocate : s.part.locate index sub with
  | error c => rw [hlocate] at h; cases h
  | ok e =>
    rw [hlocate] at h
    cases e with
    | count n => cases ok_of_refuseIf h
    | entry o' i' live =>
      cases ok_of_refuseIf (ok_of_refuseIf (ok_of_refuseIf h))
      exact Part.locate_mem hlocate

theorem expMap_not_rwp : ∀ o ∈ objects, o.idx = 0x7022 → o.acc ≠ .rwp := by decide +kernel

/-! BLOCK_OPEN (R58, R60). -/

section
variable (s : State) (x : Session) (seq : Nat)

theorem State.touched_toMove (role index sub mode : Nat) : (s.touched x seq).toMove role index sub mode = s.toMove role index sub mode := rfl
theorem State.touched_transfersBusy (index sub total : Nat) :
    (s.touched x seq).transfersBusy index sub total = s.transfersBusy index sub total := rfl
theorem State.touched_freeHandle : (s.touched x seq).freeHandle = s.freeHandle := rfl
theorem State.touched_transfers : (s.touched x seq).dap.transfers = s.dap.transfers := rfl

end

/-- R58: the payload of a BLOCK_OPEN. -/
def openPayload (index sub mode total : Nat) : Bytes := beBytes 2 index ++ [byteOf sub, byteOf mode] ++ beBytes 4 total

theorem openPayload_fields {index sub mode total : Nat} (hindex : index < 65536) (hsub : sub < 256) (hmode : mode < 256)
    (htotal : total < 2 ^ 32) : beAt (openPayload index sub mode total) 0 2 = index ∧ beAt (openPayload index sub mode total) 2 1 = sub ∧
      beAt (openPayload index sub mode total) 3 1 = mode ∧ beAt (openPayload index sub mode total) 4 4 = total ∧
      (openPayload index sub mode total).length = 8 := by
  have hparts : openPayload index sub mode total =
      beBytes 2 index ++ (beBytes 1 sub ++ (beBytes 1 mode ++ (beBytes 4 total ++ []))) := by
    simp [openPayload, beBytes, leBytes, byteOf]
  rw [hparts]
  refine ⟨beAt_front hindex _, ?_, ?_, ?_, by simp⟩
  · rw [beAt_append_right (by simp)]
    exact beAt_front (n := 1) hsub _
  · rw [beAt_append_right (by simp), beAt_append_right (by simp)]
    exact beAt_front (n := 1) hmode _
  · rw [beAt_append_right (by simp), beAt_append_right (by simp), beAt_append_right (by simp)]
    exact beAt_front (n := 4) htotal _

/-- R58, R60: a transfer that nothing refuses opens under a free handle. -/
theorem serve_blockOpen {s : State} {x : Session} {index sub mode total : Nat} {o : Obj} {i h : Nat} {live : Bool}
    (hindex : index < 65536) (hsub : sub < 256) (hmode : mode ≤ 2) (htotal : total < 2 ^ 32)
    (hmove : s.toMove x.role index sub mode = .ok (some (o, i, live))) (hdomain : o.ty = .domain)
    (hmost : mode ≠ 0 → total ≤ o.rng.most) (hoffered : s.offered index = true) (hclosed : s.imageClosed o = false)
    (hread : mode = 0 → s.readBusy x.sid o i = false) (hwrite : mode ≠ 0 → s.transfersBusy index sub total = false)
    (hhandle : s.freeHandle = some h) :
    serve x 0x12 (openPayload index sub mode total) s =
      accepted (let u := s.setTransfers (s.dap.transfers ++ [⟨x.sid, h, index, sub, mode, total,
          if mode = 0 then s.content x.sid o i live else [], [], s.cycles, false⟩])
        if mode ≠ 0 && (index = 0x1420 && sub = 1) then u.startImage mode else u)
        ([byteOf h, 0] ++ beBytes 4 (s.content x.sid o i live).length) := by
  obtain ⟨findex, fsub, fmode, ftotal, flength⟩ := openPayload_fields hindex hsub (show mode < 256 by omega) htotal
  have hrange : ¬ 2 < mode := by omega
  have hfits : ¬ (mode ≠ 0 ∧ o.rng.most < total) := fun ⟨h0, hlong⟩ => absurd (hmost h0) (by omega)
  have hidle : ¬ (mode = 0 ∧ s.readBusy x.sid o i = true ∨ mode ≠ 0 ∧ s.transfersBusy index sub total = true) := by
    rintro (⟨h0, hbusy⟩ | ⟨h0, hbusy⟩)
    · rw [hread h0] at hbusy; cases hbusy
    · rw [hwrite h0] at hbusy; cases hbusy
  simp only [serve, blockOpenRequest, findex, fsub, fmode, ftotal, flength, hmove, hhandle]
  simp [bind, Except.bind, refuseIf, hdomain, hrange, hoffered, hclosed, Transfer.image, if_neg hfits, if_neg hidle]

/-! BLOCK_DATA (R58 to R60). -/

/-- R58: the payload of a BLOCK_DATA. -/
def dataPayload (handle off count : Nat) (data : Bytes) : Bytes := [byteOf handle, 0] ++ beBytes 4 off ++ beBytes 2 count ++ data

theorem dataPayload_fields {handle off count : Nat} (hhandle : handle < 256) (hoff : off < 2 ^ 32) (hcount : count < 65536)
    (data : Bytes) : beAt (dataPayload handle off count data) 0 1 = handle ∧ beAt (dataPayload handle off count data) 2 4 = off ∧
      beAt (dataPayload handle off count data) 6 2 = count ∧ (dataPayload handle off count data).drop 8 = data ∧
      (dataPayload handle off count data).length = 8 + data.length ∧ (dataPayload handle off count data).isEmpty = false := by
  have hparts : dataPayload handle off count data =
      beBytes 1 handle ++ ([0] ++ (beBytes 4 off ++ (beBytes 2 count ++ data))) := by
    simp [dataPayload, beBytes, leBytes, byteOf]
  refine ⟨?_, ?_, ?_, rfl, by simp [dataPayload]; omega, rfl⟩
  · rw [hparts]
    exact beAt_front (n := 1) hhandle _
  · rw [hparts, beAt_append_right (by simp), beAt_append_right (by simp)]
    exact beAt_front (n := 4) hoff _
  · rw [hparts, beAt_append_right (by simp), beAt_append_right (by simp), beAt_append_right (by simp)]
    exact beAt_front (n := 2) hcount _

/-- R58: the transfer of a session under a handle. -/
def State.transferOf (s : State) (x : Session) (handle : Nat) : Option Transfer :=
  s.dap.transfers.find? fun t => t.handle = handle && t.sid = x.sid

section
variable {s : State} {x : Session} {off : Nat} {w : Transfer} (hhandle : w.handle < 256)
  (hfind : s.transferOf x w.handle = some w) (hlive : w.abandoned = false)
include hhandle hfind hlive

/-- R58: data that is written is kept with its offset; that of FW_IMAGE goes to the image that does not run. -/
theorem serve_blockData_write {data : Bytes} {r : Option (Obj × Nat × Bool)} (hoff : off < 2 ^ 32) (hsome : 1 ≤ data.length)
    (hshort : data.length ≤ 1024) (hmode : w.mode = 1 ∨ w.mode = 2) (hmove : s.toMove x.role w.index w.sub w.mode = .ok r)
    (hfits : off + data.length ≤ w.total) :
    serve x 0x13 (dataPayload w.handle off data.length data) s =
      accepted (let u := s.updTransfer w.handle fun t => { t with lastData := s.cycles }
        if w.image then { u with flash := s.flash.setImage s.spareImage (overlay (s.flash.image s.spareImage) off data) }
        else u.updTransfer w.handle fun t => { t with writes := t.writes ++ [(off, data)] }) ([byteOf w.handle, 0] ++ beBytes 4 off) := by
  obtain ⟨fhandle, foff, fcount, fdata, flength, fsome⟩ := dataPayload_fields hhandle hoff (show data.length < 65536 by omega) data
  rw [State.transferOf] at hfind
  have hmode0 : w.mode ≠ 0 := by omega
  have hrange : (decide (data.length < 1) || decide (1024 < data.length) || (decide (w.mode ≠ 0) && decide (w.total < off + data.length))) =
      false := by
    rw [decide_eq_false (by omega), decide_eq_false (by omega), decide_eq_false (p := w.total < off + data.length) (by omega)]
    simp
  simp only [serve, blockDataRequest, fhandle, foff, fcount, fdata, flength, fsome, hfind, hmove, hlive, hrange, if_neg hmode0]
  rw [if_neg (by decide), if_neg (by simp), if_neg (by decide), if_neg (by simp [hmode0]), if_neg (by decide)]
  split <;> rfl

/-- R58: a read returns the content as it was at the open. -/
theorem serve_blockData_read {count : Nat} {r : Option (Obj × Nat × Bool)} (hoff : off < 2 ^ 32) (hsome : 1 ≤ count)
    (hshort : count ≤ 1024) (hmode : w.mode = 0) (hmove : s.toMove x.role w.index w.sub 0 = .ok r)
    (hidle : w.image = true → s.imageWriting = false) :
    serve x 0x13 (dataPayload w.handle off count []) s =
      accepted (s.updTransfer w.handle fun t => { t with lastData := s.cycles })
        ([byteOf w.handle, 0] ++ beBytes 4 off ++ slice w.base off count) := by
  obtain ⟨fhandle, foff, fcount, fdata, flength, fsome⟩ := dataPayload_fields hhandle hoff (show count < 65536 by omega) []
  rw [State.transferOf] at hfind
  have hrange : (decide (count < 1) || decide (1024 < count) || (decide ((0 : Nat) ≠ 0) && decide (w.total < off + count))) =
      false := by simp; omega
  have hbusy : (w.image && s.imageWriting) = false := by
    cases himage : w.image with
    | false => rfl
    | true => rw [hidle himage]; rfl
  simp only [serve, blockDataRequest, fhandle, foff, fcount, fdata, flength, fsome, hfind, hmode, hmove, hlive, hrange]
  rw [if_neg (by decide), if_neg (by simp), if_neg (by decide), if_neg (by simp [hbusy]), if_neg (by decide)]
  rfl

end

section
variable {s : State} {x : Session} {w : Transfer} {o : Obj} {i n crc : Nat} {live : Bool} (hhandle : w.handle < 256)
  (hfind : s.transferOf x w.handle = some w) (hlive : w.abandoned = false)
  (hmove : s.toMove x.role w.index w.sub w.mode = .ok (some (o, i, live))) (hn : n < 2 ^ 32) (hcrc : crc < 2 ^ 32)
include hhandle hfind hlive hmove hn hcrc

omit hn hcrc in
/-- R58: a BLOCK_END ends a read. -/
theorem serve_blockEnd_read (hmode : w.mode = 0) :
    serve x 0x14 (endPayload w.handle n crc) s = accepted (s.dropTransfer w.handle) [byteOf w.handle, 0] := by
  have hbytes : (endPayload w.handle n crc).isEmpty = false := rfl
  rw [State.transferOf] at hfind
  rw [hmode] at hmove
  simp [serve, blockEndRequest, hbytes, endPayload_handle hhandle, hfind, hmove, hmode, hlive]

/-- R60: a BLOCK_END whose CRC-32 matches makes the written region the image. -/
theorem serve_blockEnd_image (hmode : w.mode ≠ 0) (htotal : n ≤ w.total) (himage : w.image = true) (hopen : s.maskLocked o i = false)
    (hlength : lengthOk s.part o n = true) (hsum : crc32 (padTo n (s.content x.sid o i live)) = crc) :
    serve x 0x14 (endPayload w.handle n crc) s =
      accepted ((s.endImage (padTo n (s.content x.sid o i live))).dropTransfer w.handle) [byteOf w.handle, 0] := by
  have hbytes : (endPayload w.handle n crc).isEmpty = false := rfl
  rw [State.transferOf] at hfind
  simp [serve, blockEndRequest, hbytes, endPayload_handle hhandle, endPayload_length _ hn, endPayload_crc _ _ hcrc, hfind, hmove, hmode,
    hlive, himage, hopen, hlength, hsum, htotal]

/-- R59: a BLOCK_END whose length and CRC-32 match gives the content to the entry, which takes it. -/
theorem serve_blockEnd_write {t : State} (hmode : w.mode ≠ 0) (htotal : n ≤ w.total) (himage : w.image = false)
    (hopen : s.maskLocked o i = false) (hplain : o.idx ≠ 0x1410) (hnow : o.acc ≠ .rwp)
    (hsum : crc32 (w.result (s.content x.sid o i live) n) = crc)
    (hwrite : writeContent x.sid x.role o i (w.result (s.content x.sid o i live) n) s = (t, 0)) :
    serve x 0x14 (endPayload w.handle n crc) s = accepted (t.dropTransfer w.handle) [byteOf w.handle, 0] := by
  have hbytes : (endPayload w.handle n crc).isEmpty = false := rfl
  rw [State.transferOf] at hfind
  simp [serve, blockEndRequest, hbytes, endPayload_handle hhandle, endPayload_length _ hn, endPayload_crc _ _ hcrc, hfind, hmove, hmode,
    hlive, himage, hopen, hsum, htotal, hplain, hnow, hwrite, accepted]

end

theorem State.toMove_read {s : State} {role index sub : Nat} {o : Obj} {i : Nat} {live : Bool}
    (h : s.toRead role index sub = .ok (.entry o i live)) : s.toMove role index sub 0 = .ok (some (o, i, live)) := by
  rw [State.toMove, if_pos rfl, h]

theorem State.toMove_write {s : State} {role index sub mode : Nat} (hmode : mode ≠ 0) {o : Obj} {i : Nat}
    (h : s.toWrite role index sub = .ok (o, i)) : s.toMove role index sub mode = .ok (some (o, i, false)) := by
  rw [State.toMove, if_neg hmode, h]

/-- R71: a transfer that writes moves a row of the table. -/
theorem State.toMove_mem {s : State} {role index sub mode : Nat} (hmode : mode ≠ 0) {o : Obj} {i : Nat} {live : Bool}
    (h : s.toMove role index sub mode = .ok (some (o, i, live))) : o ∈ objects := by
  rw [State.toMove, if_neg hmode] at h
  cases hwrite : s.toWrite role index sub with
  | error c => rw [hwrite] at h; cases h
  | ok r =>
    obtain ⟨o', i'⟩ := r
    rw [hwrite] at h
    cases h
    exact State.toWrite_mem hwrite

/-- R265: EXP_MAP takes a content that is legal. -/
theorem writeContent_expMap {sid role : Nat} {o : Obj} {i : Nat} {b : Bytes} {s : State} (hidx : o.idx = 0x7022)
    (hlength : lengthOk s.part o b.length = true) (hcontent : contentOk o b = true) :
    writeContent sid role o i b s = ((s.setDom (o.keyOf i) (o.cleanContent b)).checkIdle i, 0) := by
  have hok : expMapOk (o.cleanContent b) = true := by
    rw [expMapOk_clean hidx]
    simpa [contentOk, hidx] using hcontent
  simp [writeContent, hlength, hidx, contentEffect, contentOk, hok, refuseIf, verdict, bind, Except.bind]

/-- Settles O6: each request is answered by what `serve` says of it. -/
theorem blockTransfersAct : Obligations.BlockTransfersAct := by
  refine ⟨?openWrite, ?openRead, ?dataWrite, ?dataRead, ?endRead, ?endExpMap, ?endWrite, ?endImage⟩
  case openWrite =>
    rintro s u x seq index sub mode total o i h hawaits hindex hsub htotal hmode hwrite hdomain hmost hoffered hclosed hbusy hhandle rfl
    have hmode0 : mode ≠ 0 := by omega
    have hserve := serve_blockOpen (s := s.touched x seq) (x := x) hindex hsub (mode := mode) (by omega) htotal
      (State.toMove_write hmode0 hwrite) hdomain (fun _ => hmost) hoffered hclosed (fun h0 => absurd h0 hmode0) (fun _ => hbusy) hhandle
    simp only [ne_eq, hmode0, not_false_eq_true, decide_true, Bool.true_and, Bool.and_eq_true, decide_eq_true_eq] at hserve
    exact (State.asks_next hawaits 0x12 (by simp)).trans (congrArg _ (State.act_of_accepted hserve))
  case openRead =>
    rintro s x seq index sub total o i live h c hawaits hindex hsub htotal hread hdomain hoffered hclosed hbusy hhandle rfl
    have hserve := serve_blockOpen (s := s.touched x seq) (x := x) hindex hsub (mode := 0) (by decide) htotal
      (State.toMove_read hread) hdomain (fun h0 => absurd rfl h0) hoffered hclosed (fun _ => hbusy) (fun h0 => absurd rfl h0) hhandle
    exact (State.asks_next hawaits 0x12 (by simp)).trans (congrArg _ (State.act_of_accepted hserve))
  case dataWrite =>
    rintro s u x seq off data w r hawaits hoff hsome hshort hhandle hfind hmode hlive hmove hfits rfl
    have hserve := serve_blockData_write (s := s.touched x seq) (x := x) hhandle hfind hlive hoff hsome hshort hmode hmove hfits
    exact (State.asks_next hawaits 0x13 (by simp; omega)).trans (congrArg _ (State.act_of_accepted hserve))
  case dataRead =>
    intro s x seq off count w r hawaits hoff hsome hshort hhandle hfind hmode hlive hmove hidle
    have hserve := serve_blockData_read (s := s.touched x seq) (x := x) hhandle hfind hlive hoff hsome hshort hmode hmove hidle
    rw [dataPayload, List.append_nil] at hserve
    exact (State.asks_next hawaits 0x13 (by simp)).trans (congrArg _ (State.act_of_accepted hserve))
  case endRead =>
    rintro s x seq length crc w ⟨o, i, live⟩ hawaits hhandle hfind hmode hlive hmove
    have hserve := serve_blockEnd_read (s := s.touched x seq) (x := x) (n := length) (crc := crc) hhandle hfind hlive
      (by rw [hmode]; exact hmove) hmode
    exact (State.asks_next hawaits 0x14 (by simp)).trans (congrArg _ (State.act_of_accepted hserve))
  case endExpMap =>
    intro s x seq w o i live hawaits hhandle htotal hfind hmode hlive himage hmove hidx hlegal
    obtain ⟨hlength, hcontent⟩ := Bool.and_eq_true_iff.mp hlegal
    have hresult := Transfer.result_replace hmode ((s.touched x seq).content x.sid o i live) w.total
    have hrow := State.toMove_mem (by decide) hmove
    have hwrite := writeContent_expMap (sid := x.sid) (role := x.role) (i := i) (s := s.touched x seq) hidx
      (b := w.result [] w.total) (by rw [Transfer.result, length_padTo]; exact hlength) hcontent
    have hserve := serve_blockEnd_write (s := s.touched x seq) (x := x) hhandle hfind hlive (by rw [hmode]; exact hmove) htotal
      (crc32_lt _) (by omega) le_rfl himage (by simp [State.maskLocked, hidx]) (by omega) (expMap_not_rwp o hrow hidx)
      rfl (hresult ▸ hwrite)
    rw [hresult] at hserve
    exact (State.asks_next hawaits 0x14 (by simp)).trans (congrArg _ (State.act_of_accepted hserve))
  case endWrite =>
    rintro s t x seq n w o i live b hawaits hhandle hn htotal hfind hmode hlive himage hmove hopen hnow hplain rfl hwrite
    have hserve := serve_blockEnd_write (s := s.touched x seq) (x := x) hhandle hfind hlive hmove (lt_of_le_of_lt hn htotal)
      (crc32_lt _) (by omega) hn himage hopen hplain hnow rfl hwrite
    exact (State.asks_next hawaits 0x14 (by simp)).trans (congrArg _ (State.act_of_accepted hserve))
  case endImage =>
    rintro s x seq n w o i live b hawaits hhandle hn htotal hfind hmode hlive himage hmove hopen hlength rfl
    have hserve := serve_blockEnd_image (s := s.touched x seq) (x := x) hhandle hfind hlive hmove (lt_of_le_of_lt hn htotal)
      (crc32_lt _) (by omega) hn himage hopen hlength rfl
    exact (State.asks_next hawaits 0x14 (by simp)).trans (congrArg _ (State.act_of_accepted hserve))

end Sys2Proof.Machine
end

section
/-! PROOF. O10 and O11: a lane's bring-up and its losses (R134, R153 to R155). -/
namespace Sys2Proof.Machine

/-! The rows of a lane. -/

section
variable {s t : State} {l : Lane} {n : Nat} (f : State → State)

theorem cendoRow_next (hhere : s.cendoHere l = true) (hstate : s.laneState l = n) (h : f s = t) :
    cendoRow l f s = .next (t.laneFollow l n) := by
  rw [cendoRow, show (lanePresent s.part l && isCendo l) = true from hhere, onUnit_of_present rfl, onLane, h, hstate]

theorem laneRow_next (hhere : s.laneHere l = true) (hstate : s.laneState l = n) (h : f s = t) :
    laneRow l f s = .next (t.laneFollow l n) := by
  rw [laneRow, show (lanePresent s.part l && receives l) = true from hhere, onUnit_of_present rfl, onLane, h, hstate]

variable {b : Bool} {g : State → State}

/-- A row whose event happens under a condition that holds. -/
theorem cendoRow_whenever (hhere : s.cendoHere l = true) (hstate : s.laneState l = n) (hrow : f s = s.whenever b g) (hb : b = true) :
    cendoRow l f s = .next ((g s).laneFollow l n) :=
  cendoRow_next f hhere hstate (hrow.trans (s.whenever_of_true hb g))

theorem laneRow_whenever (hhere : s.laneHere l = true) (hstate : s.laneState l = n) (hrow : f s = s.whenever b g) (hb : b = true) :
    laneRow l f s = .next ((g s).laneFollow l n) :=
  laneRow_next f hhere hstate (hrow.trans (s.whenever_of_true hb g))

end

theorem laneKey_ne {a b : Nat} (h : a ≠ b) (l : Lane) : laneKey a l ≠ laneKey b l := by
  cases l <;> simp only [laneKey] <;> omega

section
variable (s : State) (l : Lane)

theorem State.laneNat_setLane_other {a b : Nat} (h : a ≠ b) (v : Nat) : (s.setLane l b v).laneNat l a = s.laneNat l a :=
  State.nat_setObj_other s (laneKey_ne h l) v

theorem State.laneNat_addTo_other {a b : Nat} (h : a ≠ b) (w d : Nat) : (s.addTo (laneKey b l) w d).laneNat l a = s.laneNat l a :=
  State.nat_addTo_other s (laneKey_ne h l) w d

theorem State.laneNat_bump_other {a b : Nat} (h : a ≠ b) : (s.bump (laneKey b l)).laneNat l a = s.laneNat l a :=
  s.laneNat_addTo_other l h 32 1

end

/-- Settles O10: each condition of R153 holds, so the event has its effect. -/
theorem laneBringUpActs : Obligations.LaneBringUpActs := by
  refine ⟨?seek, ?transitions, ?attempt, ?clock, ?detect, ?aligned, ?realigned, ?align⟩
  case seek =>
    intro s l hhere hstate hattempt hmay hat
    exact (cendoRow_whenever (seekAttempt l) hhere hstate (by delta seekAttempt; rfl)
      (by simp [(Bool.and_eq_true_iff.mp hhere).2, hstate, hattempt, hmay, hat]) :)
  case transitions =>
    intro s l density hhere hstate hattempt hfloor hlong hshort
    exact (cendoRow_whenever (transitionsDetected l density) hhere hstate (by delta transitionsDetected; rfl)
      (by simp [hstate, hattempt, hfloor, hlong, hshort]) :)
  case attempt =>
    intro s l hhere hstate hattempt hlong
    exact (cendoRow_whenever (attemptTimeout l) hhere hstate (by delta attemptTimeout; rfl)
      (by simp [hstate, hattempt, hlong]) :)
  case clock =>
    intro s l hhere hstate hshort
    exact (cendoRow_whenever (clockRecoveryLock l) hhere hstate rfl (by simp [hstate, hshort]) :)
  case detect =>
    intro s l hhere hstate hlong
    exact (cendoRow_whenever (detectTimeout l) hhere hstate rfl (by simp [hstate, hlong]) :)
  case aligned =>
    intro s l commas hhere hstate haligned hcommas hshort
    refine ⟨_, rfl, (cendoRow_whenever (symbolAlignment l commas) hhere hstate rfl (by simp [hstate, haligned, hcommas])).trans ?_⟩
    simp [hstate, Nat.not_lt.mpr hshort]
  case realigned =>
    intro s l commas hhere hstate haligned hcommas
    refine cendoRow_next (symbolAlignment l commas) hhere rfl ?_
    refine (s.whenever_of_true (by simp [haligned, hcommas]; omega) _).trans (if_pos (Or.inl ?_))
    rw [State.updLane_laneState]
    omega
  case align =>
    intro s l hhere hstate hwaits hlong
    have hwaiting : ((s.lane l).aligned && (s.lane l).req.isSome) = false := by
      rcases hwaits with haligned | hreq
      · rw [haligned, Bool.false_and]
      · rw [hreq, Option.isSome_none, Bool.and_false]
    exact (cendoRow_whenever (alignTimeout l) hhere hstate rfl (by simp [hstate, hwaiting, hlong]) :)

/-! The violations that a receiver hears (R134). -/

theorem length_rxAll (positive : Bool) (l : List Nat) : (rxAll positive l).length = l.length := by
  induction l generalizing positive with
  | nil => rfl
  | cons c r ih => rw [rxAll, List.length_cons, ih, List.length_cons]

theorem length_strays : ∀ l : List Nat, (strays l).length = l.length
  | [] => rfl
  | [_] => rfl
  | _ :: y :: r => by rw [strays, List.length_cons, length_strays (y :: r)]; rfl

theorem length_lineViolations (known : Byte → Bool) (x : Line) : (lineViolations known x).length = x.codes.length := by
  simp [lineViolations, length_rxAll, length_strays]

/-- R134: eight violations at the end of what a receiver has heard lie within 64 characters. -/
theorem slips_append {v : List Bool} (hfew : v.length ≤ 64) (height : 8 ≤ (v.filter id).length) (l : List Bool) :
    ∀ n, l.length < n → slips n (l ++ v) = true := by
  induction l with
  | nil =>
    intro n hn
    obtain ⟨m, rfl⟩ := Nat.exists_eq_add_of_lt hn
    simp only [slips, List.nil_append, List.take_of_length_le hfew, decide_eq_true height, Bool.true_or, List.length_nil]
  | cons b r ih =>
    intro n hn
    obtain ⟨m, rfl⟩ : ∃ m, n = m + 1 := ⟨n - 1, by rw [List.length_cons] at hn; omega⟩
    rw [slips, List.cons_append, List.drop_succ_cons, List.drop_zero, ih m (by simpa using hn), Bool.or_true]

/-- The violations of characters on a lane. -/
def violations (l : Lane) (x : Line) : List Bool := lineViolations (if isTrunk l then trunkKnown else cameraKnown) x

/-- R134: the violations of characters are counted. -/
def State.counted (s : State) (l : Lane) (x : Line) : State :=
  if ((violations l x).filter id).length = 0 then s else s.addTo (laneKey oCodeErrors l) 32 ((violations l x).filter id).length

section
variable (s : State) (l : Lane) (x : Line)

theorem State.lane_counted : (s.counted l x).lane l = s.lane l := by
  rw [State.counted]
  split <;> rfl

theorem State.hear_eq : s.hear l x = (s.counted l x).updLane l fun y => { y with
    recent := ((s.lane l).recent ++ violations l x).drop (((s.lane l).recent ++ violations l x).length - 63),
    slip := y.slip || slips ((s.lane l).recent ++ violations l x).length ((s.lane l).recent ++ violations l x) } := by
  rw [← s.lane_counted l x]
  rfl

theorem State.laneNat_hear_other {a : Nat} (h : a ≠ oCodeErrors) : (s.hear l x).laneNat l a = s.laneNat l a := by
  have hcounted : (s.counted l x).laneNat l a = s.laneNat l a := by
    rw [State.counted]
    split
    · rfl
    · exact s.laneNat_addTo_other l h _ _
  rw [State.hear_eq]
  exact hcounted

theorem State.laneNat_hear_errors (hsome : ((violations l x).filter id).length ≠ 0) :
    (s.hear l x).laneNat l oCodeErrors = satAdd 32 (s.laneNat l oCodeErrors) ((violations l x).filter id).length := by
  rw [State.hear_eq, State.counted, if_neg hsome]
  exact State.nat_addTo_same s _ _ _

theorem State.slip_hear : ((s.hear l x).lane l).slip = ((s.lane l).slip ||
    slips ((s.lane l).recent ++ violations l x).length ((s.lane l).recent ++ violations l x)) := by
  rw [State.hear_eq, State.lane_updLane_same, State.lane_counted]

end

/-- Settles O11: eight violations in 64 make the receiver slip, and the loss of signal happens out of SEEK. -/
theorem laneLossesAct : Obligations.LaneLossesAct := by
  constructor
  · intro s l x hhere haligned hfew height
    have hcount : 8 ≤ ((violations l x).filter id).length := height
    have hslip : ((s.hear l x).lane l).slip = true := by
      have hlength : (violations l x).length = x.codes.length := length_lineViolations _ x
      have hsome := List.length_filter_le id (violations l x)
      rw [State.slip_hear, slips_append (by omega) hcount _ _ (by rw [List.length_append]; omega), Bool.or_true]
    have hstate : ((s.hear l x).bump (laneKey oAlignLoss l)).laneState l = s.laneState l :=
      (State.laneNat_bump_other _ l (by decide)).trans (s.laneNat_hear_other l x (by decide))
    refine ⟨_, rfl, (State.laneNat_bump_other _ l (by decide)).trans (s.laneNat_hear_errors l x (by omega)),
      (cendoRow_whenever (alignmentLost l x) hhere rfl (by delta alignmentLost State.onLine; rfl) haligned).trans ?_⟩
    rw [id, State.settleLine, hslip, Bool.not_true, if_neg Bool.false_ne_true]
    simp only [State.laneUp, State.updLane_laneState, hstate]
    rfl
  · intro s l hhere hstate
    exact (laneRow_whenever (lossOfSignal l) hhere rfl rfl (decide_eq_true hstate) :)

end Sys2Proof.Machine
end

section
/-! PROOF. What a receiver makes of the characters of a message or packet (R138 to R144). -/
namespace Sys2Proof.Machine

/-! A start symbol, data characters, and what ends them. -/

/-- Characters received without a violation. -/
def cleanRx (l : List Chr) : List Rx := l.map fun c => ⟨some c, false⟩

theorem takeWhile_data (b : Bytes) {r : List Rx} (h : ∀ x ∈ r.head?, x.ends = true) :
    (cleanRx (b.map Chr.d) ++ r).takeWhile (!·.ends) = cleanRx (b.map Chr.d) := by
  have hend : r.takeWhile (!·.ends) = [] := by
    cases r with
    | nil => rfl
    | cons x r => rw [List.takeWhile_cons_of_neg (by simp [h x rfl])]
  rw [List.takeWhile_append_of_pos fun x hx => ?_, hend, List.append_nil]
  simp only [cleanRx, List.mem_map] at hx
  obtain ⟨_, ⟨_, _, rfl⟩, rfl⟩ := hx
  rfl

/-- The symbol that ends what is received, if one does. -/
def stopSymbol (stop : Option Byte) : List Chr := (stop.map Chr.k).toList

/-- R141: from a start symbol on, the data up to the next special character. -/
theorem bodyFrom_data (start : Byte) (b : Bytes) {stop : Option Byte} (hstop : stop ≠ some k307) :
    bodyFrom start (cleanRx (Chr.k start :: (b.map Chr.d ++ stopSymbol stop))) = some ⟨b.map some, stop, false, false⟩ := by
  have htake : (cleanRx (b.map Chr.d) ++ cleanRx (stopSymbol stop)).takeWhile (!·.ends) = cleanRx (b.map Chr.d) := by
    refine takeWhile_data b fun x hx => ?_
    cases stop with
    | none => cases hx
    | some k =>
      cases hx
      exact decide_eq_true fun h => hstop (congrArg some h)
  have hsplit : cleanRx (Chr.k start :: (b.map Chr.d ++ stopSymbol stop)) =
      ⟨some (.k start), false⟩ :: (cleanRx (b.map Chr.d) ++ cleanRx (stopSymbol stop)) := by simp [cleanRx]
  have hbytes : (cleanRx (b.map Chr.d)).map Rx.byte = b.map some := by simp [cleanRx, Rx.byte]
  have hgood : (cleanRx (b.map Chr.d)).any (·.bad) = false := by simp [cleanRx]
  have hpartner : (cleanRx (b.map Chr.d)).any (·.isK k307) = false := by simp [cleanRx, Rx.isK]
  rw [hsplit, bodyFrom, List.dropWhile_cons_of_neg (by simp [Rx.isK])]
  simp only [htake, List.drop_left, hbytes, hgood, hpartner]
  cases stop <;> rfl

theorem crcChars_eq (b : Bytes) : crcChars b = (b ++ beBytes 4 (crc32 b)).map Chr.d := rfl

/-- R140: the CRC-32 of a body is found behind it. -/
theorem crcHolds_append {b : Bytes} {n : Nat} (h : b.length = n) : crcHolds n (b ++ beBytes 4 (crc32 b)) = true := by
  subst h
  rw [crcHolds, beAt_append_right le_rfl, Nat.sub_self, List.take_left]
  have hread := beAt_front (n := 4) (crc32_lt b) []
  rw [List.append_nil] at hread
  simp [hread]

section
variable (s : State) (l : Lane) {x : Line} {start : Byte} {positive : Bool} {b : Bytes} {stop : Option Byte}

theorem rxAll_line (hstart : start ∈ specials) (hstop : ∀ k ∈ stop, k ∈ specials)
    (hx : x = lineOf positive (Chr.k start :: (b.map Chr.d ++ stopSymbol stop))) :
    rxAll x.positive x.codes = cleanRx (Chr.k start :: (b.map Chr.d ++ stopSymbol stop)) := by
  subst hx
  refine rxAll_encode positive _ (Chr.coded_of_mem fun k hk => ?_)
  simp only [List.mem_cons, Chr.k.injEq, List.mem_append, List.mem_map, reduceCtorEq, and_false, exists_false, false_or,
    stopSymbol, Option.mem_toList, Option.map_eq_some_iff] at hk
  rcases hk with rfl | ⟨k', hk', rfl⟩
  · exact hstart
  · exact hstop _ hk'

/-- R142: the receiver takes the data between a start symbol and what ends it. -/
theorem State.receiveLine_data (hstart : start ∈ specials) (hstop : ∀ k ∈ stop, k ∈ specials) (hbreak : stop ≠ some k307)
    (hx : x = lineOf positive (Chr.k start :: (b.map Chr.d ++ stopSymbol stop))) :
    s.receiveLine l start x = (s.startSeen l, some (⟨b.map some, stop, false, false⟩, b)) := by
  have hsome : (b.map some).all Option.isSome = true := by simp
  rw [State.receiveLine, rxAll_line hstart hstop hx, bodyFrom_data start b hbreak]
  simp [State.readBytes]

end

/-! A line that does not make the receiver slip. -/

section
variable {s t : State} {l : Lane} {x : Line}

theorem State.steady_parts (h : s.steady l x = true) : (s.lane l).aligned = true ∧ ((s.hear l x).lane l).slip = false := by
  simpa [State.steady] using h

theorem State.slip_heard (h : s.steady l x = true) : ((s.heard l x).lane l).slip = false := by
  rw [State.heard, State.startSeen, State.lane_updLane_same]
  exact (State.steady_parts h).2

theorem State.settleLine_of_steady (h : (t.lane l).slip = false) : t.settleLine l = t := by simp [State.settleLine, h]

theorem State.onLine_steady {f : State → State} (h : s.steady l x = true) (hf : f (s.hear l x) = t) (ht : (t.lane l).slip = false) :
    s.onLine l x f = t := by
  refine (s.whenever_of_true (State.steady_parts h).1 _).trans ?_
  rw [hf, State.settleLine_of_steady ht]

end

theorem messageStart_special (l : Lane) : messageStart l ∈ specials := by
  cases l with
  | camera _ => exact (by decide : k283 ∈ specials)
  | trunk _ => exact (by decide : k282 ∈ specials)
  | eth _ => exact (by decide : k283 ∈ specials)

theorem messageLength_le (type : Nat) : messageLength type ≤ 64 := by
  unfold messageLength
  split <;> decide

/-- R143 to R145: a message that the receiver takes is acted on by its TYPE, TAG and payload. -/
theorem State.takeMessage_steady {s t : State} {l : Lane} {x : Line} {positive : Bool} {type tag : Nat} {p : Bytes}
    {f : Nat → Nat → Bytes → State → State} (hx : x = messageLine l positive type tag p) (hsteady : s.steady l x = true)
    (htype : type < 256) (htag : tag < 256) (hshort : p.length ≤ 64) (hf : f type tag p (s.heard l x) = t)
    (hslip : (t.lane l).slip = false) : s.takeMessage l x f = t := by
  have hbody : (byteOf type :: byteOf tag :: byteOf p.length :: p) = beBytes 1 type ++ (beBytes 1 tag ++ (beBytes 1 p.length ++ p)) := by
    simp [beBytes, leBytes, byteOf]
  have hline : x = lineOf positive (Chr.k (messageStart l) :: (((byteOf type :: byteOf tag :: byteOf p.length :: p) ++
      beBytes 4 (crc32 (byteOf type :: byteOf tag :: byteOf p.length :: p))).map Chr.d ++ stopSymbol none)) := by
    rw [hx, messageLine, messageChars, crcChars_eq, stopSymbol, Option.map_none, Option.toList_none, List.append_nil]
  have hreceive := State.receiveLine_data (s.hear l x) l (messageStart_special l) (fun _ h => absurd h (by simp))
    (stop := none) (by decide) hline
  generalize hall : (byteOf type :: byteOf tag :: byteOf p.length :: p) ++
    beBytes 4 (crc32 (byteOf type :: byteOf tag :: byteOf p.length :: p)) = all at hreceive
  have hcrc : crcHolds (3 + p.length) all = true := by
    rw [← hall]
    exact crcHolds_append (by simp; omega)
  rw [hbody] at hall
  have hfieldType : beAt all 0 1 = type := by
    rw [← hall, List.append_assoc]
    exact beAt_front (n := 1) htype _
  have hfieldTag : beAt all 1 1 = tag := by
    rw [← hall, List.append_assoc, List.append_assoc, beAt_append_right (by simp)]
    exact beAt_front (n := 1) htag _
  have hfieldLength : beAt all 2 1 = p.length := by
    rw [← hall, List.append_assoc, List.append_assoc, List.append_assoc, beAt_append_right (by simp), beAt_append_right (by simp)]
    exact beAt_front (n := 1) (show p.length < 256 by omega) _
  have hpayload : slice all 3 p.length = p := by
    rw [← hall, List.append_assoc, List.append_assoc, List.append_assoc, slice_append_right (by simp), slice_append_right (by simp),
      slice_append_right (by simp)]
    exact slice_front rfl _
  rw [State.takeMessage]
  refine State.onLine_steady hsteady ?_ hslip
  rw [hreceive]
  simp only [hfieldType, hfieldTag, hfieldLength, hpayload, hcrc]
  rw [if_neg (by simpa using hshort)]
  exact hf

/-- R144: a message of one TYPE and its length has the effect of that TYPE. -/
theorem State.onMessage_steady {s t : State} {l : Lane} {x : Line} {positive : Bool} {type tag : Nat} {p : Bytes}
    {f : Nat → Bytes → State → State} (hx : x = messageLine l positive type tag p) (hsteady : s.steady l x = true)
    (htype : type < 256) (htag : tag < 256) (hlength : p.length = messageLength type) (hf : f tag p (s.heard l x) = t)
    (hslip : (t.lane l).slip = false) : s.onMessage l x type f = t :=
  State.takeMessage_steady hx hsteady htype htag (hlength ▸ messageLength_le type) ((if_pos ⟨rfl, hlength⟩).trans hf) hslip

theorem messageRow_next {s t : State} {l : Lane} {x : Line} {positive : Bool} {type tag n : Nat} {p : Bytes}
    {f : Nat → Bytes → State → State} (hhere : s.cendoHere l = true) (hstate : s.laneState l = n)
    (hx : x = messageLine l positive type tag p) (hsteady : s.steady l x = true) (htype : type < 256) (htag : tag < 256)
    (hlength : p.length = messageLength type) (hf : f tag p (s.heard l x) = t)
    (hslip : (t.lane l).slip = false) : messageRow l x type f s = .next (t.laneFollow l n) :=
  cendoRow_next _ hhere hstate (State.onMessage_steady hx hsteady htype htag hlength hf hslip)

/-! What sending a request leaves as it was (R145). -/

/-- `t` is `s` after requests on lane l: they change neither what a lane knows beyond them, nor an entry but the count of TAP_REQUESTs. -/
structure State.Asked (l : Lane) (s t : State) : Prop where
  cycles : t.cycles = s.cycles
  slip : ∀ m, (t.lane m).slip = (s.lane m).slip
  goal : ∀ m, (t.lane m).goal = (s.lane m).goal
  nat : ∀ k, k ≠ laneKey oTrainCount l → t.nat k = s.nat k

theorem State.Asked.refl (l : Lane) (s : State) : s.Asked l s := ⟨rfl, fun _ => rfl, fun _ => rfl, fun _ _ => rfl⟩

theorem State.Asked.trans {l : Lane} {s t u : State} (a : s.Asked l t) (b : t.Asked l u) : s.Asked l u :=
  ⟨b.cycles.trans a.cycles, fun m => (b.slip m).trans (a.slip m), fun m => (b.goal m).trans (a.goal m),
    fun k hk => (b.nat k hk).trans (a.nat k hk)⟩

/-- A part of what a lane knows that a change of one lane keeps is kept on every lane. -/
theorem State.lane_updLane_keeps {α : Type} (s : State) (l : Lane) {f : LaneSt → LaneSt} (g : LaneSt → α) (h : ∀ y, g (f y) = g y)
    (m : Lane) : g ((s.updLane l f).lane m) = g (s.lane m) := by
  by_cases hm : laneId m = laneId l
  · have hall (u : State) : u.lane m = u.lane l := by rw [State.lane, State.lane, hm]
    rw [hall, hall, State.lane_updLane_same, h]
  · rw [State.lane_updLane_other s hm]

section
variable (s : State) (l : Lane)

theorem State.updLane_asked {f : LaneSt → LaneSt} (hslip : ∀ y, (f y).slip = y.slip) (hgoal : ∀ y, (f y).goal = y.goal) :
    s.Asked l (s.updLane l f) :=
  ⟨rfl, s.lane_updLane_keeps l (·.slip) hslip, s.lane_updLane_keeps l (·.goal) hgoal, fun _ _ => rfl⟩

theorem State.sendMessage_asked (type tag : Nat) (p : Bytes) : s.Asked l (s.sendMessage l type tag p) := by
  unfold State.sendMessage
  split
  · split
    · exact ⟨rfl, fun _ => rfl, fun _ => rfl, fun _ _ => rfl⟩
    · exact ⟨rfl, fun _ => rfl, fun _ => rfl, fun _ _ => rfl⟩
  · exact ⟨rfl, fun _ => rfl, fun _ => rfl, fun _ _ => rfl⟩

theorem State.countTaps_asked (c : Prop) [Decidable c] : s.Asked l (if c then s.bump (laneKey oTrainCount l) else s) := by
  split
  · exact ⟨rfl, fun _ => rfl, fun _ => rfl, fun _ hk => s.nat_addTo_other hk _ _⟩
  · exact State.Asked.refl l s

theorem State.issueRequest_asked (type : Nat) (p : Bytes) : s.Asked l (s.issueRequest l type p) := by
  simp only [State.issueRequest]
  refine State.Asked.trans (State.Asked.trans ?_ (State.countTaps_asked _ l (type = 1))) (State.sendMessage_asked _ l type _ p)
  refine State.Asked.trans ?_ (State.updLane_asked _ l (fun y => ?_) fun y => ?_)
  · exact s.updLane_asked l (fun _ => rfl) fun _ => rfl
  · split <;> rfl
  · split <;> rfl

theorem State.laneRequest_asked (type : Nat) (p : Bytes) : s.Asked l (s.laneRequest l type p) := by
  rw [State.laneRequest]
  split
  · exact s.issueRequest_asked l type p
  · exact s.updLane_asked l (fun _ => rfl) fun _ => rfl

theorem State.nextRequest_asked : s.Asked l (s.nextRequest l) := by
  simp only [State.nextRequest]
  split
  · refine State.Asked.trans ?_ (State.issueRequest_asked _ l _ _)
    exact s.updLane_asked l (fun _ => rfl) fun _ => rfl
  · exact State.Asked.refl l s

theorem State.clearReq_asked : s.Asked l (s.clearReq l) := by
  refine State.Asked.trans ?_ (State.nextRequest_asked _ l)
  exact s.updLane_asked l (fun _ => rfl) fun _ => rfl

end

theorem State.Asked.laneNat {l : Lane} {s t : State} (h : s.Asked l t) {a : Nat} (ha : a ≠ oTrainCount) :
    t.laneNat l a = s.laneNat l a := h.nat _ (laneKey_ne ha l)

/-! What a receiver notes of a line. -/

section
variable (s : State) (l : Lane) (x : Line)

theorem State.lane_heard : ∃ recent slip frozen lastStart, (s.heard l x).lane l =
    { s.lane l with recent := recent, slip := slip, frozen := frozen, lastStart := lastStart } := by
  rw [State.heard, State.startSeen, State.lane_updLane_same, State.hear_eq, State.lane_updLane_same, State.lane_counted]
  exact ⟨_, _, _, _, rfl⟩

theorem State.req_heard : ((s.heard l x).lane l).req = (s.lane l).req := by
  obtain ⟨_, _, _, _, h⟩ := s.lane_heard l x
  rw [h]

theorem State.goal_heard : ((s.heard l x).lane l).goal = (s.lane l).goal := by
  obtain ⟨_, _, _, _, h⟩ := s.lane_heard l x
  rw [h]

theorem State.sensor_heard : ((s.heard l x).lane l).sensor = (s.lane l).sensor := by
  obtain ⟨_, _, _, _, h⟩ := s.lane_heard l x
  rw [h]

theorem State.counted_eq : ∃ d, s.counted l x = { s with dict := d } := by
  rw [State.counted]
  split
  · exact ⟨s.dict, rfl⟩
  · exact ⟨_, rfl⟩

theorem State.heard_eq : ∃ d m, s.heard l x = { s with dict := d, lanes := m } := by
  obtain ⟨d, h⟩ := s.counted_eq l x
  simp only [State.heard, State.startSeen, State.hear_eq, h, State.updLane]
  exact ⟨_, _, rfl⟩

theorem State.cycles_heard : (s.heard l x).cycles = s.cycles := by
  obtain ⟨_, _, h⟩ := s.heard_eq l x
  rw [h]

theorem State.trk_heard : (s.heard l x).trk = s.trk := by
  obtain ⟨_, _, h⟩ := s.heard_eq l x
  rw [h]

theorem State.exps_heard : (s.heard l x).exps = s.exps := by
  obtain ⟨_, _, h⟩ := s.heard_eq l x
  rw [h]

theorem State.answers_heard (type tag : Nat) : (s.heard l x).answers l type tag = s.answers l type tag := by
  rw [State.answers, State.answers, State.req_heard]

theorem State.asked_heard : (s.heard l x).asked l = s.asked l := by rw [State.asked, State.asked, State.req_heard]

theorem State.laneNat_heard {a : Nat} (h : a ≠ oCodeErrors) : (s.heard l x).laneNat l a = s.laneNat l a :=
  s.laneNat_hear_other l x h

end

/-! What keeps a receiver from slipping. -/

/-- No lane's receiver slips more, or less. -/
def State.SameSlip (s t : State) : Prop := ∀ m, (t.lane m).slip = (s.lane m).slip

theorem State.SameSlip.trans {s t u : State} (a : s.SameSlip t) (b : t.SameSlip u) : s.SameSlip u := fun m => (b m).trans (a m)

theorem State.sameSlip_of_lanes {s t : State} (h : t.lanes = s.lanes) : s.SameSlip t := fun m => by rw [State.lane, State.lane, h]

theorem State.sameSlip_foldl {β : Type} {f : State → β → State} (h : ∀ (s : State) b, s.SameSlip (f s b)) (l : List β) (s : State) :
    s.SameSlip (l.foldl f s) := by
  induction l generalizing s with
  | nil => exact fun _ => rfl
  | cons b r ih => exact (h s b).trans (ih _)

section
variable (s : State) (l : Lane)

theorem State.updLane_sameSlip {f : LaneSt → LaneSt} (h : ∀ y, (f y).slip = y.slip) : s.SameSlip (s.updLane l f) :=
  s.lane_updLane_keeps l (·.slip) h

theorem State.laneGo_sameSlip (new : Nat) : s.SameSlip (s.laneGo l new) := by
  simp only [State.laneGo]
  split
  · exact fun _ => rfl
  · refine State.SameSlip.trans ?_ (State.sameSlip_of_lanes (State.laneRaise_lanes ..))
    split
    · refine State.SameSlip.trans ?_ (State.updLane_sameSlip _ l fun _ => rfl)
      exact State.updLane_sameSlip (s.setLane l oState new) l fun _ => rfl
    · exact State.updLane_sameSlip (s.setLane l oState new) l fun _ => rfl

theorem State.toDetect_sameSlip : s.SameSlip (s.toDetect l) := by
  refine State.SameSlip.trans ?_ (State.laneGo_sameSlip _ l lnDetect)
  cases l with
  | camera i => exact s.updLane_sameSlip (.camera i) fun _ => rfl
  | trunk _ => exact fun _ => rfl
  | eth _ => exact fun _ => rfl

theorem State.trkSetL_lanes (n : Nat) : (s.trkSetL n).lanes = s.lanes := by
  simp only [State.trkSetL]
  split
  · rfl
  · exact State.raise_lanes ..

theorem State.trkGo_lanes (n : Nat) : (s.trkGo n).lanes = s.lanes := State.raise_lanes ..

theorem State.txRate_sameSlip (rate : Nat) : s.SameSlip (s.txRate rate) := by
  refine State.sameSlip_foldl (fun t i => ?_) _ s
  exact fun _ => rfl

theorem State.txLanesGo_sameSlip (st : Nat → Nat) : s.SameSlip (s.txLanesGo st) :=
  State.sameSlip_foldl (fun t i => t.laneGo_sameSlip (.trunk i) (st i)) _ s

/-- R340: a receiving lane restarts at a lower rate. -/
theorem State.restart_sameSlip (rate : Nat) :
    s.SameSlip (((s.setLane l oRateActive rate).updLane l fun x => { x with rated := true, req := none }).laneGo l lnDetect) := by
  refine State.SameSlip.trans ?_ (State.laneGo_sameSlip _ l lnDetect)
  exact State.updLane_sameSlip (s.setLane l oRateActive rate) l fun _ => rfl

theorem State.trkLowered_sameSlip (c : Nat) : s.SameSlip (s.trkLowered c) := by
  simp only [State.trkLowered]
  refine State.SameSlip.trans ?_ (State.sameSlip_of_lanes (State.trkGo_lanes _ trkTraining))
  have hfirst : s.SameSlip (((s.setObj Key.trkRateActive c).trkSetL 0).updTrk fun t =>
      { t with accepted := [], groups := none, training := [] }) := State.sameSlip_of_lanes (State.trkSetL_lanes _ 0)
  have hlanes := hfirst.trans ((State.txRate_sameSlip _ c).trans (State.txLanesGo_sameSlip _ fun _ => lnDetect))
  have height := hlanes.trans (State.restart_sameSlip _ (.trunk 8) c)
  split
  · exact height
  · exact height.trans (State.restart_sameSlip _ (.trunk 9) c)

end

theorem beAt_taps (result pre main post lane : Byte) :
    beAt [result, pre, main, post, lane] 1 3 = pre.toNat * 65536 + main.toNat * 256 + post.toNat := by
  simp [beAt, slice, beNat, leNat]
  omega

theorem State.SameSlip.steady {s t : State} {l : Lane} {x : Line} (hsteady : s.steady l x = true) (h : (s.heard l x).SameSlip t) :
    (t.lane l).slip = false := (h l).trans (State.slip_heard hsteady)

theorem State.updTrk_sameSlip (s : State) (f : Trunk → Trunk) : s.SameSlip (s.updTrk f) := State.sameSlip_of_lanes rfl

theorem State.startGen_sameSlip (s : State) (i : Nat) : s.SameSlip (s.startGen i) := State.sameSlip_of_lanes rfl

theorem State.setLane_sameSlip (s : State) (l : Lane) (a v : Nat) : s.SameSlip (s.setLane l a v) := State.sameSlip_of_lanes rfl

section
variable {s : State} {l : Lane} {x : Line}

theorem State.laneState_heard {n : Nat} (h : s.laneState l = n) : (s.heard l x).laneState l = n :=
  (s.laneNat_heard l x (by decide)).trans h

/-- R145: after the answer to a request, which another may follow, the lane is in the state that it was in. -/
theorem State.laneState_clearReq {n : Nat} (h : s.laneState l = n) : ((s.heard l x).clearReq l).laneState l = n :=
  ((State.clearReq_asked _ l).laneNat (by decide)).trans ((s.laneNat_heard l x (by decide)).trans h)

theorem State.testMode_clearReq {n : Nat} (h : s.laneNat l oTestMode = n) : ((s.heard l x).clearReq l).laneNat l oTestMode = n :=
  ((State.clearReq_asked _ l).laneNat (by decide)).trans ((s.laneNat_heard l x (by decide)).trans h)

theorem State.cycles_clearReq : ((s.heard l x).clearReq l).cycles = s.cycles := (State.clearReq_asked _ l).cycles.trans (s.cycles_heard l x)

theorem State.clearReq_sameSlip : (s.heard l x).SameSlip ((s.heard l x).clearReq l) := (State.clearReq_asked _ l).slip

/-- A row that acts on the answer to a request of one type. -/
theorem answered_of_true {type tag : Nat} (h : s.answers l type tag = true) (f : State → State) :
    (s.heard l x).whenever ((s.heard l x).answers l type tag) f = f (s.heard l x) :=
  State.whenever_of_true _ ((s.answers_heard l x type tag).trans h) f

end

/-- R144: the payload of an IDENTITY. -/
def identityPayload (vendor model version rates caps latency : Nat) : Bytes :=
  beBytes 2 vendor ++ beBytes 2 model ++ beBytes 2 version ++ [byteOf rates, byteOf caps] ++ beBytes 2 latency

theorem identityPayload_fields {vendor model version rates caps latency : Nat} (hvendor : vendor < 65536) (hmodel : model < 65536)
    (hversion : version < 65536) (hrates : rates < 256) (hcaps : caps < 256) (hlatency : latency < 65536) :
    beAt (identityPayload vendor model version rates caps latency) 0 8 =
        vendor * 2 ^ 48 + model * 2 ^ 32 + version * 65536 + rates * 256 + caps ∧
      beAt (identityPayload vendor model version rates caps latency) 8 2 = latency ∧
      beAt (identityPayload vendor model version rates caps latency) 6 1 = rates := by
  refine ⟨?_, ?_, ?_⟩ <;> simp [identityPayload, beAt, slice, beNat, leNat, beBytes, leBytes, byteOf_toNat] <;> omega

theorem rateAckRow_plain {l : Lane} {tag : Nat} {s : State} (h : s.trk.lowering = none) : rateAckRow l tag s = rateAck l tag s := by
  unfold rateAckRow
  split
  · next hsome =>
    rw [h] at hsome
    cases hsome
  · rfl

/-- Settles O12: each message is taken, answers the request of its TAG, and has the effect of its TYPE. -/
theorem laneAnswersAct : Obligations.LaneAnswersAct := by
  refine ⟨?tapStatus, ?identity, ?rateAck, ?lowered, ?loopAck, ?loopGen, ?prbsAck⟩
  case tapStatus =>
    rintro s h l x pos tag result pre main post lane hhere htag hx hsteady rfl hanswers hstate hgoal
    refine messageRow_next hhere hstate hx hsteady (by decide) htag rfl ?_ ?_
    · rw [← beAt_taps result pre main post lane]
      have hstate' (v : Nat) : (((s.heard l x).clearReq l).setLane l oTaps v).laneState l = lnTrain :=
        (State.laneNat_setLane_other _ l (by decide) v).trans (State.laneState_clearReq hstate)
      have hhome (v : Nat) : (((s.heard l x).clearReq l).setLane l oTaps v).stepHome l = none := by
        rw [State.stepHome, State.setLane_lane, (State.clearReq_asked _ l).goal l, s.goal_heard l x, hgoal, Option.bind_none]
      refine (answered_of_true hanswers _).trans ?_
      simp only [hstate', hhome, if_true, Option.isSome_none, Bool.false_and, Bool.false_eq_true, if_false, State.setLane_cycles,
        State.cycles_clearReq]
    · refine State.SameSlip.steady hsteady (State.SameSlip.trans ?_ (State.updLane_sameSlip _ l fun _ => rfl))
      exact State.clearReq_sameSlip.trans (State.setLane_sameSlip _ l _ _)
  case identity =>
    rintro s h u l x pos tag vendor model version rates caps latency hhere htag hvendor hmodel hversion hrates hcaps hlatency hx
      hsteady rfl hanswers hstate rfl
    obtain ⟨fpartner, flatency, frates⟩ := identityPayload_fields hvendor hmodel hversion hrates hcaps hlatency
    refine messageRow_next (p := identityPayload vendor model version rates caps latency) hhere hstate hx hsteady (by decide) htag
      rfl ?_ ?_
    · refine (answered_of_true hanswers _).trans ?_
      simp only [fpartner, flatency, frates]
      refine if_pos ?_
      rw [State.updLane_laneState]
      exact (State.laneNat_setLane_other _ l (by decide) _).trans (State.laneState_clearReq hstate)
    · refine State.SameSlip.steady hsteady (State.SameSlip.trans ?_ (State.laneRequest_asked _ l _ _).slip)
      refine State.SameSlip.trans ?_ (State.updLane_sameSlip _ l fun _ => rfl)
      exact State.clearReq_sameSlip.trans (State.setLane_sameSlip _ l _ _)
  case rateAck =>
    rintro s h l x pos tag code hhere htag hx hsteady rfl hanswers hlowering hstate
    refine messageRow_next hhere rfl hx hsteady (by decide) htag rfl ?_ ?_
    · refine (rateAckRow_plain (by rw [s.trk_heard l x, hlowering])).trans ((answered_of_true hanswers _).trans ?_)
      simp only [s.asked_heard l x]
      refine if_pos ?_
      rwa [State.laneState_clearReq rfl]
    · refine State.SameSlip.steady hsteady (State.SameSlip.trans ?_ (State.toDetect_sameSlip _ l))
      refine State.SameSlip.trans ?_ (State.updLane_sameSlip _ l fun _ => rfl)
      exact State.clearReq_sameSlip.trans (State.setLane_sameSlip _ l _ _)
  case lowered =>
    rintro s h x pos tag c code hhere htag hx hsteady rfl hanswers hlowering
    refine messageRow_next hhere rfl hx hsteady (by decide) htag rfl ?_ ?_
    · have hlower : (s.heard (.trunk 8) x).trk.lowering = some c := by rw [s.trk_heard, hlowering]
      unfold rateAckRow
      rw [hlower]
      exact if_pos ((s.answers_heard _ x 7 tag).trans hanswers)
    · refine State.SameSlip.steady hsteady (State.SameSlip.trans ?_ (State.trkLowered_sameSlip _ c))
      exact State.clearReq_sameSlip.trans (State.updTrk_sameSlip _ _)
  case loopAck =>
    rintro s h l x pos tag on hhere htag hx hsteady rfl hanswers hmode
    refine messageRow_next hhere rfl hx hsteady (by decide) htag rfl ?_ ?_
    · refine (answered_of_true hanswers _).trans ?_
      simp only [s.asked_heard l x]
      cases l with
      | camera i =>
        refine if_neg fun h => hmode ?_
        have hmode' := of_decide_eq_true (Bool.and_eq_true_iff.mp h).2
        rw [State.updLane_laneNat] at hmode'
        exact (State.testMode_clearReq rfl).symm.trans hmode'
      | trunk _ => rfl
      | eth _ => rfl
    · refine State.SameSlip.steady hsteady (State.SameSlip.trans State.clearReq_sameSlip ?_)
      exact State.updLane_sameSlip _ l fun _ => rfl
  case loopGen =>
    rintro s h i x pos tag on hport htag hx hsteady rfl hanswers hmode hasked
    refine messageRow_next (by simp [State.cendoHere, lanePresent, hport, isCendo, receives, isEth]) rfl hx hsteady (by decide) htag rfl
      ?_ ?_
    · refine (answered_of_true hanswers _).trans ?_
      simp only [s.asked_heard, hasked, decide_true]
      refine if_pos (decide_eq_true ?_)
      rw [State.updLane_laneNat]
      exact State.testMode_clearReq hmode
    · refine State.SameSlip.steady hsteady (State.SameSlip.trans ?_ (State.startGen_sameSlip _ i))
      refine State.SameSlip.trans State.clearReq_sameSlip ?_
      exact State.updLane_sameSlip _ (.camera i) fun _ => rfl
  case prbsAck =>
    rintro s h l x pos tag pattern d1 d0 hhere htag hx hsteady rfl hanswers hstate
    refine messageRow_next hhere hstate hx hsteady (by decide) htag rfl ?_ ?_
    · refine (answered_of_true hanswers _).trans ?_
      simp only [s.asked_heard l x, State.laneState_heard hstate, if_true, s.cycles_heard l x]
    · refine State.SameSlip.steady hsteady (State.SameSlip.trans State.clearReq_sameSlip ?_)
      exact State.updLane_sameSlip _ l fun _ => rfl

/-- A trunk that is UP and has asked for a lower rate: the request has got no answer, and was sent again three times. -/
def loweringState : State :=
  { State.reset with
    cycles := msCycles 2
    dict := [(laneKey oState (.trunk 8), lnActive)]
    lanes := [(laneId (.trunk 8), { req := some ⟨7, 0, [0], 3, 0⟩ })]
    trk := { State.reset.trk with lowering := some 0 } }

theorem lowering_messageResponseTimeout : (messageResponseTimeout (.trunk 8) 0 loweringState).trk.lowering = none := by decide +kernel

theorem lowering_requestFailed :
    ((requestFailed (.trunk 8) 7 loweringState).laneFollow (.trunk 8) (loweringState.laneState (.trunk 8))).trk.lowering = some 0 := by
  decide +kernel

theorem execMessageResponseTimeout_here {s : State} {l : Lane} (h : s.cendoHere l = true) (tag : Nat) :
    exec (.messageResponseTimeout l tag) s = .next (messageResponseTimeout l tag s) := onUnit_of_present h _

/-- Refutes O13: where the request that fails is the trunk's own for a lower rate, the lowering ends with it. -/
theorem not_laneRequestsEnd : ¬ Obligations.LaneRequestsEnd := by
  rintro ⟨-, -, hfails, -⟩
  have hexec := hfails loweringState (.trunk 8) 0 ⟨7, 0, [0], 3, 0⟩ rfl rfl rfl rfl (by decide) (by decide) (by decide +kernel)
    fun i hi => by cases hi
  rw [execMessageResponseTimeout_here rfl] at hexec
  have hlowering := congrArg (fun t : State => t.trk.lowering) (Host.Outcome.next.inj hexec)
  simp only [lowering_messageResponseTimeout, lowering_requestFailed] at hlowering
  cases hlowering

end Sys2Proof.Machine
end

section
/-! PROOF. O14 and O15: training, verification, the watch over the eye, and the tests of a lane (R149 to R164). -/
namespace Sys2Proof.Machine

theorem Part.ports_le (p : Part) : p.ports ≤ 48 := by cases p <;> decide

/-- R166: the entries of a present lane are none of those that all lanes share. -/
theorem laneKey_ne_shared {p : Part} {l : Lane} (h : lanePresent p l = true) {a k : Nat} (ha : a < 0x80) (hlow : 0x308000 ≤ k)
    (hhigh : k < 0x310000) : k ≠ laneKey a l := by
  have hports := p.ports_le
  cases l with
  | camera i =>
    have hi : i < p.ports := of_decide_eq_true h
    simp only [laneKey]
    omega
  | trunk i => simp only [laneKey]; omega
  | eth i => simp only [laneKey]; omega

/-- R158: adapting changes the equaliser's setting, and nothing else that is not free. -/
theorem State.adapt_nat (s : State) (l : Lane) {k : Nat} (h : k ≠ laneKey oRxEq l) : (s.adapt l).nat k = s.nat k := by
  simp only [State.adapt]
  split
  · rfl
  · exact State.nat_setObj_other s.draw.2 h _

theorem State.adapt_lane (s : State) (l m : Lane) : (s.adapt l).lane m = s.lane m := by
  simp only [State.adapt]
  split <;> rfl

theorem State.updLane_congr (s : State) (l : Lane) {f g : LaneSt → LaneSt} (h : f (s.lane l) = g (s.lane l)) :
    s.updLane l f = s.updLane l g := by rw [State.updLane, h, State.updLane]

/-- R158, R159: the lane as it is once its eye has been measured. -/
def State.eyeSeen (s : State) (l : Lane) (h v density : Nat) : State :=
  ((s.updLane l fun x => { x with
    sparse := density < s.nat Key.laneTdFloor,
    frozen := x.frozen || (density < s.nat Key.laneTdFloor && lnAlign ≤ s.laneState l) }).setLane l oFom (fomOf h v)).adapt l

section
variable (s : State) (l : Lane) (h v density : Nat)

theorem State.eyeSeen_laneNat {a : Nat} (hfom : a ≠ oFom) (heq : a ≠ oRxEq) :
    (s.eyeSeen l h v density).laneNat l a = s.laneNat l a :=
  (State.adapt_nat _ l (laneKey_ne heq l)).trans (State.nat_setObj_other _ (laneKey_ne hfom l) _)

theorem State.eyeSeen_fom : (s.eyeSeen l h v density).laneNat l oFom = fomOf h v :=
  (State.adapt_nat _ l (laneKey_ne (by decide) l)).trans (State.nat_setObj_same ..)

theorem State.eyeSeen_floor (hhere : s.laneHere l = true) :
    (s.eyeSeen l h v density).nat Key.laneFomFloor = s.nat Key.laneFomFloor := by
  have hkey (a : Nat) (ha : a < 0x80) := laneKey_ne_shared (Bool.and_eq_true_iff.mp hhere).1 ha (k := Key.laneFomFloor) (by decide)
    (by decide)
  exact (State.adapt_nat _ l (hkey _ (by decide))).trans (State.nat_setObj_other _ (hkey _ (by decide)) _)

theorem State.eyeSeen_lane : ∃ sparse frozen, (s.eyeSeen l h v density).lane l = { s.lane l with sparse := sparse, frozen := frozen } := by
  rw [State.eyeSeen, State.adapt_lane, State.setLane_lane, State.lane_updLane_same]
  exact ⟨_, _, rfl⟩

end

/-- R156, R159, R452: what the device makes of a lane whose eye has been measured. -/
def State.judgeEye (u : State) (l : Lane) (f : Nat) : State :=
  let x := u.lane l
  let low := if f < u.nat Key.laneFomFloor ∧ u.laneState l = lnActive then x.low + 1 else 0
  let dipLow := if f < u.nat Key.laneFomFloor then x.dipLow + 1 else x.dipLow
  let w := u.updLane l fun x => { x with
    low := if low = 10 then 0 else low, dipEvals := x.dipEvals - 1, dipLow := if x.dipEvals ≤ 1 then 0 else dipLow }
  if (low = 10 ∨ (x.dipEvals = 1 ∧ dipLow = 10 ∧ u.laneUp l)) ∧ !isEth l ∧ (w.lane l).retrain.isNone then
    (w.laneRaise l 0x3005 1 [byteOf f]).requestRetrain l
  else w

theorem fomEvaluation_on {s : State} {l : Lane} (hon : s.receiverOn l = true) (h v density : Nat) :
    fomEvaluation l h v density s = (s.eyeSeen l h v density).judgeEye l (fomOf h v) := s.whenever_of_true hon _

section
variable {u : State} {l : Lane} {f : Nat}

theorem State.judgeEye_good (hfloor : u.nat Key.laneFomFloor ≤ f) (hdip : (u.lane l).dipEvals ≠ 1) :
    u.judgeEye l f = u.updLane l fun x => { x with
      low := 0, dipEvals := x.dipEvals - 1, dipLow := if x.dipEvals ≤ 1 then 0 else x.dipLow } := by
  simp only [State.judgeEye, Nat.not_lt.mpr hfloor, false_and, if_false, hdip, or_false]
  exact (if_neg fun ⟨h, _⟩ => absurd h (by decide)).trans (State.updLane_congr u l rfl)

theorem State.judgeEye_poor (hpoor : f < u.nat Key.laneFomFloor) (hactive : u.laneState l = lnActive) (hlow : (u.lane l).low = 9)
    (heth : isEth l = false) (hretrain : (u.lane l).retrain = none) : ∃ dipEvals dipLow, u.judgeEye l f =
      ((u.updLane l fun x => { x with low := 0, dipEvals := dipEvals, dipLow := dipLow }).laneRaise l 0x3005 1
        [byteOf f]).requestRetrain l := by
  refine ⟨(u.lane l).dipEvals - 1, if (u.lane l).dipEvals ≤ 1 then 0 else (u.lane l).dipLow + 1, ?_⟩
  simp only [State.judgeEye, hpoor, hactive, hlow, heth, true_and, if_true, true_or, Bool.not_false, State.lane_updLane_same, hretrain,
    Option.isNone_none]
  rw [State.updLane_congr u l]
  rfl

end

/-- Settles O14: each event's condition holds, so it has its effect. -/
theorem laneTrainingActs : Obligations.LaneTrainingActs := by
  refine ⟨?evaluation, ?budget, ?verify, ?good, ?poor, ?deferral, ?degraded⟩
  case evaluation =>
    intro s l h v t0 hhere hstate htaps hlong
    refine ⟨_, rfl, cendoRow_next (trainingEvaluation l h v) hhere hstate ?_⟩
    simp only [trainingEvaluation, htaps]
    exact if_pos ⟨hstate, hlong⟩
  case budget =>
    intro s l hhere hstate hlong
    exact (cendoRow_whenever (trainingBudgetExpiry l) hhere hstate rfl (by simp [hstate, hlong]) :)
  case verify =>
    rintro s u l errors h v hhere hstate hpattern hlong rfl herrors hfloor
    refine cendoRow_next (verifyEnd l errors h v) hhere hstate ?_
    simp only [verifyEnd]
    exact (s.whenever_of_true (by simp [hstate, hpattern, hlong]) _).trans (if_pos ⟨herrors, hfloor⟩)
  case good =>
    intro s l h v density hhere hon hfloor hdip
    obtain ⟨sparse, frozen, hlane⟩ := s.eyeSeen_lane l h v density
    exact laneRow_next (fomEvaluation l h v density) hhere rfl ((fomEvaluation_on hon h v density).trans
      (State.judgeEye_good (by rwa [s.eyeSeen_floor l h v density hhere]) (by rwa [hlane])))
  case poor =>
    intro s l h v density hhere hstate hpoor hlow hdip hretrain
    obtain ⟨hpresent, hcendo⟩ := Bool.and_eq_true_iff.mp hhere
    obtain ⟨hreceives, heth⟩ := Bool.and_eq_true_iff.mp hcendo
    have hlaneHere : s.laneHere l = true := Bool.and_eq_true_iff.mpr ⟨hpresent, hreceives⟩
    have hon : s.receiverOn l = true := by simp [State.receiverOn, hstate, lnActive, lnSeek]
    have hactive := (s.eyeSeen_laneNat l h v density (by decide) (by decide)).trans hstate
    obtain ⟨sparse, frozen, hlane⟩ := s.eyeSeen_lane l h v density
    obtain ⟨dipEvals, dipLow, hjudged⟩ := State.judgeEye_poor (by rwa [s.eyeSeen_floor l h v density hlaneHere]) hactive
      (by rw [hlane]; exact hlow) (by simpa using heth) (by rw [hlane]; exact hretrain)
    refine ⟨_, laneRow_next (fomEvaluation l h v density) hlaneHere hstate ((fomEvaluation_on hon h v density).trans hjudged), ?_, ?_⟩
    · rw [State.lane_updLane_same]
    · rw [State.updLane_laneNat, State.eyeSeen_fom]
  case deferral =>
    intro s l t0 hhere hretrain hup hlong
    refine cendoRow_next (retrainDeferralTimeout l) hhere rfl ?_
    simp only [retrainDeferralTimeout, hretrain]
    exact if_pos ⟨hup, hlong⟩
  case degraded =>
    intro s l hhere hstate hretry hlong
    exact (cendoRow_whenever (laneDegradedRetry l) hhere hstate (by delta laneDegradedRetry; rfl) (by simp [hstate, hretry, hlong]) :)

/-- Settles O15: each event's condition holds, so it has its effect. -/
theorem laneTestsAct : Obligations.LaneTestsAct := by
  refine ⟨?lock, ?lost, ?freeze, ?up, ?down⟩
  case lock =>
    intro s l bits hhere hlocked hpattern hlength hfollows
    exact (laneRow_whenever (prbsLock l bits) hhere rfl (by delta prbsLock; rfl) (by simp [hlocked, hpattern, hlength, hfollows]) :)
  case lost =>
    intro s l bits errors t0 window hhere hlocked hlength hmany
    exact (laneRow_whenever (prbsLockLost l bits errors window) hhere rfl rfl 
      (by simp only [hlocked, Option.isSome_some, decide_eq_true hlength, decide_eq_true hmany, Bool.and_self]) :)
  case freeze =>
    intro s l hhere hlow hhigh hlong
    exact (laneRow_whenever (laneIdleFreeze l) hhere rfl rfl (by simp [hlow, hhigh, hlong]) :)
  case up =>
    intro s port hnx hport hstate hmay
    refine (onUnit_of_present (by simp [hnx, hport]) _).trans (congrArg _ ?_)
    simp only [ethLaneStateChange, if_true]
    exact s.whenever_of_true (by simp [hstate, hmay]) _
  case down =>
    intro s port hnx hport hstate
    refine (onUnit_of_present (by simp [hnx, hport]) _).trans (congrArg _ ?_)
    simp only [ethLaneStateChange, Bool.false_eq_true, if_false]
    exact s.whenever_of_true (decide_eq_true hstate) _

end Sys2Proof.Machine
end

section
/-! PROOF. O17 and O18: the trunk (R145, R148, R333 to R343) and its beacons (R101 to R103). -/
namespace Sys2Proof.Machine

/-! What the trunk does to its receivers: none slips. -/

theorem State.SameSlip.refl (s : State) : s.SameSlip s := fun _ => rfl

theorem State.SameSlip.ite {s t u : State} {c : Prop} {_ : Decidable c} (a : s.SameSlip t) (b : s.SameSlip u) :
    s.SameSlip (if c then t else u) := by
  split
  · exact a
  · exact b

section
variable (s : State)

theorem State.sameSlip_setObj (k : Nat) (v : Int) : s.SameSlip (s.setObj k v) := State.sameSlip_of_lanes rfl
theorem State.sameSlip_bump (k : Nat) : s.SameSlip (s.bump k) := State.sameSlip_of_lanes rfl
theorem State.sameSlip_raise (c k : Nat) (path : String) (d : Bytes) : s.SameSlip (s.raise c k path d) :=
  State.sameSlip_of_lanes (State.raise_lanes ..)

theorem State.attemptsResume_sameSlip (l : Lane) : s.SameSlip (s.attemptsResume l) := s.updLane_sameSlip l fun _ => rfl
theorem State.backOff_sameSlip (l : Lane) : s.SameSlip (s.backOff l) := s.updLane_sameSlip l fun _ => rfl

theorem State.toSeek_sameSlip (l : Lane) : s.SameSlip (s.toSeek l) := by
  simp only [State.toSeek]
  refine State.SameSlip.trans (State.SameSlip.trans ?_ (State.SameSlip.ite (State.SameSlip.refl _)
    (State.SameSlip.ite (State.attemptsResume_sameSlip _ l) (State.backOff_sameSlip _ l)))) (State.laneGo_sameSlip _ l lnSeek)
  exact s.updLane_sameSlip l fun _ => rfl

theorem State.cutFlight_sameSlip : s.SameSlip s.cutFlight := by
  refine State.sameSlip_of_lanes ?_
  simp only [State.cutFlight]
  split
  · rfl
  · split <;> rfl

theorem State.trkGo_sameSlip (n : Nat) : s.SameSlip (s.trkGo n) := State.sameSlip_of_lanes (s.trkGo_lanes n)
theorem State.trkSetL_sameSlip (n : Nat) : s.SameSlip (s.trkSetL n) := State.sameSlip_of_lanes (s.trkSetL_lanes n)

theorem State.trkToDown_sameSlip (seek : Bool) : s.SameSlip (s.trkToDown seek) := by
  simp only [State.trkToDown]
  refine State.SameSlip.trans ?_ (State.SameSlip.ite (State.SameSlip.refl _) ?_)
  · exact State.SameSlip.ite ((s.toSeek_sameSlip (.trunk 8)).trans (State.toSeek_sameSlip _ (.trunk 9))) (State.SameSlip.refl s)
  · refine State.SameSlip.trans (State.SameSlip.trans ?_ (State.txLanesGo_sameSlip _ _)) (State.trkGo_sameSlip _ _)
    exact (State.cutFlight_sameSlip _).trans ((State.trkSetL_sameSlip _ 0).trans
      ((State.sameSlip_setObj _ _ _).trans (State.updTrk_sameSlip _ _)))

theorem State.noteWiden_sameSlip : s.SameSlip s.noteWiden := s.updTrk_sameSlip _
theorem State.noteL_sameSlip : s.SameSlip s.noteL := s.updTrk_sameSlip _
theorem State.trkResize_sameSlip : s.SameSlip s.trkResize := (s.trkGo_sameSlip _).trans (State.noteL_sameSlip _)

theorem State.lanesWithdrawn_sameSlip (l : List Nat) : s.SameSlip (s.lanesWithdrawn l) := by
  simp only [State.lanesWithdrawn]
  refine State.SameSlip.trans ?_ (State.SameSlip.ite (State.SameSlip.refl _) (State.SameSlip.ite (State.trkToDown_sameSlip _ true)
    (State.SameSlip.ite (State.trkResize_sameSlip _) (State.noteL_sameSlip _))))
  exact (State.SameSlip.ite s.cutFlight_sameSlip (State.SameSlip.refl s)).trans (State.noteWiden_sameSlip _)

theorem State.withdrawLanes_sameSlip (p : Nat → Bool) : s.SameSlip (s.withdrawLanes p) := by
  simp only [State.withdrawLanes]
  exact State.SameSlip.ite (State.SameSlip.refl s) ((State.updTrk_sameSlip _ _).trans (State.lanesWithdrawn_sameSlip _ _))

theorem State.txLaneGo_sameSlip (i st : Nat) : s.SameSlip (s.txLaneGo i st) :=
  State.SameSlip.ite (State.SameSlip.refl s) (s.laneGo_sameSlip (.trunk i) st)

theorem State.answerPartner_sameSlip (type tag lane answer : Nat) (p : Bytes) : s.SameSlip (s.answerPartner type tag lane answer p) :=
  (s.updTrk_sameSlip _).trans (State.sendMessage_asked _ (.trunk lane) answer tag p).slip

end

/-! The partner's requests. -/

theorem Part.txLanes_le (p : Part) : p.txLanes ≤ 8 := by cases p <;> decide

/-- The payload of a TAP_REQUEST (R144). -/
theorem tapPayload_fields {a b c : Nat} (ha : a < 256) (hb : b < 256) (hc : c < 256) :
    beAt [byteOf a, byteOf b, byteOf c] 0 1 = a ∧ beAt [byteOf a, byteOf b, byteOf c] 1 1 = b ∧
      beAt [byteOf a, byteOf b, byteOf c] 2 1 = c := by
  refine ⟨?_, ?_, ?_⟩ <;> simp [beAt, slice, beNat, leNat, byteOf_toNat] <;> omega

/-- R145: a request of the partner that repeats none is acted on. -/
theorem tapRequest_next {s t : State} {x : Line} {positive : Bool} {tag i command preset : Nat} (htag : tag < 256)
    (hi : i < s.part.txLanes) (hcommand : command < 256) (hpreset : preset < 256)
    (hx : x = messageLine (.trunk 8) positive 1 tag [byteOf command, byteOf preset, byteOf i]) (hsteady : s.steady (.trunk 8) x = true)
    (hfirst : s.trk.answered = none) (hact : tapAct i tag command preset (s.heard (.trunk 8) x) = t)
    (hslip : (s.heard (.trunk 8) x).SameSlip t) :
    exec (.tapRequest x) s = .next (t.trkFollow (s.laneState (.trunk 8))) := by
  have hlanes := s.part.txLanes_le
  obtain ⟨fcommand, fpreset, flane⟩ := tapPayload_fields hcommand hpreset (show i < 256 by omega)
  have hpart : (s.heard (.trunk 8) x).part = s.part := by
    obtain ⟨_, _, h⟩ := s.heard_eq (.trunk 8) x
    rw [h]
  have hanswered : (s.heard (.trunk 8) x).trk.answered = none := by rw [s.trk_heard, hfirst]
  refine (onUnit_of_present s.part.has_trkRx0 _).trans (congrArg (fun u : State => Host.Outcome.next (u.trkFollow _)) ?_)
  refine State.takeMessage_steady hx hsteady (by decide) htag (by simp) ?_ (State.SameSlip.steady hsteady hslip)
  rw [if_pos (by decide), partnerRequest, hanswered]
  simp only [partnerRequest.act, fcommand, fpreset, flane, hpart]
  rw [if_pos ⟨trivial, rfl, hi⟩, hact]

/-- R134: of the entries a line changes the count of its violations alone. -/
theorem State.nat_heard (s : State) (l : Lane) (x : Line) {k : Nat} (h : k ≠ laneKey oCodeErrors l) : (s.heard l x).nat k = s.nat k := by
  have hcounted : (s.counted l x).nat k = s.nat k := by
    rw [State.counted]
    split
    · rfl
    · exact s.nat_addTo_other h _ _
  rw [State.heard, State.startSeen, State.hear_eq, State.updLane_nat, State.updLane_nat, hcounted]

/-- R145, R148: the taps of a transmit lane are not what a line of TRK_RX0 changes. -/
theorem State.taps_heard (s : State) (x : Line) {i : Nat} (hi : i < s.part.txLanes) :
    (s.heard (.trunk 8) x).laneNat (.trunk i) oTaps = s.laneNat (.trunk i) oTaps := by
  refine s.nat_heard (.trunk 8) x ?_
  have hlanes := s.part.txLanes_le
  simp only [laneKey, oTaps, oCodeErrors]
  omega

theorem State.updTrk_congr (s : State) {f g : Trunk → Trunk} (h : f s.trk = g s.trk) : s.updTrk f = s.updTrk g := by
  rw [State.updTrk, h, State.updTrk]

theorem State.answerPartner_accepted (s : State) (type tag lane answer : Nat) (p : Bytes) :
    (s.answerPartner type tag lane answer p).trk.accepted = s.trk.accepted := by
  rw [State.answerPartner, State.sendMessage]
  split
  · split <;> rfl
  · rfl

/-! The trunk's own changes. -/

/-- R340: a receiver that stays up and aligned changes nothing of the trunk. -/
theorem State.trkFollow_up {s : State} {n : Nat} (hup : s.laneUp (.trunk 8) = true) (haligned : (s.lane (.trunk 8)).aligned = true)
    (hwas : s.laneState (.trunk 8) = n) : s.trkFollow n = s := by
  subst hwas
  have hstate : s.laneState (.trunk 8) = 5 ∨ s.laneState (.trunk 8) = 6 := 
    (Bool.or_eq_true_iff.mp hup).imp of_decide_eq_true of_decide_eq_true
  have htrain : s.laneState (.trunk 8) ≠ lnTrain := by rw [lnTrain]; omega
  have hseek : s.laneState (.trunk 8) ≠ lnSeek := by rw [lnSeek]; omega
  have halign : s.laneState (.trunk 8) ≠ lnAlign := by rw [lnAlign]; omega
  simp [State.trkFollow, State.rx0Lost, htrain, hseek, halign, haligned]

section
variable (s : State)

theorem State.nat_raise {k : Nat} (hcount : k ≠ Key.evtLostCount) (hsticky : k ≠ Key.evtLostSticky) (c cls : Nat) (path : String)
    (d : Bytes) : (s.raise c cls path d).nat k = s.nat k := s.raiseAt_nat c cls 0 path d hcount hsticky

theorem State.trkState_updTrk (f : Trunk → Trunk) : (s.updTrk f).trkState = s.trkState := rfl
theorem State.trkState_noteWiden : s.noteWiden.trkState = s.trkState := rfl

theorem State.trkState_trkGo (n : Nat) : (s.trkGo n).trkState = n :=
  (State.nat_raise _ (by decide) (by decide) _ _ _ _).trans (s.nat_setObj_same _ _)

theorem State.trkState_trkSetL (n : Nat) : (s.trkSetL n).trkState = s.trkState := by
  simp only [State.trkSetL]
  split
  · rfl
  · refine (State.nat_raise _ (by decide) (by decide) _ _ _ _).trans ((State.nat_addTo_other _ (by decide) _ _).trans ?_)
    exact s.nat_setObj_other (by decide) _

end

/-! Acceptance (R339). -/

section
variable (s : State)

theorem State.updTrk_trk (f : Trunk → Trunk) : (s.updTrk f).trk = f s.trk := rfl

theorem State.laneGo_trk (l : Lane) (n : Nat) : (s.laneGo l n).trk = s.trk := by
  simp only [State.laneGo]
  split
  · rfl
  · rw [State.laneRaise_trk]
    split <;> rfl

theorem State.toSeek_trk (l : Lane) : (s.toSeek l).trk = s.trk := by
  simp only [State.toSeek]
  rw [State.laneGo_trk]
  split
  · rfl
  · split <;> rfl

theorem State.cutFlight_accepted : s.cutFlight.trk.accepted = s.trk.accepted := by
  simp only [State.cutFlight]
  split
  · rfl
  · split <;> rfl

theorem State.trkGo_accepted (n : Nat) : (s.trkGo n).trk.accepted = s.trk.accepted := by
  simp only [State.trkGo]
  rw [State.raise_trk]
  rfl

theorem State.foldl_trk {β : Type} {f : State → β → State} (h : ∀ (s : State) b, (f s b).trk = s.trk) (l : List β) (s : State) :
    (l.foldl f s).trk = s.trk := by
  induction l generalizing s with
  | nil => rfl
  | cons b r ih => exact (ih _).trans (h s b)

theorem State.txLanesGo_trk (st : Nat → Nat) : (s.txLanesGo st).trk = s.trk :=
  State.foldl_trk (fun t i => t.laneGo_trk (.trunk i) (st i)) _ s

theorem State.txRate_trk (rate : Nat) : (s.txRate rate).trk = s.trk := by
  refine State.foldl_trk (fun t i => ?_) _ s
  rfl

theorem State.txLaneGo_trk (i st : Nat) : (s.txLaneGo i st).trk = s.trk := by
  rw [State.txLaneGo]
  split
  · rfl
  · exact s.laneGo_trk _ _

variable {s}

/-- No lane is accepted. -/
def State.NoneAccepted (s : State) : Prop := s.trk.accepted = []

theorem State.NoneAccepted.ite {t u : State} {c : Prop} {_ : Decidable c} (a : t.NoneAccepted) (b : u.NoneAccepted) :
    (if c then t else u).NoneAccepted := by
  split
  · exact a
  · exact b

theorem State.trkGo_noneAccepted (h : s.NoneAccepted) (n : Nat) : (s.trkGo n).NoneAccepted := (s.trkGo_accepted n).trans h

theorem State.trkToDown_noneAccepted (h : s.NoneAccepted) (seek : Bool) : (s.trkToDown seek).NoneAccepted := by
  have hseek : ((s.toSeek (.trunk 8)).toSeek (.trunk 9)).NoneAccepted := by
    rw [State.NoneAccepted, State.toSeek_trk, State.toSeek_trk]
    exact h
  refine State.NoneAccepted.ite (State.NoneAccepted.ite hseek h) (State.trkGo_noneAccepted ?_ trkDown)
  rw [State.NoneAccepted, State.txLanesGo_trk, State.updTrk_trk]

theorem State.lanesWithdrawn_noneAccepted (h : s.NoneAccepted) (l : List Nat) : (s.lanesWithdrawn l).NoneAccepted := by
  simp only [State.lanesWithdrawn]
  have hwiden {t : State} (ht : t.NoneAccepted) : t.noteWiden.NoneAccepted := ht
  refine State.NoneAccepted.ite (hwiden ?first) (State.NoneAccepted.ite (State.trkToDown_noneAccepted (hwiden ?first) true)
    (State.NoneAccepted.ite (State.trkGo_noneAccepted (hwiden ?first) _) (hwiden ?first)))
  case first => exact State.NoneAccepted.ite (s.cutFlight_accepted.trans h) h

theorem State.withdrawLanes_noneAccepted : (s.withdrawLanes fun _ => true).NoneAccepted := by
  simp only [State.withdrawLanes]
  split
  · next hnone => simpa [State.NoneAccepted] using hnone
  · refine State.lanesWithdrawn_noneAccepted ?_ _
    simp [State.NoneAccepted, State.updTrk_trk]

theorem State.trkToTraining_noneAccepted (h : s.NoneAccepted) : s.trkToTraining.NoneAccepted := by
  refine State.trkGo_noneAccepted ?_ trkTraining
  rw [State.NoneAccepted, State.txLanesGo_trk, State.txRate_trk]
  exact h

theorem State.trkFollow_noneAccepted (h : s.NoneAccepted) (n : Nat) : (s.trkFollow n).NoneAccepted :=
  State.NoneAccepted.ite (State.NoneAccepted.ite (State.trkToTraining_noneAccepted h) h)
    (State.NoneAccepted.ite (State.trkToDown_noneAccepted h false) h)

end

/-! The characters of the return lanes (R333 to R335). -/

theorem rxAll_group {pos : Bool} (b : Bytes) {x : Line} (hx : x = lineOf pos (Chr.k k285 :: b.map Chr.d)) :
    rxAll x.positive x.codes = cleanRx (Chr.k k285 :: b.map Chr.d) := by
  have hline := rxAll_line (start := k285) (stop := none) (b := b) (positive := pos) (x := x) (by decide) (fun _ h => absurd h (by simp))
    (by rw [hx, stopSymbol, Option.map_none, Option.toList_none, List.append_nil])
  rwa [stopSymbol, Option.map_none, Option.toList_none, List.append_nil] at hline

theorem length_codes {x : Line} {l : List Rx} (h : rxAll x.positive x.codes = l) : x.codes.length = l.length := by
  rw [← h, length_rxAll]

theorem unstripe_one (l : List Rx) : ∀ n, l.length ≤ n → unstripe n [l] = l.map fun r => [r] := by
  induction l with
  | nil =>
    intro n _
    cases n <;> rfl
  | cons r l ih =>
    intro n hn
    obtain ⟨m, rfl⟩ : ∃ m, n = m + 1 := ⟨n - 1, by rw [List.length_cons] at hn; omega⟩
    have hrest := ih m (by simpa using hn)
    simpa [unstripe] using hrest

theorem firstComma_group (b : Bytes) : firstComma (cleanRx (Chr.k k285 :: b.map Chr.d)) = some 0 := by
  rw [firstComma, cleanRx, List.map_cons, List.findIdx?_cons]
  rfl

/-- R335: one return lane gives columns of one character. -/
theorem columnsOf_one {pos : Bool} {b : Bytes} {x : Line} (hx : x = lineOf pos (Chr.k k285 :: b.map Chr.d)) :
    columnsOf [x] = some ((cleanRx (Chr.k k285 :: b.map Chr.d)).map fun r => [r]) := by
  have hline := rxAll_group b hx
  have hlength := length_codes hline
  have hdeskew : deskew [cleanRx (Chr.k k285 :: b.map Chr.d)] = some [cleanRx (Chr.k k285 :: b.map Chr.d)] := by
    simp [deskew, firstComma_group]
  simp only [columnsOf, List.map_singleton, hline, hdeskew, Option.map_some]
  congr 1
  refine unstripe_one _ _ ?_
  simp [hlength]

/-- R335: two return lanes whose groups begin together. -/
theorem besideRx0_two {pos pos' : Bool} {b b' : Bytes} {x y : Line} (hx : x = lineOf pos (Chr.k k285 :: b.map Chr.d))
    (hy : y = lineOf pos' (Chr.k k285 :: b'.map Chr.d)) : besideRx0 [x, y] = true := by
  have hlineX := rxAll_group b hx
  have hlineY := rxAll_group b' hy
  obtain ⟨n, hn⟩ : ∃ n, max x.codes.length y.codes.length = n + 1 :=
    ⟨max x.codes.length y.codes.length - 1, by have := length_codes hlineX; simp [cleanRx] at this; omega⟩
  have hdeskew : deskew [cleanRx (Chr.k k285 :: b.map Chr.d), cleanRx (Chr.k k285 :: b'.map Chr.d)] =
      some [cleanRx (Chr.k k285 :: b.map Chr.d), cleanRx (Chr.k k285 :: b'.map Chr.d)] := by simp [deskew, firstComma_group]
  simp only [besideRx0, columnsOf, List.map_cons, List.map_nil, hlineX, hlineY, hdeskew, Option.map_some, List.foldl_cons, List.foldl_nil,
    Nat.zero_max, hn]
  rfl

theorem hasComma_group {pos : Bool} {b : Bytes} {x : Line} (hx : x = lineOf pos (Chr.k k285 :: b.map Chr.d)) :
    (rxAll x.positive x.codes).any (·.isK k285) = true := by
  rw [rxAll_group b hx]
  rfl

/-! Packets on the trunk (R324, R334). -/

theorem packetOf_data {q : Bytes} (hq : q ≠ []) (n : Nat) :
    packetOf (n + 1) ((cleanRx (q.map Chr.d)).map fun r => [r]) = cleanRx (q.map Chr.d) := by
  obtain ⟨c, r, rfl⟩ := List.exists_cons_of_ne_nil hq
  have htake : ((cleanRx ((c :: r).map Chr.d)).map fun r => [r]).takeWhile (fun c => !c.head?.any (·.isK k285)) =
      (cleanRx ((c :: r).map Chr.d)).map fun r => [r] := by
    rw [List.takeWhile_eq_self_iff]
    intro col hcol
    simp only [cleanRx, List.mem_map] at hcol
    obtain ⟨_, ⟨_, ⟨_, _, rfl⟩, rfl⟩, rfl⟩ := hcol
    rfl
  have hflat : ((cleanRx ((c :: r).map Chr.d)).map fun r => [r]).flatten = cleanRx ((c :: r).map Chr.d) := by
    rw [← List.flatMap_def, List.flatMap_singleton']
  rw [← htake] at hflat
  exact hflat

/-- R334: the packet behind one idle group. -/
theorem packetOf_group {idle q : Bytes} (hidle : idle.length = 7) (hq : q ≠ []) (n : Nat) :
    packetOf (n + 2) ((cleanRx (Chr.k k285 :: (idle ++ q).map Chr.d)).map fun r => [r]) = cleanRx (q.map Chr.d) := by
  have hdrop : ((cleanRx (Chr.k k285 :: (idle ++ q).map Chr.d)).map fun r => [r]).drop 8 = (cleanRx (q.map Chr.d)).map fun r => [r] := by
    simp [cleanRx, ← hidle]
  have hrest := packetOf_data hq n
  rw [← hdrop] at hrest
  exact hrest

/-- What a receiver makes of a packet that came without violations, by whether the device knows its TYPE (R338). -/
def packetRead (kind : Nat) (p : Bytes) : Except Nat (Nat × Bytes) := if knownType kind then .ok (kind, p) else .error kind

theorem packetIn_group {idle p : Bytes} {kind : Nat} (hidle : idle.length = 7) (hkind : kind < 256) (hp : p.length < 65536) :
    packetIn ((cleanRx (Chr.k k285 :: (idle ++ shortPacket kind p).map Chr.d)).map fun r => [r]) = packetRead kind p := by
  have hparts : shortPacket kind p = beBytes 1 kind ++ ([0] ++ (beBytes 2 p.length ++ (p ++
      beBytes 4 (crc32 ([byteOf kind, 0] ++ beBytes 2 p.length ++ p))))) := by
    simp [shortPacket, withCrc, beBytes, leBytes, byteOf]
  have hlength : beAt (shortPacket kind p) 2 2 = p.length := by
    rw [hparts, beAt_append_right (by simp), beAt_append_right (by simp)]
    exact beAt_front (n := 2) hp _
  have hpayload : slice (shortPacket kind p) 4 p.length = p := by
    rw [hparts, slice_append_right (by simp), slice_append_right (by simp), slice_append_right (by simp)]
    exact slice_front rfl _
  have hcrc : crcHolds (4 + p.length) (shortPacket kind p) = true := crcHolds_append (by simp; omega)
  have hhead : (shortPacket kind p).head? = some (byteOf kind) := rfl
  have hbytes : (cleanRx ((shortPacket kind p).map Chr.d)).map Rx.byte = (shortPacket kind p).map some := by simp [cleanRx, Rx.byte]
  have hgood : (cleanRx ((shortPacket kind p).map Chr.d)).any (·.bad) = false := by simp [cleanRx]
  have hsome : ((shortPacket kind p).map some).all Option.isSome = true := by simp
  have hbyte : ((((shortPacket kind p).map some).head?.bind id).map BitVec.toNat).getD 0xFF = kind := by
    rw [List.head?_map, hhead]
    simpa [byteOf_toNat] using Nat.mod_eq_of_lt hkind
  have hread : ((shortPacket kind p).map some).filterMap id = shortPacket kind p := by simp
  have hcount : ((cleanRx (Chr.k k285 :: (idle ++ shortPacket kind p).map Chr.d)).map fun r => [r]).length + 1 =
      (idle ++ shortPacket kind p).length + 2 := by simp [cleanRx]
  rw [packetIn, hcount, packetOf_group hidle (by rw [hparts]; simp [beBytes, leBytes])]
  simp only [hbytes, hgood, hsome, hbyte, hread, hlength, hpayload, hcrc]
  rfl

section
variable (s : State) (l : Lane) (x : Line)

theorem State.aligned_heard : ((s.heard l x).lane l).aligned = (s.lane l).aligned := by
  obtain ⟨_, _, _, _, h⟩ := s.lane_heard l x
  rw [h]

theorem State.aligned_hear : ((s.hear l x).lane l).aligned = (s.lane l).aligned := by
  rw [State.hear_eq, State.lane_updLane_same, State.lane_counted]

theorem State.raiseLimited_lanes (c k unit : Nat) (path : String) (d : Bytes) : (s.raiseLimited c k unit path d).lanes = s.lanes := by
  simp only [State.raiseLimited]
  split
  · exact State.raise_lanes ..
  · split
    · rfl
    · exact State.raise_lanes ..

theorem State.nat_raiseLimited {key : Nat} (hcount : key ≠ Key.evtLostCount) (hsticky : key ≠ Key.evtLostSticky) (c k unit : Nat)
    (path : String) (d : Bytes) : (s.raiseLimited c k unit path d).nat key = s.nat key := by
  simp only [State.raiseLimited]
  split
  · exact State.nat_raise _ hcount hsticky _ _ _ _
  · split
    · rfl
    · exact State.nat_raise _ hcount hsticky _ _ _ _

end

section
variable {s t : State} {x : Line} {pos : Bool} {idle p : Bytes} {kind : Nat} (hup : s.laneUp (.trunk 8) = true)
  (hidle : idle.length = 7) (hkind : kind < 256) (hp : p.length < 65536) (hx : x = trunkLine pos idle kind p)
  (hsteady : s.steady (.trunk 8) x = true) (hstate : t.laneState (.trunk 8) = s.laneState (.trunk 8))
include hup hidle hkind hp hx hsteady hstate

/-- R335, R338: a packet on TRK_RX0 that leaves its lane up has the effect that `f`, or its discard, has. -/
theorem State.onTrunk_packet {f : Nat → Bytes → State → State} (hslip : (t.lane (.trunk 8)).slip = false)
    (haligned : (t.lane (.trunk 8)).aligned = true)
    (hf : (match packetRead kind p with
      | .error k => (s.hear (.trunk 8) x).trunkErrored k
      | .ok (k, b) => f k b (s.heard (.trunk 8) x)) = t) : s.onTrunk [x] f = t := by
  have hupAfter : t.laneUp (.trunk 8) = true := by rw [State.laneUp, hstate]; exact hup
  have htake : (s.hear (.trunk 8) x).takePacket [x] f = t := by
    rw [State.takePacket, columnsOf_one hx]
    simp only [packetIn_group hidle hkind hp]
    exact hf
  have honline := State.onLine_steady (f := fun s => s.takePacket [x] f) hsteady htake hslip
  refine (s.whenever_of_true hup _).trans ((congrArg (fun u : State => u.trkFollow _) honline).trans ?_)
  exact State.trkFollow_up hupAfter haligned hstate

/-- R338: a packet of a TYPE that the device knows is counted and taken. -/
theorem State.onTrunkType_known {f : Bytes → State → State} (hlanes : t.lanes = (s.heard (.trunk 8) x).lanes)
    (hknown : knownType kind = true) (hf : f p ((s.heard (.trunk 8) x).addTo Key.trkRxPackets 64 1) = t) :
    s.onTrunkType [x] kind f = t := by
  have hlane : t.lane (.trunk 8) = (s.heard (.trunk 8) x).lane (.trunk 8) := by rw [State.lane, State.lane, hlanes]
  have haligned := (s.aligned_heard (.trunk 8) x).trans (State.steady_parts hsteady).1
  refine State.onTrunk_packet hup hidle hkind hp hx hsteady hstate (by rw [hlane, State.slip_heard hsteady]) (by rw [hlane, haligned]) ?_
  rw [packetRead, if_pos hknown]
  exact (if_pos rfl).trans hf

end

/-- R338: a packet that the receiver counts is none of what decides the state of its lane. -/
theorem State.laneState_counted {s : State} {x : Line} :
    ((s.heard (.trunk 8) x).addTo Key.trkRxPackets 64 1).laneState (.trunk 8) = s.laneState (.trunk 8) :=
  (State.nat_addTo_other _ (by decide) 64 1).trans (State.laneState_heard rfl)

theorem creditPayload_fields {limit buffer : Nat} (hlimit : limit < 2 ^ 32) (hbuffer : buffer < 2 ^ 32) :
    beAt (beBytes 4 limit ++ beBytes 4 buffer) 0 4 = limit ∧ beAt (beBytes 4 limit ++ beBytes 4 buffer) 4 4 = buffer := by
  refine ⟨beAt_front (n := 4) hlimit _, ?_⟩
  rw [beAt_append_right (by simp)]
  exact beAt_beBytes (n := 4) hbuffer

/-- Settles O17: the lines of TRK_RX0 are read as messages and packets, and the trunk's own changes have their conditions. -/
theorem trunkActs : Obligations.TrunkActs := by
  refine ⟨?tap, ?tapHeld, ?linkReset, ?up, ?lower, ?widen, ?resized, ?narrow, ?wide, ?credit, ?stalled, ?errored⟩
  case tap =>
    rintro s h x pos tag i command preset u r hhere htag hi hcommand hpreset hx hsteady rfl hfirst htaps hmore
    refine tapRequest_next htag hi hcommand hpreset hx hsteady hfirst ?_ ?_
    · rw [tapAct, s.taps_heard x hi, htaps]
      exact if_neg (by simp; omega)
    · exact ((State.setLane_sameSlip _ _ _ _).trans (State.answerPartner_sameSlip _ 1 tag i 0x81 _)).trans
        ((State.txLaneGo_sameSlip _ i lnTrain).trans (State.withdrawLanes_sameSlip _ _))
  case tapHeld =>
    rintro s h x pos tag i command u hhere htag hi hcommand hx hsteady rfl hfirst haccepted htaps
    refine tapRequest_next (preset := 0xFF) htag hi hcommand (by decide) hx hsteady hfirst ?_ ?_
    · rw [tapAct, s.taps_heard x hi, htaps]
      refine (if_pos rfl).trans (congrArg (fun v : State => ((v.txLaneGo i lnActive).noteWiden).noteL) (State.updTrk_congr _ ?_))
      rw [State.answerPartner_accepted, State.setLane_trk, s.trk_heard, haccepted]
      rfl
    · exact (((State.setLane_sameSlip _ _ _ _).trans (State.answerPartner_sameSlip _ 1 tag i 0x81 _)).trans
        (State.updTrk_sameSlip _ _)).trans ((State.txLaneGo_sameSlip _ i lnActive).trans
          ((State.noteWiden_sameSlip _).trans (State.noteL_sameSlip _)))
  case linkReset =>
    rintro s h x pos tag hhere htag hx hsteady rfl
    refine ⟨_, ?_, ?_, rfl⟩
    · refine (onUnit_of_present s.part.has_trkRx0 _).trans (congrArg (fun u : State => Host.Outcome.next (u.trkFollow _)) ?_)
      refine State.onMessage_steady hx hsteady (by decide) htag rfl ?_ (State.SameSlip.steady hsteady ?_)
      · obtain ⟨_, _, h⟩ := s.heard_eq (.trunk 8) x
        simp only [linkReset]
        rw [h]
      · exact (State.sameSlip_foldl (fun t i => t.txLaneGo_sameSlip i lnDetect) _ _).trans (State.withdrawLanes_sameSlip _ _)
    · exact State.trkFollow_noneAccepted State.withdrawLanes_noneAccepted _
  case up =>
    intro s hstate hlowering hgroups hlong hL hup hcredit
    refine congrArg Host.Outcome.next ?_
    simp only [trkTrainingDecision]
    refine (s.whenever_of_true (by simp [hstate, hlowering, hgroups, hlong]) _).trans ?_
    rw [if_pos (by simp [hL, hup]), if_pos hcredit]
  case lower =>
    intro s c hstate hlowering hgroups hlong hL hrate hmin
    refine congrArg Host.Outcome.next ?_
    simp only [trkTrainingDecision]
    refine (s.whenever_of_true (by simp [hstate, hlowering, hgroups, hlong]) _).trans ?_
    rw [if_neg (by simp; omega), if_pos (by omega), hrate]
    rfl
  case widen =>
    intro s t0 hsince hstate hlong
    refine congrArg Host.Outcome.next ?_
    simp only [trkWidenHold, hsince]
    refine (s.whenever_of_true (by simp [hstate, hlong]) _).trans ?_
    simp only [State.trkResize, State.noteL, State.trkState_trkGo, decide_true, Bool.true_or, if_true]
  case resized =>
    intro s hstate hgroups
    refine congrArg Host.Outcome.next ((s.whenever_of_true (by rw [hgroups]; rfl) _).trans (if_pos ?_))
    rw [State.trkState_noteWiden, State.trkState_updTrk, State.trkState_trkSetL, hstate]
  case stalled =>
    intro s t0 hwait hstalled hlong
    refine congrArg Host.Outcome.next ?_
    simp only [trkCreditTimeout, hwait]
    exact s.whenever_of_true (by simp [hstalled, hlong]) _
  case narrow =>
    intro s pos idle hhere haligned hidle
    refine (onUnit_of_present s.part.has_trkRx0 _).trans (congrArg Host.Outcome.next ?_)
    refine (s.whenever_of_true (by simp [haligned, hasComma_group rfl]) _).trans ?_
    have halone : besideRx0 [lineOf pos (Chr.k k285 :: idle.map Chr.d)] = false := by
      rw [besideRx0, columnsOf_one rfl]
      rfl
    rw [halone]
    rfl
  case wide =>
    intro s pos pos' idle idle' hhere haligned hidle hidle'
    refine (onUnit_of_present s.part.has_trkRx0 _).trans (congrArg Host.Outcome.next ?_)
    refine (s.whenever_of_true (by simp [haligned, hasComma_group rfl]) _).trans ?_
    rw [besideRx0_two rfl rfl]
    rfl
  case credit =>
    rintro s h x pos idle limit buffer hup hhere hidle hlimit hbuffer hx hsteady rfl hdown hlater
    refine (onUnit_of_present s.part.has_trkRx0 _).trans (congrArg Host.Outcome.next ?_)
    obtain ⟨flimit, fbuffer⟩ := creditPayload_fields hlimit hbuffer
    refine State.onTrunkType_known hup hidle (by decide) (by simp) hx hsteady ?_ ?_ (by decide) ?_
    · rw [State.updTrk_laneState]
      exact (State.nat_setObj_other _ (by decide) _).trans State.laneState_counted
    · simp
    · rw [flimit, fbuffer]
      have hstate : ((s.heard (.trunk 8) x).addTo Key.trkRxPackets 64 1).trkState = s.trkState :=
        (State.nat_addTo_other _ (by decide) 64 1).trans (s.nat_heard _ x (by decide))
      refine State.whenever_of_true _ ?_ _
      rw [hstate, State.addTo_trk, s.trk_heard]
      simp [hdown, hlater]
  case errored =>
    rintro s x pos idle kind p hup hhere hidle hkind hunknown hp hx hsteady
    refine (onUnit_of_present s.part.has_trkRx0 _).trans (congrArg Host.Outcome.next ?_)
    have hlanes : (((s.hear (.trunk 8) x).bump Key.trkRxErrored).raiseLimited 0x7104 1 0 "MX.TRK" [byteOf kind]).lane (.trunk 8) =
        (s.hear (.trunk 8) x).lane (.trunk 8) := by
      rw [State.lane, State.raiseLimited_lanes]
      rfl
    obtain ⟨haligned, hslip⟩ := State.steady_parts hsteady
    refine State.onTrunk_packet hup hidle hkind hp hx hsteady ?_ (by rw [hlanes, hslip]) (by rw [hlanes, State.aligned_hear, haligned]) ?_
    · refine (State.nat_raiseLimited _ (by decide) (by decide) _ _ _ _ _).trans ((State.nat_addTo_other _ (by decide) 32 1).trans ?_)
      exact s.laneNat_hear_other _ x (by decide)
    · rw [packetRead, hunknown]
      rfl

end Sys2Proof.Machine
end

section
/-! PROOF. O18: packet boundaries, the tunnel and the beacons of the trunk (R101 to R103, R337). -/
namespace Sys2Proof.Machine

/-! What a measurement of the time base leaves as it was. -/

/-- `t` is `s` but for the time base and the events: nothing that a lane knows changes, and no entry from chapter 05 on. -/
structure State.SameLanes (s t : State) : Prop where
  lanes : t.lanes = s.lanes
  nat : ∀ k, 0x300000 ≤ k → t.nat k = s.nat k

theorem State.SameLanes.refl (s : State) : s.SameLanes s := ⟨rfl, fun _ _ => rfl⟩

theorem State.SameLanes.trans {s t u : State} (a : s.SameLanes t) (b : t.SameLanes u) : s.SameLanes u :=
  ⟨b.lanes.trans a.lanes, fun k hk => (b.nat k hk).trans (a.nat k hk)⟩

theorem State.SameLanes.ite {s t u : State} {c : Prop} {_ : Decidable c} (a : s.SameLanes t) (b : s.SameLanes u) :
    s.SameLanes (if c then t else u) := by
  split
  · exact a
  · exact b

section
variable (s : State)

theorem State.setObj_sameLanes {k : Nat} (h : k < 0x300000) (v : Int) : s.SameLanes (s.setObj k v) :=
  ⟨rfl, fun _ hj => s.nat_setObj_other (by omega) v⟩

theorem State.bump_sameLanes {k : Nat} (h : k < 0x300000) : s.SameLanes (s.bump k) := s.setObj_sameLanes h _

theorem State.withTb_sameLanes (f : TimeBase → TimeBase) : s.SameLanes (s.withTb f) := ⟨rfl, fun _ _ => rfl⟩

theorem State.draw_sameLanes : s.SameLanes s.draw.2 := ⟨rfl, fun _ _ => rfl⟩

theorem State.raise_sameLanes (c k : Nat) (path : String) (d : Bytes) : s.SameLanes (s.raise c k path d) := by
  refine ⟨State.raise_lanes .., fun j hj => State.nat_raise _ (fun h => ?_) (fun h => ?_) _ _ _ _⟩
  · rw [h] at hj
    exact absurd hj (by decide)
  · rw [h] at hj
    exact absurd hj (by decide)

theorem State.closeSpan_sameLanes : s.SameLanes s.closeSpan := State.SameLanes.ite (s.withTb_sameLanes _) (State.SameLanes.refl s)

theorem State.setFreq_sameLanes (f : Int) : s.SameLanes (s.setFreq f) := s.setObj_sameLanes (by decide) _

theorem State.freezeMean_sameLanes : s.SameLanes s.freezeMean := by
  simp only [State.freezeMean]
  split
  · exact s.setFreq_sameLanes _
  · exact State.SameLanes.refl s

theorem State.noteFast_sameLanes : s.SameLanes s.noteFast := ⟨rfl, fun _ _ => rfl⟩

theorem State.tbApply_sameLanes : s.SameLanes s.tbApply := by
  refine State.SameLanes.trans ?_ (State.noteFast_sameLanes _)
  exact (s.withTb_sameLanes fun b => { b with rate := s.appliedRate }).trans (State.setObj_sameLanes _ (by decide) _)

theorem State.tbGo_sameLanes (new : Nat) : s.SameLanes (s.tbGo new) := by
  simp only [State.tbGo]
  refine State.SameLanes.ite (State.SameLanes.refl s) (State.SameLanes.trans (State.SameLanes.trans (State.SameLanes.trans ?_
    (State.setObj_sameLanes _ (by decide) _)) (State.tbApply_sameLanes _)) (State.raise_sameLanes _ _ _ _ _))
  refine s.closeSpan_sameLanes.trans (State.SameLanes.ite ((State.freezeMean_sameLanes _).trans (State.withTb_sameLanes _ _))
    (State.SameLanes.ite (State.withTb_sameLanes _ _) (State.SameLanes.ite (State.withTb_sameLanes _ _)
      (State.SameLanes.ite (State.withTb_sameLanes _ _) (State.withTb_sameLanes _ _)))))

theorem State.servoF_sameLanes : s.SameLanes s.servoF :=
  ((s.closeSpan_sameLanes.trans (State.draw_sameLanes _)).trans (State.setFreq_sameLanes _ _)).trans (State.tbApply_sameLanes _)

theorem State.servoP_sameLanes : s.SameLanes s.servoP :=
  (s.draw_sameLanes.trans (State.withTb_sameLanes _ _)).trans (State.tbApply_sameLanes _)

theorem State.startSlew_sameLanes (offset : Int) : s.SameLanes (s.startSlew offset) :=
  (s.withTb_sameLanes _).trans (State.tbApply_sameLanes _)

theorem State.decideReepoch_sameLanes (offset : Int) (first : Bool) : s.SameLanes (s.decideReepoch offset first) := by
  simp only [State.decideReepoch]
  refine State.SameLanes.ite ((s.raise_sameLanes 0x200C 2 "AX.TB" []).trans
    (State.SameLanes.ite (State.SameLanes.refl _) (State.startSlew_sameLanes _ offset))) ?_
  exact (s.withTb_sameLanes _).trans (State.tbApply_sameLanes _)

theorem State.actPolicy_sameLanes (offset : Int) : s.SameLanes (s.actPolicy offset) :=
  State.SameLanes.ite (s.startSlew_sameLanes offset) (State.SameLanes.ite (s.decideReepoch_sameLanes offset false)
    ((s.withTb_sameLanes _).trans (State.tbApply_sameLanes _)))

theorem State.suspect_sameLanes (offset f : Int) : s.SameLanes (s.suspect offset f) := s.withTb_sameLanes _

theorem State.stepDetected_sameLanes (offset : Int) : s.SameLanes (s.stepDetected offset) := by
  simp only [State.stepDetected]
  refine State.SameLanes.trans (State.SameLanes.trans (State.SameLanes.trans (State.SameLanes.trans (State.SameLanes.trans
    (State.SameLanes.trans ?_ (State.closeSpan_sameLanes _)) (State.setFreq_sameLanes _ _)) (State.tbApply_sameLanes _))
      (State.tbGo_sameLanes _ _)) (State.withTb_sameLanes _ _)) (State.actPolicy_sameLanes _ offset)
  exact (s.bump_sameLanes (by decide)).trans (State.raise_sameLanes _ _ _ _ _)

theorem State.suspected_sameLanes (offset : Int) : s.SameLanes ((s.bump Key.tbOutlierCount).suspect offset s.tbFreq) :=
  (s.bump_sameLanes (by decide)).trans (State.suspect_sameLanes _ _ _)

theorem State.lockedServo_sameLanes : s.SameLanes ((s.tbGo tbLocked).servoF).servoP :=
  ((s.tbGo_sameLanes tbLocked).trans (State.servoF_sameLanes _)).trans (State.servoP_sameLanes _)

theorem State.track_sameLanes (offset : Int) : s.SameLanes (s.track offset) := by
  simp only [State.track]
  refine State.SameLanes.ite ?_ ((s.withTb_sameLanes _).trans (State.lockedServo_sameLanes _))
  split
  · exact State.SameLanes.ite (s.stepDetected_sameLanes offset) (s.suspected_sameLanes offset)
  · exact s.suspected_sameLanes offset

theorem State.acquire_sameLanes (offset : Int) : s.SameLanes (s.acquire offset) := by
  simp only [State.acquire]
  refine s.servoF_sameLanes.trans (State.SameLanes.ite (State.SameLanes.refl _) ?_)
  refine (State.withTb_sameLanes _ _).trans (State.SameLanes.ite (State.SameLanes.ite (State.decideReepoch_sameLanes _ _ true) ?_)
    (State.SameLanes.refl _))
  exact ((State.tbGo_sameLanes _ tbLocked).trans (State.withTb_sameLanes _ _)).trans
    (State.SameLanes.ite (State.suspect_sameLanes _ _ _) (State.SameLanes.refl _))

theorem State.discontMeasure_sameLanes (offset : Int) : s.SameLanes (s.discontMeasure offset) :=
  State.SameLanes.ite (State.SameLanes.refl s) (State.SameLanes.ite (s.startSlew_sameLanes offset) (State.SameLanes.ite
    (State.SameLanes.ite (s.lockedServo_sameLanes) (s.servoF_sameLanes.trans (State.servoP_sameLanes _))) (State.SameLanes.refl s)))

theorem State.measure_sameLanes (offset : Int) (interval : Nat) : s.SameLanes (s.measure offset interval) := by
  simp only [State.measure]
  refine State.SameLanes.trans ?_ (State.SameLanes.ite (State.SameLanes.refl _) (State.SameLanes.ite
    (((State.tbGo_sameLanes _ _).trans (State.withTb_sameLanes _ _)).trans (State.servoF_sameLanes _))
    (State.SameLanes.ite (State.acquire_sameLanes _ _) (State.SameLanes.ite (State.track_sameLanes _ _)
      (State.SameLanes.ite (State.SameLanes.ite (State.SameLanes.refl _) (State.track_sameLanes _ _))
        (State.discontMeasure_sameLanes _ _))))))
  exact ((s.withTb_sameLanes _).trans (State.setObj_sameLanes _ (by decide) _)).trans (State.withTb_sameLanes _ _)

end

/-! Packet boundaries (R337). -/

theorem trkPacketBoundary_up {s : State} (hstate : s.trkState = trkUp) (hL : 2 ≤ s.trkL) (htraining : s.trk.training = [])
    (hgroups : s.trk.groups = none) : trkPacketBoundary s = (s.updTrk fun t => { t with inFlight := none }).sendNext := by
  simp only [trkPacketBoundary]
  generalize hu : (s.updTrk fun t => { t with inFlight := none }) = u
  have hup : u.trkState = trkUp := by rw [← hu, State.trkState_updTrk, hstate]
  have hlanes : 2 ≤ u.trkL := by rw [← hu]; exact hL
  have hnone : u.trk.training = [] ∧ u.trk.groups = none := by rw [← hu]; exact ⟨htraining, hgroups⟩
  have hcount : trkLaneCountChange u = u := by
    simp only [trkLaneCountChange, hnone.2]
    rfl
  refine (u.whenever_of_true (by rw [hup]; rfl) _).trans ?_
  simp only [hnone.1, hnone.2, hcount]
  exact (if_neg (by decide)).trans (u.whenever_of_true (by simp [hup, hlanes]) _)

/-- R336, R337: the next media packet leaves where no beacon and no tunnel packet waits, and LIMIT allows it. -/
theorem State.sendNext_media {u : State} {p : Packet} {r : List Packet} (hbeacon : u.tb.beaconQueued = false)
    (htunnel : u.trk.tunnel = []) (hmedia : u.mrg.trunk = p :: r) (hcredit : u.creditFor (creditCost p.chars.length) = true) :
    u.sendNext = ((({ u with mrg := { u.mrg with trunk := r } } : State).updTrk fun t => { t with
      waitSince := none, stalled := false, units := (t.units + creditCost p.chars.length) % 2 ^ 32 }).addTo
        Key.trkPacketsSent 64 1).sendPacket p.chars := by
  rw [State.sendNext, if_neg (by simp [hbeacon]), htunnel]
  simp only [State.sendMedia, hmedia]
  exact if_pos hcredit

/-! Beacons (R101 to R103). -/

/-- R101: the payload of a beacon. -/
def beaconPayload (epoch t1 state bseq echoSeq turn : Nat) : Bytes :=
  beBytes 2 epoch ++ beBytes 12 (toTime96 t1) ++ [byteOf state, 0] ++ beBytes 4 bseq ++ beBytes 4 echoSeq ++ beBytes 8 turn

theorem beaconPayload_fields {epoch t1 state bseq echoSeq turn : Nat} (ht1 : t1 < 2 ^ 48 * secUnits) (hbseq : bseq < 2 ^ 32)
    (hecho : echoSeq < 2 ^ 32) (hturn : turn < 2 ^ 64) :
    ofTime96 (beAt (beaconPayload epoch t1 state bseq echoSeq turn) 2 12) = t1 ∧
      beAt (beaconPayload epoch t1 state bseq echoSeq turn) 16 4 = bseq ∧
      beAt (beaconPayload epoch t1 state bseq echoSeq turn) 20 4 = echoSeq ∧
      beAt (beaconPayload epoch t1 state bseq echoSeq turn) 24 8 = turn := by
  have hparts : beaconPayload epoch t1 state bseq echoSeq turn = beBytes 2 epoch ++ (beBytes 12 (toTime96 t1) ++
      ([byteOf state, 0] ++ (beBytes 4 bseq ++ (beBytes 4 echoSeq ++ (beBytes 8 turn ++ []))))) := by simp [beaconPayload]
  have htime : toTime96 t1 < 256 ^ 12 := by
    simp only [toTime96, secUnits] at ht1 ⊢
    omega
  rw [hparts]
  refine ⟨?_, ?_, ?_, ?_⟩
  · rw [beAt_append_right (by simp), length_beBytes, beAt_front htime, ofTime96_toTime96]
  · rw [beAt_append_right (by simp), beAt_append_right (by simp), beAt_append_right (by simp)]
    exact beAt_front (n := 4) hbseq _
  · rw [beAt_append_right (by simp), beAt_append_right (by simp), beAt_append_right (by simp), beAt_append_right (by simp)]
    exact beAt_front (n := 4) hecho _
  · rw [beAt_append_right (by simp), beAt_append_right (by simp), beAt_append_right (by simp), beAt_append_right (by simp),
      beAt_append_right (by simp)]
    exact beAt_front (n := 8) hturn _

/-- R102: a beacon that echoes none of those sent makes the delay invalid. -/
theorem State.takeBeacon_unknown {s : State} {t1 bseq echoSeq turn c : Nat} {i : Instant}
    (hfind : s.tb.beaconsSent.find? (fun e => e.1 = echoSeq) = none) (hi : s.instant = i) (hc : s.cycles = c) :
    s.takeBeacon t1 bseq echoSeq turn =
      (s.withTb fun b => { b with beaconLast := some (bseq, i), beaconAt := c }).setFlag Key.tbBeaconValid false := by
  subst hi hc
  simp only [State.takeBeacon]
  rw [show (s.withTb _).tb.beaconsSent.find? _ = none from hfind]

/-- R102, R103: one that echoes the last gives the delay, and the source in use its offset. -/
theorem State.takeBeacon_echoed {s : State} {t1 bseq echoSeq turn : Nat} {own : Instant} {r : List (Nat × Instant)}
    (hsent : s.tb.beaconsSent = (echoSeq, own) :: r) (hsource : s.tbSource = 3) :
    s.takeBeacon t1 bseq echoSeq turn =
      let d := rshift (s.instant.t - s.inEpoch own - turn) 1 + tenthsToUnits (s.obj Key.tbBeaconTrim)
      (((s.withTb fun b => { b with beaconLast := some (bseq, s.instant), beaconAt := s.cycles }).setFlag Key.tbBeaconValid
        true).setObj Key.tbBeaconDelay d).measure (s.instant.t - (t1 + d)) (msCycles 1) := by
  have hfind : s.tb.beaconsSent.find? (fun e => e.1 = echoSeq) = some (echoSeq, own) := by simp [hsent]
  simp only [State.takeBeacon]
  rw [show (s.withTb _).tb.beaconsSent.find? _ = some (echoSeq, own) from hfind]
  refine if_pos ?_
  refine (State.nat_setObj_other _ (by decide) _).trans ((State.nat_setObj_other _ (by decide) _).trans ?_)
  exact hsource

/-! What a line leaves of the clock and the dictionary. -/

section
variable (s : State) (x : Line)

/-- A packet that the receiver has counted. -/
def State.packetHeard : State := (s.heard (.trunk 8) x).addTo Key.trkRxPackets 64 1

theorem State.obj_packetHeard {k : Nat} (hcode : k ≠ laneKey oCodeErrors (.trunk 8)) (hcount : k ≠ Key.trkRxPackets) :
    (s.packetHeard x).obj k = s.obj k := by
  have hcounted : (s.counted (.trunk 8) x).obj k = s.obj k := by
    rw [State.counted]
    split
    · rfl
    · exact s.obj_addTo_other hcode _ _
  rw [State.packetHeard, State.obj_addTo_other _ hcount, State.heard, State.startSeen, State.hear_eq, State.updLane_obj, State.updLane_obj,
    hcounted]

theorem State.nat_packetHeard {k : Nat} (hcode : k ≠ laneKey oCodeErrors (.trunk 8)) (hcount : k ≠ Key.trkRxPackets) :
    (s.packetHeard x).nat k = s.nat k := by rw [State.nat, State.nat, s.obj_packetHeard x hcode hcount]

theorem State.packetHeard_eq : ∃ d m, s.packetHeard x = { s with dict := d, lanes := m } := by
  obtain ⟨_, _, h⟩ := s.heard_eq (.trunk 8) x
  rw [State.packetHeard, h]
  exact ⟨_, _, rfl⟩

theorem State.epoch_packetHeard : (s.packetHeard x).epoch = s.epoch := s.nat_packetHeard x (by decide) (by decide)

theorem State.now_packetHeard : (s.packetHeard x).now = s.now := by
  obtain ⟨_, _, h⟩ := s.packetHeard_eq x
  rw [h, State.now, State.now]

theorem State.instant_packetHeard : (s.packetHeard x).instant = s.instant := by
  rw [State.instant, State.instant, s.epoch_packetHeard x, s.now_packetHeard x]

theorem State.inEpoch_packetHeard (i : Instant) : (s.packetHeard x).inEpoch i = s.inEpoch i := by
  rw [State.inEpoch, State.inEpoch, s.epoch_packetHeard x, s.nat_packetHeard x (k := Key.tbSeamNewTime) (by decide) (by decide),
    s.nat_packetHeard x (k := Key.tbSeamOldTime) (by decide) (by decide)]

theorem State.cycles_packetHeard : (s.packetHeard x).cycles = s.cycles := by
  obtain ⟨_, _, h⟩ := s.packetHeard_eq x
  rw [h]

theorem State.tb_packetHeard : (s.packetHeard x).tb = s.tb := by
  obtain ⟨_, _, h⟩ := s.packetHeard_eq x
  rw [h]

theorem State.part_packetHeard : (s.packetHeard x).part = s.part := by
  obtain ⟨_, _, h⟩ := s.packetHeard_eq x
  rw [h]

theorem State.laneState_packetHeard : (s.packetHeard x).laneState (.trunk 8) = s.laneState (.trunk 8) := State.laneState_counted

end

/-- R337: a tunnel packet for the device's own MAC address reaches NX.EM. -/
theorem State.takeTunnel_own {s : State} {frame : Bytes} (hnx : s.part.hasNx = true) (hport : s.nxUp 5 = true)
    (hmac : beAt frame 0 6 = s.nat Key.dapMgmtMac) : s.takeTunnel frame = s.send (.toEm 5 frame) := by
  simp [State.takeTunnel, hnx, hport, hmac]

/-- Settles O18: what waits leaves by the order of R337, and the packets that come have the effect of their TYPE. -/
theorem trunkPacketsAct : Obligations.TrunkPacketsAct := by
  refine ⟨?training, ?beacon, ?media, ?tunnel, ?send, ?first, ?echoed⟩
  case training =>
    intro s i m r hstate hwaits
    refine congrArg Host.Outcome.next ?_
    simp only [trkPacketBoundary]
    refine (State.whenever_of_true _ (decide_eq_true hstate) _).trans ?_
    simp only [State.updTrk_trk, hwaits]
    rfl
  case beacon =>
    intro s hstate hL htraining hgroups hbeacon
    exact congrArg Host.Outcome.next ((trkPacketBoundary_up hstate hL htraining hgroups).trans (if_pos hbeacon))
  case media =>
    intro s p r hstate hL htraining hgroups hbeacon htunnel hmedia hcredit
    refine congrArg Host.Outcome.next ((trkPacketBoundary_up hstate hL htraining hgroups).trans ?_)
    exact State.sendNext_media (u := s.updTrk fun t => { t with inFlight := none }) hbeacon htunnel hmedia hcredit
  case tunnel =>
    rintro s h x pos idle frame hup hhere hidle hframe hx hsteady rfl hnx hport hmac
    refine (onUnit_of_present s.part.has_trkRx0 _).trans (congrArg Host.Outcome.next ?_)
    refine State.onTrunkType_known hup hidle (by decide) (by omega) hx hsteady ?_ ?_ (by decide) ?_
    · rw [State.send_laneState, State.laneState_counted]
    · rfl
    · refine State.takeTunnel_own ((congrArg Part.hasNx (s.part_packetHeard x)).trans hnx) ?_
        (hmac.trans (s.nat_packetHeard x (by decide) (by decide)).symm)
      have hpower : (s.packetHeard x).domainOn 55 = s.domainOn 55 := by
        rw [State.domainOn, State.domainOn, s.nat_packetHeard x (by decide) (by decide)]
      have hport' : s.domainOn 55 = true := by simpa [State.nxUp] using hport
      have hup' : (s.packetHeard x).nxUp 5 = true := by simp [State.nxUp, hpower, hport']
      exact hup'
  case send =>
    intro s hnew
    refine congrArg Host.Outcome.next ?_
    simp only [timeBeaconSend]
    exact s.whenever_of_true (decide_eq_true hnew) _
  case first =>
    rintro s h x pos idle epoch t1 state bseq echoSeq turn hup hhere hidle hepoch ht1 hstate hbseq hecho hturn hx hsteady rfl hnone
    obtain ⟨ftime, fbseq, fecho, fturn⟩ := beaconPayload_fields (epoch := epoch) (state := state) ht1 hbseq hecho hturn
    refine (onUnit_of_present s.part.has_trkRx0 _).trans (congrArg Host.Outcome.next ?_)
    refine State.onTrunkType_known (p := beaconPayload epoch t1 state bseq echoSeq turn) hup hidle (by decide)
      (by simp [beaconPayload]) hx hsteady ?_ ?_ (by decide) ?_
    · exact (State.nat_setObj_other _ (by decide) _).trans (s.laneState_packetHeard x)
    · rfl
    · have hfind : (s.packetHeard x).tb.beaconsSent.find? (fun e => e.1 = echoSeq) = none := by
        rw [s.tb_packetHeard x]
        simpa [List.find?_eq_none] using hnone
      rw [ftime, fbseq, fecho, fturn]
      exact State.takeBeacon_unknown hfind (s.instant_packetHeard x) (s.cycles_packetHeard x)
  case echoed =>
    rintro s h x pos idle epoch t1 state bseq echoSeq turn own r hup hhere hidle hepoch ht1 hstate hbseq hecho hturn hx hsteady rfl
      hsent hsource
    obtain ⟨ftime, fbseq, fecho, fturn⟩ := beaconPayload_fields (epoch := epoch) (state := state) ht1 hbseq hecho hturn
    refine ⟨_, _, rfl, rfl, (onUnit_of_present s.part.has_trkRx0 _).trans (congrArg Host.Outcome.next ?_)⟩
    have hmeasured (t : State) (offset : Int) := t.measure_sameLanes offset (msCycles 1)
    refine State.onTrunkType_known (p := beaconPayload epoch t1 state bseq echoSeq turn) hup hidle (by decide)
      (by simp [beaconPayload]) hx hsteady ?_ ?_ (by decide) ?_
    · refine ((hmeasured _ _).nat _ (by decide)).trans ?_
      refine (State.nat_setObj_other _ (by decide) _).trans ((State.nat_setObj_other _ (by decide) _).trans ?_)
      exact s.laneState_packetHeard x
    · exact (hmeasured _ _).lanes
    · rw [ftime, fbseq, fecho, fturn]
      have hsent' : (s.packetHeard x).tb.beaconsSent = (echoSeq, own) :: r := by rw [s.tb_packetHeard x, hsent]
      rw [← s.cycles_packetHeard x, ← s.instant_packetHeard x, ← s.inEpoch_packetHeard x,
        ← s.obj_packetHeard x (k := Key.tbBeaconTrim) (by decide) (by decide)]
      exact State.takeBeacon_echoed hsent' ((s.nat_packetHeard x (by decide) (by decide)).trans hsource)

end Sys2Proof.Machine
end

section
/-! PROOF. O19: the requests of the configuration store, and the end of a save (R67, R69, R70). -/
namespace Sys2Proof.Machine

/-- STORE_COMMAND takes 1 to 4. -/
theorem State.writes_storeCommand {s t : State} {x : Session} {seq c : Nat} (h : s.writable x seq (rowAt 0x1300 1) 0 = true)
    (hlo : 1 ≤ c) (hhi : c ≤ 4) (heffect : storeCommand c (s.touched x seq) = .ok t) :
    s.writes (x.writeReq seq (rowAt 0x1300 1) 0 c) true (rowAt 0x1300 1) 0 c = .next (t.written x seq (rowAt 0x1300 1) 0) := by
  rw [rowAt_1300_1] at h ⊢
  exact State.writes_unsigned h rfl rfl (by decide) (Nat.lt_of_le_of_lt hhi (by decide)) (Rng.holds_span (by omega) (by omega) _ _)
    heffect

section
variable {s : State}

/-- R69: a save begins with the set as it stands. -/
theorem storeCommand_save (hidle : s.store.snapshot = none) (hdip : s.sup.dip = false) :
    storeCommand 1 s = .ok ({ s with store := { snapshot := some s.storedSet } }.setObj Key.storeStatus 1) := by
  simp [storeCommand, refuseIf, bind, Except.bind, hidle, hdip]

/-- R70: a load takes the set of the bank in force. -/
theorem storeCommand_load (hidle : s.store.snapshot = none) (hpending : s.commits.pending = []) :
    storeCommand 2 s = .ok (s.loadStored ((s.flash.bank (s.nat Key.storeBank)).getD {})) := by
  simp [storeCommand, refuseIf, bind, Except.bind, hidle, hpending]

/-- R70: the defaults are the set that holds nothing. -/
theorem storeCommand_defaults (hidle : s.store.snapshot = none) (hpending : s.commits.pending = []) :
    storeCommand 3 s = .ok (s.loadStored {}) := by
  simp [storeCommand, refuseIf, bind, Except.bind, hidle, hpending]

/-- R70: an erase empties both banks. -/
theorem storeCommand_erase (hidle : s.store.snapshot = none) :
    storeCommand 4 s = .ok { s with flash := { s.flash with bank0 := none, bank1 := none, torn := false } } := by
  simp [storeCommand, refuseIf, bind, Except.bind, hidle]

end

/-- A bank holds what was put into it. -/
theorem Flash.bank_setBank (f : Flash) (k : Nat) (b : Option LiveSet) : (f.setBank k b).bank k = b := by
  unfold Flash.setBank Flash.bank
  split <;> rfl

/-- R67: a save whose bank verified: the bank holds the set, the save is over and counted. -/
def State.savedTo (s : State) (k : Nat) (l : LiveSet) : State :=
  { s with
    flash := { s.flash.setBank k (some l) with torn := false }, store := { snapshot := none },
    prot := { s.prot with saves := s.prot.saves + 1 } }

theorem State.savedTo_bank (s : State) (k : Nat) (l : LiveSet) : (s.savedTo k l).flash.bank k = some l :=
  Flash.bank_setBank s.flash k (some l)

section
variable {s : State} {l : LiveSet} (hsaving : s.store.snapshot = some l) (hheld : s.boot.held = none) (hdip : s.sup.dip = false)
include hsaving hheld hdip

/-- R67, R69: the bank that was written verifies. -/
theorem storeSaveComplete_verified {u : State}
    (hu : u = (((s.savedTo (1 - s.nat Key.storeBank) l).setObj Key.storeBank ↑(1 - s.nat Key.storeBank)).bump
      Key.storeSaveCount).setObj Key.storeStatus 0) :
    storeSaveComplete true s = u.raise 0x1301 0 "CX" (leBytes 4 (u.nat Key.storeSaveCount)) := by
  have hdue : (s.boot.held.isNone && !s.sup.dip) = true := by simp [hheld, hdip]
  simp only [storeSaveComplete, hsaving, s.whenever_of_true hdue, hu]
  rfl

/-- R67, R69: the bank that was written does not verify. -/
theorem storeSaveComplete_failed :
    storeSaveComplete false s = (({ s with
      flash := { s.flash.setBank (1 - s.nat Key.storeBank) none with torn := true }, store := { snapshot := none } }.setObj
        Key.storeStatus 3).raise 0x1302 2 "CX" [byteOf (1 - s.nat Key.storeBank)]) := by
  have hdue : (s.boot.held.isNone && !s.sup.dip) = true := by simp [hheld, hdip]
  simp only [storeSaveComplete, hsaving, s.whenever_of_true hdue]
  rfl

end

/-- Settles O19: each value is one that STORE_COMMAND takes; what ends a save is written out. -/
theorem storeRequestsAct : Obligations.StoreRequestsAct := by
  refine ⟨?save, ?load, ?defaults, ?erase, ?verified, ?failed⟩
  case save =>
    intro s x seq h hidle hdip
    exact State.writes_storeCommand h (by decide) (by decide) (storeCommand_save (s := s.touched x seq) hidle hdip)
  case load =>
    intro s x seq h hidle hpending
    exact State.writes_storeCommand h (by decide) (by decide) (storeCommand_load (s := s.touched x seq) hidle hpending)
  case defaults =>
    intro s x seq h hidle hpending
    exact State.writes_storeCommand h (by decide) (by decide) (storeCommand_defaults (s := s.touched x seq) hidle hpending)
  case erase =>
    intro s x seq h hidle
    exact State.writes_storeCommand h (by decide) (by decide) (storeCommand_erase (s := s.touched x seq) hidle)
  case verified =>
    intro s l hsaving hheld hdip hbank
    refine ⟨storeSaveComplete true s, rfl, ?_⟩
    rw [storeSaveComplete_verified hsaving hheld hdip rfl]
    simp only [State.raise_store, State.raise_flash, State.raise_prot]
    exact ⟨rfl, rfl, s.savedTo_bank _ l, rfl⟩
  case failed =>
    intro s l hsaving hheld hdip
    exact congrArg Host.Outcome.next (storeSaveComplete_failed hsaving hheld hdip)

end Sys2Proof.Machine
end

section
/-! PROOF. O20: the requests of the time base (R81, R85, R94, R97, R100, R106). -/
namespace Sys2Proof.Machine

/-! A stretch of LOCKED operation that is closed leaves the entries and the re-epoch that is scheduled. -/

section
variable (s : State)

@[simp] theorem State.closeSpan_dict : s.closeSpan.dict = s.dict := by
  unfold State.closeSpan
  split <;> rfl

@[simp] theorem State.closeSpan_scheduled : s.closeSpan.tb.scheduled = s.tb.scheduled := by
  unfold State.closeSpan
  split <;> rfl

theorem State.closeSpan_nat (k : Nat) : s.closeSpan.nat k = s.nat k := by
  simp [State.nat, State.obj]

end

/-! The entries' values. -/

/-- R17: a source of the time base fits its entry. -/
theorem timeSource_lt {p : Part} {v depth : Nat} (h : Rng.timeSource.holds p v depth = true) : v < 256 := by
  unfold Rng.holds at h
  cases hnx : p.hasNx <;> simp [hnx] at h <;> omega

/-- R10, R13: a rate of 64 bits reads back from the bytes of the message. -/
theorem Ty.decode_encode_i64 {v : Int} (hlo : -(2 : Int) ^ 63 ≤ v) (hhi : v < 2 ^ 63) : Ty.i64.decode (Ty.i64.encode v) = v := by
  have hmod : 0 ≤ v % ((2 ^ 64 : Nat) : Int) := Int.emod_nonneg v (by decide)
  have hbelow : v % ((2 ^ 64 : Nat) : Int) < ((2 ^ 64 : Nat) : Int) := Int.emod_lt_of_pos v (by decide)
  have hnat : (v % ((2 ^ 64 : Nat) : Int)).toNat % 256 ^ 8 = (v % ((2 ^ 64 : Nat) : Int)).toNat := Nat.mod_eq_of_lt (by omega)
  simp only [Ty.decode, Ty.encode, Ty.signed, Ty.size, if_true, beNat_beBytes, ofSigned, toSigned]
  rw [hnat]
  split <;> omega

/-- TB_SOURCE takes the sources that the part has. -/
theorem State.writes_tbSource {s : State} {x : Session} {seq v : Nat} (h : s.writable x seq (rowAt 0x2000 4) 0 = true)
    (hrange : (rowAt 0x2000 4).rng.holds s.part v 0 = true) :
    s.writes (x.writeReq seq (rowAt 0x2000 4) 0 v) true (rowAt 0x2000 4) 0 v =
      .next ((tbSourceWrite v (s.touched x seq)).written x seq (rowAt 0x2000 4) 0) := by
  rw [rowAt_2000_4] at h hrange ⊢
  exact State.writes_unsigned h rfl rfl (by decide) (timeSource_lt hrange) hrange rfl

/-- TB_DISCONTINUITY_ACTION takes 1 and 2. -/
theorem State.writes_tbAction {s t : State} {x : Session} {seq v : Nat} (h : s.writable x seq (rowAt 0x2000 9) 0 = true)
    (hv : v = 1 ∨ v = 2) (heffect : (if v = 1 then tbActionSlew else tbActionReepoch) (s.touched x seq) = .ok t) :
    s.writes (x.writeReq seq (rowAt 0x2000 9) 0 v) true (rowAt 0x2000 9) 0 v = .next (t.written x seq (rowAt 0x2000 9) 0) := by
  rw [rowAt_2000_9] at h ⊢
  refine State.writes_unsigned h rfl rfl (by decide) ?fits ?range heffect
  case fits =>
    simp only [Ty.size]
    omega
  case range => rcases hv with rfl | rfl <;> rfl

/-- TB_RATE_ADJ takes the rates of R79. -/
theorem State.writes_tbRateAdj {s t : State} {x : Session} {seq : Nat} {v : Int} (h : s.writable x seq (rowAt 0x2000 5) 0 = true)
    (hrange : (rowAt 0x2000 5).rng.holds s.part v 0 = true) (heffect : tbRateAdjWrite v (s.touched x seq) = .ok t) :
    s.writes (x.writeReq seq (rowAt 0x2000 5) 0 v) true (rowAt 0x2000 5) 0 v = .next (t.written x seq (rowAt 0x2000 5) 0) := by
  rw [rowAt_2000_5] at h hrange ⊢
  have hbounds : -1000000000000 ≤ v ∧ v ≤ 1000000000000 := by simpa [Rng.holds] using hrange
  obtain ⟨hlo, hhi⟩ := hbounds
  have hback : Ty.i64.decode (Ty.i64.encode v) = v := Ty.decode_encode_i64 (by omega) (by omega)
  exact State.writes_next h rfl (by decide) (by decide) (by decide) (by decide) (Ty.length_encode _ v)
    (by simpa [Obj.clean] using hback) rfl hrange heffect

/-- PTP_PROFILE, PTP_TRANSPORT and PTP_DOMAIN. -/
theorem State.writes_ptpInstance {s : State} {x : Session} {seq sub v : Nat} (hsub : sub = 1 ∨ sub = 2 ∨ sub = 3)
    (h : s.writable x seq (rowAt 0x2010 sub) 0 = true) (hrange : (rowAt 0x2010 sub).rng.holds s.part v 0 = true) :
    s.writes (x.writeReq seq (rowAt 0x2010 sub) 0 v) (1 ≤ sub && sub ≤ 3) (rowAt 0x2010 sub) 0 v =
      .next ((ptpInstanceWrite sub v (s.touched x seq)).written x seq (rowAt 0x2010 sub) 0) := by
  rcases hsub with rfl | rfl | rfl
  · rw [rowAt_2010_1] at h hrange ⊢
    have hv : v ≤ 2 := by simpa [Rng.holds] using hrange
    exact State.writes_unsigned h rfl rfl (by decide) (Nat.lt_of_le_of_lt hv (by decide)) hrange rfl
  · rw [rowAt_2010_2] at h hrange ⊢
    have hv : v = 0 ∨ v = 1 := by simpa [Rng.holds] using hrange
    exact State.writes_unsigned h rfl rfl (by decide) (by simp only [Ty.size]; omega) hrange rfl
  · rw [rowAt_2010_3] at h hrange ⊢
    have hv : v ≤ 127 := by simpa [Rng.holds] using hrange
    exact State.writes_unsigned h rfl rfl (by decide) (Nat.lt_of_le_of_lt hv (by decide)) hrange rfl

/-! The effects. -/

section
variable {s : State}

/-- R81: the source of a locked time base is taken away. -/
theorem tbSourceWrite_stop (hsource : s.tbSource ≠ 0) (hlocked : s.tbState = tbLocked) (hscheduled : s.tb.scheduled = none) :
    tbSourceWrite 0 s = ((((s.closeSpan.withTb fun b =>
      { b with scheduled := none, lastMeas := s.cycles, pathHold := none }).tbGo tbFree).setObj Key.tbSource 0).tbApply) := by
  have hcycles : s.closeSpan.cycles = s.cycles := s.closeSpan_keeps.2.2.1
  simp only [tbSourceWrite, if_neg (Ne.symm hsource), hlocked, hcycles, State.withTb, State.closeSpan_scheduled, hscheduled,
    Option.map_none]
  rfl

/-- R85: policy 1 slews on the action's order. -/
theorem tbActionSlew_of_waiting (hscheduled : s.tb.scheduled = none) (hsource : s.tbSource ≠ 2) (hstate : s.tbState = tbDiscont)
    (hpolicy : s.tb.policy = 1) (hslewing : s.tb.slewing = false) (hslewed : s.tb.slewed = false) :
    tbActionSlew s = .ok (s.startSlew (s.obj Key.tbOffset)) := by
  simp [tbActionSlew, hscheduled, hsource, hstate, hpolicy, hslewing, hslewed]

/-- R85, R87: policy 1 steps on the action's order. -/
theorem tbActionReepoch_of_waiting (hscheduled : s.tb.scheduled = none) (hsource : s.tbSource ≠ 2)
    (hstate : s.tbState = tbDiscont) (hpolicy : s.tb.policy = 1) :
    tbActionReepoch s = .ok (s.decideReepoch (s.obj Key.tbOffset) false) := by
  simp [tbActionReepoch, hscheduled, hsource, hstate, hpolicy]

/-- R94: a rate of the external servo while the time base is locked. -/
theorem tbRateAdjWrite_of_locked (hsource : s.tbSource = 2) (hlocked : s.tbState = tbLocked) (v : Int) :
    tbRateAdjWrite v s = .ok (((s.closeSpan.setObj Key.tbRateAdj v).withTb fun b =>
      { b with lastRateWrite := s.cycles }).tbApply) := by
  have hstate : ((s.closeSpan.setObj Key.tbRateAdj v).withTb fun b => { b with lastRateWrite := s.cycles }).tbState = tbLocked :=
    ((State.nat_setObj_other s.closeSpan (k := Key.tbRateAdj) (j := Key.tbState) (by decide) v).trans
      (s.closeSpan_nat _)).trans hlocked
  simp [tbRateAdjWrite, hsource, hstate, show tbLocked ≠ tbHoldover by decide, show tbLocked ≠ tbFree by decide]

/-- R106: the engine as it restarts in another domain. -/
def State.ptpRestarted (s : State) (domain : Nat) : State :=
  (List.range 4).foldl (fun u n =>
    u.setObj (Key.ptpPortState n) (if u.flag (Key.ptpPortEnable n) then 1 else 0)) (s.setObj Key.ptpDomain domain)

/-- R106: a restart leaves the entries other than the domain and the ports' states. -/
theorem State.ptpRestarted_nat {k : Nat} (hdomain : k ≠ Key.ptpDomain) (hstates : ∀ n, n < 4 → k ≠ Key.ptpPortState n) (v : Nat) :
    (s.ptpRestarted v).nat k = s.nat k := by
  unfold State.ptpRestarted
  refine List.foldlRecOn (motive := fun u : State => u.nat k = s.nat k) _ _ (State.nat_setObj_other _ hdomain _) ?_
  intro u hu n hn
  exact (State.nat_setObj_other _ (hstates n (List.mem_range.mp hn)) _).trans hu

/-- R106: another PTP_DOMAIN restarts the engine. -/
theorem ptpInstanceWrite_domain {v : Nat} (hchange : s.nat Key.ptpDomain ≠ v) (hsource : s.tbSource ≠ 2)
    (hstate : s.tbState ≠ tbLocked) :
    ptpInstanceWrite 3 v s = (s.ptpRestarted v).withTb fun b => { b with ports := [] } := by
  have hsource' : (s.setObj Key.ptpDomain v).tbSource ≠ 2 := by
    rwa [State.tbSource, State.nat_setObj_other _ (by decide)]
  have hstate' : ((s.ptpRestarted v).withTb fun b => { b with ports := [] }).tbState ≠ tbLocked := by
    have hkept : (s.ptpRestarted v).nat Key.tbState = s.nat Key.tbState :=
      State.ptpRestarted_nat (by decide) (by decide) v
    rwa [State.withTb_tbState, State.tbState, hkept]
  unfold ptpInstanceWrite
  exact (if_neg hchange).trans ((if_neg hsource').trans (if_neg hstate'))

/-- R100: the head of the queue is taken by its identifier. -/
theorem txtsPopWrite_of_head {port : Nat} {h : TxStamp} {r : List TxStamp} (hqueue : mapGetD port [] s.tb.txts = h :: r) :
    txtsPopWrite port h.ident s = .ok (s.withTb fun b => { b with txts := mapSet port r b.txts }) := by
  simp [txtsPopWrite, hqueue]

end

/-- Settles O20: each value is one that its entry takes, and the effect is the one of its command. -/
theorem timeRequestsAct : Obligations.TimeRequestsAct := by
  refine ⟨?source, ?restart, ?stop, ?slew, ?reepoch, ?rate, ?domain, ?asym, ?pop⟩
  case source =>
    intro s x seq v h hrange
    exact State.writes_tbSource h hrange
  case restart =>
    intro s x seq sub v hsub h hrange
    exact State.writes_ptpInstance hsub h hrange
  case stop =>
    intro s x seq h hsource hlocked hscheduled
    refine (State.writes_tbSource (v := 0) h ?_).trans ?_
    · rw [rowAt_2000_4]
      cases hnx : s.part.hasNx <;> simp [Rng.holds, hnx]
    · rw [tbSourceWrite_stop (s := s.touched x seq) hsource hlocked hscheduled]
      rfl
  case slew =>
    intro s x seq h hscheduled hsource hstate hpolicy hslewing hslewed
    exact State.writes_tbAction h (.inl rfl)
      (tbActionSlew_of_waiting (s := s.touched x seq) hscheduled hsource hstate hpolicy hslewing hslewed)
  case reepoch =>
    intro s x seq h hscheduled hsource hstate hpolicy
    exact State.writes_tbAction h (.inr rfl)
      (tbActionReepoch_of_waiting (s := s.touched x seq) hscheduled hsource hstate hpolicy)
  case rate =>
    intro s x seq v h hsource hrange hlocked
    exact State.writes_tbRateAdj h hrange (tbRateAdjWrite_of_locked (s := s.touched x seq) hsource hlocked v)
  case domain =>
    intro s x seq v h hv hchange hsource hstate
    refine (State.writes_ptpInstance (.inr (.inr rfl)) h ?_).trans ?_
    · rw [rowAt_2010_3]
      exact Rng.holds_span (by omega) (by omega) _ _
    · rw [ptpInstanceWrite_domain (s := s.touched x seq) hchange hsource hstate]
      rfl
  case asym =>
    intro s x seq h
    dsimp only [exec, execPtpAsymFlagClear]
    rw [rowAt_2030_6] at h ⊢
    exact State.writes_number (v := 0) h rfl rfl (by decide) (by decide) (by decide) rfl rfl rfl
  case pop =>
    intro s x seq port e r hport h hqueue hident
    have heffect := txtsPopWrite_of_head (s := s.touched x seq) hqueue
    dsimp only [exec, execTxtsPop]
    rw [rowAt_2040_6] at h ⊢
    refine State.writes_unsigned h rfl (decide_eq_true hport) ?key hident rfl heffect
    case key =>
      simp only [Obj.keyOf]
      omega

end Sys2Proof.Machine
end

section
/-! PROOF. O29: what the time base does on its own (R81, R85, R87, R94 to R96, R104, R105, R471). -/
namespace Sys2Proof.Machine

/-! What a re-epoch leaves: the commits and the bells. -/

section
variable (s : State)

@[simp] theorem State.closeSpan_waits : s.closeSpan.commits = s.commits ∧ s.closeSpan.bells = s.bells := by
  simp [State.closeSpan, apply_ite State.commits, apply_ite State.bells]

@[simp] theorem State.freezeMean_waits : s.freezeMean.commits = s.commits ∧ s.freezeMean.bells = s.bells := by
  unfold State.freezeMean
  split <;> exact ⟨rfl, rfl⟩

@[simp] theorem State.tbApply_waits : s.tbApply.commits = s.commits ∧ s.tbApply.bells = s.bells := ⟨rfl, rfl⟩

@[simp] theorem State.tbGo_waits (new : Nat) : (s.tbGo new).commits = s.commits ∧ (s.tbGo new).bells = s.bells := by
  simp [State.tbGo, apply_ite State.commits, apply_ite State.bells]

@[simp] theorem State.reepochTime_waits (r : Reepoch) :
    (s.reepochTime r).commits = s.commits ∧ (s.reepochTime r).bells = s.bells := by
  simp [State.reepochTime, apply_ite State.commits, apply_ite State.bells]

end

/-- R87: at its Ts a re-epoch is made; with no commit and no run of the bells it is only that. -/
theorem reepoch_of_due {s : State} {r : Reepoch} (hscheduled : s.tb.scheduled = some r) (hdue : r.ts ≤ (s.now : Int))
    (hcommits : s.commits.pending = []) (hruns : s.bells.runs = []) : reepoch s = s.reepochTime r := by
  have hearly : ¬ (s.now : Int) < r.ts := by omega
  have hwaiting : (s.reepochTime r).waitingCommits = [] := by simp [State.waitingCommits, hcommits]
  have hnone : (s.reepochTime r).bells.runs = [] := by simp [hruns]
  simp only [reepoch, hscheduled, if_neg hearly, hwaiting, hnone, List.foldl_nil]

/-! The source is silent (R81). -/

section
variable {s : State} (hsource : s.tbSource = 1 ∨ s.tbSource = 3) (hsilent : s.sourceSilent = true)
include hsource hsilent

theorem sourceTimeout_locked (hstate : s.tbState = tbLocked) : sourceTimeout s = s.tbGo tbHoldover := by
  simp [sourceTimeout, State.whenever, hsource, hsilent, hstate, show tbLocked ≠ tbAcquire by decide]

theorem sourceTimeout_acquire (hstate : s.tbState = tbAcquire) (hfirst : s.firstDecided = false) :
    sourceTimeout s = s.tbGo tbFree := by
  simp [sourceTimeout, State.whenever, hsource, hsilent, hstate, hfirst]

theorem sourceTimeout_slewing (hstate : s.tbState = tbDiscont) (hslewing : s.tb.slewing = true) :
    sourceTimeout s = s.tbGo tbHoldover := by
  simp [sourceTimeout, State.whenever, hsource, hsilent, hstate, hslewing, tbDiscont, tbAcquire, tbLocked]

end

/-! The end of the hold after a path change (R95, R96). -/

/-- The ring port opposite to a port is another one of the two. -/
theorem State.otherRing_of_pair {s : State} (hpair : s.ringA ≠ s.ringB) (n : Nat) :
    s.otherRing n ≠ n ∧ s.isRing (s.otherRing n) = true := by
  simp only [State.isRing, State.otherRing, Bool.or_eq_true]
  split
  case isTrue h => exact ⟨fun e => hpair (h.symm.trans e.symm), .inr (decide_eq_true rfl)⟩
  case isFalse h => exact ⟨fun e => h e.symm, .inl (decide_eq_true rfl)⟩

theorem State.ringAgrees_setPtpPort (s : State) (n : Nat) (p : PtpPort) : (s.setPtpPort n p).ringAgrees = s.ringAgrees := rfl

theorem State.hears_setPtpPort (s : State) (n : Nat) (p : PtpPort) (m : Nat) : (s.setPtpPort n p).hears m = s.hears m := rfl

theorem State.isRing_setPtpPort (s : State) (n : Nat) (p : PtpPort) (m : Nat) : (s.setPtpPort n p).isRing m = s.isRing m := rfl

theorem State.ptpPort_setPtpPort_other {s : State} {m n : Nat} (h : m ≠ n) (p : PtpPort) :
    (s.setPtpPort n p).ptpPort m = s.ptpPort m := by
  simp [State.ptpPort, State.setPtpPort, State.withTb, mapGetD, mapGet_mapSet_other h]

/-- R95, R96: both ring ports of a steered one as the end of a hold leaves them. -/
def State.holdOver (s : State) (n : Nat) (p : PtpPort) : State :=
  ((s.withTb fun b => { b with pathHold := none }).setPtpPort n p).setPtpPort (s.otherRing n)
    { s.ptpPort (s.otherRing n) with changed := false }

theorem State.isRing_holdOver (s : State) (n : Nat) (p : PtpPort) (m : Nat) : (s.holdOver n p).isRing m = s.isRing m := by
  rw [State.holdOver, State.isRing_setPtpPort, State.isRing_setPtpPort, State.withTb_isRing]

theorem State.hears_holdOver (s : State) (n : Nat) (p : PtpPort) (m : Nat) : (s.holdOver n p).hears m = s.hears m := by
  rw [State.holdOver, State.hears_setPtpPort, State.hears_setPtpPort]
  rfl

theorem State.ringAgrees_holdOver (s : State) (n : Nat) (p : PtpPort) : (s.holdOver n p).ringAgrees = s.ringAgrees := by
  rw [State.holdOver, State.ringAgrees_setPtpPort, State.ringAgrees_setPtpPort]
  rfl

section
variable {s : State} {t n : Nat} (hhold : s.tb.pathHold = some t) (hover : t ≤ s.cycles) (hsteer : s.steerPort = some n)
  (hpair : s.ringA ≠ s.ringB)
include hhold hover hsteer hpair

/-- R95, R96: what is left to do when a hold ends on a ring port. -/
theorem pathHoldEnd_ring {u : State} (hu : u = s.holdOver n { s.ptpPort n with
      changed := false, alone := false, rerouted := (s.ptpPort n).rerouted || (s.ptpPort n).alone }) :
    pathHoldEnd s =
      if (s.ptpPort n).alone || !u.isRing n || !u.hears (s.otherRing n) || u.ringAgrees then u
      else if (s.ptpPort n).changed && (s.ptpPort (s.otherRing n)).changed then
        (u.setObj Key.ptpAsymFlag (setBit (u.nat Key.ptpAsymFlag) 2 true : Nat)).withTb fun b => { b with steer := some u.ringA }
      else u.excludePort n := by
  obtain ⟨hne, hother⟩ := State.otherRing_of_pair hpair n
  have hearly : ¬ s.cycles < t := Nat.not_lt.mpr hover
  have hsteer' : (s.withTb fun b => { b with pathHold := none }).steerPort = some n := hsteer
  have hother' (p : PtpPort) : ((s.withTb fun b => { b with pathHold := none }).setPtpPort n p).ptpPort (s.otherRing n) =
      s.ptpPort (s.otherRing n) := State.ptpPort_setPtpPort_other hne p
  have hisring (p : PtpPort) : ((s.withTb fun b => { b with pathHold := none }).setPtpPort n p).isRing (s.otherRing n) = true :=
    hother
  have hm : (s.withTb fun b => { b with pathHold := none }).otherRing n = s.otherRing n := rfl
  simp only [pathHoldEnd, hhold, if_neg hearly, hsteer', hm, hisring, hother', if_true, hu]
  rfl

/-- R96: a port that was alone in its change is rerouted. -/
theorem pathHoldEnd_alone (halone : (s.ptpPort n).alone = true) :
    pathHoldEnd s = s.holdOver n { s.ptpPort n with changed := false, alone := false, rerouted := true } := by
  rw [pathHoldEnd_ring hhold hover hsteer hpair rfl, halone]
  simp only [Bool.true_or, if_true, Bool.or_true]

/-- R95: the offsets through the ring ports disagree after a change of one of them: that one is excluded. -/
theorem pathHoldEnd_excludes (hring : s.isRing n = true) (halone : (s.ptpPort n).alone = false) (hhears : s.hears (s.otherRing n) = true)
    (hagrees : s.ringAgrees = false) (hsingle : (s.ptpPort (s.otherRing n)).changed = false) :
    pathHoldEnd s = (s.holdOver n { s.ptpPort n with changed := false, alone := false }).excludePort n := by
  rw [pathHoldEnd_ring hhold hover hsteer hpair rfl, halone, hsingle]
  simp [State.isRing_holdOver, State.hears_holdOver, State.ringAgrees_holdOver, hring, hhears, hagrees]

end

/-! The oscillator and the holdover (R104, R105). -/

/-- R105: a locked time base that loses its oscillator holds over. -/
theorem tbOscLost_locked {s : State} (hpresent : s.flag Key.tbOscLost = false) (hstate : s.tbState = tbLocked) :
    tbOscLost s = (((s.setFlag Key.tbOscLost true).withTb fun b => { b with candidate := none }).raise 0x2008 2 "AX.TB" []).tbGo
      tbHoldover := by
  have hlocked : (((s.setFlag Key.tbOscLost true).withTb fun b => { b with candidate := none }).raise 0x2008 2 "AX.TB" []).tbState =
      tbLocked := by
    rw [State.tbState, State.nat_raise _ (by decide) (by decide), State.withTb_nat]
    exact (State.nat_setObj_other s (by decide) _).trans hstate
  simp only [tbOscLost, hpresent, Bool.not_false, State.whenever_of_true, hlocked, true_or, if_true]

/-- R104: whole seconds of a holdover. -/
theorem State.holdoverSeconds_of_holdover {s : State} (hstate : s.tbState = tbHoldover) :
    s.holdoverSeconds = s.since s.tb.holdSince / secCycles 1 := if_pos hstate

/-- R104: a holdover that lasts for TB_HOLDOVER_ALARM is reported once. -/
theorem tbHoldoverAlarm_of_due {s : State} (hstate : s.tbState = tbHoldover) (hfirst : s.tb.holdAlarm = false)
    (hdue : secCycles (s.nat Key.tbHoldoverAlarm) ≤ s.since s.tb.holdSince) :
    tbHoldoverAlarm s = (s.withTb fun b => { b with holdAlarm := true }).raise 0x200D 1 "AX.TB"
      (leBytes 4 (s.since s.tb.holdSince / secCycles 1)) := by
  have hseconds : s.nat Key.tbHoldoverAlarm ≤ s.since s.tb.holdSince / secCycles 1 := by
    simp only [secCycles] at hdue ⊢
    omega
  simp [tbHoldoverAlarm, State.whenever, hstate, hfirst, State.holdoverSeconds_of_holdover hstate, hseconds]

/-- Settles O29: each event's condition has come about, and what it leads to is written out. -/
theorem timeBaseActs : Obligations.TimeBaseActs := by
  refine ⟨?locked, ?acquire, ?slewing, ?alone, ?excluded, ?slewEnd, ?reepoch, ?watchdog, ?lost, ?restored, ?alarm, ?advice⟩
  case locked =>
    intro s hsource hsilent hstate
    exact congrArg Host.Outcome.next (sourceTimeout_locked hsource hsilent hstate)
  case acquire =>
    intro s hsource hsilent hstate hfirst
    exact congrArg Host.Outcome.next (sourceTimeout_acquire hsource hsilent hstate hfirst)
  case slewing =>
    intro s hsource hsilent hstate hslewing
    exact congrArg Host.Outcome.next (sourceTimeout_slewing hsource hsilent hstate hslewing)
  case alone =>
    intro s t n hhold hover hsteer _ hpair halone
    exact congrArg Host.Outcome.next (pathHoldEnd_alone hhold hover hsteer hpair halone)
  case excluded =>
    intro s t n hhold hover hsteer hring hpair halone hhears hagrees hsingle
    exact congrArg Host.Outcome.next
      (pathHoldEnd_excludes hhold hover hsteer hpair hring halone hhears hagrees hsingle)
  case slewEnd =>
    intro s hslewing hover
    exact congrArg Host.Outcome.next (s.whenever_of_true (by simp [hslewing, hover]) _)
  case reepoch =>
    intro s r hscheduled hdue hcommits hruns
    exact congrArg Host.Outcome.next (reepoch_of_due hscheduled hdue hcommits hruns)
  case watchdog =>
    intro s hsource hstate hdue
    exact congrArg Host.Outcome.next (s.whenever_of_true (by simp only [hsource, hstate, hdue, decide_true, Bool.and_true]) _)
  case lost =>
    intro s hpresent hstate
    exact congrArg Host.Outcome.next (tbOscLost_locked hpresent hstate)
  case restored =>
    intro s hlost
    exact congrArg Host.Outcome.next (s.whenever_of_true hlost _)
  case alarm =>
    intro s hstate hfirst hdue
    exact congrArg Host.Outcome.next (tbHoldoverAlarm_of_due hstate hfirst hdue)
  case advice =>
    intro s t hfast hdue hadvised
    exact congrArg Host.Outcome.next (s.whenever_of_true (by simp only [hfast, hadvised, hdue, decide_true, Bool.and_true]) _)

end Sys2Proof.Machine
end

section
/-! PROOF. O28: the messages of the Precision Time Protocol (R91 to R93, R164, R367). -/
namespace Sys2Proof.Machine

/-! A message at a port (R93). -/

/-- R93: a message that the port takes, as its row has it. -/
theorem exec_ptpMessage {s : State} {n : Nat} (hnx : s.part.hasNx = true) (hn : n < 4) (h : PtpHead) (m : PtpMessage) :
    exec (.ptpMessage n h m) s = .next (ptpReceive n h m s) :=
  onUnit_of_present (by simp [hnx, hn]) _

section
variable {s : State} {n : Nat} {h : PtpHead}

theorem ptpReceive_not_taken (htakes : s.ptpTakes n h = false) (m : PtpMessage) : ptpReceive n h m s = s := by
  simp only [ptpReceive, htakes]
  rfl

variable (htakes : s.ptpTakes n h = true)
include htakes

theorem ptpReceive_oneStepSync (origin : Int) :
    ptpReceive n h (.oneStepSync origin) s = s.ptpOffset n (s.now - s.ethTrim 28 n) origin :=
  s.whenever_of_true htakes _

theorem ptpReceive_twoStepSync :
    ptpReceive n h .twoStepSync s =
      s.setPtpPort n { s.ptpPort n with lastSync := ⟨s.epoch, s.now - s.ethTrim 28 n⟩, measured := true } :=
  s.whenever_of_true htakes _

theorem ptpReceive_followUp (origin : Int) (hmeasured : (s.ptpPort n).measured = true)
    (hepoch : (s.ptpPort n).lastSync.epoch = s.epoch) :
    ptpReceive n h (.followUp origin) s =
      (s.setPtpPort n { s.ptpPort n with measured := false }).ptpOffset n (s.ptpPort n).lastSync.t origin :=
  (s.whenever_of_true htakes _).trans (if_pos ⟨hmeasured, hepoch⟩)

theorem ptpReceive_pathDelay (d : Int) : ptpReceive n h (.pathDelay d) s = s.ptpDelay n d := s.whenever_of_true htakes _

theorem ptpReceive_delayReq (hprofile : s.nat Key.ptpProfile = 0) (hmaster : s.ptpState n = 3) :
    ptpReceive n h .delayReq s = s.send (.ptp n 9 (byteOf (s.nat Key.ptpDomain) ::
      beBytes 12 (toTime96 ((s.now : Int) - s.ethTrim 28 n).toNat) ++ beBytes 10 h.sender)) :=
  (s.whenever_of_true htakes _).trans (if_pos ⟨hprofile, hmaster⟩)

theorem ptpReceive_pdelayReq (hprofile : s.nat Key.ptpProfile ≠ 0) :
    ptpReceive n h .pdelayReq s = (s.sendEvent n 3 (byteOf (s.nat Key.ptpDomain) ::
      beBytes 12 (toTime96 ((s.now : Int) - s.ethTrim 28 n).toNat) ++ beBytes 10 h.sender)).send (.ptp n 10
        (byteOf (s.nat Key.ptpDomain) :: beBytes 12 (toTime96 (s.now + s.ethTrim 36 n).toNat) ++ beBytes 10 h.sender)) :=
  (s.whenever_of_true htakes _).trans (if_neg hprofile)

theorem ptpReceive_announce (d : PtpDataset) :
    ptpReceive n h (.announce d) s = (s.setPtpPort n { s.ptpPort n with heard := some (h.sender, d) }).selectMaster :=
  s.whenever_of_true htakes _

/-- R91: a port that takes messages is enabled. -/
theorem State.enabled_of_takes : s.flag (Key.ptpPortEnable n) = true := by
  simp only [State.ptpTakes, Bool.and_eq_true] at htakes
  tauto

end

/-! Best master selection with one port enabled (R91). -/

section
variable {s : State} {n : Nat} (hn : n < 4) (henabled : s.flag (Key.ptpPortEnable n) = true)
  (hothers : ∀ m, m < 4 → m ≠ n → s.flag (Key.ptpPortEnable m) = false)
include hn henabled hothers

/-- The port that is enabled is the one that the engine works with. -/
theorem State.enabledPorts_single : (List.range 4).filter (fun m => s.flag (Key.ptpPortEnable m)) = [n] := by
  have hflag : ∀ m ∈ List.range 4, s.flag (Key.ptpPortEnable m) = (m == n) := by
    intro m hm
    by_cases h : m = n
    · simp [h, henabled]
    · simp [h, hothers m (List.mem_range.mp hm) h]
  rw [List.filter_congr hflag]
  obtain rfl | rfl | rfl | rfl : n = 0 ∨ n = 1 ∨ n = 2 ∨ n = 3 := by omega
  all_goals rfl

/-- What is heard is heard there. -/
theorem State.heardPorts_single {sender : Nat} {d : PtpDataset} (hheard : (s.ptpPort n).heard = some (sender, d)) :
    s.heardPorts = [(n, sender, d)] := by
  have hsingle : s.heardPorts = ((List.range 4).filter fun m => s.flag (Key.ptpPortEnable m)).filterMap fun m =>
      (s.ptpPort m).heard.map fun h => (m, h.1, h.2) := by
    rw [List.filterMap_filter]
    rfl
  rw [hsingle, State.enabledPorts_single hn henabled hothers]
  simp [hheard]

/-- The best master is the one that is heard, and its port is the only one that gets a state. -/
theorem State.selectMaster_single {sender : Nat} {d : PtpDataset} (hheard : (s.ptpPort n).heard = some (sender, d)) :
    s.selectMaster = s.setObj (Key.ptpPortState n) (s.selectedState (n, sender, d) n : Nat) := by
  simp only [State.selectMaster, State.heardPorts_single hn henabled hothers hheard, List.foldl_nil,
    State.enabledPorts_single hn henabled hothers, List.foldl_cons]

end

/-- R91: the port of the best master is its slave, or a master where the device itself is the better clock. -/
theorem State.selectedState_of_best (s : State) (n sender : Nat) (d : PtpDataset) :
    s.selectedState (n, sender, d) n =
      if s.nat Key.ptpPriority1 < 255 && lexLess (ptpQuality s.ownDataset) (ptpQuality d) then 3 else 2 := by
  simp only [State.selectedState, if_true]
  rfl

theorem State.ptpPort_setPtpPort_same (s : State) (n : Nat) (p : PtpPort) : (s.setPtpPort n p).ptpPort n = p := by
  simp [State.ptpPort, State.setPtpPort, State.withTb, mapGetD]

/-! The interval of the master port (R91, R92). -/

/-- What the messages of an interval leave as it was: the entries from PTP_PROFILE to PTP_PORT_ENABLE. -/
structure State.SamePtp (s t : State) : Prop where
  obj : ∀ k, 0x201001 ≤ k → k ≤ 0x202004 → t.obj k = s.obj k

theorem State.SamePtp.refl (s : State) : s.SamePtp s := ⟨fun _ _ _ => rfl⟩

theorem State.SamePtp.trans {s t u : State} (a : s.SamePtp t) (b : t.SamePtp u) : s.SamePtp u :=
  ⟨fun k hlo hhi => (b.obj k hlo hhi).trans (a.obj k hlo hhi)⟩

theorem State.SamePtp.ite {s t u : State} {c : Prop} {_ : Decidable c} (a : s.SamePtp t) (b : s.SamePtp u) :
    s.SamePtp (if c then t else u) := by
  split
  · exact a
  · exact b

theorem State.SamePtp.profile {s t : State} (h : s.SamePtp t) : t.nat Key.ptpProfile = s.nat Key.ptpProfile := by
  rw [State.nat, State.nat, h.obj _ (by decide) (by decide)]

theorem State.SamePtp.enabled {s t : State} (h : s.SamePtp t) {m : Nat} (hm : m < 4) :
    t.flag (Key.ptpPortEnable m) = s.flag (Key.ptpPortEnable m) := by
  rw [State.flag, State.flag, h.obj _ (by simp only [Key.ptpPortEnable]; omega) (by simp only [Key.ptpPortEnable]; omega)]

section
variable (s : State)

theorem State.send_samePtp (o : Out) : s.SamePtp (s.send o) := ⟨fun _ _ _ => rfl⟩

theorem State.withTb_samePtp (f : TimeBase → TimeBase) : s.SamePtp (s.withTb f) := ⟨fun _ _ _ => rfl⟩

theorem State.setObj_samePtp {k : Nat} (h : 0x202004 < k) (v : Int) : s.SamePtp (s.setObj k v) :=
  ⟨fun _ _ hhi => s.obj_setObj_other (by omega) v⟩

theorem State.raise_samePtp (cause cls : Nat) (path : String) (detail : Bytes) : s.SamePtp (s.raise cause cls path detail) := by
  refine ⟨fun k hlo _ => s.raise_obj _ _ _ _ ?_ ?_⟩
  all_goals
    rintro rfl
    exact absurd hlo (by decide)

/-- R98, R99: a timestamp goes to the queue of its port. -/
theorem State.stampTransmit_samePtp (port ident : Nat) (at_ : Instant) : s.SamePtp (s.stampTransmit port ident at_) := by
  simp only [State.stampTransmit]
  refine State.SamePtp.ite (s.withTb_samePtp _) ?_
  have hcount : s.SamePtp (s.bump (Key.txtsDiscardCount port)) := s.setObj_samePtp (by simp only [Key.txtsDiscardCount]; omega) _
  refine State.SamePtp.ite hcount ((hcount.trans ?_).trans (State.raise_samePtp _ _ _ _ _))
  exact State.setObj_samePtp _ (by simp only [Key.txtsOverflowSticky]; omega) _

theorem State.sendEvent_samePtp (n type : Nat) (body : Bytes) : s.SamePtp (s.sendEvent n type body) := by
  have hsent : s.SamePtp ((s.send (.ptp n type body)).setObj (Key.nxTsNextId n) ((s.nat (Key.nxTsNextId n) + 1) % 65536 : Nat)) :=
    (s.send_samePtp _).trans (State.setObj_samePtp _ (by simp only [Key.nxTsNextId]; omega) _)
  exact State.SamePtp.ite hsent (hsent.trans (State.stampTransmit_samePtp _ _ _ _))

theorem State.sendAnnounce_samePtp (n : Nat) : s.SamePtp (s.sendAnnounce n) := by
  have hdraw : s.SamePtp s.draw.2 := ⟨fun _ _ _ => rfl⟩
  exact State.SamePtp.ite (hdraw.trans (State.send_samePtp _ _)) hdraw

end

/-- A port that is not enabled sends nothing. -/
theorem ptpSendPort_of_disabled {s : State} {n : Nat} (h : s.flag (Key.ptpPortEnable n) = false) : ptpSendPort s n = s := by
  simp only [ptpSendPort, h, Bool.not_false, Bool.or_true, Bool.true_or, if_true]

/-- R91: Sync and Follow_Up of a master port, and an Announce where one is due. -/
def State.masterMessages (s : State) (n : Nat) : State :=
  ((s.sendEvent n 0 [byteOf (s.nat Key.ptpDomain)]).send (.ptp n 8 (byteOf (s.nat Key.ptpDomain) ::
    beBytes 12 (toTime96 (s.now + s.ethTrim 36 n).toNat)))).sendAnnounce n

theorem State.masterMessages_samePtp (s : State) (n : Nat) : s.SamePtp (s.masterMessages n) :=
  ((s.sendEvent_samePtp n 0 _).trans (State.send_samePtp _ _)).trans (State.sendAnnounce_samePtp _ n)

/-- R91, R92: a master port with peer delay. -/
theorem ptpSendPort_of_master {s : State} {n : Nat} (henabled : s.flag (Key.ptpPortEnable n) = true)
    (hactive : s.nat (laneKey 3 (.eth n)) = 5) (hmaster : s.ptpState n = 3) (hprofile : s.nat Key.ptpProfile ≠ 0) :
    ptpSendPort s n = (s.masterMessages n).sendEvent n 2 [byteOf (s.nat Key.ptpDomain)] := by
  have hmute : s.ptpMute = false := by
    by_contra hmuted
    rw [State.ptpState, if_pos (by simpa using hmuted)] at hmaster
    exact absurd hmaster (by decide)
  have hgoes : ¬ (s.ptpMute || !s.flag (Key.ptpPortEnable n) || decide (s.nat (laneKey 3 (.eth n)) ≠ 5)) = true := by
    simp [hmute, henabled, hactive]
  have hprofile' : (s.masterMessages n).nat Key.ptpProfile ≠ 0 := by rwa [(s.masterMessages_samePtp n).profile]
  unfold ptpSendPort
  rw [if_neg hgoes]
  simp only [if_pos hmaster]
  exact if_neg hprofile'

/-- R92: with one port enabled, the interval is that port's. -/
theorem ptpTransmit_single {s : State} (hsource : s.tbSource ≠ 2) (hdue : s.syncInterval ≤ s.since s.tb.syncSent)
    (hothers : ∀ m, m < 4 → 0 < m → s.flag (Key.ptpPortEnable m) = false) (henabled : s.flag (Key.ptpPortEnable 0) = true)
    (hactive : s.nat (laneKey oState (.eth 0)) = lnActive) (hmaster : s.ptpState 0 = 3) (hprofile : s.nat Key.ptpProfile ≠ 0) :
    ptpTransmit s = ((s.withTb fun b => { b with syncSent := s.cycles }).masterMessages 0).sendEvent 0 2
      [byteOf (s.nat Key.ptpDomain)] := by
  have hgoes : (decide (s.tbSource ≠ 2) && decide (s.syncInterval ≤ s.since s.tb.syncSent)) = true := by simp [hsource, hdue]
  have hrun : ptpTransmit s = (List.range 4).foldl ptpSendPort (s.withTb fun b => { b with syncSent := s.cycles }) :=
    s.whenever_of_true hgoes _
  generalize hu : (s.withTb fun b => { b with syncSent := s.cycles }) = u at hrun ⊢
  have hmaster' : ptpSendPort u 0 = (u.masterMessages 0).sendEvent 0 2 [byteOf (u.nat Key.ptpDomain)] := by
    rw [← hu]
    exact ptpSendPort_of_master henabled hactive hmaster hprofile
  have hsame : s.SamePtp (ptpSendPort u 0) := by
    rw [hmaster', ← hu]
    exact ((s.withTb_samePtp _).trans (State.masterMessages_samePtp _ 0)).trans (State.sendEvent_samePtp _ _ _ _)
  have hidle (m : Nat) (hm : m < 4) (hpos : 0 < m) : ptpSendPort (ptpSendPort u 0) m = ptpSendPort u 0 :=
    ptpSendPort_of_disabled ((hsame.enabled hm).trans (hothers m hm hpos))
  have hrange : List.range 4 = [0, 1, 2, 3] := rfl
  rw [hrun, hrange, List.foldl_cons, List.foldl_cons, hidle 1 (by decide) (by decide), List.foldl_cons,
    hidle 2 (by decide) (by decide), List.foldl_cons, hidle 3 (by decide) (by decide), List.foldl_nil, hmaster', ← hu]
  rfl

/-- Settles O28: each kind of message by its row; one enabled port decides and sends alone. -/
theorem ptpActs : Obligations.PtpActs := by
  refine ⟨?ignored, ?oneStep, ?twoStep, ?followUp, ?delay, ?delayReq, ?pdelayReq, ?announce, ?interval⟩
  case ignored =>
    intro s n h m hnx hn htakes
    rw [exec_ptpMessage hnx hn, ptpReceive_not_taken htakes]
  case oneStep =>
    intro s n h origin hnx hn htakes
    rw [exec_ptpMessage hnx hn, ptpReceive_oneStepSync htakes]
  case twoStep =>
    intro s n h hnx hn htakes
    rw [exec_ptpMessage hnx hn, ptpReceive_twoStepSync htakes]
  case followUp =>
    intro s n h origin hnx hn htakes hmeasured hepoch
    rw [exec_ptpMessage hnx hn, ptpReceive_followUp htakes origin hmeasured hepoch]
  case delay =>
    intro s n h d hnx hn htakes
    rw [exec_ptpMessage hnx hn, ptpReceive_pathDelay htakes]
  case delayReq =>
    intro s n h hnx hn htakes hprofile hmaster
    rw [exec_ptpMessage hnx hn, ptpReceive_delayReq htakes hprofile hmaster]
  case pdelayReq =>
    intro s n h hnx hn htakes hprofile
    rw [exec_ptpMessage hnx hn, ptpReceive_pdelayReq htakes hprofile]
  case announce =>
    intro s n h d hnx hn htakes hothers
    have hheard := s.ptpPort_setPtpPort_same n { s.ptpPort n with heard := some (h.sender, d) }
    refine ⟨_, (exec_ptpMessage hnx hn h _).trans (congrArg _ (ptpReceive_announce htakes d)), ?_⟩
    rw [State.selectMaster_single (s := s.setPtpPort n { s.ptpPort n with heard := some (h.sender, d) }) hn
      (State.enabled_of_takes htakes) hothers (congrArg PtpPort.heard hheard), State.selectedState_of_best]
    exact ⟨congrArg PtpPort.heard hheard, State.nat_setObj_same ..⟩
  case interval =>
    intro s hnx hsource hdue hothers henabled hactive hmaster hprofile
    have hrun : exec .ptpSyncTransmit s = .next (ptpTransmit s) := onUnit_of_present hnx _
    rw [hrun, ptpTransmit_single hsource hdue hothers henabled hactive hmaster hprofile]
    rfl

end Sys2Proof.Machine
end

section
/-! PROOF. Shared by O21 and O31: what the end of a frame leaves of the lanes (R184 to R191, R269, R284, R315). -/
namespace Sys2Proof.Machine

/-- What the lanes know, and the entries of chapter 05. -/
def State.linkSide (s : State) : Map LaneSt × (Nat → Int) :=
  (s.lanes, fun k => if 0x300000 ≤ k ∧ k < 0x400000 then s.obj k else 0)

theorem State.linkSide_lanes {s t : State} (h : t.linkSide = s.linkSide) : t.lanes = s.lanes := congrArg Prod.fst h

theorem State.linkSide_nat {s t : State} (h : t.linkSide = s.linkSide) {k : Nat} (hlo : 0x300000 ≤ k) (hhi : k < 0x400000) :
    t.nat k = s.nat k := by
  have hk := congrFun (congrArg Prod.snd h) k
  simp only [State.linkSide, hlo, hhi, and_self, if_true] at hk
  rw [State.nat, State.nat, hk]

/-- Entries of other chapters. -/
def beyondLink (k : Nat) : Prop := k < 0x300000 ∨ 0x400000 ≤ k

theorem State.linkSide_of_eq {s t : State} (hlanes : t.lanes = s.lanes) (hobj : ∀ k, ¬ beyondLink k → t.obj k = s.obj k) :
    t.linkSide = s.linkSide := by
  refine Prod.ext hlanes (funext fun k => ?_)
  simp only [State.linkSide]
  split
  case isTrue h => exact hobj k (by unfold beyondLink; omega)
  case isFalse => rfl

/-! The state's operations. -/

section
variable (s : State)

theorem State.setObj_linkSide {k : Nat} (h : beyondLink k) (v : Int) : (s.setObj k v).linkSide = s.linkSide :=
  State.linkSide_of_eq rfl fun j hj => s.obj_setObj_other (fun e : j = k => hj (e ▸ h)) v

theorem State.bump_linkSide {k : Nat} (h : beyondLink k) : (s.bump k).linkSide = s.linkSide := s.setObj_linkSide h _

@[simp] theorem State.setDom_linkSide (k : Nat) (b : Bytes) : (s.setDom k b).linkSide = s.linkSide := rfl
@[simp] theorem State.send_linkSide (o : Out) : (s.send o).linkSide = s.linkSide := rfl
@[simp] theorem State.updFrame_linkSide (fid : Nat) (f : Frame → Frame) : (s.updFrame fid f).linkSide = s.linkSide := rfl
@[simp] theorem State.updOut_linkSide (oid : Nat) (f : OutFrame → OutFrame) : (s.updOut oid f).linkSide = s.linkSide := rfl
@[simp] theorem State.updInput_linkSide (i : Nat) (f : InputSt → InputSt) : (s.updInput i f).linkSide = s.linkSide := rfl
@[simp] theorem State.updPipe_linkSide (p : Nat) (f : PipeSt → PipeSt) : (s.updPipe p f).linkSide = s.linkSide := rfl
@[simp] theorem State.updPort_linkSide (n : Nat) (f : PortSt → PortSt) : (s.updPort n f).linkSide = s.linkSide := rfl
@[simp] theorem State.updExp_linkSide (n : Nat) (f : ExpSt → ExpSt) : (s.updExp n f).linkSide = s.linkSide := rfl
@[simp] theorem State.draw_linkSide : s.draw.2.linkSide = s.linkSide := rfl

@[simp] theorem State.raise_linkSide (c k : Nat) (path : String) (d : Bytes) : (s.raise c k path d).linkSide = s.linkSide := by
  refine State.linkSide_of_eq (State.raise_lanes ..) fun j hj => s.raise_obj _ _ _ _ (fun e => hj ?_) fun e => hj ?_
  · exact e ▸ .inl (by decide)
  · exact e ▸ .inl (by decide)

@[simp] theorem State.raiseLimited_linkSide (c k unit : Nat) (path : String) (d : Bytes) :
    (s.raiseLimited c k unit path d).linkSide = s.linkSide := by
  simp only [State.raiseLimited]
  split
  · exact State.raise_linkSide _ _ _ _ _
  · split
    · rfl
    · exact State.raise_linkSide _ _ _ _ _

end

/-! Packets of the merge's outputs (R315 to R322, R482). -/

section
variable (s : State)

@[simp] theorem State.pushPacket_linkSide (out : Nat) (b : Bytes) : (s.pushPacket out b).linkSide = s.linkSide := by
  refine (State.setObj_linkSide _ (.inr (by simp only [Key.mrgOutPeak]; omega)) _).trans ?_
  split <;> rfl

@[simp] theorem State.countTile_linkSide (oid out card absent : Nat) (payload : Bytes) :
    (s.countTile oid out card absent payload).linkSide = s.linkSide := rfl

theorem beyondLink_wide {base : Nat} (h : 0x4000 ≤ base) (i : Nat) : beyondLink (Key.wideKey base i) :=
  .inr (by simp only [Key.wideKey]; omega)

@[simp] theorem State.emitAbsent_linkSide (o : OutFrame) (out row col reason : Nat) :
    (s.emitAbsent o out row col reason).linkSide = s.linkSide := by
  have hcount (t : State) : (t.bump (Key.mrgTilesAbsent o.stream)).linkSide = t.linkSide :=
    t.bump_linkSide (beyondLink_wide (base := 0x6770) (by decide) _)
  simp [State.emitAbsent, apply_ite State.linkSide, hcount]

@[simp] theorem State.emitPresent_linkSide (o : OutFrame) (out row col : Nat) (payload : Bytes) :
    (s.emitPresent o out row col payload).linkSide = s.linkSide := by
  simp [State.emitPresent, apply_ite State.linkSide]

@[simp] theorem State.goldenCheck_linkSide (out stream num card sig : Nat) :
    (s.goldenCheck out stream num card sig).linkSide = s.linkSide := by
  refine State.foldl_field State.linkSide _ (fun t i => ?_) _ s
  have hseen (u : State) (v : Int) : (u.setObj (Key.testGoldenSeen i) v).linkSide = u.linkSide :=
    u.setObj_linkSide (.inr (by simp only [Key.testGoldenSeen]; omega)) v
  have hresult (u : State) (v : Int) : (u.setObj (Key.testGoldenResult i) v).linkSide = u.linkSide :=
    u.setObj_linkSide (.inr (by simp only [Key.testGoldenResult]; omega)) v
  simp [apply_ite State.linkSide, hseen, hresult]

@[simp] theorem State.emitTile_linkSide (e : Entry) (row col : Nat) : (s.emitTile e row col).linkSide = s.linkSide := by
  unfold State.emitTile
  split
  case h_1 => rfl
  case h_2 o _ =>
    have hlate (t : State) : (t.bump (Key.warpTilesLate (o.stream - 960))).linkSide = t.linkSide :=
      t.bump_linkSide (.inr (by simp only [Key.warpTilesLate]; omega))
    have hunmade (l : List Nat) (t : State) :
        (l.foldl (fun s _ => s.bump (Key.warpTilesLate (o.stream - 960))) t).linkSide = t.linkSide :=
      State.foldl_field State.linkSide _ (fun u _ => hlate u) l t
    simp only [State.updOut_linkSide, apply_ite State.linkSide, hunmade, ite_self]
    exact State.foldl_field State.linkSide _ (fun u i => by split <;> simp) _ s

@[simp] theorem State.emitEnd_linkSide (oid out : Nat) : (s.emitEnd oid out).linkSide = s.linkSide := by
  unfold State.emitEnd
  split
  case h_1 => rfl
  case h_2 o _ =>
    have hframes (t : State) : (t.bump (Key.mrgFrames o.stream)).linkSide = t.linkSide :=
      t.bump_linkSide (beyondLink_wide (base := 0x6768) (by decide) _)
    have hcard (t : State) (v : Int) : (t.setObj (Key.mrgLastCard o.stream) v).linkSide = t.linkSide :=
      t.setObj_linkSide (beyondLink_wide (base := 0x6778) (by decide) _) v
    have hsig (t : State) (v : Int) : (t.setObj (Key.mrgLastSignature o.stream) v).linkSide = t.linkSide :=
      t.setObj_linkSide (beyondLink_wide (base := 0x6780) (by decide) _) v
    simp only [State.goldenCheck_linkSide, apply_ite State.linkSide, hframes, hcard, hsig, State.pushPacket_linkSide, ite_self]

@[simp] theorem State.noteMissing_linkSide (o : OutFrame) : (s.noteMissing o).linkSide = s.linkSide := by
  simp only [State.noteMissing, apply_ite State.linkSide, State.updOut_linkSide, ite_self]

@[simp] theorem State.viewEnded_linkSide (o : OutFrame) : (s.viewEnded o).linkSide = s.linkSide := by
  have hframes (t : State) : (t.bump (Key.warpFrames (o.stream - 960))).linkSide = t.linkSide :=
    t.bump_linkSide (.inr (by simp only [Key.warpFrames]; omega))
  have hmissing (t : State) : (t.bump (Key.warpFramesIncomplete (o.stream - 960))).linkSide = t.linkSide :=
    t.bump_linkSide (.inr (by simp only [Key.warpFramesIncomplete]; omega))
  simp only [State.viewEnded, apply_ite State.linkSide, hframes, hmissing, ite_self]

@[simp] theorem State.emitEntry_linkSide (e : Entry) : (s.emitEntry e).linkSide = s.linkSide := by
  have hfold (f : State → Nat → State) (h : ∀ t i, (f t i).linkSide = t.linkSide) (l : List Nat) (t : State) :
      (l.foldl f t).linkSide = t.linkSide := State.foldl_field State.linkSide f h l t
  simp only [State.emitEntry]
  split
  case isTrue => exact (hfold _ (fun _ _ => State.pushPacket_linkSide ..) _ _).trans s.draw_linkSide
  case isFalse =>
    split
    case h_1 => rfl
    case h_2 o _ =>
      have hpackets (l : List Nat) (b : State → Nat → Bytes) : (l.foldl (fun st out => st.pushPacket out (b st out)) s).linkSide =
          s.linkSide := hfold _ (fun _ _ => State.pushPacket_linkSide ..) l s
      have hends (l : List Nat) (t : State) : (l.foldl (fun st out => st.emitEnd o.oid out) t).linkSide = t.linkSide :=
        hfold _ (fun _ _ => State.emitEnd_linkSide ..) l t
      have htiles (l : List Nat) (t : State) : (l.foldl (fun st c => st.emitTile e (e.row - 2) c) t).linkSide = t.linkSide :=
        hfold _ (fun _ _ => State.emitTile_linkSide ..) l t
      simp only [apply_ite State.linkSide, State.updOut_linkSide, State.viewEnded_linkSide, hpackets, hends, htiles,
        State.noteMissing_linkSide, State.emitTile_linkSide, ite_self]

@[simp] theorem State.emitFirst_linkSide (l : List Entry) : (s.emitFirst l).linkSide = s.linkSide := by
  unfold State.emitFirst
  split
  · rfl
  · exact State.emitEntry_linkSide _ _

end

@[simp] theorem emitWhile_linkSide (p : State → Entry → Bool) (n : Nat) (s : State) : (emitWhile p n s).linkSide = s.linkSide := by
  induction n generalizing s with
  | zero => rfl
  | succ n ih => simp only [emitWhile, apply_ite State.linkSide, ih, State.emitFirst_linkSide, ite_self]

/-! Views (R284, R285, R299, R314). -/

section
variable (s : State)

@[simp] theorem State.enqueue_linkSide (l : List Entry) : (s.enqueue l).linkSide = s.linkSide := by
  simp only [State.enqueue, emitWhile_linkSide]
  exact State.setObj_linkSide _ (.inr (by decide)) _

@[simp] theorem State.queueFrame_linkSide (oid : Nat) (tiles : List (Nat × Nat × Instant)) :
    (s.queueFrame oid tiles).linkSide = s.linkSide := by
  have hrefused (t : State) : (t.bump Key.mrgQueueRefused).linkSide = t.linkSide := t.bump_linkSide (.inr (by decide))
  unfold State.queueFrame
  split
  · rfl
  · simp only [apply_ite State.linkSide, State.enqueue_linkSide, State.raise_linkSide, hrefused, State.updOut_linkSide, ite_self]

@[simp] theorem State.viewRaise_linkSide (v cause : Nat) (d : Bytes) : (s.viewRaise v cause d).linkSide = s.linkSide :=
  s.raiseLimited_linkSide ..

@[simp] theorem State.setMatch_linkSide (oid slot : Nat) (m : Match) : (s.setMatch oid slot m).linkSide = s.linkSide := rfl

@[simp] theorem State.rejectShape_linkSide (oid slot : Nat) : (s.rejectShape oid slot).linkSide = s.linkSide := by
  unfold State.rejectShape
  split
  · rfl
  · split
    · rfl
    · simp only [apply_ite State.linkSide, State.viewRaise_linkSide, State.setMatch_linkSide, ite_self]

@[simp] theorem State.decideSlot_linkSide (o : OutFrame) (slot : Nat) (pastD : Bool) :
    (s.decideSlot o slot pastD).linkSide = s.linkSide := by
  simp only [State.decideSlot]
  split <;> simp only [apply_ite State.linkSide, State.viewRaise_linkSide, State.setMatch_linkSide, State.rejectShape_linkSide,
    ite_self]

@[simp] theorem State.fixReleases_linkSide (o : OutFrame) : (s.fixReleases o).linkSide = s.linkSide := by
  simp only [State.fixReleases, emitWhile_linkSide, State.updOut_linkSide]
  rfl

@[simp] theorem State.tryQueueView_linkSide (oid : Nat) : (s.tryQueueView oid).linkSide = s.linkSide := by
  unfold State.tryQueueView
  split
  · rfl
  · simp only [apply_ite State.linkSide, State.fixReleases_linkSide, State.queueFrame_linkSide, State.updOut_linkSide,
      State.setDom_linkSide, ite_self]

@[simp] theorem State.settleViews_linkSide : s.settleViews.linkSide = s.linkSide := by
  unfold State.settleViews
  refine State.foldl_field State.linkSide _ (fun t o => ?_) _ s
  rw [State.tryQueueView_linkSide]
  refine State.foldl_field State.linkSide _ (fun u m => ?_) _ t
  split
  · exact State.decideSlot_linkSide ..
  · exact State.rejectShape_linkSide ..
  · rfl

@[simp] theorem State.prune_linkSide : s.prune.linkSide = s.linkSide := rfl

end

/-! The end of a frame (R187 to R191, R250, R254, R480). -/

section
variable (s : State)

@[simp] theorem State.landTile_linkSide (oid row col : Nat) (b : Bytes) : (s.landTile oid row col b).linkSide = s.linkSide := by
  have hlate (t : State) : (t.bump Key.mrgLateDiscards).linkSide = t.linkSide := t.bump_linkSide (.inr (by decide))
  unfold State.landTile
  split
  · rfl
  · simp only [apply_ite State.linkSide, hlate, State.updOut_linkSide, ite_self]

@[simp] theorem State.landRow_linkSide (oid row : Nat) (tiles : List Bytes) : (s.landRow oid row tiles).linkSide = s.linkSide :=
  State.foldl_field State.linkSide _ (fun t _ => t.landTile_linkSide ..) _ s

@[simp] theorem State.produceRow_linkSide (p : PxParams) (st : Stages) (g : List (List (List Nat))) (oid row lines : Nat) :
    (s.produceRow p st g oid row lines).linkSide = s.linkSide := by
  unfold State.produceRow
  split
  · rfl
  · simp only [apply_ite State.linkSide, State.updOut_linkSide, State.landRow_linkSide, ite_self]

@[simp] theorem State.startRecord_linkSide (f : Frame) (p : PxParams) (st : Stages) : (s.startRecord f p st).linkSide = s.linkSide :=
  rfl

@[simp] theorem State.leaveHistory_linkSide (f : Frame) (p : PxParams) (st : Stages) :
    (s.leaveHistory f p st).linkSide = s.linkSide := rfl

@[simp] theorem State.closeHanded_linkSide (f : Frame) : (s.closeHanded f).linkSide = s.linkSide := by
  have hframes (t : State) (i : Nat) : (t.bump (Key.pipeFrames i)).linkSide = t.linkSide :=
    t.bump_linkSide (.inr (by simp only [Key.pipeFrames]; omega))
  have hdpc (t : State) (i : Nat) (v : Int) : (t.setObj (Key.pipeDpcCount i) v).linkSide = t.linkSide :=
    t.setObj_linkSide (.inr (by simp only [Key.pipeDpcCount]; omega)) v
  have hshut (t : State) (g : OutFrame → OutFrame) :
      ({ t with mrg := { t.mrg with frames := t.mrg.frames.map g } } : State).linkSide = t.linkSide := rfl
  have hrows (l : List OutFrame) (rows : OutFrame → List (Nat × Nat)) (p : PxParams) (st : Stages) (g : List (List (List Nat)))
      (t : State) : (l.foldl (fun s o => (rows o).foldl (fun s r => s.produceRow p st g o.oid r.1 r.2) s) t).linkSide =
        t.linkSide :=
    State.foldl_field State.linkSide _ (fun u o => State.foldl_field State.linkSide _ (fun v _ => v.produceRow_linkSide ..) _ u) l t
  have houts (l : List OutFrame) (k : OutFrame → OutFrame → OutFrame) (t : State) :
      (l.foldl (fun s o => s.updOut o.oid (k o)) t).linkSide = t.linkSide :=
    State.foldl_field State.linkSide _ (fun u o => u.updOut_linkSide ..) l t
  simp only [State.closeHanded, State.updFrame_linkSide, State.leaveHistory_linkSide, State.startRecord_linkSide, hdpc, hframes]
  rw [hshut, houts]
  simp only [apply_ite State.linkSide, hrows, ite_self]

@[simp] theorem State.reportClose_linkSide (f : Frame) : (s.reportClose f).linkSide = s.linkSide := by
  have htruncated (t : State) : (t.bump (Key.capFramesTruncated f.port)).linkSide = t.linkSide :=
    t.bump_linkSide (.inr (by simp only [Key.capFramesTruncated]; omega))
  simp only [State.reportClose, apply_ite State.linkSide, State.raiseLimited_linkSide, htruncated, State.setDom_linkSide, ite_self]

@[simp] theorem State.endInjection_linkSide (p reason : Nat) : (s.endInjection p reason).linkSide = s.linkSide := by
  have hstate (t : State) (v : Int) : (t.setObj (Key.testInjectState p) v).linkSide = t.linkSide :=
    t.setObj_linkSide (.inr (by simp only [Key.testInjectState]; omega)) v
  simp only [State.endInjection, apply_ite State.linkSide, State.raise_linkSide, hstate, State.updPipe_linkSide, ite_self]

@[simp] theorem State.injectSettle_linkSide (p : Nat) : (s.injectSettle p).linkSide = s.linkSide := by
  unfold State.injectSettle
  split
  · rfl
  · simp only [apply_ite State.linkSide, State.endInjection_linkSide, ite_self]

@[simp] theorem State.closeFrame_linkSide (fid : Nat) : (s.closeFrame fid).linkSide = s.linkSide := by
  unfold State.closeFrame
  split
  · rfl
  · simp only [apply_ite State.linkSide, State.injectSettle_linkSide, State.prune_linkSide, State.settleViews_linkSide,
      State.reportClose_linkSide, State.closeHanded_linkSide, State.updFrame_linkSide, ite_self]

@[simp] theorem State.tryClose_linkSide (fid : Nat) : (s.tryClose fid).linkSide = s.linkSide := by
  unfold State.tryClose
  split
  · rfl
  · simp only [apply_ite State.linkSide, State.closeFrame_linkSide, ite_self]

@[simp] theorem State.echoOver_linkSide (f : Frame) : (s.echoOver f).linkSide = s.linkSide := by
  simp only [State.echoOver, apply_ite State.linkSide, State.updFrame_linkSide, ite_self]

@[simp] theorem State.endFrame_linkSide (f : Frame) (flags reason : Nat) : (s.endFrame f flags reason).linkSide = s.linkSide := by
  simp only [State.endFrame, State.tryClose_linkSide, State.updFrame_linkSide, State.echoOver_linkSide]

@[simp] theorem State.closeAtEnd_linkSide (f : Frame) (missing : Bool) : (s.closeAtEnd f missing).linkSide = s.linkSide :=
  s.endFrame_linkSide ..

@[simp] theorem State.cutFrame_linkSide (f : Frame) (reason : Nat) : (s.cutFrame f reason).linkSide = s.linkSide := by
  simp only [State.cutFrame, State.closeFrame_linkSide, State.updFrame_linkSide, State.echoOver_linkSide]

@[simp] theorem State.changeFailed_linkSide (port : Nat) (c : Change) (reason : Nat) :
    (s.changeFailed port c reason).linkSide = s.linkSide := by
  have hfailures (t : State) : (t.bump (Key.expWriteFailures port)).linkSide = t.linkSide :=
    t.bump_linkSide (.inr (by simp only [Key.expWriteFailures]; omega))
  simp only [State.changeFailed, State.raise_linkSide, hfailures, State.updExp_linkSide]

@[simp] theorem State.changeLost_linkSide (port : Nat) : (s.changeLost port).linkSide = s.linkSide := by
  unfold State.changeLost
  split
  · simp only [apply_ite State.linkSide, State.changeFailed_linkSide, ite_self]
  · rfl

@[simp] theorem State.portLeft_linkSide (port : Nat) : (s.portLeft port).linkSide = s.linkSide := by
  simp only [State.portLeft, State.changeLost_linkSide]
  split
  · rw [State.endFrame_linkSide, State.updPort_linkSide]
  · exact s.updPort_linkSide ..

/-- R191, R269: what a camera port's change of state does beyond its lane. -/
theorem State.laneFollow_camera_linkSide (i was : Nat) : (s.laneFollow (.camera i) was).linkSide = s.linkSide := by
  simp only [State.laneFollow, apply_ite State.linkSide, State.portLeft_linkSide, State.changeLost_linkSide, ite_self]

end

end Sys2Proof.Machine
end

section
/-! PROOF. O21: the requests of a lane (R153, R157, R163, R166, R174). -/
namespace Sys2Proof.Machine

/-! The rows of a lane (R166). -/

/-- R3: a lane of the part is one of the largest part's. -/
theorem laneKnown_of_present {p : Part} {l : Lane} (h : lanePresent p l = true) : laneKnown l = true := by
  cases l with
  | camera i =>
    have hi : i < p.ports := of_decide_eq_true h
    have hports := p.ports_le
    exact decide_eq_true (by omega)
  | trunk i =>
    have hi : (i < p.txLanes ∨ i = 8) ∨ i = 9 := by simpa [lanePresent, Part.has] using h
    have htx := p.txLanes_le
    exact decide_eq_true (by omega)
  | eth i =>
    have hi : p.hasNx = true ∧ i < 4 := by simpa [lanePresent] using h
    exact decide_eq_true hi.2

theorem laneNumber_lt {l : Lane} (h : laneKnown l = true) : laneNumber l < 48 := by
  cases l with
  | camera i => exact of_decide_eq_true h
  | trunk i => exact Nat.lt_trans (of_decide_eq_true h) (by decide)
  | eth i => exact Nat.lt_trans (of_decide_eq_true h) (by decide)

section
variable {s t : State} {x : Session} {seq v : Nat} {l : Lane} (hknown : laneKnown l = true)
include hknown

/-- LANE_COMMAND takes 1 and 2. -/
theorem State.writes_laneCommand (h : s.writable x seq (laneEntryRow oCommand l) (laneNumber l) = true) (hv : v = 1 ∨ v = 2)
    (heffect : laneWrite (laneEntryRow oCommand l) (laneNumber l) v (s.touched x seq) = .ok t) :
    s.writes (x.writeReq seq (laneEntryRow oCommand l) (laneNumber l) v) (laneKnown l) (laneEntryRow oCommand l) (laneNumber l) v =
      .next (t.written x seq (laneEntryRow oCommand l) (laneNumber l)) := by
  have hnumber := laneNumber_lt hknown
  have hfits : v < 256 := by omega
  have hrange (p : Part) : (Rng.oneOf [1, 2]).holds p v (fifoDepth (laneNumber l)) = true := by rcases hv with rfl | rfl <;> rfl
  cases l with
  | camera i =>
    have hrow : laneEntryRow oCommand (.camera i) = _ := rowAt_3009_1
    rw [hrow] at h heffect ⊢
    exact State.writes_unsigned h rfl hknown (keyOf_array_lt rfl (by decide) (by decide) (by omega)) hfits (hrange _) heffect
  | trunk i =>
    have hrow : laneEntryRow oCommand (.trunk i) = _ := rowAt_3109_1
    rw [hrow] at h heffect ⊢
    exact State.writes_unsigned h rfl hknown (keyOf_array_lt rfl (by decide) (by decide) (by omega)) hfits (hrange _) heffect
  | eth i =>
    have hrow : laneEntryRow oCommand (.eth i) = _ := rowAt_3209_1
    rw [hrow] at h heffect ⊢
    exact State.writes_unsigned h rfl hknown (keyOf_array_lt rfl (by decide) (by decide) (by omega)) hfits (hrange _) heffect

/-- LANE_ENABLE takes 0 and 1. -/
theorem State.writes_laneEnable (h : s.writable x seq (laneEntryRow oEnable l) (laneNumber l) = true) (hv : v ≤ 1)
    (heffect : laneWrite (laneEntryRow oEnable l) (laneNumber l) v (s.touched x seq) = .ok t) :
    s.writes (x.writeReq seq (laneEntryRow oEnable l) (laneNumber l) v) (laneKnown l) (laneEntryRow oEnable l) (laneNumber l) v =
      .next (t.written x seq (laneEntryRow oEnable l) (laneNumber l)) := by
  have hnumber := laneNumber_lt hknown
  have hfits : v < 256 := by omega
  have hlegal : Ty.bool.legal v = true := decide_eq_true (by omega)
  have hrange (p : Part) : (Rng.span 0 1).holds p v (fifoDepth (laneNumber l)) = true := Rng.holds_span (by omega) (by omega) _ _
  cases l with
  | camera i =>
    have hrow : laneEntryRow oEnable (.camera i) = _ := rowAt_3000_1
    rw [hrow] at h heffect ⊢
    exact State.writes_number h rfl hknown (keyOf_array_lt rfl (by decide) (by decide) (by omega)) hfits rfl hlegal (hrange _) heffect
  | trunk i =>
    have hrow : laneEntryRow oEnable (.trunk i) = _ := rowAt_3100_1
    rw [hrow] at h heffect ⊢
    exact State.writes_number h rfl hknown (keyOf_array_lt rfl (by decide) (by decide) (by omega)) hfits rfl hlegal (hrange _) heffect
  | eth i =>
    have hrow : laneEntryRow oEnable (.eth i) = _ := rowAt_3200_1
    rw [hrow] at h heffect ⊢
    exact State.writes_number h rfl hknown (keyOf_array_lt rfl (by decide) (by decide) (by omega)) hfits rfl hlegal (hrange _) heffect

end

/-- R157, R166: what a write of LANE_COMMAND does to a lane that has a receiver. -/
theorem laneWrite_command {l : Lane} (hcendo : isCendo l = true) (v : Nat) (s : State) :
    laneWrite (laneEntryRow oCommand l) (laneNumber l) v s = laneCommand l v s := by
  cases l with
  | camera i => simp [oCommand, laneWrite, laneApplies, laneAt, laneNumber, refuseIf, bind, Except.bind, isEth, oRate, oEnable]
  | trunk i =>
    have hi : ¬ i < 8 := by simpa [isCendo, receives, isEth] using hcendo
    simp [oCommand, laneWrite, laneApplies, laneAt, laneNumber, refuseIf, bind, Except.bind, isEth, oRate, oEnable, oInject, hi]
  | eth i => exact absurd hcendo (by simp [isCendo, isEth])

/-- R153, R166, R484: what a write of LANE_ENABLE does to a lane whose hub is not under its memory test. -/
theorem laneWrite_enable (l : Lane) {v : Nat} {s : State} (hbist : v = 1 → s.laneBist l = false) :
    laneWrite (laneEntryRow oEnable l) (laneNumber l) v s = laneEnableWrite l v s := by
  have hgoes : (v = 1 ∧ s.laneBist l = true) = False := by simpa using hbist
  cases l with
  | camera i => simp [oEnable, laneWrite, laneApplies, laneAt, laneNumber, refuseIf, bind, Except.bind, isEth, oRate, hgoes]
  | trunk i => simp [oEnable, laneWrite, laneApplies, laneAt, laneNumber, refuseIf, bind, Except.bind, isEth, oRate, oInject, oMinRate,
      oFom, oRxEq, oPartner, oCommand, oTestMode, oPrbsBits, oPrbsErrors, oCodeErrors, oAlignLoss, oLosCount, oTrainCount,
      oMsgErrors, oPartnerErrors, hgoes]
  | eth i => simp [oEnable, laneWrite, laneApplies, laneAt, laneNumber, refuseIf, bind, Except.bind, isEth, oRate, hgoes]

/-! The commands (R153, R157, R174). -/

/-- R156, R157: a lane that is up takes the request to retrain. -/
theorem laneRetrain_of_up {l : Lane} {s : State} (hcendo : isCendo l = true) (hup : s.laneUp l = true) :
    laneRetrain l s = .ok (s.requestRetrain l) := by
  obtain ⟨hreceives, heth⟩ : receives l = true ∧ isEth l = false := by simpa [isCendo] using hcendo
  have hstate : s.laneState l = lnActive ∨ s.laneState l = lnDegraded := by simpa [State.laneUp] using hup
  have hout : (!receives l || isEth l || decide (s.laneState l = lnSeek) || decide (s.laneState l = lnDetect) ||
      decide (s.laneState l = lnFallback)) = false := by
    rcases hstate with h | h <;> simp [hreceives, heth, h, lnActive, lnDegraded, lnSeek, lnDetect, lnFallback]
  simp only [laneRetrain, hout, hup, if_true, Bool.false_eq_true, if_false]

/-! Test modes (R160, R162, R163). -/

/-- What a lane's tests stand on: the bits that hold it, and its test mode. -/
def State.testSide (s : State) (l : Lane) : Nat × Nat := ((s.lane l).held, s.laneNat l oTestMode)

section
variable (s : State) (l : Lane)

theorem State.updLane_testSide {f : LaneSt → LaneSt} (h : ∀ y, (f y).held = y.held) : (s.updLane l f).testSide l = s.testSide l := by
  simp [State.testSide, h]

theorem State.setLane_testSide {a : Nat} (h : oTestMode ≠ a) (v : Nat) : (s.setLane l a v).testSide l = s.testSide l :=
  Prod.ext rfl (s.laneNat_setLane_other l h v)

theorem State.addTo_testSide {a : Nat} (h : oTestMode ≠ a) (w d : Nat) : (s.addTo (laneKey a l) w d).testSide l = s.testSide l :=
  Prod.ext rfl (s.laneNat_addTo_other l h w d)

theorem laneKey_ge (a : Nat) : 0x300000 ≤ laneKey a l := by
  cases l <;> simp only [laneKey] <;> omega

theorem State.laneRaise_testSide (c k : Nat) (d : Bytes) : (s.laneRaise l c k d).testSide l = s.testSide l := by
  have hkey := laneKey_ge l oTestMode
  refine Prod.ext ?_ (State.raise_nat _ _ _ _ _ (fun h => ?_) fun h => ?_)
  · rw [State.testSide, State.testSide, State.lane, State.lane, State.laneRaise_lanes]
  · exact absurd (h ▸ hkey) (by decide)
  · exact absurd (h ▸ hkey) (by decide)

theorem State.laneGo_testSide (new : Nat) : (s.laneGo l new).testSide l = s.testSide l := by
  have hstate : (s.setLane l oState new).testSide l = s.testSide l := s.setLane_testSide l (by decide) new
  simp only [State.laneGo, apply_ite (State.testSide · l), State.laneRaise_testSide, State.updLane_testSide, hstate,
    ite_self, implies_true]

theorem State.toSeek_testSide : (s.toSeek l).testSide l = s.testSide l := by
  simp only [State.toSeek, State.laneGo_testSide, apply_ite (State.testSide · l), State.attemptsResume, State.backOff,
    State.updLane_testSide, ite_self, implies_true]

theorem State.sendMessage_testSide (type tag : Nat) (p : Bytes) : (s.sendMessage l type tag p).testSide l = s.testSide l := by
  unfold State.sendMessage
  split
  · split <;> rfl
  · rfl

theorem State.issueRequest_testSide (type : Nat) (p : Bytes) : (s.issueRequest l type p).testSide l = s.testSide l := by
  simp only [State.issueRequest, State.sendMessage_testSide, apply_ite (State.testSide · l)]
  have hcount (t : State) : (t.bump (laneKey oTrainCount l)).testSide l = t.testSide l := t.addTo_testSide l (by decide) 32 1
  rw [hcount, ite_self, State.updLane_testSide]
  · exact s.updLane_testSide l fun _ => rfl
  · intro y
    split <;> rfl

theorem State.laneRequest_testSide (type : Nat) (p : Bytes) : (s.laneRequest l type p).testSide l = s.testSide l := by
  rw [State.laneRequest]
  split
  · exact s.issueRequest_testSide l type p
  · exact s.updLane_testSide l fun _ => rfl

theorem State.countLocked_testSide : (s.countLocked l).testSide l = s.testSide l := by
  simp only [State.countLocked]
  split
  · rfl
  · rw [State.addTo_testSide _ l (by decide), State.addTo_testSide _ l (by decide)]
    rfl

theorem State.stopGen_testSide (i : Nat) : (s.stopGen i).testSide l = s.testSide l := by
  simp only [State.stopGen]
  split <;> rfl

theorem State.startGen_testSide (i : Nat) : (s.startGen i).testSide l = s.testSide l := rfl

theorem State.testEnds_testSide (i old : Nat) : (s.testEnds (.camera i) old).testSide (.camera i) = s.testSide (.camera i) := by
  have hlocked : ((s.countLocked (.camera i)).updLane (.camera i) fun x => { x with locked := none }).testSide (.camera i) =
      s.testSide (.camera i) := by
    rw [State.updLane_testSide]
    · exact s.countLocked_testSide _
    · exact fun _ => rfl
  simp only [State.testEnds, isEth, Bool.false_eq_true, if_false, apply_ite (State.testSide · (.camera i)),
    State.laneRequest_testSide, State.stopGen_testSide, hlocked, ite_self]

end

/-- The bit that was set or cleared. -/
theorem testBit_setBit_zero (x : Nat) (v : Bool) : (setBit x 0 v).testBit 0 = v := by
  unfold setBit
  split
  case isTrue h => exact h.symm
  case isFalse h =>
    rw [Nat.testBit_zero] at h
    rw [Nat.testBit_zero]
    cases v
    · have hodd : x % 2 = 1 := by simpa using h
      simp only [Bool.false_eq_true, if_false, decide_eq_false_iff_not]
      omega
    · have heven : ¬ x % 2 = 1 := by simpa using h
      simp only [if_true, decide_eq_true_eq]
      omega

/-- Holds a lane for a test, or lets it go. -/
def State.holdTest (s : State) (l : Lane) (b : Bool) : State := s.updLane l fun x => { x with held := setBit x.held 0 b }

theorem State.holdTest_testSide (s : State) (l : Lane) (b : Bool) :
    (s.holdTest l b).testSide l = (setBit (s.testSide l).1 0 b, (s.testSide l).2) := by
  simp [State.holdTest, State.testSide]

/-- R162, R163: the test in progress is over, and a camera port's entry holds the next mode. -/
def State.testSet (s : State) (i v : Nat) : State :=
  (s.testEnds (.camera i) (s.laneNat (.camera i) oTestMode)).setLane (.camera i) oTestMode v

theorem State.testSet_testSide (s : State) (i v : Nat) :
    (s.testSet i v).testSide (.camera i) = ((s.testSide (.camera i)).1, v) := by
  have hends := s.testEnds_testSide i (s.laneNat (.camera i) oTestMode)
  exact Prod.ext (congrArg Prod.fst hends :) (State.nat_setObj_same ..)

/-- R163: a loop is asked for, or the near-end pattern starts. -/
def State.loopStart (s : State) (i v : Nat) : State := if v = 4 then s.laneRequest (.camera i) 4 [1] else s.startGen i

theorem State.loopStart_testSide (s : State) (i v : Nat) : (s.loopStart i v).testSide (.camera i) = s.testSide (.camera i) := by
  rw [State.loopStart]
  split
  · exact s.laneRequest_testSide ..
  · exact s.startGen_testSide ..

/-- R162: the partner is asked for the pattern of the test. -/
def State.askPattern (s : State) (i : Nat) : State :=
  s.laneRequest (.camera i) 5 (byteOf (s.laneNat (.camera i) oPattern) :: [0, 0])

/-- R162, R163: what a mode does to a camera port that may take it. -/
theorem laneTestMode_eq {s : State} {i v : Nat} (hfeeds : v ≠ 0 → s.feeds i = none)
    (hloop : v = 4 → (s.laneNat (.camera i) oPartner).testBit 0 = true) :
    laneTestMode (.camera i) v s = .ok (
      if v = 0 then ((s.testSet i v).holdTest (.camera i) false).attemptsResume (.camera i)
      else if v = 1 then
        (if ((s.testSet i v).lane (.camera i)).held.testBit 0 then
          ((s.testSet i v).holdTest (.camera i) false).attemptsResume (.camera i) else s.testSet i v).askPattern i
      else ((((s.testSet i v).toSeek (.camera i)).updLane (.camera i) fun x =>
        { x with held := setBit x.held 0 true, attempt := false }).loopStart i v)) := by
  have hgoes : (decide (v ≠ 0) && ((s.feeds i).isSome || (decide (v = 4) && !(s.laneNat (.camera i) oPartner).testBit 0))) =
      false := by
    by_cases hv : v = 0
    · simp [hv]
    · by_cases h4 : v = 4
      · simp [hfeeds hv, hloop h4]
      · simp [hfeeds hv, h4]
  unfold laneTestMode
  simp only [hgoes, Bool.false_eq_true, if_false]
  split
  · rfl
  · split
    · rfl
    · split
      case isTrue h => exact congrArg Except.ok (if_pos h).symm
      case isFalse h => exact congrArg Except.ok (if_neg h).symm

/-- R162, R163: the entry holds the mode, and a loop holds the port. -/
theorem laneTestMode_camera {s : State} {i v : Nat} (hfeeds : v ≠ 0 → s.feeds i = none)
    (hloop : v = 4 → (s.laneNat (.camera i) oPartner).testBit 0 = true) :
    ∃ t, laneTestMode (.camera i) v s = .ok t ∧ (t.testSide (.camera i)).2 = v ∧
      (t.testSide (.camera i)).1.testBit 0 = decide (2 ≤ v) := by
  have hset := s.testSet_testSide i v
  have hfree : (((s.testSet i v).holdTest (.camera i) false).attemptsResume (.camera i)).testSide (.camera i) =
      (setBit (s.testSide (.camera i)).1 0 false, v) := by
    rw [State.attemptsResume, State.updLane_testSide]
    · rw [State.holdTest_testSide, hset]
    · exact fun _ => rfl
  refine ⟨_, laneTestMode_eq hfeeds hloop, ?_⟩
  by_cases h0 : v = 0
  · rw [if_pos h0, hfree, testBit_setBit_zero]
    exact ⟨rfl, by simp [h0]⟩
  · rw [if_neg h0]
    by_cases h1 : v = 1
    · have hsmall : decide (2 ≤ v) = false := by simp [h1]
      rw [if_pos h1, State.askPattern, State.laneRequest_testSide, hsmall]
      split
      case isTrue =>
        rw [hfree, testBit_setBit_zero]
        exact ⟨rfl, rfl⟩
      case isFalse hheld =>
        have hbit : ((s.testSet i v).testSide (.camera i)).1.testBit 0 = false := by simpa [State.testSide] using hheld
        exact ⟨congrArg Prod.snd hset, hbit⟩
    · have hlarge : decide (2 ≤ v) = true := decide_eq_true (by omega)
      have hseek : ((s.testSet i v).toSeek (.camera i)).testSide (.camera i) = ((s.testSide (.camera i)).1, v) :=
        (State.toSeek_testSide _ _).trans hset
      rw [if_neg h1, State.loopStart_testSide, hlarge]
      generalize (s.testSet i v).toSeek (.camera i) = u at hseek ⊢
      have hheld : (u.updLane (.camera i) fun x => { x with held := setBit x.held 0 true, attempt := false }).testSide (.camera i) =
          (setBit (u.testSide (.camera i)).1 0 true, (u.testSide (.camera i)).2) := by simp [State.testSide]
      rw [hheld, hseek, testBit_setBit_zero]
      exact ⟨rfl, rfl⟩

/-- R163: a camera port takes a test mode, with what its change of state brings. -/
theorem laneTestModeWrite_camera {s : State} {i v : Nat} (hi : i < 48) (hfeeds : v ≠ 0 → s.feeds i = none)
    (hloop : v = 4 → (s.laneNat (.camera i) oPartner).testBit 0 = true) :
    ∃ t, laneTestModeWrite (.camera i) v s = .ok t ∧ t.laneNat (.camera i) oTestMode = v ∧
      (t.lane (.camera i)).held.testBit 0 = decide (2 ≤ v) := by
  obtain ⟨t, ht, hmode, hheld⟩ := laneTestMode_camera hfeeds hloop
  have hside := t.laneFollow_camera_linkSide i (s.laneState (.camera i))
  have hkey : laneKey oTestMode (.camera i) < 0x400000 := by simp only [laneKey, oTestMode]; omega
  refine ⟨t.laneFollow (.camera i) (s.laneState (.camera i)), by rw [laneTestModeWrite, ht]; rfl, ?_, ?_⟩
  · exact (State.linkSide_nat hside (laneKey_ge _ _) hkey).trans hmode
  · rw [State.lane, State.linkSide_lanes hside]
    exact hheld

/-- R163: LANE_TEST_MODE of a camera port takes 0 to 4. -/
theorem State.writes_laneTestMode {s : State} {x : Session} {seq i v : Nat} (h : s.writable x seq (rowAt 0x300A 1) i = true)
    (hi : i < s.part.ports) (hv : v ≤ 4) (hfeeds : v ≠ 0 → s.feeds i = none)
    (hloop : v = 4 → (s.laneNat (.camera i) oPartner).testBit 0 = true) :
    ∃ t, exec (.laneTestModeWrite (x.writeReq seq (rowAt 0x300A 1) i v) (.camera i) v) s =
        .next (State.written t x seq (rowAt 0x300A 1) i) ∧ t.laneNat (.camera i) oTestMode = v ∧
      (t.lane (.camera i)).held.testBit 0 = decide (2 ≤ v) := by
  have hports := s.part.ports_le
  obtain ⟨t, ht, hmode, hheld⟩ := laneTestModeWrite_camera (s := s.touched x seq) (show i < 48 by omega) hfeeds hloop
  refine ⟨t, ?_, hmode, hheld⟩
  have heffect : laneWrite (rowAt 0x300A 1) i v (s.touched x seq) = .ok t := by
    simpa [laneWrite, laneApplies, laneAt, refuseIf, bind, Except.bind, isEth, oRate, oEnable, oCommand, oTestMode] using ht
  have hrow : laneEntryRow oTestMode (.camera i) = rowAt 0x300A 1 := rfl
  dsimp only [exec, execLaneTestModeWrite]
  rw [hrow]
  rw [rowAt_300A_1] at h heffect ⊢
  exact State.writes_unsigned h rfl (laneKnown_of_present (l := .camera i) (decide_eq_true hi))
    (keyOf_array_lt rfl (by decide) (by decide) (by omega)) (Nat.lt_of_le_of_lt hv (by decide))
    (Rng.holds_span (by omega) (by omega) _ _) heffect

/-- Settles O21: each value is one that its entry takes, and the effect is the one of its command. -/
theorem laneRequestsAct : Obligations.LaneRequestsAct := by
  refine ⟨?retrain, ?reset, ?disable, ?enable, ?modes, ?mode1⟩
  case retrain =>
    intro s x seq l h hhere hup
    obtain ⟨hpresent, hcendo⟩ : lanePresent s.part l = true ∧ isCendo l = true := by simpa [State.cendoHere] using hhere
    exact State.writes_laneCommand (laneKnown_of_present hpresent) h (.inl rfl)
      ((laneWrite_command hcendo 1 _).trans (laneRetrain_of_up hcendo hup))
  case reset =>
    intro s x seq i h hi
    exact State.writes_laneCommand (l := .camera i) (laneKnown_of_present (decide_eq_true hi)) h (.inr rfl)
      (laneWrite_command (l := .camera i) rfl 2 _)
  case disable =>
    intro s x seq l h hpresent
    exact State.writes_laneEnable (laneKnown_of_present hpresent) h (by decide) (laneWrite_enable l fun h => absurd h (by decide))
  case enable =>
    intro s x seq l h hpresent hbist
    exact State.writes_laneEnable (laneKnown_of_present hpresent) h (by decide) (laneWrite_enable l fun _ => hbist)
  case modes =>
    intro s x seq i v h hi hv hfeeds hloop
    obtain ⟨t, ht, hmode, hheld⟩ := State.writes_laneTestMode h hi hv hfeeds hloop
    exact ⟨t, ht, hmode, hheld ▸ decide_eq_true_eq⟩
  case mode1 =>
    intro s x seq i h hi hfeeds _
    obtain ⟨t, ht, hmode, _⟩ := State.writes_laneTestMode (v := 1) h hi (by decide) (fun _ => hfeeds) (fun h => absurd h (by decide))
    exact ⟨t, ht, hmode⟩

end Sys2Proof.Machine
end

section
/-! PROOF. O31: what arrives at a camera port in service (R138 to R141, R168 to R192). -/
namespace Sys2Proof.Machine

/-! What the operations leave of the lanes. -/

section
variable (s : State)

theorem State.settleOne_lanes (c : Commit) : (s.settleOne c).lanes = s.lanes := by
  simp only [State.settleOne, apply_ite State.lanes, State.raise_lanes, ite_self]

theorem State.settle_lanes : s.settle.lanes = s.lanes := State.foldl_field State.lanes _ State.settleOne_lanes _ s

theorem State.deferAt_lanes (scope unit : Nat) : (s.deferAt scope unit).lanes = s.lanes := by
  unfold State.deferAt
  split
  · rfl
  · simp only [apply_ite State.lanes, State.raise_lanes]
    exact ite_self _

/-- R203 to R207: a hand-over leaves the lanes. -/
theorem State.takeAt_lanes (scope unit num : Nat) (stamp : Instant) (genKey frameKey ticketKey : Nat) :
    (s.takeAt scope unit num stamp genKey frameKey ticketKey).1.lanes = s.lanes := by
  unfold State.takeAt
  split
  · rfl
  · split
    · rfl
    · split
      · rfl
      · split
        · exact s.deferAt_lanes scope unit
        · have hlive (t : State) (p : Nat → Bool) : (t.makeLive p).lanes = t.lanes := rfl
          have htarget (t : State) (f : CommitTarget → CommitTarget) : (t.updTarget scope unit f).lanes = t.lanes := rfl
          have hcommit (t : State) (f : Commit → Commit) : (t.updCommit scope unit f).lanes = t.lanes := rfl
          simp only [State.settle_lanes, hcommit, htarget, State.setObj_lanes, apply_ite State.lanes, hlive, ite_self]

theorem State.checkIdle_lanes (port : Nat) : (s.checkIdle port).lanes = s.lanes := by
  simp only [State.checkIdle, apply_ite State.lanes, State.raise_lanes]
  simp only [State.updExp, ite_self]

theorem State.capRaise_linkSide (port cause cls : Nat) (d : Bytes) : (s.capRaise port cause cls d).linkSide = s.linkSide :=
  s.raiseLimited_linkSide ..

theorem State.triggerUnmatched_linkSide (port : Nat) : (s.triggerUnmatched port).linkSide = s.linkSide := by
  have hunmatched (t : State) : (t.bump (Key.capTriggersUnmatched port)).linkSide = t.linkSide :=
    t.bump_linkSide (.inr (by simp only [Key.capTriggersUnmatched]; omega))
  have hmisses (t : State) : (t.bump (Key.capCadenceMisses port)).linkSide = t.linkSide :=
    t.bump_linkSide (.inr (by simp only [Key.capCadenceMisses]; omega))
  simp only [State.triggerUnmatched, apply_ite State.linkSide, State.capRaise_linkSide, hunmatched, hmisses, ite_self]

theorem State.captureTime_linkSide (port : Nat) (stamp : Instant) : (s.captureTime port stamp).1.linkSide = s.linkSide := by
  have hold (l : List Instant) (t : State) : (l.foldl (fun st _ => st.triggerUnmatched port) t).linkSide = t.linkSide :=
    State.foldl_field State.linkSide _ (fun u _ => u.triggerUnmatched_linkSide port) l t
  simp only [State.captureTime]
  split
  · rfl
  · split
    · rw [hold, State.updPort_linkSide]
    · rw [State.updPort_linkSide, hold, State.updPort_linkSide]

theorem State.noteStamp_linkSide (pipe k num : Nat) (stamp : Instant) : (s.noteStamp pipe k num stamp).linkSide = s.linkSide := by
  unfold State.noteStamp
  split
  · split <;> rfl
  · rfl

/-- R173, R174: an FS that is accepted leaves the lanes. -/
theorem State.acceptFs_linkSide (port sframe : Nat) (stamp : Instant) : (s.acceptFs port sframe stamp).linkSide = s.linkSide := by
  have hnext (t : State) (v : Int) : (t.setObj (Key.capNextFrame port) v).linkSide = t.linkSide :=
    t.setObj_linkSide (.inr (by simp only [Key.capNextFrame]; omega)) v
  have hframe (t : State) (l : List Frame) (n : Nat) : ({ t with frames := l, nextFid := n } : State).linkSide = t.linkSide := rfl
  simp only [State.acceptFs]
  split
  · rw [State.updPort_linkSide, hframe]
    simp only [apply_ite State.linkSide, State.capRaise_linkSide, State.captureTime_linkSide, hnext, ite_self]
  · rw [State.settleViews_linkSide]
    simp only [apply_ite State.linkSide, State.cutFrame_linkSide, State.noteStamp_linkSide, State.updPort_linkSide, hframe,
      State.capRaise_linkSide, State.captureTime_linkSide, hnext, ite_self]

theorem State.takeEcho_linkSide (f : Frame) (payload : Bytes) : (s.takeEcho f payload).linkSide = s.linkSide := by
  have hmismatch (t : State) : (t.bump (Key.expMismatches f.port)).linkSide = t.linkSide :=
    t.bump_linkSide (.inr (by simp only [Key.expMismatches]; omega))
  have hretag (t : State) (g : OutFrame → OutFrame) :
      ({ t with mrg := { t.mrg with frames := t.mrg.frames.map g } } : State).linkSide = t.linkSide := rfl
  simp only [State.takeEcho, apply_ite State.linkSide, State.raiseLimited_linkSide, hmismatch, hretag, State.updFrame_linkSide,
    ite_self]

/-! No receiver slips more or less. -/

theorem State.sameSlip_of_linkSide {t : State} (h : t.linkSide = s.linkSide) : s.SameSlip t :=
  State.sameSlip_of_lanes (State.linkSide_lanes h)

theorem State.requestTap_sameSlip (l : Lane) : s.SameSlip (s.requestTap l) := by
  unfold State.requestTap
  split
  · exact (s.laneRequest_asked l _ _).slip
  · exact (State.laneRequest_asked s.draw.2 l _ _).slip

theorem State.toTrain_sameSlip (l : Lane) : s.SameSlip (s.toTrain l) := by
  simp only [State.toTrain]
  refine State.SameSlip.trans (State.SameSlip.trans ?_ (State.laneGo_sameSlip _ l lnTrain)) (State.requestTap_sameSlip _ l)
  have hreset : s.SameSlip (if ((s.lane l).goal.isSome : Prop) then s.resetObj (laneKey oTaps l) else s) :=
    State.SameSlip.ite (State.sameSlip_of_lanes rfl) (State.SameSlip.refl s)
  refine hreset.trans ?_
  generalize (if ((s.lane l).goal.isSome : Prop) then s.resetObj (laneKey oTaps l) else s) = u
  exact u.updLane_sameSlip l fun _ => rfl

theorem retrainAtFe_sameSlip (l : Lane) : s.SameSlip (retrainAtFe l s) :=
  State.SameSlip.ite (s.toTrain_sameSlip l) (State.SameSlip.refl s)

end

/-! Packets on a camera port (R138 to R142). -/

section
variable {s t : State} {i : Nat} {x : Line} {positive : Bool} {start : Byte} {stop : Option Byte} {b : Bytes}

/-- R141, R142: the data of a packet, with what ends it, goes on. -/
theorem State.onPacket_steady {f : Body → Bytes → State → State} (hup : s.laneUp (.camera i) = true)
    (hsteady : s.steady (.camera i) x = true) (hstart : start ∈ specials) (hstop : ∀ k ∈ stop, k ∈ specials)
    (hbreak : stop ≠ some k307)
    (hx : x = lineOf positive (Chr.k start :: (b.map Chr.d ++ stopSymbol stop)))
    (hf : f ⟨b.map some, stop, false, false⟩ b (s.heard (.camera i) x) = t) (hslip : (t.lane (.camera i)).slip = false) :
    s.onPacket i start x f = t := by
  refine (s.whenever_of_true hup _).trans (State.onLine_steady hsteady ?_ hslip)
  rw [State.receiveLine_data (s.hear (.camera i) x) (.camera i) hstart hstop hbreak hx]
  exact hf

theorem packetRow_next {f : State → State} (hi : i < s.part.ports) (h : f s = t) :
    packetRow i f s = .next (t.laneFollow (.camera i) (s.laneState (.camera i))) := by
  rw [packetRow, onUnit_of_present (decide_eq_true hi), onLane, h]

/-- R138: a packet that only begins with a symbol. -/
theorem framePacketLine_eq (body : Bytes) : framePacketLine positive start body =
    lineOf positive (Chr.k start :: ((body ++ beBytes 4 (crc32 body)).map Chr.d ++ stopSymbol none)) := by
  rw [framePacketLine, crcChars_eq, stopSymbol, Option.map_none, Option.toList_none, List.append_nil]

/-- R138: a packet that begins and ends with a symbol. -/
theorem packetLine_eq (k : Byte) (body : Bytes) : packetLine positive start k body =
    lineOf positive (Chr.k start :: ((body ++ beBytes 4 (crc32 body)).map Chr.d ++ stopSymbol (some k))) := by
  rw [packetLine, crcChars_eq]
  rfl

variable (s i x)

theorem State.openFrame_heard (l : Lane) : (s.heard l x).openFrame i = s.openFrame i := by
  obtain ⟨_, _, h⟩ := s.heard_eq l x
  rw [h]
  rfl

theorem State.frameOf_heard (l : Lane) (fid : Nat) : (s.heard l x).frameOf fid = s.frameOf fid := by
  obtain ⟨_, _, h⟩ := s.heard_eq l x
  rw [h]
  rfl

theorem State.port_heard (l : Lane) : (s.heard l x).port i = s.port i := by
  obtain ⟨_, _, h⟩ := s.heard_eq l x
  rw [h]
  rfl

theorem State.pwr_heard (l : Lane) : (s.heard l x).pwr = s.pwr := by
  obtain ⟨_, _, h⟩ := s.heard_eq l x
  rw [h]

theorem State.dom_heard (l : Lane) (k : Nat) : (s.heard l x).dom k = s.dom k := by
  obtain ⟨_, _, h⟩ := s.heard_eq l x
  rw [h]
  rfl

theorem State.ingressFull_heard {i : Nat} (hi : i < 48) (f : Frame) :
    (s.heard (.camera i) x).ingressFull f = s.ingressFull f := by
  have hlimit : (s.heard (.camera i) x).nat (liveKey (Key.capIngressLines f.port)) = s.nat (liveKey (Key.capIngressLines f.port)) :=
    s.nat_heard _ x (by simp only [liveKey, Key.capIngressLines, laneKey, oCodeErrors]; omega)
  have hfill : (s.heard (.camera i) x).ingressFill f.port = s.ingressFill f.port := by
    obtain ⟨_, _, h⟩ := s.heard_eq (.camera i) x
    rw [h]
    rfl
  have hlive : (s.heard (.camera i) x).liveNat (Key.capIngressLines f.port) = s.liveNat (Key.capIngressLines f.port) := hlimit
  rw [State.ingressFull, State.ingressFull, hlive, hfill]

end

/-! FS and FE packets (R139, R172 to R174, R187, R189). -/

/-- R139: the fields of an FS, before its CRC-32. -/
theorem fsFields {sframe nexp format : Nat} (hsframe : sframe < 2 ^ 32) (hnexp : nexp < 256) (hformat : format < 256) {b : Bytes}
    (hb : b = beBytes 4 sframe ++ [byteOf nexp, byteOf format, 0, 0]) (r : Bytes) :
    beAt (b ++ r) 0 4 = sframe ∧ beAt (b ++ r) 4 1 = nexp ∧ beAt (b ++ r) 5 1 = format := by
  have hsplit : b ++ r = beBytes 4 sframe ++ (beBytes 1 nexp ++ (beBytes 1 format ++ ([0, 0] ++ r))) := by
    simp [hb, beBytes, leBytes, byteOf]
  rw [hsplit]
  refine ⟨beAt_front (n := 4) hsframe _, ?_, ?_⟩
  · rw [beAt_append_right (by simp)]
    exact beAt_front (n := 1) hnexp _
  · rw [beAt_append_right (by simp), beAt_append_right (by simp)]
    exact beAt_front (n := 1) hformat _

/-- R173, R184: what the device makes of an FS with these fields: the capture scope's hand-over, then the FS is accepted or rejected. -/
def State.fsTaken (u : State) (i sframe nexp format : Nat) : State :=
  let r := u.takeCapture i (u.fsStamp i)
  let v := (((r.1.checkIdle i).updPort i fun x => { x with owed := x.owed ||| r.2.getD 0 }).noteArrival i (u.fsStamp i))
  if nexp = v.liveNat (Key.capNexp i) ∧ format = v.liveNat (Key.capFormat i) then v.acceptFs i sframe (u.fsStamp i)
  else (v.bump (Key.capFsRejected i)).capRaise i 0x4004 1 [byteOf nexp, byteOf format]

theorem State.fsTaken_lanes (u : State) (i sframe nexp format : Nat) : (u.fsTaken i sframe nexp format).lanes = u.lanes := by
  have hrejected (v : State) (d : Bytes) : ((v.bump (Key.capFsRejected i)).capRaise i 0x4004 1 d).lanes = v.lanes :=
    State.linkSide_lanes ((State.capRaise_linkSide ..).trans
      (v.bump_linkSide (.inr (by simp only [Key.capFsRejected]; omega))))
  have haccepted (v : State) (stamp : Instant) : (v.acceptFs i sframe stamp).lanes = v.lanes :=
    State.linkSide_lanes (v.acceptFs_linkSide i sframe stamp)
  have htaken (v : State) (stamp : Instant) : (v.takeCapture i stamp).1.lanes = v.lanes := v.takeAt_lanes ..
  have harrival (v : State) (stamp : Instant) : (v.noteArrival i stamp).lanes = v.lanes := rfl
  have howed (v : State) (f : PortSt → PortSt) : (v.updPort i f).lanes = v.lanes := rfl
  simp only [State.fsTaken, apply_ite State.lanes, hrejected, haccepted, harrival, howed, State.checkIdle_lanes, htaken, ite_self]

/-- R173, R187: an FS at a port without an open frame. -/
theorem fsReceived_of_none {s : State} {i : Nat} {b : Bytes} (hnone : s.openFrame i = none) (hcrc : crcHolds 8 b = true)
    (hstop : s.pwr.stopFs = false) :
    fsReceived i b s = (s.updPort i fun x => { x with discard := false }).fsTaken i (beAt b 0 4) (beAt b 4 1) (beAt b 5 1) := by
  have hgoes : (!crcHolds 8 b || s.pwr.stopFs) = false := by simp [hcrc, hstop]
  simp only [fsReceived, hnone, State.updPort_pwr, hgoes]
  rfl

/-- R187, R189: an FE of the open frame. -/
theorem feReceived_of_open {s : State} {i : Nat} {b : Bytes} {f : Frame} (hopen : s.openFrame i = some f)
    (hcrc : crcHolds 8 b = true) : feReceived i b s = retrainAtFe (.camera i) (s.closeAtEnd f false) := by
  simp only [feReceived, hcrc, State.whenever_of_true, hopen]

/-! Line and embedded packets (R139, R141, R171, R185 to R189). -/

/-- R139: the body of a line or embedded packet, before its CRC-32. -/
def packetBody (stream format : Byte) (line : Nat) (payload : Bytes) : Bytes :=
  [stream, format] ++ beBytes 2 line ++ beBytes 2 payload.length ++ payload

section
variable {stream format : Byte} {line : Nat} {payload : Bytes} (hline : line < 65536) (hpayload : payload.length < 65536) (r : Bytes)

theorem packetBody_length : (packetBody stream format line payload).length = 6 + payload.length := by
  simp [packetBody]
  omega

theorem packetBody_append : packetBody stream format line payload ++ r =
    [stream] ++ ([format] ++ (beBytes 2 line ++ (beBytes 2 payload.length ++ (payload ++ r)))) := by simp [packetBody]

theorem packetBody_stream : beAt (packetBody stream format line payload ++ r) 0 1 = stream.toNat := by
  rw [packetBody_append]
  simp [beAt, slice, beNat, leNat]

theorem packetBody_format : beAt (packetBody stream format line payload ++ r) 1 1 = format.toNat := by
  rw [packetBody_append]
  simp [beAt, slice, beNat, leNat]

include hline in
theorem packetBody_line : beAt (packetBody stream format line payload ++ r) 2 2 = line := by
  rw [packetBody_append, beAt_append_right (by simp), beAt_append_right (by simp)]
  exact beAt_front (n := 2) hline _

include hpayload

theorem packetBody_count : packetCount (packetBody stream format line payload ++ r) = payload.length := by
  rw [packetCount, packetBody_append, beAt_append_right (by simp), beAt_append_right (by simp), beAt_append_right (by simp)]
  exact beAt_front (n := 2) hpayload _

omit hpayload in
theorem packetBody_payload : slice (packetBody stream format line payload ++ r) 6 payload.length = payload := by
  rw [packetBody_append, slice_append_right (by simp), slice_append_right (by simp), slice_append_right (by simp),
    slice_append_right (by simp)]
  exact slice_front rfl _

/-- R141: a packet as it was sent, which ends with K29.7, is not errored. -/
theorem packetErrored_of_sent {b : Bytes} (hb : b = packetBody stream format line payload) :
    packetErrored ⟨(b ++ beBytes 4 (crc32 b)).map some, some k297, false, false⟩ (b ++ beBytes 4 (crc32 b)) = false := by
  have hcount : packetCount (b ++ beBytes 4 (crc32 b)) = payload.length := hb ▸ packetBody_count hpayload _
  have hlength : b.length = 6 + payload.length := hb ▸ packetBody_length
  have hcrc := crcHolds_append hlength
  simp [packetErrored, hcount, hcrc, hlength]
  omega

end

section
variable {s : State} {i line : Nat} {f : Frame} {stream format : Byte} {payload b : Bytes}
  (hb : b = packetBody stream format line payload) (hline : line < 65536) (hpayload : payload.length < 65536)
include hb hline hpayload

/-- R185, R187: the next line of an exposure is stored. -/
theorem lineReceived_next (hopen : s.openFrame i = some f) (hframe : s.frameOf f.fid = some f) (hpos : 0 < line)
    (hheight : line < f.height) (hexp : stream.toNat % 4 < f.nexp) (hnext : f.nextLine.getD (stream.toNat % 4) 0 = line)
    (hroom : s.ingressFull f = false) (hbytes : payload.length = f.lineBytes) (hformat : format.toNat = f.format) :
    lineReceived i ⟨(b ++ beBytes 4 (crc32 b)).map some, some k297, false, false⟩ (b ++ beBytes 4 (crc32 b)) s =
      s.storeLine f (stream.toNat % 4) line payload true := by
  have hgood := packetErrored_of_sent hpayload hb
  have hstream' : beAt (b ++ beBytes 4 (crc32 b)) 0 1 = stream.toNat := hb ▸ packetBody_stream _
  have hformat' : beAt (b ++ beBytes 4 (crc32 b)) 1 1 = format.toNat := hb ▸ packetBody_format _
  have hline' : beAt (b ++ beBytes 4 (crc32 b)) 2 2 = line := hb ▸ packetBody_line hline _
  have hcount' : packetCount (b ++ beBytes 4 (crc32 b)) = payload.length := hb ▸ packetBody_count hpayload _
  have hpayload' : slice (b ++ beBytes 4 (crc32 b)) 6 payload.length = payload := hb ▸ packetBody_payload _
  generalize b ++ beBytes 4 (crc32 b) = all at hgood hstream' hformat' hline' hcount' hpayload' ⊢
  have herrored : lineErrored f ⟨all.map some, some k297, false, false⟩ all = false := by
    simp [lineErrored, hgood, hformat', hcount', hbytes, hformat]
  have hfirst : (decide (line = 0) && decide (stream.toNat % 4 < f.nexp)) = false := by
    simp [Nat.pos_iff_ne_zero.mp hpos]
  have hplace : ¬ (f.nexp ≤ stream.toNat % 4 ∨ f.height ≤ line ∨ line < line) := by omega
  simp only [lineReceived, hopen, hline', hstream', hfirst, Bool.false_eq_true, if_false, hframe, State.takeLine, hnext, if_neg hplace,
    hroom, Nat.sub_self, State.repairLines, Bool.not_true, herrored, hcount', hpayload']

/-- R171, R272: an embedded packet of the open frame is counted, and is the echo of its exposure where the map says so. -/
theorem embeddedReceived_open (hopen : s.openFrame i = some f) (hembedded : f.embedded < 16) (hplace : line < 16) :
    embeddedReceived i ⟨(b ++ beBytes 4 (crc32 b)).map some, some k297, false, false⟩ (b ++ beBytes 4 (crc32 b)) s =
      if s.dom (Key.expEchoMap i) ≠ [] ∧ line = leAt (s.dom (Key.expEchoMap i)) 0 1 ∧ f.echoLate = false ∧ f.echo = none
      then (s.updFrame f.fid fun x => { x with embedded := x.embedded + 1 }).takeEcho f payload
      else s.updFrame f.fid fun x => { x with embedded := x.embedded + 1 } := by
  have hgood := packetErrored_of_sent hpayload hb
  have hline' : beAt (b ++ beBytes 4 (crc32 b)) 2 2 = line := hb ▸ packetBody_line hline _
  have hcount' : packetCount (b ++ beBytes 4 (crc32 b)) = payload.length := hb ▸ packetBody_count hpayload _
  have hpayload' : slice (b ++ beBytes 4 (crc32 b)) 6 payload.length = payload := hb ▸ packetBody_payload _
  generalize b ++ beBytes 4 (crc32 b) = all at hgood hline' hcount' hpayload' ⊢
  have htaken : (packetErrored ⟨all.map some, some k297, false, false⟩ all || decide (16 ≤ f.embedded) || decide (16 ≤ line)) =
      false := by
    simp only [hgood, Bool.false_or, Bool.or_eq_false_iff, decide_eq_false_iff_not]
    omega
  simp only [embeddedReceived, hopen, hline', htaken, Bool.false_eq_true, if_false, hcount', hpayload']
  refine if_congr ?_ rfl rfl
  simp only [Bool.and_eq_true, Bool.not_eq_true', List.isEmpty_eq_false_iff, Option.isNone_iff_eq_none,
    and_assoc, State.updFrame_dom]
  exact and_congr_right fun _ => and_congr_left fun _ => decide_eq_true_iff

end

/-! The watches over a port's frames (R187, R192). -/

/-- R187: a frame that gets no FE is closed. -/
theorem feWatchdog_of_due {s : State} {i : Nat} {f : Frame} (hopen : s.openFrame i = some f)
    (hdue : usCycles (f.framePeriod + s.liveNat (Key.capCadenceMargin i)) ≤ s.since f.arrived) :
    feWatchdog i s = s.closeAtEnd f true := by
  simp only [feWatchdog, hopen, s.whenever_of_true (decide_eq_true hdue)]

/-- R192: a free-running port that gets no FS in time misses its cadence. -/
theorem cadenceMiss_of_due {s : State} {i t0 : Nat} (hlast : (s.port i).lastFs = some t0) (hup : s.laneUp (.camera i) = true)
    (hmode : s.liveNat (Key.capTimeMode i) = 1)
    (hdue : usCycles (s.liveNat (Key.capFramePeriod i) + s.liveNat (Key.capCadenceMargin i) +
      (s.port i).misses * s.liveNat (Key.capFramePeriod i)) ≤ s.since t0) :
    cadenceMiss i s = ((s.updPort i fun x => { x with misses := x.misses + 1 }).bump (Key.capCadenceMisses i)).capRaise i 0x4005 1
      (leBytes 4 (s.nat (Key.capNextFrame i))) := by
  have hgoes : (s.laneUp (.camera i) && decide (s.liveNat (Key.capTimeMode i) = 1) &&
      decide (usCycles (s.liveNat (Key.capFramePeriod i) + s.liveNat (Key.capCadenceMargin i) +
        (s.port i).misses * s.liveNat (Key.capFramePeriod i)) ≤ s.since t0)) = true := by simp [hup, hmode, hdue]
  simp only [cadenceMiss, hlast, s.whenever_of_true hgoes]
  rw [State.updPort_nat]

/-- Settles O31: each packet by its row, as its characters bring it; nothing that it does makes the receiver slip. -/
theorem captureActs : Obligations.CaptureActs := by
  refine ⟨?fs, ?stray, ?line, ?embedded, ?fe, ?watchdog, ?cadence⟩
  case fs =>
    intro s h i sframe pos x hi hup hnone hstop hsframe hnexp hformat hx hsteady hh
    generalize hbody : beBytes 4 sframe ++ [byteOf (s.liveNat (Key.capNexp i)), byteOf (s.liveNat (Key.capFormat i)), 0, 0] =
      body at hx
    obtain ⟨hsframe', hnexp', hformat'⟩ := fsFields hsframe hnexp hformat hbody.symm (beBytes 4 (crc32 body))
    have hcrc : crcHolds 8 (body ++ beBytes 4 (crc32 body)) = true := crcHolds_append (by simp [← hbody])
    refine ⟨(h.updPort i fun x => { x with discard := false }).fsTaken i sframe (s.liveNat (Key.capNexp i))
      (s.liveNat (Key.capFormat i)), ?_, rfl⟩
    refine packetRow_next hi (State.onPacket_steady hup hsteady (by decide) (fun k hk => absurd hk (by simp)) (by decide)
      (hx.trans (framePacketLine_eq body)) ?_ ?_)
    · rw [← hh, fsReceived_of_none ((hh ▸ s.openFrame_heard i x _).trans hnone) hcrc (by rw [hh, State.pwr_heard, hstop]),
        hsframe', hnexp', hformat']
    · refine State.SameSlip.steady hsteady (State.sameSlip_of_lanes ?_)
      rw [State.fsTaken_lanes, hh]
      rfl
  case stray =>
    intro s h i line pos x stream format payload hi hup hnone hdiscard _ _ hx hsteady hh
    refine packetRow_next hi (State.onPacket_steady hup hsteady (by decide) (by decide) (by decide)
      (hx.trans (packetLine_eq k297 _)) ?_ (State.SameSlip.steady hsteady (hh ▸ State.sameSlip_bump _ _)))
    rw [← hh]
    have hnone' : h.openFrame i = none := (hh ▸ s.openFrame_heard i x _).trans hnone
    have hdiscard' : (h.port i).discard = false := by rw [hh, State.port_heard, hdiscard]
    simp only [lineReceived, hnone', hdiscard', Bool.false_eq_true, if_false]
    rfl
  case line =>
    intro s h i line f pos x stream payload hi hup hopen hframe hpos hheight hline hformat hexp hnext hroom hbytes hpayload _ hx hsteady hh
    have hports := s.part.ports_le
    have hformat' : (byteOf f.format).toNat = f.format := by rw [byteOf_toNat, Nat.mod_eq_of_lt hformat]
    refine packetRow_next hi (State.onPacket_steady hup hsteady (by decide) (by decide) (by decide)
      (hx.trans (packetLine_eq k297 _)) ?_ ?_)
    · rw [← hh]
      refine lineReceived_next rfl hline hpayload ?_ ?_ hpos hheight hexp hnext ?_ hbytes hformat'
      · rw [hh, State.openFrame_heard, hopen]
      · rw [hh, State.frameOf_heard, hframe]
      · rw [hh, s.ingressFull_heard x (by omega), hroom]
    · exact State.SameSlip.steady hsteady (State.sameSlip_of_lanes (hh ▸ rfl))
  case embedded =>
    intro s h i line f pos x stream format payload hi hup hopen hembedded hline hpayload hx hsteady hh
    refine packetRow_next hi (State.onPacket_steady hup hsteady (by decide) (by decide) (by decide)
      (hx.trans (packetLine_eq k297 _)) ?_ ?_)
    · rw [← hh]
      refine (embeddedReceived_open rfl (by omega) hpayload (by rw [hh, State.openFrame_heard, hopen]) hembedded hline).trans ?_
      rw [hh, State.dom_heard]
    · refine State.SameSlip.steady hsteady (hh ▸ State.SameSlip.ite (State.sameSlip_of_linkSide _ ?_) (State.sameSlip_of_lanes rfl))
      rw [State.takeEcho_linkSide, State.updFrame_linkSide]
  case fe =>
    intro s h i sframe lines f pos x hi hup hopen hx hsteady hh
    generalize hbody : beBytes 4 sframe ++ beBytes 2 lines ++ [0, 0] = body at hx
    have hcrc : crcHolds 8 (body ++ beBytes 4 (crc32 body)) = true := crcHolds_append (by simp [← hbody])
    refine packetRow_next hi (State.onPacket_steady hup hsteady (by decide) (fun k hk => absurd hk (by simp)) (by decide)
      (hx.trans (framePacketLine_eq body)) ?_ ?_)
    · rw [← hh]
      exact feReceived_of_open (by rw [hh, State.openFrame_heard, hopen]) hcrc
    · exact State.SameSlip.steady hsteady (hh ▸ (State.sameSlip_of_linkSide _ (State.closeAtEnd_linkSide ..)).trans
        (retrainAtFe_sameSlip _ _))
  case watchdog =>
    intro s i f hi hopen hdue
    have hrun : exec (.feWatchdog i) s = .next (feWatchdog i s) := onUnit_of_present (decide_eq_true hi) _
    rw [hrun, feWatchdog_of_due hopen hdue]
  case cadence =>
    intro s i t0 hi hlast hup hmode hdue
    have hrun : exec (.cadenceMiss i) s = .next (cadenceMiss i s) := onUnit_of_present (decide_eq_true hi) _
    exact ⟨_, hrun, cadenceMiss_of_due hlast hup hmode hdue⟩

end Sys2Proof.Machine
end
